-- ==== Sys2Proof/Word.lean ====
section
/-! DEFINITION. The bit vectors of the manual: bytes, 32-bit words (Table 0-4). -/

namespace Sys2Proof

/-- One byte. -/
abbrev Byte := BitVec 8

/-- One 32-bit word: a register (R3), a node, a memory word. -/
abbrev Word := BitVec 32

end Sys2Proof
end

