-- ==== Sys2Proof/Input.lean ====
section
/-! DEFINITION. What commands carry besides plain numbers: frames of the buses, headers of host commands, and the
verdicts of the cryptographic checks made on them. -/

namespace Sys2Proof

/-- A CAN frame (Table 18-5). -/
structure CanFrame where
  id : Nat
  ide : Bool := false
  fdf : Bool := false
  brs : Bool := false
  dlc : Nat
  data : List Byte
  deriving DecidableEq, Repr

/-- Redundancy information of an Ethernet frame: none, an HSR tag (well formed or not), a PRP trailer (R375). -/
inductive RedTag where
  | none
  | hsr (seq : Nat) (good : Bool)
  | prp (lan seq : Nat)
  deriving DecidableEq, Repr

/-- An Ethernet frame at a port: addresses as NET_MAC holds them (byte first sent lowest), VLAN 0 untagged, `pcp` the VLAN
priority. -/
structure EthFrame where
  port : Nat
  len : Nat
  fcs : Bool
  src : Nat
  dst : Nat
  etype : Nat
  vid : Nat := 0
  red : RedTag := .none
  payload : List Byte := []
  pcp : Nat := 0
  deriving DecidableEq, Repr

/-- The security extension of a stream frame and the verdict of its authentication value under the key it names. -/
structure StreamAuth where
  present : Bool
  alg : Nat
  keyId : Nat
  ok : Bool
  deriving DecidableEq, Repr

/-- A dataset member as received: its type (Table 16-12) and value. -/
structure MemVal where
  ty : Nat
  value : Nat
  deriving DecidableEq, Repr

/-- A GOOSE frame, its fields decoded as IEC 61850-8-1 lays them out; `t` is comparable time, `ttl` ms. -/
structure Goose where
  eth : EthFrame
  auth : StreamAuth
  appid : Nat
  gocbRef : List Byte
  datSet : List Byte
  t : Nat
  ttl : Nat
  stNum : Nat
  sqNum : Nat
  sim : Bool
  nds : Bool
  confRev : Nat
  mems : List MemVal
  raw : List Byte
  deriving DecidableEq, Repr

/-- One ASDU of a sampled-values frame. -/
structure SvAsdu where
  smpCnt : Nat
  confRev : Nat
  mems : List MemVal
  raw : List Byte
  deriving DecidableEq, Repr

/-- A sampled-values frame. -/
structure Sv where
  eth : EthFrame
  auth : StreamAuth
  appid : Nat
  svID : List Byte
  datSet : List Byte
  sim : Bool
  asdus : List SvAsdu
  deriving DecidableEq, Repr

/-- The master data set of an Announce: the values that the best master clock algorithm compares, the steps removed, the
grandmaster ID of an IEEE_C37_238 TLV where it carries one, and its interval in ms. -/
structure PtpAnnounce where
  prio1 : Nat
  cls : Nat
  acc : Nat
  var : Nat
  prio2 : Nat
  gm : Nat
  steps : Nat
  tlv : Option Nat
  interval : Nat
  deriving DecidableEq, Repr

/-- A PTP message of a domain from a sender's clock identity: an Announce, a Sync with its origin time (from its
follow-up) and correction, a request for a peer delay, and a peer delay that an exchange has measured. Times are
nanoseconds. -/
inductive PtpMsg where
  | announce (domain sender : Nat) (a : PtpAnnounce)
  | sync (domain sender t1 : Nat) (corr : Int)
  | pdelayReq (domain : Nat)
  | pdelay (ns : Nat)
  deriving DecidableEq, Repr

/-- Pins at the release of power-on reset: the strap REF_MODE, SDM's bank at 1.8 V, and a power failure still present. -/
structure PorPins where
  refMode : Bool
  bank18 : Bool
  still : Bool
  deriving DecidableEq, Repr

/-- PFI goes low some PWM clocks from now and stays low for `low` of them. -/
structure PfiLow where
  low : Nat
  dt : Nat
  deriving DecidableEq, Repr

/-- What a kindling waited for ends some PWM clocks from now, a power failure still present or not. -/
structure WaitEnd where
  still : Bool
  dt : Nat
  deriving DecidableEq, Repr

/-- A word of the die-to-die link: its direction, CRC good. -/
structure D2dWord where
  dir : Fin 2
  crc : Bool
  deriving DecidableEq, Repr

/-- A level in microvolts that lasts for some PWM clocks. -/
structure Excess where
  uv : Nat
  stay : Nat
  deriving DecidableEq, Repr

/-- The side a comparator changes to, kept for some PWM clocks. -/
structure NewSide where
  rising : Bool
  stay : Nat
  deriving DecidableEq, Repr

/-- A Flue frame's header (Table 17-1) and what the receiver finds: the link it arrives on (0 E, 1 W), CRC and close
good, tag good under the sender's key. -/
structure FlueHdr where
  link : Nat
  src : Nat
  epoch : Nat
  seq : Nat
  gfi : Nat
  dst : Nat
  hops : Nat
  crc : Bool
  tag : Bool
  deriving DecidableEq, Repr

/-- A command record of a crown frame (R407, R409, R413, R416). PREPARE names a COMMIT, or an activation by type, slot and
kind; `reply` is the record of a command bound to the frame: session, sequence number, status, up to 16 bytes of response. -/
inductive CrownCmd where
  | admission (devId : List Byte) (pos uid phi : Nat)
  | prepare (ident : Nat) (act : Option (Nat × Nat × Bool))
  | go (ident angle : Nat)
  | abort (ident : Nat)
  | handover (pos : Nat)
  | standby (pos : Nat)
  | reply (sid seq status : Nat) (payload : List Byte)
  deriving DecidableEq, Repr

/-- A crown group frame (Table 17-2). -/
structure CrownFrame where
  inc : Nat
  theta : Nat
  ftime : Nat
  beta : Int
  snapN : Int
  flags : Nat
  live : Nat
  liveMask : Nat
  hGfi : Nat
  sums : List Word
  maxs : List Word
  vSp : Word
  fSp : Word
  /-- P, Q, P_CURT of each position. -/
  shares : List (Word × Word × Word)
  cmds : List CrownCmd
  deriving DecidableEq, Repr

/-- A member group frame (Table 17-3). -/
structure MemberFrame where
  mgfi : Nat
  state : Nat
  head : Word
  p : Word
  q : Word
  v1 : Word
  f : Word
  rpt : List Word
  verdict : Nat
  alarm : List Nat
  deriving DecidableEq, Repr

/-- A bulk frame's content (R410): a relayed command with the role its session was granted, or its response, named by
session and sequence number. -/
inductive BulkBody where
  | command (opcode uid role sid seq : Nat) (payload : List Byte)
  | response (sid seq status : Nat) (payload : List Byte)
  deriving DecidableEq, Repr

/-- A shadow frame's content (R417): a session with its key, a response with its sequence number, the group's setpoints and shares. -/
inductive ShadowBody where
  | session (sid role serial notAfter key since : Nat)
  | response (sid seq status : Nat) (payload : List Byte)
  | group (setpoints : List Word) (shares : List (Word × Word × Word))
  deriving DecidableEq, Repr

/-- The path a host command arrives by: a mailbox, a network mailbox, a bulk frame from a ring position (R394, R410, R416). -/
inductive Path where
  | mbx (m : Fin 16)
  | l2 (m : Fin 4)
  | relay (src : Fin 64)
  deriving DecidableEq, Repr

/-- The header of a host command's request (Table 20-1) and the verdicts of the cryptographic checks made on it.
(DESIGN CHOICE, log entry 5.) -/
structure CmdHdr where
  path : Path
  ver : Nat
  uid : Nat
  sid : Nat
  seq : Nat
  /-- LEN, and the doorbell or frame length. -/
  len : Nat
  frame : Nat
  /-- The tag checks under the session's key. -/
  tag : Bool
  /-- The signature checks: the owner authorisation block, OWNER_SIG, END_SIG or a package's SIG, the proof of possession. -/
  sig : Bool
  /-- The second signature checks: HOLDER_SIG, IMG_SIG. -/
  sig2 : Bool
  /-- Public keys carried are points of P-384; a wrapped key unwraps to a key of its ALG (R503). -/
  good : Bool
  /-- The role a relayed command's session was granted; the bulk frame that brought it decides it. -/
  role : Nat := 0
  deriving DecidableEq, Repr

/-- A descriptor as read from host memory (Table 19-5): ADDR, bytes 8 to 11, OWN. -/
structure DescIn where
  addr : Nat
  len : Nat
  own : Bool
  deriving DecidableEq, Repr

/-- JTAG instructions (Table 22-10) with what they shift in: pin levels by ball group, a register or OTP access, the
certificate region. -/
inductive Jtag where
  | bypass
  | idcode
  | sample
  | extest (levels : Nat)
  | clamp (levels : Nat)
  | highz
  | scan
  | register (addr : Nat) (value : Word)
  | memory (id off : Nat) (words : List Word)
  | otp (off : Nat) (bytes : List Byte)
  | certs (entries : List (Nat × List Byte))
  deriving DecidableEq, Repr

/-- What Hearth finds at kindling (R490, R495, R493, R481): the identity certificate carries the identity key; the
health tests of a draw pass; the newest entry of each log region is torn; the signatures of image A, image B, package A,
package B (END_SIG and IMG_SIG, or SIG). -/
structure KindleChecks where
  cert : Bool
  health : Bool
  tornNormal : Bool
  tornSticky : Bool
  sigs : List (Bool × Bool)
  deriving DecidableEq, Repr

end Sys2Proof
end

