-- ==== Sys2Proof/Syntax.lean ====
section
/-! DEFINITION. The commands of the block: one constructor for each row of spec/opcode_table.json with the row's
operands, in the table's order, those without operands last. -/

namespace Sys2Proof

/-- A command (the rule each stands for is named at its meaning). A host command carries its header with the verdicts of
the cryptographic checks made on it, and its payload in the clear; `dt` is how many PWM clocks of 2 ns pass before an
asynchronous event. -/
inductive Instr where
  | echo (h : CmdHdr) (p : List Byte)
  | identify (h : CmdHdr) (p : List Byte)
  | sessionOpen (h : CmdHdr) (p : List Byte)
  | sessionClose (h : CmdHdr) (p : List Byte)
  | sessionRekey (h : CmdHdr) (p : List Byte)
  | regRead (h : CmdHdr) (p : List Byte)
  | regWrite (h : CmdHdr) (p : List Byte)
  | regStage (h : CmdHdr) (p : List Byte)
  | commit (h : CmdHdr) (p : List Byte)
  | discardStage (h : CmdHdr) (p : List Byte)
  | memRead (h : CmdHdr) (p : List Byte)
  | memWrite (h : CmdHdr) (p : List Byte)
  | stateRequest (h : CmdHdr) (p : List Byte)
  | setpoint (h : CmdHdr) (p : List Byte)
  | curtail (h : CmdHdr) (p : List Byte)
  | trip (h : CmdHdr) (p : List Byte)
  | clearTrip (h : CmdHdr) (p : List Byte)
  | lockoutReset (h : CmdHdr) (p : List Byte)
  | imgWrite (h : CmdHdr) (p : List Byte)
  | imgVerify (h : CmdHdr) (p : List Byte)
  | imgActivate (h : CmdHdr) (p : List Byte)
  | imgStatus (h : CmdHdr) (p : List Byte)
  | imgErase (h : CmdHdr) (p : List Byte)
  | meterRecord (h : CmdHdr) (p : List Byte)
  | meterRead (h : CmdHdr) (p : List Byte)
  | meterSave (h : CmdHdr) (p : List Byte)
  | pqRead (h : CmdHdr) (p : List Byte)
  | traceArm (h : CmdHdr) (p : List Byte)
  | traceStop (h : CmdHdr) (p : List Byte)
  | traceForce (h : CmdHdr) (p : List Byte)
  | traceStatus (h : CmdHdr) (p : List Byte)
  | captureArm (h : CmdHdr) (p : List Byte)
  | captureStop (h : CmdHdr) (p : List Byte)
  | captureTrigger (h : CmdHdr) (p : List Byte)
  | captureStatus (h : CmdHdr) (p : List Byte)
  | ringStatus (h : CmdHdr) (p : List Byte)
  | eventFilter (h : CmdHdr) (p : List Byte)
  | groupStatus (h : CmdHdr) (p : List Byte)
  | groupMeasure (h : CmdHdr) (p : List Byte)
  | roleSet (h : CmdHdr) (p : List Byte)
  | unitRead (h : CmdHdr) (p : List Byte)
  | keyDeliver (h : CmdHdr) (p : List Byte)
  | ctxStatus (h : CmdHdr) (p : List Byte)
  | timeRead (h : CmdHdr) (p : List Byte)
  | canSend (h : CmdHdr) (p : List Byte)
  | canRead (h : CmdHdr) (p : List Byte)
  | logRead (h : CmdHdr) (p : List Byte)
  | logExport (h : CmdHdr) (p : List Byte)
  | sensorRead (h : CmdHdr) (p : List Byte)
  | lcTransition (h : CmdHdr) (p : List Byte)
  | provision (h : CmdHdr) (p : List Byte)
  | attest (h : CmdHdr) (p : List Byte)
  | draught (h : CmdHdr) (p : List Byte)
  | registerWrite (addr : Nat) (mask value : Word)
  | sarRegStart (x : Fin 2) (ch : Fin 32) (left : Bool)
  | gdrCtrlClear (b : Fin 2)
  | drtCtrlStart (c : Fin 2)
  | drtCtrlStop (c : Fin 2)
  | drtCtrlClear (c : Fin 2)
  | drtSetpWrite (c : Fin 2) (v : Word)
  | cprHwdtKick (v : Word)
  | netPtpSetWrite (v : Word)
  | canCtrlRecover (c : Fin 2)
  | canMbReq (c : Fin 2) (m : Fin 64)
  | canMbCancel (c : Fin 2) (m : Fin 64)
  | mbxDbGo (m : Fin 16) (w : Word) (dt : Nat)
  | mbxAck (m : Fin 16)
  | ringTailWrite (r : Fin 16) (w : Word)
  | ringCtrlReset (r : Fin 16)
  | requestAreaWrite (m : Fin 16) (off : Fin 2048) (bytes : List (Option Byte))
  | requestAreaRead (m : Fin 16) (off : Fin 2048)
  | controlWordBadEnables (write : Bool)
  | mbxCopyDone (m : Fin 16) (dt : Nat)
  | mbxResponsePost (m : Fin 16)
  | msixMessage (v : Fin 32)
  | ringRecordWrite (r : Fin 16) (dt : Nat)
  | descriptorFetchDone (r : Fin 16) (xs : List DescIn) (dt : Nat)
  | completionTimeout (r : Fin 16) (dt : Nat)
  | ringIrqTimeout (r : Fin 16)
  | malformedTlp (dt : Nat)
  | poisonedTlp (ring : Option (Fin 16)) (dt : Nat)
  | unexpectedCompletion (dt : Nat)
  | unsupportedRequest (dt : Nat)
  | pcieLinkUp (wide : Bool) (speed : Fin 3) (dt : Nat)
  | hstReset (cause : Fin 4) (dt : Nat)
  | deviceFrameStart (bits : List (List Bool))
  | slotIssue (i : Nat)
  | slotResultWrite (i : Nat)
  | legSetComplete (n : Fin 12)
  | fbxOverrun (cause : Fin 3) (slot : Fin 4096)
  | mpptScanDue (c : Fin 4)
  | commonAngleSample (bits : List (List Bool))
  | vswFbTransition (n : Fin 12) (rising : Bool) (dt : Nat)
  | vswExchangeMissing (n : Fin 12)
  | delayLineCalibrated (g : Fin 4)
  | pwmDlStale (g : Fin 4)
  | pwmDlFail (g : Fin 4)
  | syncInPulse (width dt : Nat)
  | pwmSyncMeas (diffs : List Nat)
  | sdmFaultDetect (n : Fin 24) (clock : Bool) (bits : List Bool)
  | sdmRecovered (n : Fin 24) (bits : List Bool)
  | manchCodeViolation (n : Fin 24)
  | f3Assert (n : Fin 24) (bits : List Bool) (dt : Nat)
  | f3Deassert (n : Fin 24) (bits : List Bool) (dt : Nat)
  | sarConversionDone (x : Fin 2) (i : Fin 64) (uvs : List Int)
  | sarPassComplete (a b : Int)
  | sarRegDone (x : Fin 2) (uv : Int)
  | sarRef (ok : Bool)
  | comparatorAssert (j : Fin 16) (uv dt : Nat)
  | comparatorStrobe (uvs : List Nat)
  | blankingEnd (j : Fin 16)
  | fltNAssert (n : Fin 12) (dt : Nat)
  | sourceDeassert (i : Fin 86) (uv dt : Nat)
  | safeSequenceInnerOff (n : Fin 12)
  | contactorOpenDelay (k : Fin 8)
  | restartWaitEnd (g : Fin 8)
  | ctlFbChange (k : Fin 8) (level : Bool) (dt : Nat)
  | dmpCtlFb (k : Fin 8)
  | driveWord (b : Fin 2) (err : Nat)
  | hsWarningAssert (n : Fin 6) (mv dt : Nat)
  | hsWarningRelease (n : Fin 6) (mv dt : Nat)
  | hsLockoutAssert (n : Fin 6) (mv : Nat) (ext : Bool) (dt : Nat)
  | hsLockoutRelease (n : Fin 6) (mv : Nat) (ext : Bool) (dt : Nat)
  | vdrvUndervoltage (mv dt : Nat)
  | vdrvRecovered (mv dt : Nat)
  | gdrShortCircuit (n : Fin 6) (rate dt : Nat)
  | gdrOvercurrent (n : Fin 6) (x : Excess) (dt : Nat)
  | softTurnoffEnd (b : Fin 2)
  | gdrRetryWaitEnd (b : Fin 2)
  | gdrTryClear (b : Fin 2)
  | bridgeOffAssert (b : Fin 2) (dt : Nat)
  | bridgeOffRelease (b : Fin 2) (dt : Nat)
  | drtPwmPeriodStart (c : Fin 2) (comps : Fin 8) (amp vmot : Word) (early : Option Nat)
  | commutation (c : Fin 2) (comps : Fin 8) (amp vmot : Word) (early : Option Nat)
  | zcWindowClose (c : Fin 2) (comps : Fin 8) (amp vmot : Word) (early : Option Nat)
  | drtCurrentLimit (c : Fin 2) (uv dt : Nat)
  | speedLoopUpdate (c : Fin 2)
  | observeEnd (c : Fin 2) (comps : Fin 8) (amp vmot : Word) (early : Option Nat)
  | observeCrossing (c : Fin 2) (ph : Fin 3) (side : NewSide) (comps : Fin 8) (amp vmot : Word) (early : Option Nat) (dt : Nat)
  | brakeEnd (c : Fin 2)
  | alignEnd (c : Fin 2) (comps : Fin 8) (amp vmot : Word) (early : Option Nat)
  | rampTimeout (c : Fin 2)
  | coastTimeout (c : Fin 2)
  | drtRetryClear (c : Fin 2)
  | porRelease (pins : PorPins) (hostMode : Fin 4) (dt : Nat)
  | refOk (dt : Nat)
  | mdllLock (dt : Nat)
  | sramWipeDone (dt : Nat)
  | bistDone (fail : Option (Fin 16)) (dt : Nat)
  | configStoreLoaded (ok svc : Bool) (dt : Nat)
  | modSynthLock (dt : Nat)
  | metRestore (dt : Nat)
  | hearthKindleVerify (k : KindleChecks) (dt : Nat)
  | railFailure (rail : Fin 7) (dt : Nat)
  | railOvervoltage (rail : Fin 7) (dt : Nat)
  | pfiQualified (p : PfiLow)
  | vddAonFail (dt : Nat)
  | resetNAssert (dt : Nat)
  | resetNRelease (e : WaitEnd)
  | clockMonitorWindow (dom : Fin 12) (ok : Bool) (dt : Nat)
  | cprRefLoss (dt : Nat)
  | refReturn (dt : Nat)
  | cprSscChange (dt : Nat)
  | d2dWordReceive (w : D2dWord) (dt : Nat)
  | cprD2dLost (dt : Nat)
  | analogLinkLoss (dt : Nat)
  | d2dLinkRestored (dt : Nat)
  | managementTick (temps : List Word) (heartbeat : Bool)
  | supplyGlitch (dt : Nat)
  | clockGlitch (dt : Nat)
  | dieShieldCheck (ok : Bool) (dt : Nat)
  | hrtRollbackRaised (type : Fin 2)
  | jtagInstruction (j : Jtag)
  | jtagLcCommit (cert : Bool)
  | ethLinkUp (p : Fin 2) (giga : Bool) (dt : Nat)
  | ethLinkDown (p : Fin 2) (dt : Nat)
  | ethFrameReceive (f : EthFrame) (dt : Nat)
  | gooseFrameReceive (g : Goose) (dt : Nat)
  | svFrameReceive (v : Sv) (dt : Nat)
  | ptpMessageReceive (f : EthFrame) (m : PtpMsg) (dt : Nat)
  | supervisionFrameReceive (f : EthFrame) (node dt : Nat)
  | l2CommandFrame (f : EthFrame) (dt : Nat)
  | netPathLost (p : Fin 2)
  | streamExpiry (i : Fin 256)
  | gooseMemberChange (i : Fin 256)
  | gooseRetransmit (i : Fin 256)
  | svSampleInstant (i : Fin 256)
  | netKeyChange (ctx : Option (Fin 256))
  | netKeyExpired (ctx : Option (Fin 256))
  | ppsInEdge (dt : Nat)
  | flueLinkUp (link : Fin 2) (dt : Nat)
  | flueLinkDown (link : Fin 2) (dt : Nat)
  | flueFrameReceive (hd : FlueHdr) (dt : Nat)
  | crownFrameReceive (hd : FlueHdr) (f : CrownFrame) (dt : Nat)
  | memberFrameReceive (hd : FlueHdr) (f : MemberFrame) (dt : Nat)
  | bulkFrameReceive (hd : FlueHdr) (b : BulkBody) (dt : Nat)
  | timeFrameReceive (hd : FlueHdr) (ns ps dt : Nat)
  | joinFrameReceive (hd : FlueHdr) (devId : List Byte) (strap sps cpc dt : Nat)
  | shadowFrameReceive (hd : FlueHdr) (b : ShadowBody) (dt : Nat)
  | canFrameReceive (c : Fin 2) (f : CanFrame) (len dt : Nat)
  | canTxStart (c : Fin 2) (dt : Nat)
  | canTxEnd (c : Fin 2) (ok : Bool) (dt : Nat)
  | canBusOn (c : Fin 2) (dt : Nat)
  | canTimingApply (c : Fin 2)
  | aonPowerPresent (bank18 : Bool) (dt : Nat)
  | emberWriteComplete (e : WaitEnd)
  | periodicSaveComplete (ok : Bool)
  | canBusError (c : Fin 2) (lec : Fin 6) (tx eight : Bool) (dt : Nat)
  | pcieConfigWrite (bme d3 : Bool) (maxPayload : Fin 2) (en fmask : Bool)
  | trcCtrlArm
  | trcCtrlStop
  | trcCtrlForce
  | capCtrlArm
  | capCtrlStop
  | capCtrlForce
  | angStampCycRead
  | pwmSyncCtrlMeas
  | cprResetWarm
  | stagedSetAdopt
  | imageActivationAdopt
  | packageActivationAdopt
  | angSnap
  | angHoldExpired
  | angSrcChange
  | lineCycleBoundary
  | metSnapshot
  | metSettingsAdopt
  | metPeriodicSave
  | gsvSettingsAdopt
  | phasorReport
  | carrierStart
  | halfCarrierReload
  | pwmSyncLoss
  | lockoutCountAge
  | gsvPrechFail
  | prechargeDcT
  | breakerAcT
  | syncTimeExpired
  | cprKindled
  | brownoutReset
  | hearthWatchdog
  | cprHostWdt
  | supervisionSend
  | ptpAnnounceTimeout
  | ppsOutSecond
  | flueTimeExchange
  | fluTimeLost
  | joinFrameSend
  | groupFrameBoundary
  | memberFrameDeadline
  | relayTimeout
  | canTmCycleStart
  | canTmLost
  deriving DecidableEq, Repr

end Sys2Proof
end

