-- ==== Sys2Proof/Decode.lean ====
section
/-! DEFINITION. The commands that words spell by the bits of spec/opcode_table.json. The table gives no row any bits: a
command of this block is a frame, a register access or an event, and no word stands for one. -/

namespace Sys2Proof

/-- The command a word of `nbits` bits spells by the table's bits: none, since no row has bits. -/
def decodeTableWord (_nbits _w : Nat) : Option Instr := none

end Sys2Proof
end

