-- ==== Sys2Proof/Config.lean ====
section
/-! DEFINITION. What the manual leaves to an implementation or leaves open: each is an opaque constant with
no body that means anything, so no proof can see a value of it. -/

namespace Sys2Proof

/-- Free values: one for each use, indexed by the counter the state keeps (`Time.free`). (DESIGN CHOICE, log entry 7.) -/
opaque Config.freeValue : Nat → Nat

/-- The 64-bit DATA word of an event whose table names several items: the manual names the items and not
their places in the word. -/
opaque Config.packData : Nat → List Nat → Nat

/-- The dual second-order generalised integrator of FOLLOW: the manual names the prefilter and not its discrete
form. From its states, va, vb, k, w and Ts (binary64) it gives v1a, v1b, v2a, v2b and its new states.
(DESIGN CHOICE, log entry 17.) -/
opaque Config.dsogi : List Nat → Nat → Nat → Nat → Nat → Nat → List Nat

/-- The frequency adjustment a clock servo makes from the offset (ns) and the interval (ns), before the manual's
bound of 200 ppm: the manual gives the bound and not the law (R381, R433). (DEDUCED, log entry 23.) -/
opaque Config.servo : Int → Int → Int

/-- offsetScaledLogVariance of the device's own clock, which the manual does not give (R380). (DESIGN CHOICE, log entry 7.) -/
opaque Config.ptpVariance : Nat

/-- The P-384 public key of a private key, X then Y (R494, R501): the curve arithmetic stays outside the model. -/
opaque Config.publicKey : Nat → Nat

/-- The x-coordinate of ECDH of a private key with a public key's bytes (R501, R504). -/
opaque Config.ecdh : Nat → List Byte → Nat

/-- A signature by a private key over a message: what ECDSA gives, r then s (R209, R482, R501, R507). -/
opaque Config.signature : Nat → List Byte → Nat

/-- What AES Key Wrap takes out of a wrapped key under a key-encryption key: 32 bytes (R503). -/
opaque Config.unwrap : List Byte → List Byte → Nat

/-- AES-GCM of a response: session, key, sequence number and D (R458), header and payload give ciphertext and tag. -/
opaque Config.gcm : Nat → Nat → Nat → Nat → List Byte → List Byte → List Byte

end Sys2Proof
end

