-- ==== Sys2Proof/Machine/Bits.lean ====
section
/-! DEFINITION. Bit fields, byte order and two's complement (R5, R6, Table 0-4). -/

namespace Sys2Proof.Machine

/-- The number in bits [hi:lo] of a word. -/
def wbits (w : Word) (hi lo : Nat) : Nat := (w >>> lo).toNat % 2 ^ (hi - lo + 1)

/-- The mask of bits [hi:lo]. -/
def wmask (hi lo : Nat) : Word := BitVec.ofNat 32 ((2 ^ (hi - lo + 1) - 1) * 2 ^ lo)

/-- The word with bits [hi:lo] replaced by the low bits of `v`. -/
def wset (w : Word) (hi lo v : Nat) : Word :=
  (w &&& ~~~wmask hi lo) ||| ((BitVec.ofNat 32 v <<< lo) &&& wmask hi lo)

/-- Bit `i` of a mask kept as a number. -/
abbrev tb (m i : Nat) : Bool := m.testBit i

/-- The mask with bit `i` set. -/
def setBit (m i : Nat) : Nat := m ||| 2 ^ i

/-- The mask with bit `i` clear. -/
def clrBit (m i : Nat) : Nat := if m.testBit i then m ^^^ 2 ^ i else m

/-- Bit `i` set or cleared. -/
def putBit (m i : Nat) (b : Bool) : Nat := if b then setBit m i else clrBit m i

/-- The bits of `a` that `b` does not have. -/
def andNot (a b : Nat) : Nat := a ^^^ (a &&& b)

/-- The indices below `n` whose bit is set, rising. -/
def bitList (n m : Nat) : List Nat := (List.range n).filter m.testBit

/-- How many of the low `n` bits are set. -/
def popCount (n m : Nat) : Nat := (bitList n m).length

/-- `n` bytes of a number, least significant first (R5). -/
def leBytes : Nat → Nat → List Byte
  | 0, _ => []
  | n + 1, v => BitVec.ofNat 8 v :: leBytes n (v / 256)

/-- The number little-endian bytes spell (R5). -/
def ofLE : List Byte → Nat
  | [] => 0
  | b :: bs => b.toNat + 256 * ofLE bs

/-- The number big-endian bytes spell. -/
def ofBE (bs : List Byte) : Nat := bs.foldl (fun a b => 256 * a + b.toNat) 0

/-- `n` bytes of a number, most significant first. -/
def beBytes (n v : Nat) : List Byte := (leBytes n v).reverse

/-- The `n`-byte little-endian number at offset `off`. -/
def leAt (bs : List Byte) (off n : Nat) : Nat := ofLE ((bs.drop off).take n)

/-- The 32-bit words of a byte string (a last short group is padded with zeros). -/
def wordsOf (bs : List Byte) : List Word :=
  (List.range ((bs.length + 3) / 4)).map fun i => BitVec.ofNat 32 (leAt bs (4 * i) 4)

/-- The bytes of 32-bit words. -/
def bytesOf (ws : List Word) : List Byte := ws.flatMap fun w => leBytes 4 w.toNat

/-- The signed value of the low `n` bits. -/
def sext (n v : Nat) : Int := if v % 2 ^ n < 2 ^ (n - 1) then (v % 2 ^ n : Nat) else ((v % 2 ^ n : Nat) : Int) - 2 ^ n

/-- The `n`-bit two's complement of an integer. -/
def wrap (n : Nat) (i : Int) : Nat := (i % (2 ^ n : Int)).toNat

/-- The greater of two numbers, saturating addition at 32 bits. -/
def sat32 (v : Nat) : Nat := min v 0xFFFFFFFF

/-- Rounded-up division. -/
def ceilDiv (a b : Nat) : Nat := (a + b - 1) / b

/-- Quotient rounded to nearest, ties to even. -/
def rneDiv (a : Int) (b : Nat) : Int :=
  let q := a / (b : Int)
  let r := 2 * (a % (b : Int))
  if (b : Int) < r ∨ (r = b ∧ q % 2 = 1) then q + 1 else q

/-- Sparse word memory in canonical form: keys strictly rising, no entry at the value unlisted keys read. -/
abbrev Mem := List (Nat × Word)

/-- The canonical form, where unlisted key `a` reads `z a`. -/
def Mem.wf (m : Mem) (z : Nat → Word) : Bool :=
  (m.zip m.tail).all (fun x => decide (x.1.1 < x.2.1)) && m.all (fun x => x.2 != z x.1)

/-- A key's word, the given value where the key is unlisted. -/
def Mem.getD : Mem → Nat → Word → Word
  | [], _, z => z
  | (k, w) :: m, a, z => if a = k then w else Mem.getD m a z

/-- The memory without a key's entry. -/
def Mem.erase (m : Mem) (a : Nat) : Mem := m.filter fun x => x.1 != a

/-- An entry put before the first greater key. -/
def Mem.insert : Mem → Nat → Word → Mem
  | [], a, w => [(a, w)]
  | (k, x) :: m, a, w => if a < k then (a, w) :: (k, x) :: m else (k, x) :: Mem.insert m a w

/-- The memory with a key's entry replaced or removed, in rising order. -/
def Mem.put (m : Mem) (a : Nat) (v : Option Word) : Mem :=
  match v with
  | some w => Mem.insert (Mem.erase m a) a w
  | none => Mem.erase m a

/-- Write a word; the value an unlisted key reads removes the entry. -/
def Mem.set (m : Mem) (a : Nat) (w z : Word) : Mem := Mem.put m a (if w = z then none else some w)

/-- A word of a memory whose unlisted words read zero (R39). -/
def Mem.rd (m : Mem) (a : Nat) : Word := Mem.getD m a 0

/-- Write a word of a memory whose unlisted words read zero. -/
def Mem.wr (m : Mem) (a : Nat) (w : Word) : Mem := Mem.set m a w 0

/-- Write consecutive words. -/
def Mem.wrs (m : Mem) (a : Nat) : List Word → Mem
  | [] => m
  | w :: ws => Mem.wrs (Mem.wr m a w) (a + 1) ws

/-- Read `n` consecutive words. -/
def Mem.rds (m : Mem) (a n : Nat) : List Word := (List.range n).map fun i => Mem.rd m (a + i)

/-- A memory from its first `n` words. -/
def Mem.ofFn (n : Nat) (f : Nat → Word) : Mem :=
  (List.range n).filterMap fun i => if f i = 0 then none else some (i, f i)

/-- Byte `i` of a word memory. -/
def Mem.byte (m : Mem) (i : Nat) : Byte := BitVec.ofNat 8 ((Mem.rd m (i / 4)).toNat / 256 ^ (i % 4))

/-- `n` bytes from a byte offset. -/
def Mem.bytes (m : Mem) (off n : Nat) : List Byte := (List.range n).map fun i => Mem.byte m (off + i)

/-- The `n`-byte little-endian number at a byte offset. -/
def Mem.num (m : Mem) (off n : Nat) : Nat := ofLE (Mem.bytes m off n)

end Sys2Proof.Machine
end

