-- ==== Sys2Proof/Machine/State.lean ====
section
/-! DEFINITION. The state of the PLZ-9164 block as plain data: every register, memory, buffer, counter,
mode and pin the spec gives it, and the queue of waiting commands; and the state right after reset.
A field's default is its value after power-on reset. Registers live in one sparse register file
(`Dev.regs`); everything here beside it is state the chapters give the blocks beyond their registers. -/

namespace Sys2Proof.Machine

/-! ## Registers -/

/-- A register field: the address of its register (index 0), its bits, the array strides (outer first). -/
structure Fld where
  addr : Nat
  hi : Nat
  lo : Nat
  strides : List Nat := []
  deriving DecidableEq, Repr

/-- One row of the register map: a register or register array and the masks of its access codes (Table 0-6). -/
structure RegRow where
  /-- Address of index 0 (R3). -/
  base : Nat
  /-- Array dimensions, outer first: stride and count. -/
  dims : List (Nat × Nat) := []
  rw : Nat := 0
  ro : Nat := 0
  w1c : Nat := 0
  st : Nat := 0
  oa : Nat := 0
  lc : Nat := 0
  /-- Bits that act on a write of 1 and read 0. -/
  act : Nat := 0
  /-- Stopped-only bits (R22). -/
  stop : Nat := 0
  /-- Any write sets the whole register to its reset value (the counters). -/
  clr : Bool := false
  /-- Reset value (R13). -/
  rst : Nat := 0
  /-- Added to the reset value once per array index. -/
  rstMul : Nat := 0
  /-- Reset value by the innermost index, where the map gives one. -/
  rstTab : List Nat := []
  deriving DecidableEq, Repr

/-! ## Time and angle -/

/-- The clocks that pace everything: PWM clocks of 2 ns, the accumulator, ticks, PTP time. -/
structure Time where
  /-- PWM clocks since the release of power-on reset (the model's own count of time). -/
  now : Nat := 0
  /-- The ANG accumulator (R41), not reduced modulo 2^48. -/
  phase : Nat := 0
  /-- Management ticks of 1 ms (Table 0-5), since power-on. -/
  tick : Nat := 0
  /-- The whole millisecond the latest tick stood for, in PWM clocks. -/
  tickAt : Nat := 0
  /-- PTP time in units of 2^-32 ns (R381). -/
  ptp : Nat := 0
  /-- Frequency adjustment of the PTP clock, parts in 2^32 (R381). -/
  ptpAdj : Int := 0
  /-- Next common-angle sample instant, in units of 2^32/S (R46). -/
  nextSample : Nat := 1
  /-- Next device frame start, in units of 2^32/S (R45). -/
  nextFrame : Nat := 1
  /-- Next carrier start, in units of 2^32/C (R233). -/
  nextCarrier : Nat := 1
  /-- Next half-carrier reload, in units of 2^32/C (R238). -/
  nextHalf : Nat := 0
  /-- Next crossing of angle zero, in turns (R61). -/
  nextTurn : Nat := 1
  /-- Device frames and common-angle samples since power-on; ANG_FCNT is the first modulo 2^32. -/
  frames : Nat := 0
  samples : Nat := 0
  /-- Next free value of the model (an index into the opaque Config.freeValue). -/
  free : Nat := 0
  deriving DecidableEq, Repr

/-! ## Staging (R16 to R25) -/

/-- The staged set: its owner, the shadow of each staged register word with the mask of the bits
staged, the staged copies of coefficient and LUT banks, and the adoption frame once pending. -/
structure Stage where
  owner : Option Nat := none
  /-- Register address, staged bits, mask of the bits staged; addresses rising. -/
  regs : List (Nat × Word × Word) := []
  /-- Staged coefficient words, by word offset in memory 0x02. -/
  coef : List (Nat × Word) := []
  /-- Staged LUT words, by word offset in memory 0x03. -/
  lut : List (Nat × Word) := []
  /-- Adoption frame number `k_a` and the line-cycle count predicted, once accepted (R19). -/
  pending : Option (Nat × Nat) := none
  /-- The set adopted last: its owner and its adoption frame (R20). -/
  adopted : Option (Nat × Nat) := none
  /-- Buffered host-parameter writes: node address and word (R25). -/
  host : List (Nat × Word) := []
  deriving DecidableEq, Repr

/-! ## Damper -/

/-- Trip classes (Table 11-4). -/
inductive TripClass where
  | a | b | c | d
  deriving DecidableEq, Repr

/-- What latched: a hardware source of Table 11-2, a routed event (R263), a TRIP command (R265). -/
inductive TripSrc where
  | hw (i : Nat)
  | event (code : Nat)
  | manual
  deriving DecidableEq, Repr

/-- A source latch with the class and groups it acts with (R275: those of its own setting). -/
structure Latch where
  src : TripSrc
  cls : TripClass
  grps : Nat
  deriving DecidableEq, Repr

/-- Where a leg is in its safe sequence (R267 to R271). -/
inductive LegSeq where
  /-- Under PWM control. -/
  | free
  /-- Held: outer output inactive, inner output going inactive at the instant given. -/
  | seq (innerOff : Nat)
  /-- Both outputs inactive. -/
  | off
  deriving DecidableEq, Repr

/-- Damper: latches, groups, sequences, contactors and comparators (chapter 11). -/
structure Dmp where
  latches : List Latch := []
  /-- Hardware source inputs now asserted, bit i (Table 11-2). -/
  asserted : Nat := 0
  /-- Groups holding class A, class B (R261). -/
  latchA : Nat := 0
  holdB : Nat := 0
  /-- Per group: start and count of the class B window of R273. -/
  bWin : List (Nat × Nat) := List.replicate 8 (0, 0)
  /-- Per group: the instant its restart wait ends (R273). -/
  bWait : List (Option Nat) := List.replicate 8 none
  /-- Instants counted toward lockout (R274), oldest first. -/
  lockTimes : List Nat := []
  lockout : Bool := false
  /-- Every latch of the present episode was class B (R289). -/
  onlyB : Bool := true
  /-- Legs held at the last evaluation, bit n. -/
  held : Nat := 0
  legs : List LegSeq := List.replicate 12 .free
  /-- Draught bridges held at the last evaluation, bit b (R262). -/
  drtHeld : Nat := 0
  /-- Contactor outputs commanded closed (CTL_OUT levels), bit k. -/
  ctlOut : Nat := 0
  /-- Outputs a group is opening: output and instant (R270). -/
  opening : List (Nat × Nat) := []
  /-- Groups whose contactors wait for the last leg all off (R270). -/
  openWait : Nat := 0
  /-- CTL_FB ball levels, bit k. -/
  fbPin : Nat := 0
  /-- Since when output and feedback disagree, per output (R277). -/
  disagree : List (Option Nat) := List.replicate 8 none
  /-- Comparator outputs after hysteresis, bit j (R256). -/
  cmpOut : Nat := 0
  /-- Sampled comparators' last strobed results, bit j (R258). -/
  strobed : Nat := 0
  /-- End of leading-edge blanking per comparator (R259). -/
  blank : List (Option Nat) := List.replicate 16 none
  /-- The analog die's AON copy of DMP_STROBE and the sampled comparators' entries (R258). -/
  aonCopy : Option (Word × List (Nat × Word)) := none
  /-- Origin of the strobe: SLOW and AON (R258), in PWM clocks. -/
  slowOrigin : Nat := 0
  aonOrigin : Nat := 0
  /-- The end of the latest strobe taken. -/
  strobeAt : Nat := 0
  /-- GOOSE trip lines 0 to 7 asserted (Table 11-2). -/
  goose : Nat := 0
  /-- Comparators of the AON copy that asserted before a package was in force (R276). -/
  early : Nat := 0
  /-- Outputs GSV wants closed (R545). -/
  want : Nat := 0
  deriving DecidableEq, Repr

/-! ## Event log (R477 to R483) -/

/-- One log entry of Table 21-2; DATA is kept as the items its block's table names. -/
structure LogEntry where
  num : Nat
  time : Nat
  angle : Nat
  code : Nat
  data : List Nat
  tag : List Byte
  deriving DecidableEq, Repr

/-- The two log regions, oldest entry first, in MRAM. -/
structure Log where
  normal : List LogEntry := []
  sticky : List LogEntry := []
  /-- The number of each region's first entry since its last erasure: numbers are never used again (R477). -/
  normalBase : Nat := 0
  stickyBase : Nat := 0
  /-- Codes logged in the present tick (R479). -/
  tickCodes : List Nat := []
  /-- Sticky entries below this number have been exported and written back (R480). -/
  exported : Nat := 0
  /-- HRT_STICKY_FULL raised since the region last had room (R480). -/
  fullRaised : Bool := false
  /-- EVENT_FILTER: highest class passed, as 0 A to 3 D, and the block mask (R483). -/
  filterClass : Nat := 3
  filterBlocks : Nat := 0xFFFFFFFF
  deriving DecidableEq, Repr

/-! ## Host interface (chapter 19) -/

/-- A descriptor read from the owned range (Table 19-5). -/
structure Desc where
  addr : Nat
  len : Nat
  deriving DecidableEq, Repr

/-- Who made a record and is told of its writing. -/
inductive Producer where
  | trace (probe : Nat) (last : Bool)
  | stream (probe : Nat)
  | capture (chan : Nat) (last : Bool)
  | events
  | exportRec (region : Nat) (upto : Nat)
  | canFifo (ctl fifo : Nat)
  | bulk
  | phasor
  | profile
  | voltage
  | subscription
  deriving DecidableEq, Repr

/-- A record waiting for a ring (R449). -/
structure Rec where
  prod : Producer
  bytes : List Byte
  deriving DecidableEq, Repr

/-- One DMA ring beside its registers. -/
structure Ring where
  /-- Descriptors read and checked, from HEAD on. -/
  fetched : List Desc := []
  /-- Records waiting for room, oldest first. -/
  waiting : List Rec := []
  /-- Records ended since the last signal, and when the first of them ended (R452). -/
  unsig : Nat := 0
  firstUnsig : Option Nat := none
  deriving DecidableEq, Repr

/-- What the endpoint has sent: memory writes to the host, MSI-X messages and Completer Aborts of reads, newest first. -/
inductive HostOut where
  | write (addr : Nat) (bytes : List Byte)
  | msix (vector : Nat)
  | abort (addr : Nat)
  deriving DecidableEq, Repr

/-- A command copied from a request area and not yet acknowledged (R443 to R445). -/
structure MbxCmd where
  tag : Nat
  frame : List Byte
  resp : Option (List Byte)
  deriving DecidableEq, Repr

/-- One mailbox beside its control words. -/
structure Mbx where
  /-- Request area, by word offset. -/
  req : List (Nat × Word) := []
  /-- GO accepted, copy in progress: LEN and TAG. -/
  copying : Option (Nat × Nat) := none
  inflight : List MbxCmd := []
  /-- Response area. -/
  area : List Byte := []
  deriving DecidableEq, Repr

/-- PCIe endpoint, mailboxes, MSI-X and rings (chapter 19). -/
structure Hst where
  mbx : List Mbx := List.replicate 16 {}
  rings : List Ring := List.replicate 16 {}
  /-- MSI-X vector masks and pending bits (R447). -/
  msixMask : Nat := 0xFFFFFFFF
  /-- Address and data words of the MSI-X table (BAR2), by word. -/
  msixTab : List (Nat × Word) := []
  msixPend : Nat := 0
  /-- MSI-X enable and function mask. -/
  msixEn : Bool := false
  msixFmask : Bool := false
  /-- Programmed Max_Payload_Size, bytes (R439). -/
  maxPayload : Nat := 128
  out : List HostOut := []
  deriving DecidableEq, Repr

/-! ## Trace and capture (chapter 5) -/

/-- When something was last seen: frame and sample ordinals. -/
structure Mark where
  frame : Nat
  sample : Nat
  deriving DecidableEq, Repr

/-- What a record header takes from its trigger sample (Table 5-4). -/
structure SampleInfo where
  cycle : Nat := 0
  theta : Nat := 0
  sec : Nat := 0
  ns : Nat := 0
  frame : Nat := 0
  deriving DecidableEq, Repr

/-- A stream block being gathered (R144): samples so far, newest first, and its first sample. -/
structure Block where
  vals : List Word := []
  first : SampleInfo := {}
  deriving DecidableEq, Repr

/-- The trace recorder beside its registers. -/
structure Trc where
  /-- Frames started when the probes last took their samples. -/
  done : Nat := 0
  /-- Control bits waiting for the next frame start (R136). -/
  arm : Bool := false
  stop : Bool := false
  force : Bool := false
  /-- A FORCE acts in the frame in progress; that frame's header data. -/
  forced : Bool := false
  cur : SampleInfo := {}
  /-- Trace SRAM: probe p's words at 16,384 p. -/
  buf : List (Nat × Word) := []
  /-- Samples recorded since arming, per probe. -/
  count : List Nat := List.replicate 32 0
  /-- Latest recorded sample's header data, per probe. -/
  last : List SampleInfo := List.replicate 32 {}
  /-- Count at the trigger sample and its header data, per probe, once triggered (R141). -/
  trig : List (Option (Nat × SampleInfo)) := List.replicate 32 none
  /-- FLAGS of each probe's record once its last sample is taken (R148). -/
  flags : List (Option Nat) := List.replicate 32 none
  /-- CAUSE of the accepted trigger and its frame. -/
  cause : Nat := 0
  trigFcnt : Nat := 0
  /-- The trigger node's value in the previous frame (edge triggers). -/
  prev : Option Word := none
  /-- A matching event, a capture trigger, since the last frame start (types 4 and 5). -/
  evSeen : Bool := false
  capSeen : Bool := false
  /-- Shot or block sequence, 32 bits. -/
  seq : Nat := 0
  /-- Probes whose records are still to be written in UNLOAD. -/
  unload : List Nat := []
  /-- Stream blocks per probe; samples discarded since the last record; discarding episode. -/
  blocks : List Block := List.replicate 32 {}
  dropped : Nat := 0
  dropping : Bool := false
  deriving DecidableEq, Repr

/-- The capture recorder beside its registers. -/
structure Cap where
  arm : Bool := false
  stop : Bool := false
  force : Bool := false
  /-- CAUSE bits of happenings since the last sample instant (Table 5-3). -/
  happened : Nat := 0
  /-- Capture SRAM: channel c's words at 8,192 c. -/
  buf : List (Nat × Word) := []
  count : Nat := 0
  trig : Option (Nat × SampleInfo) := none
  seq : Nat := 0
  /-- Channels whose records are still to be written in UNLOAD, and the RETRIG flag. -/
  unload : List Nat := []
  retrig : Bool := false
  /-- FLAGS of snap, HOLDOVER and trip over the frozen record (R148). -/
  flags : Nat := 0
  deriving DecidableEq, Repr

/-- The last snap, HOLDOVER sample and class A or B latching, for the record FLAGS. -/
structure Marks where
  snap : Option Mark := none
  hold : Option Mark := none
  trip : Option Mark := none
  deriving DecidableEq, Repr

/-! ## Firebox (chapters 3 and 4) -/

/-- A schedule slot (Table 3-1). -/
structure Slot where
  unit : Nat
  op : Nat
  rate : Nat
  phase : Nat
  arg : Nat
  issue : Nat
  sect : Nat
  a : Nat
  b : Nat
  c : Nat
  dst : Nat
  deriving DecidableEq, Repr

/-- A node bound as a host parameter (Table 3-8). -/
structure HostPar where
  node : Nat
  ty : Nat
  tag : Nat
  deriving DecidableEq, Repr

/-- The parts of an image that stay in use after activation (Tables 3-7 and 3-8). -/
structure Image where
  slot : Nat
  version : Nat
  s : Nat
  c : Nat
  fMax : Nat
  ssc : Nat
  legMask : Nat
  legMode : Nat
  budget : Nat
  deadline : Nat
  hash : List Byte
  slots : List Slot
  ports : List (Nat × Nat)
  hostpars : List HostPar
  deriving DecidableEq, Repr

/-- One leg set (R122). -/
structure LegSet where
  dutyA : Word
  dutyB : Word
  centreA : Word
  centreB : Word
  deriving DecidableEq, Repr

/-- A result on its way: landing clock, node writes, state words, registers, legs, events. -/
structure Flight where
  slot : Nat
  lands : Nat
  nodes : List (Nat × Word) := []
  state : List (Nat × Word) := []
  regs : List (Nat × Word) := []
  legs : List (Nat × LegSet) := []
  events : List (Nat × List Nat) := []
  /-- MPPT channel whose scan timer restarts. -/
  restart : Option Nat := none
  /-- SEQ line pair that advances. -/
  seq : Option Nat := none
  deriving DecidableEq, Repr

/-- Firebox beside its registers. -/
structure Fbx where
  active : Option Image := none
  /-- Node memory, by word (R81). -/
  nodes : List (Nat × Word) := []
  /-- Compensator sections (6 words each from 0), ALU cells (2 words each from 0x10000), SEQ lines
  (256 words each from 0x20000), MPPT channels (16 words each from 0x30000). -/
  state : List (Nat × Word) := []
  /-- Position in each SEQ line pair: XFM unit u pair p at 4u + p. -/
  seqPos : List Nat := List.replicate 8 0
  /-- Coefficient banks and LUTs in force, by word offset in memories 0x02 and 0x03. -/
  coef : List (Nat × Word) := []
  lut : List (Nat × Word) := []
  /-- Output ports (Table 3-5). -/
  ports : List (Nat × Word) := []
  /-- A frame has started since activation. -/
  running : Bool := false
  /-- Start of the frame in progress, PWM clocks, and its ANG_FCNT. -/
  frameAt : Nat := 0
  fcnt : Nat := 0
  /-- Bank selection latched at the frame start (R86). -/
  bank : Nat := 0
  /-- Slots issued in this frame, by index. -/
  issued : List Nat := []
  /-- Slots of this frame are abandoned (R99). -/
  abandoned : Bool := false
  /-- An overrun has been counted in this frame. -/
  overrun : Bool := false
  flight : List Flight := []
  /-- Latest result clock of this frame. -/
  endClk : Nat := 0
  /-- Legs complete in this frame and the latest completion, PWM clocks. -/
  legsDone : Nat := 0
  lastDone : Option Nat := none
  /-- MOD0 slots of this frame whose leg sets are complete, with the completion, PWM clocks. -/
  modDone : List (Nat × Nat) := []
  /-- CORE clocks since power-on at the start of the frame in progress (R29). -/
  frameCore : Nat := 0
  /-- MPPT scan timers, ticks (R131). -/
  scanTimer : List Nat := List.replicate 4 0
  /-- The last MOD0 issue scaled; since the last increase of ANG_CYCLE three-level issues came and all
  had req outside their band (R127). -/
  npAny : Bool := false
  npAll : Bool := false
  deriving DecidableEq, Repr

/-! ## Angle (chapter 2) -/

/-- A snap waiting for its boundary (R59): the error where it was measured beforehand (R58), or the number
of units a crown announced (R62). -/
inductive SnapWait where
  /-- The error is the one at the boundary. -/
  | now
  /-- The error a member measured at a group-frame boundary. -/
  | measured (e : Int)
  /-- The n of R62. -/
  | announced (n : Int)
  deriving DecidableEq, Repr

/-- A θ = 0 stamp (R69). -/
structure Stamp where
  sec : Nat
  ns : Nat
  ok : Bool
  snap : Bool
  cycle : Nat
  deriving DecidableEq, Repr

/-- One line cycle of the ROCOF windows (R68): sum and number of F_MEAS, duration in PWM clocks. -/
structure CycleMean where
  sum : Nat
  count : Nat
  dur : Nat
  deriving DecidableEq, Repr

/-- A stretch of the accumulator's course: from a PWM clock on, at a phase, with an increment. -/
structure AngSeg where
  at_ : Nat
  phase : Nat
  inc : Nat
  deriving DecidableEq, Repr

/-- ANG beside its registers. Numbers of the PLL are binary64 patterns. -/
structure Ang where
  /-- The PLL's own angle, 48-bit fraction. -/
  th : Nat := 0
  /-- The PLL has started (a first sample has been taken). -/
  started : Bool := false
  w : Nat := 0
  wi : Nat := 0
  /-- Prefilter states. -/
  sogi : List Nat := []
  /-- Loop error of the last sample, angle units. -/
  err : Int := 0
  lossCnt : Nat := 0
  lockCnt : Nat := 0
  /-- ANG_INC at the last 256 samples, newest first (R55). -/
  hist : List Nat := []
  /-- The first lock since kindling has happened (R51, R58). -/
  first : Bool := false
  snap : Option SnapWait := none
  /-- The accumulator where the snap was asked for: its boundary comes after it (R59). The snap is the one from UNLOCKED
  (first case of R58). -/
  snapAfter : Nat := 0
  snapFirst : Bool := false
  /-- The accumulator's course, newest stretch first: since each change of increment and each snap. -/
  trail : List AngSeg := []
  /-- Loss declared at the last sample, and the increment to freeze at (R50, R55). -/
  loss : Bool := false
  frozen : Nat := 0
  /-- Instant of the last sample and its common angle. -/
  sampleAt : Nat := 0
  theta : Nat := 0
  /-- HOLD_EXPIRED raised in this holdover (R56). -/
  expired : Bool := false
  /-- Increment from the FORM port waiting for the next sample (R52). -/
  form : Option Nat := none
  /-- GROUP: crown's increment of the latest frame, missed boundaries, boundaries beyond the bound, error at
  the last boundary (R53, R54, R58). -/
  grpInc : Nat := 0
  grpMiss : Nat := 0
  grpBig : Nat := 0
  grpErr : Int := 0
  /-- ROCOF windows: finished cycles, newest first, and the cycle in progress. -/
  cycles : List CycleMean := []
  cycSum : Nat := 0
  cycCount : Nat := 0
  /-- Last line-cycle boundary: PWM clock, frame count; a snap since. -/
  cycAt : Nat := 0
  cycFrame : Nat := 0
  cycSnap : Bool := false
  stamps : List Stamp := []
  /-- Sequence of phasor records, and the PTP time of the latest reporting instant, ns (R70). -/
  phrSeq : Nat := 0
  phrAt : Option Nat := none
  /-- Islanding bias from GSV, angle units (R67). -/
  bias : Int := 0
  /-- The interleave offset as the crown gave it, before rounding (R30). -/
  phi : Nat := 0
  deriving DecidableEq, Repr

/-! ## Modulator inputs (chapter 6) -/

/-- One modulator channel beside its registers. -/
structure SdmCh where
  /-- The latest bits after INV, newest lowest. -/
  bits : Nat := 0
  /-- Bits entered since the causes of R160. -/
  n : Nat := 0
  /-- Length of the present run of equal bits, for stuck data and rail code (R163), and the last bit. -/
  run : Nat := 0
  last : Bool := false
  /-- Level at the ball; index of the next bit its clock samples (CLKOUT, R152); Manchester code violations in a row. -/
  raw : Bool := false
  next : Nat := 0
  viol : Nat := 0
  /-- Conditions that hold: clock loss, stuck data, rail code. -/
  clk : Bool := false
  stuck : Bool := false
  rail : Bool := false
  /-- Bit periods without any condition while in fault. -/
  clean : Nat := 0
  fault : Bool := false
  /-- F3: SDM_CH and SDM_F3_THR as it has them in force (R21), its latest bits, and bits entered since the causes of R161. -/
  f3ch : Word := 0x40
  f3thr : Word := 0x80007FFF
  b3 : Nat := 0
  n3 : Nat := 0
  /-- Consecutive bits meeting the F3 conditions, and the lines (R161). -/
  hiRun : Nat := 0
  loRun : Nat := 0
  hi : Bool := false
  lo : Bool := false
  /-- Last valid F1, scaled raw F2 and F2 (R159, R160). -/
  f1 : Word := 0
  x : Nat := 0
  f2 : Word := 0
  deriving DecidableEq, Repr

/-- One dual-range pair beside its registers (R166 to R169); sums are binary64. -/
structure DrPair where
  /-- The cycle in progress qualifies so far; the one before it did. -/
  qual : Bool := false
  prevQual : Bool := false
  /-- The next sample is the first of a line cycle. -/
  first : Bool := false
  count : Nat := 0
  sx : Nat := 0
  sy : Nat := 0
  sxx : Nat := 0
  sxy : Nat := 0
  /-- Output delivered to MET, and its validity. -/
  out : Word := 0
  ok : Bool := false
  deriving DecidableEq, Repr

/-- SDM beside its registers. -/
structure Sdm where
  ch : List SdmCh := List.replicate 24 {}
  pair : List DrPair := List.replicate 4 {}
  /-- Groups whose SDM_CLK output runs, bit g (R156); the latest modulator clock edge placed at an angle event: its index, and
  its instant in taps from power-on (R43, R154). -/
  run : Nat := 0
  edge : Nat := 0
  edgeTap : Nat := 0
  /-- F3 settings adopted and not yet taken. -/
  f3Due : Bool := false
  deriving DecidableEq, Repr

/-! ## Auxiliary converters (chapter 7) -/

/-- SAR beside its registers. -/
structure Sar where
  /-- Results of the pass in progress and published results: converter x slot s at 64x + s. -/
  pending : List (Nat × Word) := []
  published : List (Nat × Word) := []
  /-- A pass is in progress, and its frame. -/
  pass : Option Nat := none
  /-- Out-of-bound plausibility passes in a row (R184). -/
  bad : Nat := 0
  /-- ANA clock edge at which entry 0 of the pass begins (R176), and the entries each converter has done. -/
  t0 : Nat := 0
  next : List Nat := [0, 0]
  /-- Edges between which each converter's conversions of the latest two passes run. -/
  conv : List (List (Nat × Nat)) := [[], []]
  /-- A converter was disabled at the latest frame start (R179). -/
  off : List Bool := [true, true]
  /-- Channel and alignment that the latest register-mode request of converters A and B asked for (R182). -/
  req : List (Nat × Bool) := [(0, false), (0, false)]
  /-- Instants at which those requests were made. -/
  reqAt : List Nat := [0, 0]
  deriving DecidableEq, Repr

/-! ## Metering and voltage events (chapters 8 and 9) -/

/-- A common-angle sample as MET takes it: phases A, B, C and neutral. -/
structure MetSample where
  v : List Nat
  i : List Nat
  /-- Validity of phases A, B, C and of the neutral. -/
  ok : List Bool
  theta : Nat
  at_ : Nat
  hold : Bool
  /-- First sample of a metering cycle. -/
  first : Bool
  deriving DecidableEq, Repr

/-- A sample after the correction of R193, for the DFT: v and i' of phases A, B, C. -/
structure MetProc where
  v : List Nat
  i : List Nat
  theta : Nat
  deriving DecidableEq, Repr

/-- Open sums of the cycle in progress, per phase, binary64. -/
structure MetSums where
  vi : List Nat := [0, 0, 0]
  vv : List Nat := [0, 0, 0]
  /-- Currents of A, B, C and the neutral. -/
  ii : List Nat := [0, 0, 0, 0]
  samples : Nat := 0
  clocks : Nat := 0
  flags : Nat := 0
  deriving DecidableEq, Repr

/-- What one closed cycle gives (Table 8-1, Table 8-4): the node words 0x0040 to 0x005D. -/
structure MetCycle where
  nodes : List Word := []
  flags : Nat := 0
  dur : Nat := 0
  deriving DecidableEq, Repr

/-- A save slot or ember record (Table 8-7); `good` says that its TAG checks. -/
structure MetSave where
  ember : Bool
  saveInt : Nat
  seq : Nat
  cyc : Nat
  sec : Nat
  ns : Nat
  flags : Nat
  regs : List Nat
  profSeq : Nat
  pkgVer : Nat
  missedCnt : Nat
  missedMs : Nat
  good : Bool
  deriving DecidableEq, Repr

/-- An open voltage event (R217 to R221). -/
structure PqOpen where
  startPhase : Nat
  phases : Nat
  /-- Extreme of each phase so far, binary64. -/
  ext : List (Option Nat)
  flags : Nat
  /-- Samples and PWM clocks at the start, its PTP time, and MET_CYC. -/
  sample : Nat
  clock : Nat
  ptp : Nat
  ptpOk : Bool
  cyc : Nat
  deriving DecidableEq, Repr

/-- MET and its voltage events beside their registers. -/
structure Met where
  /-- Metering samples are being taken (from kindling to an ember sequence). -/
  run : Bool := false
  /-- Settings words in force for taking samples and for processing them (R202): block 0x06 register words
  that differ from reset. -/
  cfg : List (Nat × Word) := []
  proc : List (Nat × Word) := []
  /-- Settings words of the cycle that closed last: its snapshot and profile record go by them (R202). -/
  past : List (Nat × Word) := []
  /-- Settings of an activated package waiting for the opening boundary. -/
  cfgPend : Bool := false
  /-- Closed cycles, 64 bits (R189). -/
  cyc : Nat := 0
  /-- Live energy registers, 96 bits each, and their residues, binary64 (R197). -/
  energy : List Nat := List.replicate 52 0
  residue : List Nat := List.replicate 52 0
  /-- Latest samples, newest first: the correction filter's and the voltage windows'. -/
  hist : List MetSample := []
  /-- Corrected samples, newest first, for the DFT. -/
  dft : List MetProc := []
  sums : MetSums := {}
  /-- RMS current of the previous cycle per channel, F2 units; gain and phase in force (R192). -/
  prevI : Option (List Nat) := none
  gain : List Nat := List.replicate 4 0x3FF0000000000000
  delta : List Nat := List.replicate 4 0
  /-- A metering cycle is open. -/
  open_ : Bool := false
  /-- The next sample opens a cycle; the channel-invalid state of the last sample (R191). -/
  opening : Bool := false
  wasBad : Bool := false
  /-- A cycle closed and processed, waiting for its snapshot (R199), and the latest snapshot. -/
  closed : Option MetCycle := none
  snap : MetCycle := {}
  snapSec : Nat := 0
  snapNs : Nat := 0
  /-- Profile interval: flags and duration so far, a record dropped before, a kindling within. -/
  profFlags : Nat := 0
  profDur : Nat := 0
  profDropped : Bool := false
  restart : Bool := true
  /-- Save ring and ember slots (MRAM), blank or holding a record. -/
  ring : List (Option MetSave) := List.replicate 32 none
  ember : List (Option MetSave) := [none, none]
  /-- Next SEQ, and ticks since a periodic save last fell due; one is due and waits for the next snapshot; the snapshot that
  is to be written (R204). -/
  seq : Nat := 1
  saveTicks : Nat := 0
  due : Bool := false
  save : Option MetSave := none
  /-- A periodic write in progress: slot; an ember write in progress: slot. -/
  saving : Option (Nat × MetSave) := none
  embering : Option (Nat × MetSave) := none
  /-- Samples since kindling. -/
  samples : Nat := 0
  /-- Per phase: samples since the last refresh. -/
  since : List Nat := [4096, 4096, 4096]
  /-- Open sag, swell and interruption events; a snap since the last sample. -/
  sag : Option PqOpen := none
  swell : Option PqOpen := none
  intr : Option PqOpen := none
  pqSeq : Nat := 0
  pqDropped : Bool := false
  deriving DecidableEq, Repr

/-! ## PWM (chapter 10) -/

/-- A leg set in the shadow: its frame and when it completed, PWM clocks. -/
structure LegShadow where
  set : LegSet
  frame : Nat
  done : Nat
  deriving DecidableEq, Repr

/-- One output in the carrier in progress: carry, judged interval, whether a policy acted, logic level
at the start and at the end of the carrier. -/
structure OutPwm where
  carry : Int := 0
  iv : Option (Nat × Nat) := none
  acted : Bool := false
  prev : Bool := false
  lvl : Bool := false
  thOn : Nat := 0
  thOff : Nat := 0
  deriving DecidableEq, Repr

/-- One leg beside its registers. -/
structure LegPwm where
  shadow : Option LegShadow := none
  /-- Sets it overwrote in the last 8 ns, and the one that stood before them, newest first (R236). -/
  older : List LegShadow := []
  /-- Completion of the set now in force. -/
  inForce : Option Nat := none
  /-- Mode and policy of the last carrier (R241). -/
  cfg : Nat × Nat := (0, 0)
  a : OutPwm := {}
  b : OutPwm := {}
  /-- Latest t_tr of each direction in this carrier (R243). -/
  trAB : Option Nat := none
  trBA : Option Nat := none
  /-- The last exchange's target passed DT_MAX (R244). -/
  overAB : Bool := false
  overBA : Bool := false
  /-- Outgoing edges of the exchanges last answered by VSW_FB, taps. -/
  seenAB : Option Int := none
  seenBA : Option Int := none
  /-- Consecutive missing exchanges, exchanges without a miss, adaptation suspended (R244). -/
  miss : Nat := 0
  clean : Nat := 0
  fault : Bool := false
  deriving DecidableEq, Repr

/-- An edge at a ball, in taps from power-on: output, instant, on or off. -/
structure PwmEdge where
  out : Nat
  tap : Int
  on : Bool
  deriving DecidableEq, Repr

/-- PWM beside its registers. -/
structure Pwm where
  legs : List LegPwm := List.replicate 12 {}
  /-- Edges of the carrier in progress and the one before it, rising for each output. -/
  edges : List PwmEdge := []
  /-- True crossing of the carrier in progress, taps, its predicted period, its index. -/
  crossing : Int := 0
  period : Nat := 0
  index : Nat := 0
  /-- Last swap, spare line calibrated, last calibration, per group (R246, R247). -/
  swapAt : List Nat := List.replicate 4 0
  spare : List Bool := List.replicate 4 false
  calAt : List Nat := List.replicate 4 0
  /-- SYNC_OUT pulses of the latest grid start or regeneration: instant (taps) and width (ns). -/
  syncOut : List (Int × Nat) := []
  /-- Index of the common-grid carrier in progress; instant (taps) of the last valid pulse at SYNC_IN (R249, R253). -/
  grid : Nat := 0
  syncAt : Option Int := none
  /-- Misaligned pulses in a row, valid pulses in a row (R252, R253). -/
  syncBad : Nat := 0
  syncGood : Nat := 0
  /-- Chain delay measurement under way (R251). -/
  meas : Bool := false
  /-- PWM balls high-impedance until the configuration store is loaded (R231). -/
  hiZ : Bool := true
  deriving DecidableEq, Repr

/-! ## Grid supervisor (chapter 12) -/

/-- GSV beside its registers. Voltages, frequencies and powers are binary64 patterns; times are PWM clocks. -/
structure Gsv where
  /-- Settings words of block 0x03 of an activated package, waiting for adoption (R299). -/
  pend : Option (List (Nat × Word)) := none
  /-- F2 phase voltages of the latest samples, newest first (R292). -/
  hist : List (List Nat) := []
  vph : List Nat := [0, 0, 0]
  vLow : Nat := 0
  vHigh : Nat := 0
  f : Nat := 0
  /-- Last sample instant. -/
  sampleAt : Option Nat := none
  /-- Per table: entries beyond, and the timers of its 16 entries (R293). -/
  beyond : List Nat := [0, 0, 0, 0]
  timer : List (List Nat) := List.replicate 4 (List.replicate 16 0)
  /-- The trip region whose events have been raised (R295). -/
  tripReg : Option Nat := none
  /-- Entry into the present state; pre-charge step, its instant, failure raised (R286). -/
  enterAt : Nat := 0
  step : Nat := 0
  stepAt : Nat := 0
  preFail : Bool := false
  /-- Breaker close command of SYNC; open command of a stop (R287, R288). -/
  closeAt : Option Nat := none
  stopAt : Option Nat := none
  /-- P_LIMIT, P_mem, the restoring ramp (R298). -/
  plim : Nat := 0
  pmem : Nat := 0
  restore : Bool := false
  /-- Return-to-service window timer (R287). -/
  rts : Nat := 0
  /-- State before TRIPPED (R289). -/
  prior : Nat := 0
  /-- STATE_REQUEST waiting: 1 START, 2 STOP (R284). -/
  cmd : Nat := 0
  /-- The hold is to be deasserted at the next device frame start (R282). -/
  release : Bool := false
  /-- ANG's lock state at the last sample (R304). -/
  lockPrev : Nat := 3
  iq : Nat := 0
  iq2 : Nat := 0
  /-- Islanding (R300): time beyond ISL_DF, runs of ROCOF updates, of samples and of line cycles; harmonic history,
  newest first, with the base of the run and the last cycle taken. -/
  dfClk : Option Nat := none
  rcRun : Nat := 0
  vsRun : Nat := 0
  thdRun : Nat := 0
  thdHist : List Nat := []
  thdBase : Nat := 0
  thdCyc : Nat := 0
  /-- β received in group frames (R301). -/
  rxBias : Int := 0
  /-- PERMIT_OK has been 1 since; action 1 holds CEASE (R303). -/
  permitSince : Nat := 0
  permitCease : Bool := false
  deriving DecidableEq, Repr


/-! ## Gate drivers and Draught (chapters 13 and 14) -/

/-- One bridge of the gate drivers beside its registers; gates are numbered as in Table 13-1. -/
structure Bridge where
  /-- Gates commanded on by the word in force. -/
  cmd : Nat := 0
  /-- When each gate was last commanded off, and each low side last turned on at its ball, PWM clocks (R309, R317). -/
  offAt : List Nat := List.replicate 6 0
  lowOn : List (Option Nat) := List.replicate 3 none
  /-- The next ANA clock whose drive word the drivers take (R307); consecutive discarded words and the latest one's
  clock (R308). -/
  upTo : Nat := 0
  bad : Nat := 0
  badAt : Option Nat := none
  /-- End of the fault wait; latched (R320). -/
  wait : Option Nat := none
  latched : Bool := false
  /-- Soft turn-off: its end and the gates in it (R318). -/
  soft : Option (Nat × Nat) := none
  /-- End of the PWM period of the first detection, until which detections join the fault, and the legs of its causes
  (R319). -/
  joinTo : Nat := 0
  scLegs : Nat := 0
  ocLegs : Nat := 0
  uvLegs : Nat := 0
  /-- Causes whose event the fault has raised: bit 0 short circuit, 1 overcurrent, 2 lockout, 3 link. -/
  raised : Nat := 0
  /-- Driving without a fault since (R320). -/
  driveSince : Option Nat := none
  /-- Bridge-off wire asserted at the drivers (R310). -/
  wire : Bool := false
  /-- Legs in warning; legs in lockout by their own supply; lockout by VHS_EXT (R312); lockouts already answered. -/
  warn : Nat := 0
  low : Nat := 0
  extLow : Bool := false
  lockSeen : Nat := 0
  /-- High sides in the refresh of the PWM period in progress (R313). -/
  refresh : Nat := 0
  deriving DecidableEq, Repr

/-- The gate drivers. -/
structure Gdr where
  br : List Bridge := [{}, {}]
  /-- VDRV undervoltage (R315). -/
  vdrvLow : Bool := false
  /-- Link loss holds both bridges (R33). -/
  linkHold : Bool := false
  deriving DecidableEq, Repr

/-- A filtered crossing seen in OBSERVE or COAST (R335): phase, sense, instant. -/
structure Crossing where
  phase : Nat
  rising : Bool
  at_ : Nat
  deriving DecidableEq, Repr

/-- One Draught channel beside its registers; speeds, duties and setpoints are binary64, intervals ANA clocks,
instants PWM clocks. -/
structure DrtCh where
  /-- Judged setpoint, run of invalid values, STOP in force (R339). -/
  sp : Nat := 0
  invalid : Bool := false
  stopped : Bool := false
  /-- The setpoint in effect was nonzero at the last judgement. -/
  live : Bool := false
  /-- Only a START restarts the channel; a START remembered in HELD; causes of the present hold (Table 14-4). -/
  onlyStart : Bool := false
  startMem : Bool := false
  causes : Nat := 0
  /-- Configuration words +0x00 to +0x54 taken at the last update or state change (R344). -/
  cfg : List Word := []
  /-- PER, DT, TSETTLE word and GAIN of the PWM period in progress, and its start and end. -/
  pwm : Word := 0x64141388
  gain : Nat := 2
  perAt : Nat := 0
  perEnd : Nat := 0
  /-- When the current limit acted in this period (R333). -/
  limAt : Option Nat := none
  /-- Speed loop. -/
  ref : Nat := 0
  i : Nat := 0
  d : Nat := 0
  dNext : Nat := 0
  f : Nat := 0
  known : Bool := false
  lastUpd : Nat := 0
  /-- Zero crossings: the last two intervals' sum, the last six intervals newest first, the last crossing. -/
  t2 : Nat := 0
  ints : List Nat := []
  zcAt : Option Nat := none
  /-- Last commutation, the next one scheduled, the window's detection, the filter's run and its first sample. -/
  commAt : Nat := 0
  next : Option Nat := none
  seen : Bool := false
  run : Nat := 0
  first : Nat := 0
  miss : Nat := 0
  detRun : Nat := 0
  /-- Consecutive BRAKE periods, state entry, crossings observed newest first. -/
  brakes : Nat := 0
  enterAt : Nat := 0
  obs : List Crossing := []
  deriving DecidableEq, Repr

/-! ## Clocks, power, reset (chapter 15) -/

/-- A warm reset that waits for the response of its command to be written (R362, R511): its cause, the mailbox, and the life-cycle
state a transition goes to. -/
structure ResetAsk where
  cause : Nat
  mbx : Nat
  goal : Option Nat
  deriving DecidableEq, Repr

/-- CPR beside its registers. -/
structure Cpr where
  /-- Rows of Table 15-5 complete, bit n for row n. -/
  rows : Nat := 0
  /-- Kindling has stopped (R367, R509). -/
  stopped : Bool := false
  /-- Power-on reset holds (R355); RESET_N is low; kindling waits for its rising edge (R360). -/
  por : Bool := true
  resetN : Bool := false
  waiting : Bool := false
  /-- A warm reset is in steps 1 to 4 of R360; the instant kindling began (release or warm reset). -/
  warm : Bool := false
  start : Nat := 0
  /-- Power-fail hold: the latest power failure and the end of the ember sequence (R359). -/
  failAt : Nat := 0
  emberAt : Nat := 0
  /-- The SDM bank is supplied at 1.8 V (R151). -/
  sdm18 : Bool := false
  /-- Ticks in a row without a heartbeat (R364). -/
  beats : Nat := 0
  /-- A power failure that came during a reset: its source (R358). -/
  joined : Option Nat := none
  /-- A warm reset that waits for its response. -/
  asked : Option ResetAsk := none
  /-- Host watchdog count, ticks, and whether it counts (R365). -/
  hwdt : Nat := 0
  hwdtOn : Bool := false
  /-- Domains failed, and consecutive good windows of each (R353). -/
  clkBad : Nat := 0
  clkGood : List Nat := List.replicate 12 0
  /-- Both MDLLs in free-run (R354). -/
  freeRun : Bool := false
  /-- Spread profile in force, and one adopted and not yet begun (R350). -/
  ssc : Nat := 0
  sscNext : Option Nat := none
  /-- When the profile in force began, PWM clocks, and the CORE clocks counted until then (R29, R349). -/
  sscAt : Nat := 0
  coreAt : Nat := 0
  /-- The direction of the link on which a word is being sent again, bit 0 to the logic die, bit 1 to the analog die; the link
  is lost (R32). -/
  resend : Nat := 0
  d2dLost : Bool := false
  /-- Ticks of the tamper resets of the last hour (R509); the die shield fails (Table 22-6). -/
  tampers : List Nat := []
  mesh : Bool := false
  deriving DecidableEq, Repr

/-! ## Root of trust, sessions, configuration store (chapters 20 and 22) -/

/-- The configuration store of MRAM (R368): words of "cfg" fields, slots recorded in force, owner counter, time floor,
service word and whether its tag checks, a life-cycle target pending (R511). -/
structure Store where
  valid : Bool := false
  words : List (Nat × Word) := []
  img : Option Nat := none
  pkg : Option Nat := none
  owner : Nat := 0
  floor : Nat := 0
  service : Bool := false
  pend : Option Nat := none
  deriving DecidableEq, Repr

/-- OTP (Table 22-2), but for the floors: seed, DEV_ID, owner key hash, life-cycle fuse words, trims. -/
structure Otp where
  seed : Option Nat := none
  devId : List Byte := List.replicate 16 0
  owner : Option (List Byte) := none
  lcf : List Nat := [0, 0, 0, 0]
  /-- Trims and reserved bytes from 0x480 on, by byte offset from there. -/
  rest : List (Nat × Nat) := []
  deriving DecidableEq, Repr

/-- What a response needs of its request: the path it takes, opcode, session, sequence number. -/
structure Asked where
  path : Path
  opcode : Nat
  sid : Nat
  seq : Nat
  deriving DecidableEq, Repr

/-- A response that is to be written later: status, unit that answered, payload. -/
structure Owed where
  ask : Asked
  status : Nat
  uid : Nat
  payload : List Byte
  deriving DecidableEq, Repr

/-- A session (R460 to R463, R501): highest SEQ accepted; each SEQ accepted in the window with its status and payload
once it is answered; the present command key and the one before it, and how many requests each has tagged; the SEQ of
the last SESSION_REKEY. -/
structure Session where
  sid : Nat
  role : Nat
  serial : Nat
  notAfter : Nat
  top : Nat := 0
  cache : List (Nat × Option (Nat × List Byte)) := []
  key : Nat := 0
  oldKey : Nat := 0
  used : Nat := 0
  oldUsed : Nat := 0
  since : Nat := 0
  deriving DecidableEq, Repr

/-- Sessions and trust. -/
structure Sec where
  sessions : List Session := []
  /-- Duplicates waiting for their originals (R462). -/
  held : List Asked := []
  store : Store := {}
  otp : Otp := {}
  /-- Certificate region: KIND and bytes of each entry (R496). -/
  certs : List (Nat × List Byte) := []
  /-- JTAG instruction in force (R517). -/
  jtag : Jtag := .bypass
  /-- HRT_JTAG_BLOCKED raised in this tick (R517). -/
  blocked : Bool := false
  /-- What the latest command that completes with a status answered: status and payload. -/
  out : Option (Nat × List Byte) := none
  deriving DecidableEq, Repr


/-! ## Station network (chapter 16) -/

/-- A key: identifier, algorithm, validity in PTP seconds, and its bytes, which no command reads (R503, R506). -/
structure NetKey where
  id : Nat
  alg : Nat
  start : Nat
  stop : Nat
  key : List Byte := []
  deriving DecidableEq, Repr

/-- One stream context beside its registers. -/
structure NetCtx where
  /-- Change time of the last accepted GOOSE frame; expiry instant (R386, R387). -/
  t : Nat := 0
  expire : Option Nat := none
  /-- A gap before the next record (Table 16-4). -/
  gap : Bool := false
  /-- Publication: member values last sent, the next retransmission's offset from the change in ms and its instant (R390). -/
  vals : Option (List Nat) := none
  offset : Nat := 0
  sendAt : Option Nat := none
  /-- SV publication: number of the last sample since the PTP epoch, ASDUs waiting for their frame (R391). -/
  sample : Option Nat := none
  asdus : List (Nat × List (Int × Nat)) := []
  /-- Current, next and previous key (R393). -/
  cur : Option NetKey := none
  next : Option NetKey := none
  old : Option NetKey := none
  deriving DecidableEq, Repr

/-- A PTP message that the device sends (R380). -/
inductive PtpSent where
  | announce (domain : Nat) (a : PtpAnnounce)
  | sync (domain : Nat)
  | pdelayReq (domain : Nat)
  | pdelayResp (domain : Nat)
  deriving DecidableEq, Repr

/-- What a frame that leaves carries: one of the device's own, or a frame forwarded, whose FCS may end inverted (R377). -/
inductive NetFrame where
  | supervision
  | ptp (m : PtpSent)
  | goose (ctx stNum sqNum t ttl : Nat) (notSync : Bool) (vals : List Nat)
  | sv (ctx : Nat) (synch : Nat) (asdus : List (Nat × List (Int × Nat)))
  | response (dst mbx : Nat) (bytes : List Byte)
  | forward (f : EthFrame) (stomped : Bool)
  deriving DecidableEq, Repr

/-- Redundancy information of an own frame (R375): an HSR tag with its Ethertype and path identifier, a PRP trailer with
its LAN identifier and suffix. -/
inductive RedOut where
  | none
  | hsr (etype path seq : Nat)
  | prp (lan suffix seq : Nat)
  deriving DecidableEq, Repr

/-- A frame in a transmit queue of a port (R379): its queue, length in bytes, the instant it entered, its source address,
redundancy information, VLAN priority and identifier, and the correction of a forwarded event message (R380). -/
structure NetTx where
  queue : Nat
  len : Nat
  at_ : Nat
  src : Nat
  red : RedOut
  vlan : Option (Nat × Nat)
  corr : Option Int
  frame : NetFrame
  deriving DecidableEq, Repr

/-- A port's transmitter: the frames waiting, in the order they entered, and the end of the frame in progress. -/
structure NetPort where
  waiting : List NetTx := []
  busy : Nat := 0
  deriving DecidableEq, Repr

/-- A frame that has begun to leave a port: when, PTP time then in ns (the hardware timestamp), and what it is. -/
structure NetOut where
  port : Nat
  at_ : Nat
  ptp : Nat
  tx : NetTx
  deriving DecidableEq, Repr

/-- A layer-2 command waiting or executing: its requester, port and frame. -/
structure L2Cmd where
  src : Nat
  port : Nat
  frame : List Byte
  deriving DecidableEq, Repr

/-- A common-angle sample as SV publications take it: VA, VB, VC, IA, IB, IC and IN (binary64) with their validity, the PTP
stamp in units of 2^-32 ns, HOLDOVER (R391). -/
structure SvTaken where
  vals : List (Nat × Bool)
  ptp : Nat
  hold : Bool
  deriving DecidableEq, Repr

/-- NET beside its registers. -/
structure Net where
  /-- The latest common-angle samples, newest first (R391); a subscription record dropped before the next (R392). -/
  taken : List SvTaken := []
  dropped : Bool := false
  /-- Contexts that differ from a fresh one, by index. -/
  ctx : List (Nat × NetCtx) := []
  /-- Duplicate entries: source, sequence, end of life (R376); frames forwarded: port out, source, sequence (R377). -/
  dup : List (Nat × Nat × Nat) := []
  fwd : List (Nat × Nat × Nat × Nat) := []
  /-- Node table: address and when last seen; last frame from another node per port; paths reported lost (R378). -/
  nodes : List (Nat × Nat) := []
  lastRx : List (Option Nat) := [none, none]
  lostPath : Nat := 0
  /-- Sequence counter of own frames (R375), and when the next supervision frame is due. -/
  seq : Nat := 0
  superAt : Nat := 0
  /-- Transmitters of the ports (R379). -/
  tx : List NetPort := [{}, {}]
  /-- Sync messages within 1 us in a row; per port the best master's last Announce, when it came and its sender. -/
  good : Nat := 0
  ann : List (Option (Nat × Nat × PtpAnnounce)) := [none, none]
  /-- The grandmaster followed, since when the clock listens for one, and when its own messages are next due (R380). -/
  master : Nat := 0
  listenAt : Nat := 0
  ptpAt : Nat := 0
  /-- Last PPS_IN edge and edges 1 s apart in a row; seconds to be taken; set since kindling (R382). -/
  pps : Option Nat := none
  ppsN : Nat := 0
  ptpSet : Option Nat := none
  wasSet : Bool := false
  /-- PPS_OUT is high until (R383). -/
  ppsOut : Option Nat := none
  /-- Seconds latched by a read of NET_TIME_NS are in the registers; layer-2 mailboxes. -/
  l2 : List (List L2Cmd) := [[], [], [], []]
  out : List NetOut := []
  deriving DecidableEq, Repr

/-! ## Flue (chapter 17) -/

/-- What the crown keeps of a ring position. -/
structure Member where
  /-- Its latest member frame and the boundary it came for; the one before it. -/
  frame : Option MemberFrame := none
  at_ : Nat := 0
  prev : Option (Nat × MemberFrame) := none
  /-- Boundaries in a row whose frame was missing. -/
  miss : Nat := 0
  /-- It was in RUN or RIDE at its frame before. -/
  acting : Bool := false
  /-- It is to leave the division: 0 stays, 1 withdrawn, 2 lost; the boundary of the handover (R414). -/
  leaving : Nat := 0
  leaveAt : Nat := 0
  /-- It entered RUN. -/
  entered : Bool := false
  deriving DecidableEq, Repr

/-- The division of one quantity among the positions (binary64). -/
structure Share where
  base : List Nat := []
  delta : List Nat := []
  deriving DecidableEq, Repr

/-- A relayed or group command waiting for members (R410, R411, R466): positions still to answer, first failing member
and its status, the first answer, when it was sent. -/
structure Relay where
  ask : Asked
  /-- The unit that answers where none fails. -/
  unit : Nat
  waiting : Nat
  fail : Option (Nat × Nat) := none
  reply : List Byte := []
  sentAt : Nat
  deriving DecidableEq, Repr

/-- A group COMMIT, or activation by type, slot and kind, under way at the crown (R413): requested angle, boundary of
the PREPARE record, the crown's own verdict. -/
structure GroupTx where
  ident : Nat
  act : Option (Nat × Nat × Bool)
  angle : Option Nat
  sent : Option Nat := none
  own : Nat := 0
  ask : Asked
  deriving DecidableEq, Repr

/-- What a Flue frame carries, by its type (Table 17-1): a join frame DEV_ID and, where it is this device's own, BOOT_NONCE
(R399); `other` a frame of no type of the table. -/
inductive FlueFrame where
  | crown (f : CrownFrame)
  | member (f : MemberFrame)
  | bulk (b : BulkBody)
  | time
  | join (nonce : Option Nat) (devId : List Byte)
  | shadow (b : ShadowBody)
  | other
  deriving DecidableEq, Repr

/-- A frame in a transmit queue of a link (R401): its payload's bytes, the instant it entered, its header (Table 17-1), what
it carries, whether it is a forwarded one that closes with K30.7 (R400). -/
structure FlueTx where
  len : Nat
  at_ : Nat
  src : Nat
  epoch : Nat
  seq : Nat
  gfi : Nat
  dst : Nat
  hops : Nat
  frame : FlueFrame
  bad : Bool := false
  /-- The key its tag is made under, of a frame of this device's own (R399). -/
  key : List Byte := []
  deriving DecidableEq, Repr

/-- A link's transmitter: the frames waiting, in the order they entered, and the end of the frame in progress. -/
structure FluePort where
  waiting : List FlueTx := []
  busy : Nat := 0
  /-- End of the latest crown frame sent. -/
  crown : Nat := 0
  deriving DecidableEq, Repr

/-- A frame that has begun to leave on a link: when, and what it is. -/
structure FlueOut where
  link : Nat
  at_ : Nat
  tx : FlueTx
  deriving DecidableEq, Repr

/-- Flue beside its registers. -/
structure Flu where
  /-- Unit table (memory 0x06), by word. -/
  unit : List (Nat × Word) := []
  /-- BOOT_NONCE (R399), none before the TRNG has drawn it. -/
  nonce : Option Nat := none
  /-- Transmitters of the links E and W (R401); the latest group-frame boundary. -/
  ports : List FluePort := [{}, {}]
  lastB : Option Nat := none
  /-- Frame sequence of this device; per source the highest SEQ accepted and those accepted behind it (R400). -/
  seq : Nat := 1
  seen : List (Nat × Nat × List Nat) := []
  /-- Flue time less the free-running clock, ns (R402); last valid time frame; next exchange. -/
  base : Int := 0
  lastTime : Option Nat := none
  exchange : Nat := 0
  /-- Next group-frame boundary, in units of 2^32/G. -/
  nextG : Nat := 1
  /-- Boundaries since kindling or the last crown frame; crown frames missing in a row; orphan. -/
  bounds : Nat := 0
  missing : Nat := 0
  orphan : Bool := false
  /-- Crown frame received for a boundary, with its epoch; whether since the last boundary; the frame shares are latched
  from. -/
  pend : Option (Nat × Nat × CrownFrame) := none
  fresh : Bool := false
  elig : Option (Nat × Nat × CrownFrame) := none
  /-- Crown: members by position; setpoints P, Q, P_CURT (binary64) and V, F; divisions of P, Q, P_CURT. -/
  mem : List Member := List.replicate 64 {}
  spP : Nat := 0
  spQ : Nat := 0
  spC : Nat := 0
  spV : Word := 0
  spF : Word := 0
  share : List Share := [{}, {}, {}]
  /-- Base division to be computed at the next boundary; ramp position, none when over; handover boundary; shortfall. -/
  divide : Bool := false
  ramp : Option Nat := none
  hGfi : Nat := 0
  short : Bool := false
  /-- Records for the next crown frame; the quorum has been met in this crown's term; its loss has been raised. -/
  cmds : List CrownCmd := []
  metQuorum : Bool := false
  noQuorum : Bool := false
  /-- Commands relayed from here; group transaction; verdict to report; relayed commands waiting to execute here. -/
  relays : List Relay := []
  tx : Option GroupTx := none
  ident : Nat := 0
  verdict : Nat := 0
  inbox : List (Nat × BulkBody) := []
  /-- Responses bound to the next crown frame; those whose crown frame is on its way (R416). -/
  owed : List Owed := []
  bound : List Owed := []
  /-- Member: a transaction prepared: its identifier, activation or COMMIT, slot and kind. -/
  prepared : Option (Nat × Option (Nat × Nat × Bool)) := none
  /-- Event codes raised since the last member frame. -/
  alarm : List Nat := []

  joining : Option Nat := none
  /-- The owner-provisioned group key: current and next (R399, R505). -/
  keyCur : Option NetKey := none
  keyNext : Option NetKey := none
  out : List FlueOut := []
  deriving DecidableEq, Repr

/-! ## CAN (chapter 18) -/

/-- A message buffer beside its registers: the instant of its latest store, header and data before it, the instant of
the last snapshot, ever stored since configured, data held while transmitting (R427 to R430). -/
structure CanBuf where
  storedAt : Option Nat := none
  prev : Option (Word × List Word) := none
  before : Option Nat := none
  held : Option (List Word) := none
  deriving DecidableEq, Repr

/-- One controller beside its registers. -/
structure Can where
  mb : List CanBuf := List.replicate 64 {}
  /-- Buffer on the bus; 64 is the reference message, 65 one whose cycle has passed. The frame last offered. -/
  tx : Option Nat := none
  offered : Option CanFrame := none
  /-- Transmit error count where it exceeds its field. -/
  tec : Nat := 0
  /-- A frame lost by each FIFO since its last record (bit f). -/
  lost : Nat := 0
  /-- RECOVER has been written in bus-off. -/
  recover : Bool := false
  /-- Adopted words that wait for the end of the frame on the bus: their addresses with the words still acted on, and
  the instant of the adoption (R21, R423). -/
  old : List (Nat × Word) := []
  timing : Option Nat := none
  /-- Reference message requested; accepted messages in a row; the last one (R432, R433). -/
  ref : Bool := false
  accepted : Nat := 0
  lastRef : Option Nat := none
  deriving DecidableEq, Repr

/-! ## Hearth: slots (chapter 21) -/

/-- One image or package slot in MRAM: its words, the byte ranges written since its erasure, and its
state of Table 20-6 beside "in force": 0 blank, 1 written, 2 verified, 4 refused. -/
structure MramSlot where
  data : List (Nat × Word) := []
  /-- Words written since the erasure, rising. -/
  written : List Nat := []
  st : Nat := 0
  version : Nat := 0
  deriving DecidableEq, Repr

/-- An activation waiting for its frame (R488). -/
structure ActPend where
  pkg : Bool
  slot : Nat
  live : Bool
  /-- Adoption frame and predicted line cycle. -/
  frame : Nat
  cycle : Nat
  deriving DecidableEq, Repr

/-- Hearth's image and package slots, and what it counts. -/
structure Hrt where
  img : List MramSlot := [{}, {}]
  pkg : List MramSlot := [{}, {}]
  /-- Slots in force, if any. -/
  imgForce : Option Nat := none
  pkgForce : Option Nat := none
  act : Option ActPend := none
  /-- Ticks each type has been in force without a reset (R487). -/
  imgTicks : Nat := 0
  pkgTicks : Nat := 0
  /-- OTP floor words written, newest first, and HRT_ROLLBACK_FULL raised, per type. -/
  floorImg : List Nat := []
  floorPkg : List Nat := []
  fullImg : Bool := false
  fullPkg : Bool := false
  /-- Conditions of R475 now holding: warning, trip. -/
  warn : Bool := false
  trip : Bool := false
  /-- Consecutive ticks a sensor was beyond the tamper limits (Table 21-1). -/
  hotTicks : Nat := 0
  deriving DecidableEq, Repr

/-! ## The device -/

/-- Everything the device holds. -/
structure Dev where
  /-- Register file: address and word, addresses rising, only words that differ from their reset value. -/
  regs : List (Nat × Word) := []
  time : Time := {}
  stage : Stage := {}
  dmp : Dmp := {}
  log : Log := {}
  hst : Hst := {}
  fbx : Fbx := {}
  sdm : Sdm := {}
  sar : Sar := {}
  met : Met := {}
  ang : Ang := {}
  pwm : Pwm := {}
  hrt : Hrt := {}
  trc : Trc := {}
  cap : Cap := {}
  marks : Marks := {}
  sup : Gsv := {}
  gdr : Gdr := {}
  drt : List DrtCh := [{}, {}]
  can : List Can := [{}, {}]
  net : Net := {}
  flu : Flu := {}
  cpr : Cpr := {}
  sec : Sec := {}
  deriving DecidableEq, Repr

/-- The state: the device and the commands waiting, first in first out. -/
structure State where
  dev : Dev := {}
  pending : List Instr := []
  deriving DecidableEq, Repr

/-- Faults. No command of this block ends in one: the type has one reason, for a step the model cannot take. -/
inductive Fault where
  /-- Raised by no meaning of this model; kept so that the type is closed and inhabited (safe). -/
  | none
  deriving DecidableEq, Repr

/-- Refusals. -/
inductive Refusal where
  /-- Raised only by an arm of Dispatch.lean whose command has no meaning yet (safe: the model stops). -/
  | notModelled (mnemonic : String)
  deriving DecidableEq, Repr

/-- The machine right after power-on reset: every field at its default above, power-on reset still held (R355), no
command waiting. (DESIGN CHOICE, log entry 10.) -/
def State.reset : State := {}

end Sys2Proof.Machine
end

