-- ==== Sys2Proof/Machine/Fields.lean ====
section
/-! DEFINITION. The register fields of the manual, each under the manual's own name:
address, bit range and array strides. The tables are those each register chapter's
register rule names (R71, R100, R134, R149, R170, R185, R210, R226, R254, R278, R305, R323, R345,
R370, R395, R420, R435, R442, R454, R491, R518). -/

namespace Sys2Proof.Machine.F

/-! FBX -/
abbrev FBX_STATUS_RUN : Fld := ⟨0x010000, 0, 0, []⟩
abbrev FBX_STATUS_IMG_SLOT : Fld := ⟨0x010000, 1, 1, []⟩
abbrev FBX_STATUS_OVR : Fld := ⟨0x010000, 2, 2, []⟩
abbrev FBX_STATUS_LIVE_PEND : Fld := ⟨0x010000, 3, 3, []⟩
abbrev FBX_STATUS_BANK : Fld := ⟨0x010000, 5, 4, []⟩
abbrev FBX_STATUS_SSC_MAX : Fld := ⟨0x010000, 15, 8, []⟩
abbrev FBX_STATUS_SLOTS : Fld := ⟨0x010000, 31, 16, []⟩
abbrev FBX_BUDGET_B : Fld := ⟨0x010004, 16, 0, []⟩
abbrev FBX_DEADLINE_D : Fld := ⟨0x010008, 16, 0, []⟩
abbrev FBX_LAST_END_END : Fld := ⟨0x01000C, 16, 0, []⟩
abbrev FBX_MAX_END_END : Fld := ⟨0x010010, 16, 0, []⟩
abbrev FBX_PWM_MARGIN_MARGIN : Fld := ⟨0x010014, 23, 0, []⟩
abbrev FBX_OVR_CNT_CNT : Fld := ⟨0x010018, 31, 0, []⟩
abbrev FBX_OVR_INFO_SLOT : Fld := ⟨0x01001C, 11, 0, []⟩
abbrev FBX_OVR_INFO_CAUSE : Fld := ⟨0x01001C, 13, 12, []⟩
abbrev FBX_OVR_INFO_FCNT : Fld := ⟨0x01001C, 31, 16, []⟩
abbrev FBX_VERIFY_REASON : Fld := ⟨0x010020, 7, 0, []⟩
abbrev FBX_VERIFY_IMG_SLOT : Fld := ⟨0x010020, 8, 8, []⟩
abbrev FBX_VERIFY_INDEX : Fld := ⟨0x010020, 31, 16, []⟩
abbrev FBX_VERSION_VERSION : Fld := ⟨0x010024, 31, 0, []⟩
abbrev FBX_NODE_HASH : Fld := ⟨0x010030, 31, 0, [4]⟩
abbrev FBX_EVT_EVT : Fld := ⟨0x010050, 3, 0, []⟩
abbrev FBX_KU_FALLBACK : Fld := ⟨0x010100, 31, 0, [4]⟩
abbrev FBX_NAN_CNT : Fld := ⟨0x010120, 31, 0, [4]⟩
abbrev FBX_MOD_KNP : Fld := ⟨0x010160, 31, 0, []⟩
abbrev FBX_MOD_STAT_OVM : Fld := ⟨0x010164, 0, 0, []⟩
abbrev FBX_MOD_STAT_NP_SAT : Fld := ⟨0x010164, 1, 1, []⟩
abbrev FBX_MOD_STAT_VDC_BAD : Fld := ⟨0x010164, 2, 2, []⟩
abbrev FBX_MOD_OVM_CNT : Fld := ⟨0x010168, 31, 0, []⟩
abbrev FBX_KU_EVT_EVT : Fld := ⟨0x01016C, 6, 0, []⟩
abbrev MPT_V_MIN : Fld := ⟨0x010200, 31, 0, [64]⟩
abbrev MPT_V_MAX : Fld := ⟨0x010204, 31, 0, [64]⟩
abbrev MPT_STEP_MIN : Fld := ⟨0x010208, 31, 0, [64]⟩
abbrev MPT_STEP_MAX : Fld := ⟨0x01020C, 31, 0, [64]⟩
abbrev MPT_K_STEP : Fld := ⟨0x010210, 31, 0, [64]⟩
abbrev MPT_EPS : Fld := ⟨0x010214, 31, 0, [64]⟩
abbrev MPT_K_CURT : Fld := ⟨0x010218, 31, 0, [64]⟩
abbrev MPT_BAND : Fld := ⟨0x01021C, 31, 0, [64]⟩
abbrev MPT_SCAN_CFG_SCAN_PERIOD : Fld := ⟨0x010220, 15, 0, [64]⟩
abbrev MPT_SCAN_HI : Fld := ⟨0x010224, 31, 0, [64]⟩
abbrev MPT_SCAN_LO : Fld := ⟨0x010228, 31, 0, [64]⟩
abbrev MPT_SCAN_STEP : Fld := ⟨0x01022C, 31, 0, [64]⟩
abbrev MPT_STAT_PHASE : Fld := ⟨0x010230, 2, 0, [64]⟩
abbrev MPT_STAT_DEFERRED : Fld := ⟨0x010230, 3, 3, [64]⟩
abbrev MPT_V_BEST : Fld := ⟨0x010234, 31, 0, [64]⟩
abbrev MPT_P_BEST : Fld := ⟨0x010238, 31, 0, [64]⟩
abbrev MPT_V_MP : Fld := ⟨0x01023C, 31, 0, [64]⟩
abbrev TRC_CTRL_ARM : Fld := ⟨0x010400, 0, 0, []⟩
abbrev TRC_CTRL_STOP : Fld := ⟨0x010400, 1, 1, []⟩
abbrev TRC_CTRL_FORCE : Fld := ⟨0x010400, 2, 2, []⟩
abbrev TRC_CTRL_REARM : Fld := ⟨0x010400, 3, 3, []⟩
abbrev TRC_CTRL_MODE : Fld := ⟨0x010400, 4, 4, []⟩
abbrev TRC_STATUS_STATE : Fld := ⟨0x010404, 2, 0, []⟩
abbrev TRC_STATUS_SEQ : Fld := ⟨0x010404, 31, 16, []⟩
abbrev TRC_TRIG_TYPE : Fld := ⟨0x010408, 2, 0, []⟩
abbrev TRC_TRIG_POL : Fld := ⟨0x010408, 3, 3, []⟩
abbrev TRC_TRIG_FMT : Fld := ⟨0x010408, 5, 4, []⟩
abbrev TRC_TRIG_PRE : Fld := ⟨0x010408, 14, 8, []⟩
abbrev TRC_TRIG_NODE : Fld := ⟨0x010408, 29, 16, []⟩
abbrev TRC_LEVEL : Fld := ⟨0x01040C, 31, 0, []⟩
abbrev TRC_HIGH : Fld := ⟨0x010410, 31, 0, []⟩
abbrev TRC_CODE_CODE : Fld := ⟨0x010414, 15, 0, []⟩
abbrev TRC_CODE_MASK : Fld := ⟨0x010414, 31, 16, []⟩
abbrev TRC_TRIG_FCNT : Fld := ⟨0x010418, 31, 0, []⟩
abbrev TRC_MISSED : Fld := ⟨0x010420, 31, 0, []⟩
abbrev TRC_DROP : Fld := ⟨0x010424, 31, 0, []⟩
abbrev FBX_TC_EVT_EVT : Fld := ⟨0x010428, 8, 0, []⟩
abbrev TRC_PROBE_NODE : Fld := ⟨0x010440, 13, 0, [4]⟩
abbrev TRC_PROBE_FMT : Fld := ⟨0x010440, 15, 14, [4]⟩
abbrev TRC_PROBE_DEC : Fld := ⟨0x010440, 19, 16, [4]⟩
abbrev TRC_PROBE_PHASE : Fld := ⟨0x010440, 29, 20, [4]⟩
abbrev TRC_PROBE_EN : Fld := ⟨0x010440, 31, 31, [4]⟩
abbrev TRC_TIDX_IDX : Fld := ⟨0x0104C0, 13, 0, [4]⟩
abbrev CAP_CTRL_ARM : Fld := ⟨0x010600, 0, 0, []⟩
abbrev CAP_CTRL_STOP : Fld := ⟨0x010600, 1, 1, []⟩
abbrev CAP_CTRL_FORCE : Fld := ⟨0x010600, 2, 2, []⟩
abbrev CAP_CTRL_REARM : Fld := ⟨0x010600, 3, 3, []⟩
abbrev CAP_STATUS_STATE : Fld := ⟨0x010604, 2, 0, []⟩
abbrev CAP_STATUS_SEQ : Fld := ⟨0x010604, 31, 16, []⟩
abbrev CAP_CFG_PRE : Fld := ⟨0x010608, 6, 0, []⟩
abbrev CAP_EN : Fld := ⟨0x01060C, 31, 0, []⟩
abbrev CAP_TRIP : Fld := ⟨0x010610, 7, 0, []⟩
abbrev CAP_GSV : Fld := ⟨0x010614, 8, 0, []⟩
abbrev CAP_MET : Fld := ⟨0x010618, 1, 0, []⟩
abbrev CAP_CODE_CODE : Fld := ⟨0x01061C, 15, 0, [4]⟩
abbrev CAP_CODE_MASK : Fld := ⟨0x01061C, 31, 16, [4]⟩
abbrev CAP_SAR_SLOT : Fld := ⟨0x010630, 5, 0, [4]⟩
abbrev CAP_SAR_CONV : Fld := ⟨0x010630, 6, 6, [4]⟩
abbrev CAP_TIDX : Fld := ⟨0x010650, 12, 0, []⟩
abbrev CAP_RETRIG : Fld := ⟨0x010654, 31, 0, []⟩
abbrev CAP_MISSED : Fld := ⟨0x010658, 31, 0, []⟩
abbrev CAP_CAUSE : Fld := ⟨0x01065C, 31, 0, []⟩
/-! ANG -/
abbrev ANG_STATUS_SRC : Fld := ⟨0x020000, 1, 0, []⟩
abbrev ANG_STATUS_LOCK : Fld := ⟨0x020000, 3, 2, []⟩
abbrev ANG_STATUS_FCLAMP : Fld := ⟨0x020000, 4, 4, []⟩
abbrev ANG_STATUS_SNAP_PEND : Fld := ⟨0x020000, 5, 5, []⟩
abbrev ANG_STATUS_PTP_VALID : Fld := ⟨0x020000, 6, 6, []⟩
abbrev ANG_STATUS_HOLD_CYC : Fld := ⟨0x020000, 31, 16, []⟩
abbrev ANG_SRC_SEL : Fld := ⟨0x020004, 1, 0, []⟩
abbrev ANG_SRC_F_NOM : Fld := ⟨0x020004, 2, 2, []⟩
abbrev ANG_PLL_BW : Fld := ⟨0x020008, 5, 0, []⟩
abbrev ANG_PLL_ZETA : Fld := ⟨0x020008, 15, 8, []⟩
abbrev ANG_PLL_SOGI_K : Fld := ⟨0x020008, 23, 16, []⟩
abbrev ANG_LOCK_ERR_THR : Fld := ⟨0x02000C, 15, 0, []⟩
abbrev ANG_LOCK_N_FRAMES : Fld := ⟨0x02000C, 23, 16, []⟩
abbrev ANG_LOCK_GRP_MISS : Fld := ⟨0x02000C, 27, 24, []⟩
abbrev ANG_HOLD_HOLD_MAX : Fld := ⟨0x020010, 15, 0, []⟩
abbrev ANG_HOLD_SNAP_EN : Fld := ⟨0x020010, 16, 16, []⟩
abbrev ANG_REACQ_SLEW : Fld := ⟨0x020014, 23, 0, []⟩
abbrev ANG_FORM_RATE_RATE : Fld := ⟨0x020018, 31, 0, []⟩
abbrev ANG_FLIM_LO_FLO : Fld := ⟨0x02001C, 31, 0, []⟩
abbrev ANG_FLIM_HI_FHI : Fld := ⟨0x020020, 31, 0, []⟩
abbrev ANG_ROCOF_CFG_WIN : Fld := ⟨0x020024, 5, 0, []⟩
abbrev ANG_BIAS_MAX_BMAX : Fld := ⟨0x020028, 31, 0, []⟩
abbrev ANG_PHR_CFG_EN : Fld := ⟨0x02002C, 0, 0, []⟩
abbrev ANG_PHR_CFG_RATE : Fld := ⟨0x02002C, 3, 1, []⟩
abbrev ANG_PHR_CFG_RING : Fld := ⟨0x02002C, 7, 4, []⟩
abbrev ANG_INC : Fld := ⟨0x020030, 31, 0, []⟩
abbrev ANG_THETA : Fld := ⟨0x020034, 31, 0, []⟩
abbrev ANG_F : Fld := ⟨0x020038, 31, 0, []⟩
abbrev ANG_F_MEAS : Fld := ⟨0x02003C, 31, 0, []⟩
abbrev ANG_ROCOF : Fld := ⟨0x020040, 31, 0, []⟩
abbrev ANG_V1 : Fld := ⟨0x020044, 31, 0, []⟩
abbrev ANG_V2 : Fld := ⟨0x020048, 31, 0, []⟩
abbrev ANG_PHJ : Fld := ⟨0x02004C, 31, 0, []⟩
abbrev ANG_CYCLE : Fld := ⟨0x020050, 31, 0, []⟩
abbrev ANG_FCNT : Fld := ⟨0x020054, 31, 0, []⟩
abbrev ANG_PHI : Fld := ⟨0x020058, 31, 0, []⟩
abbrev ANG_STAMP_STAT_COUNT : Fld := ⟨0x02005C, 4, 0, []⟩
abbrev ANG_STAMP_STAT_OVF : Fld := ⟨0x02005C, 8, 8, []⟩
abbrev ANG_STAMP_SEC_SEC : Fld := ⟨0x020060, 31, 0, []⟩
abbrev ANG_STAMP_NS_NS : Fld := ⟨0x020064, 29, 0, []⟩
abbrev ANG_STAMP_NS_PTP_OK : Fld := ⟨0x020064, 30, 30, []⟩
abbrev ANG_STAMP_NS_SNAP : Fld := ⟨0x020064, 31, 31, []⟩
abbrev ANG_STAMP_CYC_CYC : Fld := ⟨0x020068, 31, 0, []⟩
abbrev ANG_EVT_EVT : Fld := ⟨0x02006C, 9, 0, []⟩
/-! GSV -/
abbrev GSV_STATUS_STATE : Fld := ⟨0x030000, 3, 0, []⟩
abbrev GSV_STATUS_REGION : Fld := ⟨0x030000, 6, 4, []⟩
abbrev GSV_STATUS_HOLD : Fld := ⟨0x030000, 7, 7, []⟩
abbrev GSV_STATUS_TABLES : Fld := ⟨0x030000, 11, 8, []⟩
abbrev GSV_STATUS_PERMIT_OK : Fld := ⟨0x030000, 12, 12, []⟩
abbrev GSV_STATUS_RTS_OK : Fld := ⟨0x030000, 13, 13, []⟩
abbrev GSV_STATUS_STOP_PEND : Fld := ⟨0x030000, 14, 14, []⟩
abbrev GSV_CFG_EN : Fld := ⟨0x030004, 0, 0, []⟩
abbrev GSV_CFG_VSEL : Fld := ⟨0x030004, 1, 1, []⟩
abbrev GSV_CFG_PERM_REG : Fld := ⟨0x030004, 2, 2, []⟩
abbrev GSV_CFG_MAYTRIP : Fld := ⟨0x030004, 3, 3, []⟩
abbrev GSV_CFG_AUTO_RS : Fld := ⟨0x030004, 4, 4, []⟩
abbrev GSV_CFG_CEASE_GRP : Fld := ⟨0x030004, 15, 8, []⟩
abbrev GSV_VNOM : Fld := ⟨0x030008, 31, 0, []⟩
abbrev GSV_CTL_MAP_PRE : Fld := ⟨0x03000C, 2, 0, []⟩
abbrev GSV_CTL_MAP_PRE_EN : Fld := ⟨0x03000C, 3, 3, []⟩
abbrev GSV_CTL_MAP_DC : Fld := ⟨0x03000C, 6, 4, []⟩
abbrev GSV_CTL_MAP_DC_EN : Fld := ⟨0x03000C, 7, 7, []⟩
abbrev GSV_CTL_MAP_AC : Fld := ⟨0x03000C, 10, 8, []⟩
abbrev GSV_CTL_MAP_AC_EN : Fld := ⟨0x03000C, 11, 11, []⟩
abbrev GSV_VDC_SRC_IDX : Fld := ⟨0x030010, 5, 0, []⟩
abbrev GSV_VDC_SRC_KIND : Fld := ⟨0x030010, 7, 6, []⟩
abbrev GSV_VDC_GAIN : Fld := ⟨0x030014, 31, 0, []⟩
abbrev GSV_PRE_V : Fld := ⟨0x030018, 31, 0, []⟩
abbrev GSV_SEQ_T_PRE_TIME : Fld := ⟨0x03001C, 15, 0, []⟩
abbrev GSV_SEQ_T_SYNC_TIME : Fld := ⟨0x03001C, 31, 16, []⟩
abbrev GSV_CLOSE_T_DC_T : Fld := ⟨0x030020, 7, 0, []⟩
abbrev GSV_CLOSE_T_AC_T : Fld := ⟨0x030020, 15, 8, []⟩
abbrev GSV_STOP_RAMP : Fld := ⟨0x030024, 31, 0, []⟩
abbrev GSV_RESTORE_RAMP : Fld := ⟨0x030028, 31, 0, []⟩
abbrev GSV_RTS_VLO : Fld := ⟨0x030030, 31, 0, []⟩
abbrev GSV_RTS_VHI : Fld := ⟨0x030034, 31, 0, []⟩
abbrev GSV_RTS_DFLO : Fld := ⟨0x030038, 31, 0, []⟩
abbrev GSV_RTS_DFHI : Fld := ⟨0x03003C, 31, 0, []⟩
abbrev GSV_RTS_T_DELAY : Fld := ⟨0x030040, 15, 0, []⟩
abbrev GSV_RTS_RAMP : Fld := ⟨0x030044, 31, 0, []⟩
abbrev GSV_DRC_K : Fld := ⟨0x030048, 31, 0, []⟩
abbrev GSV_DRC_DB : Fld := ⟨0x03004C, 31, 0, []⟩
abbrev GSV_DRC_IQMAX : Fld := ⟨0x030050, 31, 0, []⟩
abbrev GSV_DRC_K2 : Fld := ⟨0x030054, 31, 0, []⟩
abbrev GSV_DRC_I2MAX : Fld := ⟨0x030058, 31, 0, []⟩
abbrev GSV_RT_HYS : Fld := ⟨0x030060, 31, 0, [4]⟩
abbrev GSV_ISL_CFG_EN : Fld := ⟨0x030080, 4, 0, []⟩
abbrev GSV_ISL_CFG_RC_N : Fld := ⟨0x030080, 15, 8, []⟩
abbrev GSV_ISL_CFG_VS_N : Fld := ⟨0x030080, 23, 16, []⟩
abbrev GSV_ISL_CFG_THD_N : Fld := ⟨0x030080, 31, 24, []⟩
abbrev GSV_ISL_DF : Fld := ⟨0x030084, 31, 0, []⟩
abbrev GSV_ISL_TF_TF : Fld := ⟨0x030088, 15, 0, []⟩
abbrev GSV_ISL_ROCOF : Fld := ⟨0x03008C, 31, 0, []⟩
abbrev GSV_ISL_VS : Fld := ⟨0x030090, 31, 0, []⟩
abbrev GSV_ISL_THD : Fld := ⟨0x030094, 31, 0, []⟩
abbrev GSV_ISL_B0 : Fld := ⟨0x030098, 31, 0, []⟩
abbrev GSV_ISL_KB : Fld := ⟨0x03009C, 31, 0, []⟩
abbrev GSV_PERMIT_CTX : Fld := ⟨0x0300A0, 7, 0, []⟩
abbrev GSV_PERMIT_EN : Fld := ⟨0x0300A0, 8, 8, []⟩
abbrev GSV_PERMIT_ACT : Fld := ⟨0x0300A0, 10, 9, []⟩
abbrev GSV_PERMIT_RET : Fld := ⟨0x0300A0, 31, 16, []⟩
abbrev GSV_VDC : Fld := ⟨0x0300C0, 31, 0, []⟩
abbrev GSV_PLIM : Fld := ⟨0x0300C4, 31, 0, []⟩
abbrev GSV_RTS_TMR : Fld := ⟨0x0300C8, 31, 0, []⟩
abbrev GSV_ISL_STAT_HOLD : Fld := ⟨0x0300CC, 3, 0, []⟩
abbrev GSV_ISL_CNT : Fld := ⟨0x0300D0, 31, 0, []⟩
abbrev GSV_CEASE_CNT : Fld := ⟨0x0300D4, 31, 0, []⟩
abbrev GSV_EVT_EVT : Fld := ⟨0x0300D8, 14, 0, []⟩
abbrev GSV_RT_LEVEL : Fld := ⟨0x030400, 31, 0, [128, 8]⟩
abbrev GSV_RT_TIME : Fld := ⟨0x030404, 23, 0, [128, 8]⟩
abbrev GSV_RT_REGION : Fld := ⟨0x030404, 26, 24, [128, 8]⟩
abbrev GSV_RT_EN : Fld := ⟨0x030404, 31, 31, [128, 8]⟩
/-! SDM -/
abbrev SDM_CFG_S_SEL : Fld := ⟨0x040000, 1, 0, []⟩
abbrev SDM_CFG_OSR_SEL : Fld := ⟨0x040000, 3, 2, []⟩
abbrev SDM_STATUS_CLK_OK : Fld := ⟨0x040004, 5, 0, []⟩
abbrev SDM_STATUS_BANK : Fld := ⟨0x040004, 6, 6, []⟩
abbrev SDM_STATUS_MOD_LOCK : Fld := ⟨0x040004, 7, 7, []⟩
abbrev SDM_GRP_MODE : Fld := ⟨0x040010, 1, 0, [4]⟩
abbrev SDM_GRP_DLY : Fld := ⟨0x040010, 6, 2, [4]⟩
abbrev SDM_GRP_ALEN : Fld := ⟨0x040010, 8, 7, [4]⟩
abbrev SDM_GRP_MBR : Fld := ⟨0x040010, 26, 16, [4]⟩
abbrev SDM_CH_EN : Fld := ⟨0x040040, 0, 0, [4]⟩
abbrev SDM_CH_INV : Fld := ⟨0x040040, 1, 1, [4]⟩
abbrev SDM_CH_OSR3 : Fld := ⟨0x040040, 7, 2, [4]⟩
abbrev SDM_CH_F3_K : Fld := ⟨0x040040, 11, 8, [4]⟩
abbrev SDM_CH_F3H_EN : Fld := ⟨0x040040, 12, 12, [4]⟩
abbrev SDM_CH_F3L_EN : Fld := ⟨0x040040, 13, 13, [4]⟩
abbrev SDM_F3_THR_THR_HI : Fld := ⟨0x0400A0, 15, 0, [4]⟩
abbrev SDM_F3_THR_THR_LO : Fld := ⟨0x0400A0, 31, 16, [4]⟩
abbrev SDM_CGAIN : Fld := ⟨0x040100, 31, 0, [4]⟩
abbrev SDM_COFFS : Fld := ⟨0x040160, 31, 0, [4]⟩
abbrev SDM_MGAIN : Fld := ⟨0x0401C0, 31, 0, [4]⟩
abbrev SDM_MOFFS : Fld := ⟨0x040220, 31, 0, [4]⟩
abbrev SDM_DR_CFG_HI : Fld := ⟨0x040280, 4, 0, [4]⟩
abbrev SDM_DR_CFG_LO : Fld := ⟨0x040280, 9, 5, [4]⟩
abbrev SDM_DR_CFG_EN : Fld := ⟨0x040280, 10, 10, [4]⟩
abbrev SDM_DR_CFG_EST_EN : Fld := ⟨0x040280, 11, 11, [4]⟩
abbrev SDM_DR_CFG_EST_K : Fld := ⟨0x040280, 15, 12, [4]⟩
abbrev SDM_DR_CFG_GLIM : Fld := ⟨0x040280, 23, 16, [4]⟩
abbrev SDM_DR_G0 : Fld := ⟨0x040290, 31, 0, [4]⟩
abbrev SDM_DR_O0 : Fld := ⟨0x0402A0, 31, 0, [4]⟩
abbrev SDM_DR_G : Fld := ⟨0x0402B0, 31, 0, [4]⟩
abbrev SDM_DR_O : Fld := ⟨0x0402C0, 31, 0, [4]⟩
abbrev SDM_DR_STAT_LOW : Fld := ⟨0x0402D0, 3, 0, []⟩
abbrev SDM_DR_STAT_EST_HALT : Fld := ⟨0x0402D0, 7, 4, []⟩
abbrev SDM_VALID : Fld := ⟨0x040300, 23, 0, []⟩
abbrev SDM_FAULT : Fld := ⟨0x040304, 23, 0, []⟩
abbrev SDM_CLK_CNT : Fld := ⟨0x040308, 31, 0, []⟩
abbrev SDM_STUCK_CNT : Fld := ⟨0x04030C, 31, 0, []⟩
abbrev SDM_RAIL_CNT : Fld := ⟨0x040310, 31, 0, []⟩
abbrev SDM_MANCH_CNT : Fld := ⟨0x040314, 31, 0, []⟩
abbrev SDM_DR_SW_CNT : Fld := ⟨0x040318, 31, 0, []⟩
abbrev SDM_EVT_EVT : Fld := ⟨0x04031C, 5, 0, []⟩
/-! SAR -/
abbrev SAR_CFG_LEN_A : Fld := ⟨0x050000, 6, 0, []⟩
abbrev SAR_CFG_LEN_B : Fld := ⟨0x050000, 14, 8, []⟩
abbrev SAR_CFG_EN_A : Fld := ⟨0x050000, 16, 16, []⟩
abbrev SAR_CFG_EN_B : Fld := ⟨0x050000, 17, 17, []⟩
abbrev SAR_CFG_REF_SEL : Fld := ⟨0x050000, 24, 24, []⟩
abbrev SAR_STATUS_REF_OK : Fld := ⟨0x050004, 0, 0, []⟩
abbrev SAR_STATUS_STALE : Fld := ⟨0x050004, 1, 1, []⟩
abbrev SAR_STATUS_MISMATCH : Fld := ⟨0x050004, 2, 2, []⟩
abbrev SAR_STATUS_PASSES : Fld := ⟨0x050004, 31, 16, []⟩
abbrev SAR_PLAUS_N : Fld := ⟨0x050008, 9, 0, []⟩
abbrev SAR_PLAUS_K : Fld := ⟨0x050008, 13, 10, []⟩
abbrev SAR_PLAUS_THR : Fld := ⟨0x050008, 31, 16, []⟩
abbrev SAR_PLAUS_RES_CODE_A : Fld := ⟨0x05000C, 15, 0, []⟩
abbrev SAR_PLAUS_RES_CODE_B : Fld := ⟨0x05000C, 31, 16, []⟩
abbrev SAR_REG_CH : Fld := ⟨0x050010, 4, 0, [8]⟩
abbrev SAR_REG_ALIGN : Fld := ⟨0x050010, 5, 5, [8]⟩
abbrev SAR_REG_START : Fld := ⟨0x050010, 8, 8, [8]⟩
abbrev SAR_REG_PEND : Fld := ⟨0x050010, 9, 9, [8]⟩
abbrev SAR_REG_DONE : Fld := ⟨0x050010, 10, 10, [8]⟩
abbrev SAR_REG_DATA : Fld := ⟨0x050014, 31, 0, [8]⟩
abbrev SAR_LATE_CNT : Fld := ⟨0x050020, 31, 0, []⟩
abbrev SAR_MIS_CNT : Fld := ⟨0x050024, 31, 0, []⟩
abbrev SAR_SAT_CNT : Fld := ⟨0x050028, 31, 0, []⟩
abbrev SAR_REF_CNT : Fld := ⟨0x05002C, 31, 0, []⟩
abbrev SAR_EVT_EVT : Fld := ⟨0x050030, 3, 0, []⟩
abbrev SAR_TAB_A_CH : Fld := ⟨0x050100, 4, 0, [4]⟩
abbrev SAR_TAB_A_ALIGN : Fld := ⟨0x050100, 5, 5, [4]⟩
abbrev SAR_TAB_A_REPEAT : Fld := ⟨0x050100, 13, 6, [4]⟩
abbrev SAR_TAB_A_DELAY : Fld := ⟨0x050100, 23, 14, [4]⟩
abbrev SAR_TAB_A_DEST : Fld := ⟨0x050100, 29, 24, [4]⟩
abbrev SAR_TAB_B_CH : Fld := ⟨0x050200, 4, 0, [4]⟩
abbrev SAR_TAB_B_ALIGN : Fld := ⟨0x050200, 5, 5, [4]⟩
abbrev SAR_TAB_B_REPEAT : Fld := ⟨0x050200, 13, 6, [4]⟩
abbrev SAR_TAB_B_DELAY : Fld := ⟨0x050200, 23, 14, [4]⟩
abbrev SAR_TAB_B_DEST : Fld := ⟨0x050200, 29, 24, [4]⟩
/-! MET -/
abbrev MET_STATUS_RUN : Fld := ⟨0x060000, 0, 0, []⟩
abbrev MET_STATUS_EMBER_MISSED : Fld := ⟨0x060000, 1, 1, []⟩
abbrev MET_STATUS_NO_HISTORY : Fld := ⟨0x060000, 2, 2, []⟩
abbrev MET_STATUS_RESTORE_FAIL : Fld := ⟨0x060000, 3, 3, []⟩
abbrev MET_STATUS_SAVE_BUSY : Fld := ⟨0x060000, 4, 4, []⟩
abbrev MET_STATUS_RING_NEXT : Fld := ⟨0x060000, 20, 16, []⟩
abbrev MET_STATUS_EMBER_NEXT : Fld := ⟨0x060000, 21, 21, []⟩
abbrev MET_CFG_EN : Fld := ⟨0x060004, 0, 0, []⟩
abbrev MET_CFG_SAVE_INT : Fld := ⟨0x060004, 15, 8, []⟩
abbrev MET_CHAN_V_VA : Fld := ⟨0x060008, 4, 0, []⟩
abbrev MET_CHAN_V_VB : Fld := ⟨0x060008, 12, 8, []⟩
abbrev MET_CHAN_V_VC : Fld := ⟨0x060008, 20, 16, []⟩
abbrev MET_CHAN_I_IA : Fld := ⟨0x06000C, 4, 0, []⟩
abbrev MET_CHAN_I_IB : Fld := ⟨0x06000C, 12, 8, []⟩
abbrev MET_CHAN_I_IC : Fld := ⟨0x06000C, 20, 16, []⟩
abbrev MET_CHAN_I_IN : Fld := ⟨0x06000C, 28, 24, []⟩
abbrev MET_CHAN_I_IN_EN : Fld := ⟨0x06000C, 31, 31, []⟩
abbrev MET_RATIO_V : Fld := ⟨0x060010, 31, 0, []⟩
abbrev MET_RATIO_I : Fld := ⟨0x060014, 31, 0, []⟩
abbrev MET_INOM : Fld := ⟨0x060018, 31, 0, []⟩
abbrev MET_PROF_CFG_N : Fld := ⟨0x06001C, 15, 0, []⟩
abbrev MET_PROF_CFG_RING : Fld := ⟨0x06001C, 19, 16, []⟩
abbrev MET_PROF_SEL : Fld := ⟨0x060020, 31, 0, [4]⟩
abbrev MET_SEQ_LO : Fld := ⟨0x060030, 31, 0, []⟩
abbrev MET_SEQ_HI : Fld := ⟨0x060034, 31, 0, []⟩
abbrev MET_MISSED_CNT : Fld := ⟨0x060038, 31, 0, []⟩
abbrev MET_MISSED_MS_LO : Fld := ⟨0x06003C, 31, 0, []⟩
abbrev MET_MISSED_MS_HI : Fld := ⟨0x060040, 31, 0, []⟩
abbrev MET_LAST_BOUND : Fld := ⟨0x060044, 31, 0, []⟩
abbrev MET_INVALID_CNT : Fld := ⟨0x060048, 31, 0, []⟩
abbrev MET_PROF_DROP_CNT : Fld := ⟨0x06004C, 31, 0, []⟩
abbrev MET_EVT_EVT : Fld := ⟨0x060050, 8, 0, []⟩
abbrev MET_CORR_I_BP : Fld := ⟨0x060100, 31, 0, [96, 12]⟩
abbrev MET_CORR_GAIN : Fld := ⟨0x060104, 31, 0, [96, 12]⟩
abbrev MET_CORR_PHASE : Fld := ⟨0x060108, 15, 0, [96, 12]⟩
abbrev MET_SNAP_CYC_LO : Fld := ⟨0x060FF0, 31, 0, []⟩
abbrev MET_SNAP_CYC_HI : Fld := ⟨0x060FF4, 31, 0, []⟩
abbrev MET_SNAP_FLAGS : Fld := ⟨0x060FF8, 31, 0, []⟩
abbrev MET_SNAP_DUR : Fld := ⟨0x060FFC, 31, 0, []⟩
abbrev MET_ENERGY : Fld := ⟨0x061000, 31, 0, [4]⟩
abbrev PQ_CFG_EN : Fld := ⟨0x062000, 0, 0, []⟩
abbrev PQ_CFG_RING : Fld := ⟨0x062000, 7, 4, []⟩
abbrev PQ_UDIN : Fld := ⟨0x062004, 31, 0, []⟩
abbrev PQ_SAG : Fld := ⟨0x062008, 31, 0, []⟩
abbrev PQ_SWELL : Fld := ⟨0x06200C, 31, 0, []⟩
abbrev PQ_INTR : Fld := ⟨0x062010, 31, 0, []⟩
abbrev PQ_HYST : Fld := ⟨0x062014, 31, 0, []⟩
abbrev PQ_STATUS_SAG_PH : Fld := ⟨0x062018, 2, 0, []⟩
abbrev PQ_STATUS_SWL_PH : Fld := ⟨0x062018, 6, 4, []⟩
abbrev PQ_STATUS_INT_PH : Fld := ⟨0x062018, 10, 8, []⟩
abbrev PQ_STATUS_SAG_OPEN : Fld := ⟨0x062018, 16, 16, []⟩
abbrev PQ_STATUS_SWL_OPEN : Fld := ⟨0x062018, 17, 17, []⟩
abbrev PQ_STATUS_INT_OPEN : Fld := ⟨0x062018, 18, 18, []⟩
abbrev PQ_URMS : Fld := ⟨0x06201C, 31, 0, [4]⟩
abbrev PQ_SAG_CNT : Fld := ⟨0x062028, 31, 0, []⟩
abbrev PQ_SWL_CNT : Fld := ⟨0x06202C, 31, 0, []⟩
abbrev PQ_INT_CNT : Fld := ⟨0x062030, 31, 0, []⟩
abbrev PQ_DROP_CNT : Fld := ⟨0x062034, 31, 0, []⟩
abbrev PQ_EVT_EVT : Fld := ⟨0x062038, 2, 0, []⟩
/-! PWM -/
abbrev PWM_CFG_S_SEL : Fld := ⟨0x070000, 1, 0, []⟩
abbrev PWM_CFG_C_SEL : Fld := ⟨0x070000, 6, 4, []⟩
abbrev PWM_CFG_HALF : Fld := ⟨0x070000, 7, 7, []⟩
abbrev PWM_STATUS_DL_SEL : Fld := ⟨0x070004, 3, 0, []⟩
abbrev PWM_STATUS_DL_STALE : Fld := ⟨0x070004, 7, 4, []⟩
abbrev PWM_STATUS_DL_FAIL : Fld := ⟨0x070004, 11, 8, []⟩
abbrev PWM_STATUS_SYNC_IN_OK : Fld := ⟨0x070004, 12, 12, []⟩
abbrev PWM_STATUS_SYNC_SUBST : Fld := ⟨0x070004, 13, 13, []⟩
abbrev PWM_STATUS_SYNC_ROLE : Fld := ⟨0x070004, 15, 14, []⟩
abbrev PWM_LEG_CFG_MODE : Fld := ⟨0x070040, 1, 0, [4]⟩
abbrev PWM_LEG_CFG_TOPO : Fld := ⟨0x070040, 3, 2, [4]⟩
abbrev PWM_LEG_CFG_POL_A : Fld := ⟨0x070040, 4, 4, [4]⟩
abbrev PWM_LEG_CFG_POL_B : Fld := ⟨0x070040, 5, 5, [4]⟩
abbrev PWM_LEG_CFG_MPP : Fld := ⟨0x070040, 7, 6, [4]⟩
abbrev PWM_LEG_CFG_ADAPT : Fld := ⟨0x070040, 8, 8, [4]⟩
abbrev PWM_LEG_CFG_VSW_INV : Fld := ⟨0x070040, 9, 9, [4]⟩
abbrev PWM_LEG_CFG_TMIN : Fld := ⟨0x070040, 23, 16, [4]⟩
abbrev PWM_DTMIN_DT_MIN : Fld := ⟨0x070080, 17, 0, [4]⟩
abbrev PWM_DTMAX_DT_MAX : Fld := ⟨0x0700B0, 17, 0, [4]⟩
abbrev PWM_DTADP_MARGIN : Fld := ⟨0x0700E0, 15, 0, [4]⟩
abbrev PWM_DTADP_STEP : Fld := ⟨0x0700E0, 23, 16, [4]⟩
abbrev PWM_TRIM_TRIM_A : Fld := ⟨0x070110, 8, 0, [4]⟩
abbrev PWM_TRIM_TRIM_B : Fld := ⟨0x070110, 24, 16, [4]⟩
abbrev PWM_LEG_DUTY_A : Fld := ⟨0x070200, 31, 0, [16]⟩
abbrev PWM_LEG_DUTY_B : Fld := ⟨0x070204, 31, 0, [16]⟩
abbrev PWM_LEG_CENTRE_A : Fld := ⟨0x070208, 31, 0, [16]⟩
abbrev PWM_LEG_CENTRE_B : Fld := ⟨0x07020C, 31, 0, [16]⟩
abbrev PWM_DT_NOW_DT_AB : Fld := ⟨0x070300, 17, 0, [8]⟩
abbrev PWM_DT_NOW_DT_BA : Fld := ⟨0x070304, 17, 0, [8]⟩
abbrev PWM_TDC_T_AB : Fld := ⟨0x070380, 17, 0, [8]⟩
abbrev PWM_TDC_VALID_AB : Fld := ⟨0x070380, 31, 31, [8]⟩
abbrev PWM_TDC_T_BA : Fld := ⟨0x070384, 17, 0, [8]⟩
abbrev PWM_TDC_VALID_BA : Fld := ⟨0x070384, 31, 31, [8]⟩
abbrev PWM_SYNC_CFG_ROLE : Fld := ⟨0x070400, 1, 0, []⟩
abbrev PWM_SYNC_CFG_THR : Fld := ⟨0x070400, 15, 8, []⟩
abbrev PWM_SYNC_CFG_NERR : Fld := ⟨0x070400, 19, 16, []⟩
abbrev PWM_SYNC_CTRL_MEAS : Fld := ⟨0x070404, 0, 0, []⟩
abbrev PWM_SYNC_DLY_D : Fld := ⟨0x070408, 23, 0, []⟩
abbrev PWM_SYNC_DLY_VALID : Fld := ⟨0x070408, 31, 31, []⟩
abbrev PWM_SYNC_ERR : Fld := ⟨0x07040C, 31, 0, []⟩
abbrev PWM_LATE_CNT : Fld := ⟨0x070410, 31, 0, []⟩
abbrev PWM_MINP_CNT : Fld := ⟨0x070414, 31, 0, []⟩
abbrev PWM_VSW_CNT : Fld := ⟨0x070418, 31, 0, []⟩
abbrev PWM_SYNC_ERR_CNT : Fld := ⟨0x07041C, 31, 0, []⟩
abbrev PWM_DL_SWAP_CNT : Fld := ⟨0x070420, 31, 0, []⟩
abbrev PWM_EVT_EVT : Fld := ⟨0x070424, 8, 0, []⟩
/-! DMP -/
abbrev DMP_STATUS_LATCH_A : Fld := ⟨0x080000, 7, 0, []⟩
abbrev DMP_STATUS_HOLD_B : Fld := ⟨0x080000, 15, 8, []⟩
abbrev DMP_STATUS_CYCLE : Fld := ⟨0x080000, 23, 16, []⟩
abbrev DMP_STATUS_LOCKOUT : Fld := ⟨0x080000, 24, 24, []⟩
abbrev DMP_LEG_OFF_LEGS : Fld := ⟨0x080004, 11, 0, []⟩
abbrev DMP_LEG_OFF_DRT : Fld := ⟨0x080004, 13, 12, []⟩
abbrev DMP_LOCKOUT_CFG_LOCK_N : Fld := ⟨0x080008, 3, 0, []⟩
abbrev DMP_LOCKOUT_CFG_LOCK_WIN : Fld := ⟨0x080008, 31, 16, []⟩
abbrev DMP_LOCKOUT_CNT_CNT : Fld := ⟨0x08000C, 3, 0, []⟩
abbrev DMP_STROBE_SRC : Fld := ⟨0x080010, 0, 0, []⟩
abbrev DMP_STROBE_PER : Fld := ⟨0x080010, 4, 1, []⟩
abbrev DMP_CMP_EN : Fld := ⟨0x080040, 0, 0, [4]⟩
abbrev DMP_CMP_MODE : Fld := ⟨0x080040, 1, 1, [4]⟩
abbrev DMP_CMP_INV : Fld := ⟨0x080040, 2, 2, [4]⟩
abbrev DMP_CMP_HYST : Fld := ⟨0x080040, 4, 3, [4]⟩
abbrev DMP_CMP_IN_SEL : Fld := ⟨0x080040, 8, 5, [4]⟩
abbrev DMP_CMP_THR : Fld := ⟨0x080040, 18, 9, [4]⟩
abbrev DMP_CMP_BLANK : Fld := ⟨0x080040, 26, 19, [4]⟩
abbrev DMP_CMP_BLANK_LEG : Fld := ⟨0x080040, 30, 27, [4]⟩
abbrev DMP_GRP_LEG_MASK : Fld := ⟨0x080100, 11, 0, [8]⟩
abbrev DMP_GRP_DRT_MASK : Fld := ⟨0x080100, 13, 12, [8]⟩
abbrev DMP_GRP_CTL_MASK : Fld := ⟨0x080100, 23, 16, [8]⟩
abbrev DMP_GRP_RB_WAIT : Fld := ⟨0x080104, 7, 0, [8]⟩
abbrev DMP_GRP_RB_N : Fld := ⟨0x080104, 11, 8, [8]⟩
abbrev DMP_GRP_RB_WIN : Fld := ⟨0x080104, 31, 16, [8]⟩
abbrev DMP_LEG_SEQ_T_SEQ : Fld := ⟨0x080140, 9, 0, [4]⟩
abbrev DMP_CTL_EN : Fld := ⟨0x080180, 0, 0, [4]⟩
abbrev DMP_CTL_FB_EN : Fld := ⟨0x080180, 1, 1, [4]⟩
abbrev DMP_CTL_FB_INV : Fld := ⟨0x080180, 2, 2, [4]⟩
abbrev DMP_CTL_FB_TIME : Fld := ⟨0x080180, 15, 8, [4]⟩
abbrev DMP_CTL_OPEN_DLY : Fld := ⟨0x080180, 23, 16, [4]⟩
abbrev DMP_CTL_STATE_OUT : Fld := ⟨0x0801A0, 7, 0, []⟩
abbrev DMP_CTL_STATE_FB : Fld := ⟨0x0801A0, 15, 8, []⟩
abbrev DMP_CTL_STATE_MISMATCH : Fld := ⟨0x0801A0, 23, 16, []⟩
abbrev DMP_SRC_LATCH : Fld := ⟨0x0801B0, 31, 0, [4]⟩
abbrev DMP_SRC_EN : Fld := ⟨0x080200, 0, 0, [4]⟩
abbrev DMP_SRC_CLASS : Fld := ⟨0x080200, 2, 1, [4]⟩
abbrev DMP_SRC_GRP : Fld := ⟨0x080200, 15, 8, [4]⟩
abbrev DMP_BLK_GRP : Fld := ⟨0x080404, 7, 0, [4]⟩
abbrev DMP_EVT_OVR_CODE : Fld := ⟨0x080480, 15, 0, [4]⟩
abbrev DMP_EVT_OVR_CLASS : Fld := ⟨0x080480, 17, 16, [4]⟩
abbrev DMP_EVT_OVR_EN : Fld := ⟨0x080480, 18, 18, [4]⟩
abbrev DMP_EVT_OVR_GRP : Fld := ⟨0x080480, 31, 24, [4]⟩
abbrev DMP_TRIP_CNT : Fld := ⟨0x080600, 31, 0, [4]⟩
abbrev DMP_CYCLE_CNT : Fld := ⟨0x080620, 31, 0, []⟩
abbrev DMP_CTL_FB_CNT : Fld := ⟨0x080624, 31, 0, []⟩
abbrev DMP_EVT_EVT : Fld := ⟨0x080628, 9, 0, []⟩
/-! GDR -/
abbrev GDR_CFG_HS_SRC : Fld := ⟨0x090000, 1, 0, [32]⟩
abbrev GDR_CFG_SOFT_I : Fld := ⟨0x090000, 3, 2, [32]⟩
abbrev GDR_CFG_SOFT_T : Fld := ⟨0x090000, 6, 4, [32]⟩
abbrev GDR_CFG_OC_EN : Fld := ⟨0x090000, 7, 7, [32]⟩
abbrev GDR_SC_SC_SLEW : Fld := ⟨0x090004, 4, 0, [32]⟩
abbrev GDR_SC_OC_THR : Fld := ⟨0x090004, 15, 8, [32]⟩
abbrev GDR_SC_OC_BLANK : Fld := ⟨0x090004, 23, 16, [32]⟩
abbrev GDR_RETRY_WAIT : Fld := ⟨0x090008, 7, 0, [32]⟩
abbrev GDR_RETRY_N : Fld := ⟨0x090008, 11, 8, [32]⟩
abbrev GDR_RETRY_CLR_T : Fld := ⟨0x090008, 23, 16, [32]⟩
abbrev GDR_STATUS_STATE : Fld := ⟨0x09000C, 1, 0, [32]⟩
abbrev GDR_STATUS_SRC : Fld := ⟨0x09000C, 3, 2, [32]⟩
abbrev GDR_STATUS_WARN : Fld := ⟨0x09000C, 6, 4, [32]⟩
abbrev GDR_STATUS_UV : Fld := ⟨0x09000C, 9, 7, [32]⟩
abbrev GDR_STATUS_TRIES : Fld := ⟨0x09000C, 13, 10, [32]⟩
abbrev GDR_FAULT_SC : Fld := ⟨0x090010, 2, 0, [32]⟩
abbrev GDR_FAULT_OC : Fld := ⟨0x090010, 5, 3, [32]⟩
abbrev GDR_FAULT_UV : Fld := ⟨0x090010, 8, 6, [32]⟩
abbrev GDR_FAULT_LINK : Fld := ⟨0x090010, 9, 9, [32]⟩
abbrev GDR_CTRL_CLEAR : Fld := ⟨0x090014, 0, 0, [32]⟩
abbrev GDR_SC_CNT : Fld := ⟨0x090040, 31, 0, []⟩
abbrev GDR_OC_CNT : Fld := ⟨0x090044, 31, 0, []⟩
abbrev GDR_UV_CNT : Fld := ⟨0x090048, 31, 0, []⟩
abbrev GDR_REFRESH_CNT : Fld := ⟨0x09004C, 31, 0, []⟩
abbrev GDR_LINK_CNT : Fld := ⟨0x090050, 31, 0, []⟩
abbrev GDR_EVT_EVT : Fld := ⟨0x090060, 8, 0, []⟩
/-! DRT -/
abbrev DRT_CFG_EN : Fld := ⟨0x0A0000, 0, 0, [128]⟩
abbrev DRT_CFG_SRC : Fld := ⟨0x0A0000, 1, 1, [128]⟩
abbrev DRT_CFG_DIR : Fld := ⟨0x0A0000, 2, 2, [128]⟩
abbrev DRT_CFG_SYNC_REC : Fld := ⟨0x0A0000, 3, 3, [128]⟩
abbrev DRT_CFG_GAIN : Fld := ⟨0x0A0000, 5, 4, [128]⟩
abbrev DRT_CFG_ZC_FILT : Fld := ⟨0x0A0000, 7, 6, [128]⟩
abbrev DRT_PWM_PER : Fld := ⟨0x0A0004, 12, 0, [128]⟩
abbrev DRT_PWM_DT : Fld := ⟨0x0A0004, 23, 16, [128]⟩
abbrev DRT_PWM_TSETTLE : Fld := ⟨0x0A0004, 31, 24, [128]⟩
abbrev DRT_SPD_MAX : Fld := ⟨0x0A0008, 31, 0, [128]⟩
abbrev DRT_SPD_MIN : Fld := ⟨0x0A000C, 31, 0, [128]⟩
abbrev DRT_ACC : Fld := ⟨0x0A0010, 31, 0, [128]⟩
abbrev DRT_DEC : Fld := ⟨0x0A0014, 31, 0, [128]⟩
abbrev DRT_KP : Fld := ⟨0x0A0018, 31, 0, [128]⟩
abbrev DRT_KI : Fld := ⟨0x0A001C, 31, 0, [128]⟩
abbrev DRT_KE : Fld := ⟨0x0A0020, 31, 0, [128]⟩
abbrev DRT_ADV_CFG_ADV_MAX : Fld := ⟨0x0A0024, 5, 0, [128]⟩
abbrev DRT_ADV_CFG_ADV_F0 : Fld := ⟨0x0A0024, 31, 16, [128]⟩
abbrev DRT_ADV_K : Fld := ⟨0x0A0028, 31, 0, [128]⟩
abbrev DRT_START_CFG_ALIGN_T : Fld := ⟨0x0A002C, 7, 0, [128]⟩
abbrev DRT_START_CFG_ALIGN_D : Fld := ⟨0x0A002C, 15, 8, [128]⟩
abbrev DRT_START_CFG_RAMP_T : Fld := ⟨0x0A002C, 23, 16, [128]⟩
abbrev DRT_START_CFG_RETRY_N : Fld := ⟨0x0A002C, 27, 24, [128]⟩
abbrev DRT_START_CFG_BRK_MAX : Fld := ⟨0x0A002C, 31, 28, [128]⟩
abbrev DRT_RAMP_F0 : Fld := ⟨0x0A0030, 31, 0, [128]⟩
abbrev DRT_RAMP_RATE : Fld := ⟨0x0A0034, 31, 0, [128]⟩
abbrev DRT_RAMP_D0 : Fld := ⟨0x0A0038, 31, 0, [128]⟩
abbrev DRT_RAMP_KV : Fld := ⟨0x0A003C, 31, 0, [128]⟩
abbrev DRT_HANDOVER_F : Fld := ⟨0x0A0040, 31, 0, [128]⟩
abbrev DRT_CATCH_F : Fld := ⟨0x0A0044, 31, 0, [128]⟩
abbrev DRT_STILL_F : Fld := ⟨0x0A0048, 31, 0, [128]⟩
abbrev DRT_SPD_DEF : Fld := ⟨0x0A004C, 31, 0, [128]⟩
abbrev DRT_LIM_RUN_ILIM : Fld := ⟨0x0A0050, 7, 0, [128]⟩
abbrev DRT_LIM_BRK_ILIM : Fld := ⟨0x0A0050, 15, 8, [128]⟩
abbrev DRT_LIM_BRK_T : Fld := ⟨0x0A0050, 23, 16, [128]⟩
abbrev DRT_LIM_ZC_BLANK : Fld := ⟨0x0A0050, 31, 24, [128]⟩
abbrev DRT_CLR_RETRY_CLR : Fld := ⟨0x0A0054, 7, 0, [128]⟩
abbrev DRT_STAT_STATE : Fld := ⟨0x0A0060, 3, 0, [128]⟩
abbrev DRT_STAT_DMIN : Fld := ⟨0x0A0060, 4, 4, [128]⟩
abbrev DRT_STAT_ILIM : Fld := ⟨0x0A0060, 5, 5, [128]⟩
abbrev DRT_STAT_TRIES : Fld := ⟨0x0A0060, 9, 6, [128]⟩
abbrev DRT_STAT_SECTOR : Fld := ⟨0x0A0060, 12, 10, [128]⟩
abbrev DRT_STAT_HOLD : Fld := ⟨0x0A0060, 15, 13, [128]⟩
abbrev DRT_SPEED : Fld := ⟨0x0A0064, 31, 0, [128]⟩
abbrev DRT_REF : Fld := ⟨0x0A0068, 31, 0, [128]⟩
abbrev DRT_DUTY : Fld := ⟨0x0A006C, 31, 0, [128]⟩
abbrev DRT_CURR : Fld := ⟨0x0A0070, 31, 0, [128]⟩
abbrev DRT_VMOT : Fld := ⟨0x0A0074, 31, 0, [128]⟩
abbrev DRT_CTRL_START : Fld := ⟨0x0A0078, 0, 0, [128]⟩
abbrev DRT_CTRL_STOP : Fld := ⟨0x0A0078, 1, 1, [128]⟩
abbrev DRT_CTRL_CLEAR : Fld := ⟨0x0A0078, 2, 2, [128]⟩
abbrev DRT_SETP : Fld := ⟨0x0A007C, 31, 0, [128]⟩
abbrev DRT_MISS_CNT : Fld := ⟨0x0A0100, 31, 0, []⟩
abbrev DRT_CATCH_CNT : Fld := ⟨0x0A0104, 31, 0, []⟩
abbrev DRT_TRY_CNT : Fld := ⟨0x0A0108, 31, 0, []⟩
abbrev DRT_DMIN_CNT : Fld := ⟨0x0A010C, 31, 0, []⟩
abbrev DRT_EVT_EVT : Fld := ⟨0x0A0110, 10, 0, []⟩
/-! CPR -/
abbrev CPR_STATUS_REF_OK : Fld := ⟨0x0B0000, 0, 0, []⟩
abbrev CPR_STATUS_REF_LOSS : Fld := ⟨0x0B0000, 1, 1, []⟩
abbrev CPR_STATUS_CORE_LOCK : Fld := ⟨0x0B0000, 2, 2, []⟩
abbrev CPR_STATUS_PWM_LOCK : Fld := ⟨0x0B0000, 3, 3, []⟩
abbrev CPR_STATUS_PFAIL : Fld := ⟨0x0B0000, 4, 4, []⟩
abbrev CPR_STATUS_HWDT : Fld := ⟨0x0B0000, 5, 5, []⟩
abbrev CPR_STATUS_REF_MODE : Fld := ⟨0x0B0000, 6, 6, []⟩
abbrev CPR_STATUS_STEP : Fld := ⟨0x0B0000, 11, 8, []⟩
abbrev CPR_RST_CAUSE_CAUSE : Fld := ⟨0x0B0004, 6, 0, []⟩
abbrev CPR_WARM_CNT : Fld := ⟨0x0B0008, 31, 0, []⟩
abbrev CPR_SSC_SSC : Fld := ⟨0x0B000C, 2, 0, []⟩
abbrev CPR_PFI_PFI_FILT : Fld := ⟨0x0B0010, 2, 0, []⟩
abbrev CPR_CLK_FAIL_DOM : Fld := ⟨0x0B0014, 11, 0, []⟩
abbrev CPR_RAIL_GOOD : Fld := ⟨0x0B0018, 7, 0, []⟩
abbrev CPR_RAIL_UV : Fld := ⟨0x0B0018, 15, 8, []⟩
abbrev CPR_RAIL_OV : Fld := ⟨0x0B0018, 23, 16, []⟩
abbrev CPR_HWDT_EN : Fld := ⟨0x0B001C, 0, 0, []⟩
abbrev CPR_HWDT_TIMEOUT : Fld := ⟨0x0B001C, 31, 16, []⟩
abbrev CPR_HWDT_KICK : Fld := ⟨0x0B0020, 31, 0, []⟩
abbrev CPR_RESET_WARM : Fld := ⟨0x0B0024, 0, 0, []⟩
abbrev CPR_KINDLE_T : Fld := ⟨0x0B0028, 31, 0, []⟩
abbrev CPR_D2D_RETRY_CNT : Fld := ⟨0x0B002C, 31, 0, []⟩
abbrev CPR_PFAIL_CNT : Fld := ⟨0x0B0030, 31, 0, []⟩
abbrev CPR_EVT_EVT : Fld := ⟨0x0B0034, 10, 0, []⟩
/-! NET -/
abbrev NET_STATUS_LINK : Fld := ⟨0x0C0000, 1, 0, []⟩
abbrev NET_STATUS_SPD : Fld := ⟨0x0C0000, 3, 2, []⟩
abbrev NET_STATUS_MODE : Fld := ⟨0x0C0000, 5, 4, []⟩
abbrev NET_STATUS_PTP_VALID : Fld := ⟨0x0C0000, 6, 6, []⟩
abbrev NET_STATUS_PPS_LOCK : Fld := ⟨0x0C0000, 7, 7, []⟩
abbrev NET_STATUS_PATH_OK : Fld := ⟨0x0C0000, 9, 8, []⟩
abbrev NET_STATUS_PTP_PORT : Fld := ⟨0x0C0000, 11, 10, []⟩
abbrev NET_STATUS_PTP_STATE : Fld := ⟨0x0C0000, 14, 12, []⟩
abbrev NET_CFG_MODE : Fld := ⟨0x0C0004, 1, 0, []⟩
abbrev NET_CFG_L2CMD_EN : Fld := ⟨0x0C0004, 2, 2, []⟩
abbrev NET_CFG_ALT_EN : Fld := ⟨0x0C0004, 3, 3, []⟩
abbrev NET_CFG_ALT_ETYPE : Fld := ⟨0x0C0004, 31, 16, []⟩
abbrev NET_PORT_EN : Fld := ⟨0x0C0008, 0, 0, [4]⟩
abbrev NET_PORT_IF : Fld := ⟨0x0C0008, 1, 1, [4]⟩
abbrev NET_PORT_SPEED : Fld := ⟨0x0C0008, 2, 2, [4]⟩
abbrev NET_PORT_AN_EN : Fld := ⟨0x0C0008, 3, 3, [4]⟩
abbrev NET_MAC_LO : Fld := ⟨0x0C0010, 31, 0, []⟩
abbrev NET_MAC_HI : Fld := ⟨0x0C0014, 15, 0, []⟩
abbrev NET_CMD_VID_VID : Fld := ⟨0x0C0018, 11, 0, []⟩
abbrev NET_RED_LIFE_CHECK : Fld := ⟨0x0C001C, 7, 0, []⟩
abbrev NET_RED_NODE_FORGET : Fld := ⟨0x0C001C, 15, 8, []⟩
abbrev NET_RED_ENTRY_FORGET : Fld := ⟨0x0C001C, 31, 16, []⟩
abbrev NET_SUB_RING_RING : Fld := ⟨0x0C0020, 3, 0, []⟩
abbrev NET_PTP_CFG_PROFILE : Fld := ⟨0x0C0040, 1, 0, []⟩
abbrev NET_PTP_CFG_ROLE : Fld := ⟨0x0C0040, 3, 2, []⟩
abbrev NET_PTP_CFG_PPS_IN_EN : Fld := ⟨0x0C0040, 4, 4, []⟩
abbrev NET_PTP_CFG_PPS_OUT_EN : Fld := ⟨0x0C0040, 5, 5, []⟩
abbrev NET_PTP_CFG_DOMAIN : Fld := ⟨0x0C0040, 15, 8, []⟩
abbrev NET_PTP_CFG_PRIO1 : Fld := ⟨0x0C0040, 23, 16, []⟩
abbrev NET_PTP_CFG_PRIO2 : Fld := ⟨0x0C0040, 31, 24, []⟩
abbrev NET_PTP_CLK_CLASS : Fld := ⟨0x0C0044, 7, 0, []⟩
abbrev NET_PTP_CLK_ACCURACY : Fld := ⟨0x0C0044, 15, 8, []⟩
abbrev NET_PTP_CLK_GM_ID : Fld := ⟨0x0C0044, 31, 16, []⟩
abbrev NET_PTP_OFFSET : Fld := ⟨0x0C0048, 31, 0, []⟩
abbrev NET_PTP_PDELAY : Fld := ⟨0x0C004C, 31, 0, [4]⟩
abbrev NET_TIME_NS_NS : Fld := ⟨0x0C0054, 29, 0, []⟩
abbrev NET_TIME_SEC_LO : Fld := ⟨0x0C0058, 31, 0, []⟩
abbrev NET_TIME_SEC_HI : Fld := ⟨0x0C005C, 15, 0, []⟩
abbrev NET_PTP_SET : Fld := ⟨0x0C0060, 31, 0, []⟩
abbrev NET_PPS_WIDTH : Fld := ⟨0x0C0064, 7, 0, []⟩
abbrev NET_FCS_CNT : Fld := ⟨0x0C0080, 31, 0, [4]⟩
abbrev NET_LEN_CNT : Fld := ⟨0x0C0088, 31, 0, []⟩
abbrev NET_HSR_TAG_CNT : Fld := ⟨0x0C008C, 31, 0, []⟩
abbrev NET_LANID_CNT : Fld := ⟨0x0C0090, 31, 0, []⟩
abbrev NET_DUP_CNT : Fld := ⟨0x0C0094, 31, 0, []⟩
abbrev NET_AUTH_CNT : Fld := ⟨0x0C0098, 31, 0, []⟩
abbrev NET_REPLAY_CNT : Fld := ⟨0x0C009C, 31, 0, []⟩
abbrev NET_GAP_CNT : Fld := ⟨0x0C00A0, 31, 0, []⟩
abbrev NET_TAL_CNT : Fld := ⟨0x0C00A4, 31, 0, []⟩
abbrev NET_CFG_MIS_CNT : Fld := ⟨0x0C00A8, 31, 0, []⟩
abbrev NET_SIM_CNT : Fld := ⟨0x0C00AC, 31, 0, []⟩
abbrev NET_PAUSE_CNT : Fld := ⟨0x0C00B0, 31, 0, []⟩
abbrev NET_CMD_REJ_CNT : Fld := ⟨0x0C00B4, 31, 0, []⟩
abbrev NET_PTP_TO_CNT : Fld := ⟨0x0C00B8, 31, 0, []⟩
abbrev NET_STOMP_CNT : Fld := ⟨0x0C00BC, 31, 0, []⟩
abbrev NET_EVT_EVT : Fld := ⟨0x0C00C0, 14, 0, []⟩
abbrev NET_CTX_EN : Fld := ⟨0x0C1000, 0, 0, [32]⟩
abbrev NET_CTX_KIND : Fld := ⟨0x0C1000, 3, 1, [32]⟩
abbrev NET_CTX_PORT : Fld := ⟨0x0C1000, 5, 4, [32]⟩
abbrev NET_CTX_ALG : Fld := ⟨0x0C1000, 7, 6, [32]⟩
abbrev NET_CTX_SIM : Fld := ⟨0x0C1000, 8, 8, [32]⟩
abbrev NET_CTX_REPORT : Fld := ⟨0x0C1000, 9, 9, [32]⟩
abbrev NET_CTX_ACT : Fld := ⟨0x0C1000, 10, 10, [32]⟩
abbrev NET_CTX_NMEM : Fld := ⟨0x0C1000, 15, 11, [32]⟩
abbrev NET_CTX_MEM : Fld := ⟨0x0C1000, 27, 16, [32]⟩
abbrev NET_CTX_MAC_LO : Fld := ⟨0x0C1004, 31, 0, [32]⟩
abbrev NET_CTX_MAC_HI : Fld := ⟨0x0C1008, 15, 0, [32]⟩
abbrev NET_CTX_APPID : Fld := ⟨0x0C1008, 31, 16, [32]⟩
abbrev NET_CTX_VID : Fld := ⟨0x0C100C, 11, 0, [32]⟩
abbrev NET_CTX_PCP : Fld := ⟨0x0C100C, 14, 12, [32]⟩
abbrev NET_CTX_TAG : Fld := ⟨0x0C100C, 15, 15, [32]⟩
abbrev NET_CTX_RATE : Fld := ⟨0x0C100C, 16, 16, [32]⟩
abbrev NET_CTX_T1 : Fld := ⟨0x0C1010, 7, 0, [32]⟩
abbrev NET_CTX_T0 : Fld := ⟨0x0C1010, 31, 16, [32]⟩
abbrev NET_CTX_CONFREV : Fld := ⟨0x0C1014, 31, 0, [32]⟩
abbrev NET_CTX_STR : Fld := ⟨0x0C1018, 13, 0, [32]⟩
abbrev NET_CTX_LOSS : Fld := ⟨0x0C101C, 15, 0, [32]⟩
abbrev NET_KEY_CUR : Fld := ⟨0x0C3000, 31, 0, [16]⟩
abbrev NET_KEY_NEXT : Fld := ⟨0x0C3004, 31, 0, [16]⟩
abbrev NET_KEY_START : Fld := ⟨0x0C3008, 31, 0, [16]⟩
abbrev NET_KEY_FLAGS : Fld := ⟨0x0C300C, 2, 0, [16]⟩
abbrev NET_MEM_TYPE : Fld := ⟨0x0C4000, 2, 0, [4]⟩
abbrev NET_MEM_SRC : Fld := ⟨0x0C4000, 6, 3, [4]⟩
abbrev NET_MEM_ARG : Fld := ⟨0x0C4000, 29, 7, [4]⟩
abbrev NET_CTX_STAT_VALID : Fld := ⟨0x0C8000, 0, 0, [16]⟩
abbrev NET_CTX_STAT_SEEN : Fld := ⟨0x0C8000, 1, 1, [16]⟩
abbrev NET_CTX_STAT_SIM_SEEN : Fld := ⟨0x0C8000, 2, 2, [16]⟩
abbrev NET_CTX_STAT_LAST_ERR : Fld := ⟨0x0C8000, 15, 8, [16]⟩
abbrev NET_CTX_STAT_ERR_CNT : Fld := ⟨0x0C8000, 31, 16, [16]⟩
abbrev NET_CTX_STAT_STNUM : Fld := ⟨0x0C8004, 31, 0, [16]⟩
abbrev NET_CTX_STAT_SQNUM : Fld := ⟨0x0C8008, 31, 0, [16]⟩
abbrev NET_CTX_STAT_VALUES : Fld := ⟨0x0C800C, 31, 0, [16]⟩
abbrev NET_STR : Fld := ⟨0x0CA000, 31, 0, [4]⟩
/-! FLU -/
abbrev FLU_STATUS_ROLE : Fld := ⟨0x0D0000, 1, 0, []⟩
abbrev FLU_STATUS_ADMITTED : Fld := ⟨0x0D0000, 2, 2, []⟩
abbrev FLU_STATUS_LINK_E : Fld := ⟨0x0D0000, 3, 3, []⟩
abbrev FLU_STATUS_LINK_W : Fld := ⟨0x0D0000, 4, 4, []⟩
abbrev FLU_STATUS_TIME_OK : Fld := ⟨0x0D0000, 5, 5, []⟩
abbrev FLU_STATUS_QUORUM : Fld := ⟨0x0D0000, 6, 6, []⟩
abbrev FLU_STATUS_POS : Fld := ⟨0x0D0000, 13, 8, []⟩
abbrev FLU_STATUS_LIVE : Fld := ⟨0x0D0000, 22, 16, []⟩
abbrev FLU_CFG_G_SEL : Fld := ⟨0x0D0004, 1, 0, []⟩
abbrev FLU_CFG_IL_MODE : Fld := ⟨0x0D0004, 2, 2, []⟩
abbrev FLU_CFG_RAMP_GF : Fld := ⟨0x0D0004, 15, 8, []⟩
abbrev FLU_CFG_ORPHAN_GF : Fld := ⟨0x0D0004, 23, 16, []⟩
abbrev FLU_UID_GROUP_UID : Fld := ⟨0x0D0008, 15, 0, []⟩
abbrev FLU_UID_SELF_UID : Fld := ⟨0x0D0008, 31, 16, []⟩
abbrev FLU_ROLE_CROWN_POS : Fld := ⟨0x0D000C, 5, 0, []⟩
abbrev FLU_ROLE_STANDBY_POS : Fld := ⟨0x0D000C, 13, 8, []⟩
abbrev FLU_ROLE_STANDBY_EN : Fld := ⟨0x0D000C, 14, 14, []⟩
abbrev FLU_ROLE_HOST_MODE : Fld := ⟨0x0D000C, 17, 16, []⟩
abbrev FLU_EPOCH : Fld := ⟨0x0D0010, 31, 0, []⟩
abbrev FLU_GFI : Fld := ⟨0x0D0014, 31, 0, []⟩
abbrev FLU_TIME_LO : Fld := ⟨0x0D0018, 31, 0, []⟩
abbrev FLU_TIME_HI : Fld := ⟨0x0D001C, 31, 0, []⟩
abbrev FLU_LINK_DLY : Fld := ⟨0x0D0020, 31, 0, [4]⟩
abbrev FLU_LIVE_LO : Fld := ⟨0x0D0028, 31, 0, []⟩
abbrev FLU_LIVE_HI : Fld := ⟨0x0D002C, 31, 0, []⟩
abbrev FLU_AGG_P : Fld := ⟨0x0D0030, 31, 0, []⟩
abbrev FLU_AGG_Q : Fld := ⟨0x0D0034, 31, 0, []⟩
abbrev FLU_AGG_HEAD : Fld := ⟨0x0D0038, 31, 0, []⟩
abbrev FLU_AGG_GFI : Fld := ⟨0x0D003C, 31, 0, []⟩
abbrev FLU_AGG_N : Fld := ⟨0x0D0040, 6, 0, []⟩
abbrev FLU_SHORT : Fld := ⟨0x0D0044, 31, 0, []⟩
abbrev FLU_CRC_CNT : Fld := ⟨0x0D0060, 31, 0, [4]⟩
abbrev FLU_GMAC_CNT : Fld := ⟨0x0D0068, 31, 0, []⟩
abbrev FLU_DUP_CNT : Fld := ⟨0x0D006C, 31, 0, []⟩
abbrev FLU_STALE_CNT : Fld := ⟨0x0D0070, 31, 0, []⟩
abbrev FLU_MISS_CNT : Fld := ⟨0x0D0074, 31, 0, []⟩
abbrev FLU_HOP_CNT : Fld := ⟨0x0D0078, 31, 0, []⟩
abbrev FLU_BULK_DROP_CNT : Fld := ⟨0x0D007C, 31, 0, []⟩
abbrev FLU_EVT_EVT : Fld := ⟨0x0D0080, 13, 0, []⟩
/-! CAN -/
abbrev CAN_CFG_EN : Fld := ⟨0x0E0000, 0, 0, [16384]⟩
abbrev CAN_CFG_FD_EN : Fld := ⟨0x0E0000, 1, 1, [16384]⟩
abbrev CAN_CFG_TDC_EN : Fld := ⟨0x0E0000, 2, 2, [16384]⟩
abbrev CAN_CFG_AUTO_REC : Fld := ⟨0x0E0000, 3, 3, [16384]⟩
abbrev CAN_CFG_TDCO : Fld := ⟨0x0E0000, 14, 8, [16384]⟩
abbrev CAN_NBT_BRP : Fld := ⟨0x0E0004, 7, 0, [16384]⟩
abbrev CAN_NBT_TSEG1 : Fld := ⟨0x0E0004, 15, 8, [16384]⟩
abbrev CAN_NBT_TSEG2 : Fld := ⟨0x0E0004, 22, 16, [16384]⟩
abbrev CAN_NBT_SJW : Fld := ⟨0x0E0004, 30, 24, [16384]⟩
abbrev CAN_DBT_BRP : Fld := ⟨0x0E0008, 4, 0, [16384]⟩
abbrev CAN_DBT_TSEG1 : Fld := ⟨0x0E0008, 12, 8, [16384]⟩
abbrev CAN_DBT_TSEG2 : Fld := ⟨0x0E0008, 19, 16, [16384]⟩
abbrev CAN_DBT_SJW : Fld := ⟨0x0E0008, 27, 24, [16384]⟩
abbrev CAN_STATUS_STATE : Fld := ⟨0x0E000C, 1, 0, [16384]⟩
abbrev CAN_STATUS_TEC : Fld := ⟨0x0E000C, 15, 8, [16384]⟩
abbrev CAN_STATUS_REC : Fld := ⟨0x0E000C, 23, 16, [16384]⟩
abbrev CAN_STATUS_LEC : Fld := ⟨0x0E000C, 26, 24, [16384]⟩
abbrev CAN_CTRL_RECOVER : Fld := ⟨0x0E0010, 0, 0, [16384]⟩
abbrev CAN_TM_CFG_TM_MODE : Fld := ⟨0x0E0014, 1, 0, [16384]⟩
abbrev CAN_TM_CFG_IDE : Fld := ⟨0x0E0014, 2, 2, [16384]⟩
abbrev CAN_TM_CFG_PERIOD : Fld := ⟨0x0E0014, 25, 16, [16384]⟩
abbrev CAN_TM_ID_TM_ID : Fld := ⟨0x0E0018, 28, 0, [16384]⟩
abbrev CAN_TM_STAT_CYCLE : Fld := ⟨0x0E001C, 5, 0, [16384]⟩
abbrev CAN_TM_STAT_SYNC : Fld := ⟨0x0E001C, 6, 6, [16384]⟩
abbrev CAN_FIFO_RING : Fld := ⟨0x0E0020, 3, 0, [16384, 4]⟩
abbrev CAN_FIFO_EN : Fld := ⟨0x0E0020, 4, 4, [16384, 4]⟩
abbrev CAN_FIFO_COUNT : Fld := ⟨0x0E0020, 13, 8, [16384, 4]⟩
abbrev CAN_OVR_CNT : Fld := ⟨0x0E0030, 31, 0, [16384]⟩
abbrev CAN_NOMATCH_CNT : Fld := ⟨0x0E0034, 31, 0, [16384]⟩
abbrev CAN_FIFO_OVF_CNT : Fld := ⟨0x0E0038, 31, 0, [16384]⟩
abbrev CAN_ERRFRM_CNT : Fld := ⟨0x0E003C, 31, 0, [16384]⟩
abbrev CAN_BUSOFF_CNT : Fld := ⟨0x0E0040, 31, 0, [16384]⟩
abbrev CAN_TX_REPLACE_CNT : Fld := ⟨0x0E0044, 31, 0, [16384]⟩
abbrev CAN_TM_SKIP_CNT : Fld := ⟨0x0E0048, 31, 0, [16384]⟩
abbrev CAN_EVT_EVT : Fld := ⟨0x0E004C, 7, 0, [16384]⟩
abbrev CAN_FLT_ID : Fld := ⟨0x0E0100, 28, 0, [16384, 8]⟩
abbrev CAN_FLT_IDE : Fld := ⟨0x0E0100, 29, 29, [16384, 8]⟩
abbrev CAN_FLT_EN : Fld := ⟨0x0E0100, 31, 31, [16384, 8]⟩
abbrev CAN_FLT_MASK : Fld := ⟨0x0E0104, 28, 0, [16384, 8]⟩
abbrev CAN_FLT_FIFO : Fld := ⟨0x0E0104, 29, 29, [16384, 8]⟩
abbrev CAN_MB_CFG_DIR : Fld := ⟨0x0E0200, 0, 0, [16384, 4]⟩
abbrev CAN_MB_CFG_UNL : Fld := ⟨0x0E0200, 1, 1, [16384, 4]⟩
abbrev CAN_MB_CFG_LIMIT : Fld := ⟨0x0E0200, 5, 2, [16384, 4]⟩
abbrev CAN_MB_CFG_SNAP_EN : Fld := ⟨0x0E0200, 6, 6, [16384, 4]⟩
abbrev CAN_MB_CFG_NW : Fld := ⟨0x0E0200, 10, 7, [16384, 4]⟩
abbrev CAN_MB_CFG_SNAP_OFF : Fld := ⟨0x0E0200, 16, 11, [16384, 4]⟩
abbrev CAN_MB_CFG_PORT_EN : Fld := ⟨0x0E0200, 17, 17, [16384, 4]⟩
abbrev CAN_MB_CFG_PORT : Fld := ⟨0x0E0200, 21, 18, [16384, 4]⟩
abbrev CAN_MB_CFG_RATE : Fld := ⟨0x0E0200, 25, 22, [16384, 4]⟩
abbrev CAN_MB_ID : Fld := ⟨0x0E1000, 28, 0, [16384, 80]⟩
abbrev CAN_MB_IDE : Fld := ⟨0x0E1000, 29, 29, [16384, 80]⟩
abbrev CAN_MB_FDF : Fld := ⟨0x0E1000, 30, 30, [16384, 80]⟩
abbrev CAN_MB_BRS : Fld := ⟨0x0E1000, 31, 31, [16384, 80]⟩
abbrev CAN_MB_DLC : Fld := ⟨0x0E1004, 3, 0, [16384, 80]⟩
abbrev CAN_MB_STATE : Fld := ⟨0x0E1004, 7, 4, [16384, 80]⟩
abbrev CAN_MB_REQ : Fld := ⟨0x0E1004, 8, 8, [16384, 80]⟩
abbrev CAN_MB_CANCEL : Fld := ⟨0x0E1004, 9, 9, [16384, 80]⟩
abbrev CAN_MB_NEWDATA : Fld := ⟨0x0E1004, 10, 10, [16384, 80]⟩
abbrev CAN_MB_OVR : Fld := ⟨0x0E1004, 11, 11, [16384, 80]⟩
abbrev CAN_MB_CANCEL_LATE : Fld := ⟨0x0E1004, 12, 12, [16384, 80]⟩
abbrev CAN_MB_ATTEMPTS : Fld := ⟨0x0E1004, 16, 13, [16384, 80]⟩
abbrev CAN_MB_TS : Fld := ⟨0x0E1008, 31, 0, [16384, 80]⟩
abbrev CAN_MB_DATA : Fld := ⟨0x0E1010, 31, 0, [16384, 80, 4]⟩
/-! HST -/
abbrev HST_STATUS_LINK : Fld := ⟨0x0F0000, 0, 0, []⟩
abbrev HST_STATUS_WIDTH : Fld := ⟨0x0F0000, 2, 1, []⟩
abbrev HST_STATUS_SPEED : Fld := ⟨0x0F0000, 4, 3, []⟩
abbrev HST_STATUS_BME : Fld := ⟨0x0F0000, 5, 5, []⟩
abbrev HST_STATUS_D3 : Fld := ⟨0x0F0000, 6, 6, []⟩
abbrev HST_STATUS_MSIX : Fld := ⟨0x0F0000, 7, 7, []⟩
abbrev HST_ID_VENDOR : Fld := ⟨0x0F0004, 15, 0, []⟩
abbrev HST_ID_DEVICE : Fld := ⟨0x0F0004, 31, 16, []⟩
abbrev HST_SUBSYS : Fld := ⟨0x0F0008, 31, 0, []⟩
abbrev HST_RING_BASE_LO : Fld := ⟨0x0F0100, 31, 0, [16]⟩
abbrev HST_RING_BASE_HI : Fld := ⟨0x0F0104, 31, 0, [16]⟩
abbrev HST_RING_EN : Fld := ⟨0x0F0108, 0, 0, [16]⟩
abbrev HST_RING_USE : Fld := ⟨0x0F0108, 3, 1, [16]⟩
abbrev HST_RING_SIZE_SEL : Fld := ⟨0x0F0108, 6, 4, [16]⟩
abbrev HST_RING_RECORDS : Fld := ⟨0x0F010C, 31, 0, [16]⟩
abbrev HST_MALF_CNT : Fld := ⟨0x0F0200, 31, 0, []⟩
abbrev HST_POISON_CNT : Fld := ⟨0x0F0204, 31, 0, []⟩
abbrev HST_CPL_TO_CNT : Fld := ⟨0x0F0208, 31, 0, []⟩
abbrev HST_UNEXP_CNT : Fld := ⟨0x0F020C, 31, 0, []⟩
abbrev HST_UR_CNT : Fld := ⟨0x0F0210, 31, 0, []⟩
abbrev HST_BAR_REJ_CNT : Fld := ⟨0x0F0214, 31, 0, []⟩
abbrev HST_MBX_REJ_CNT : Fld := ⟨0x0F0218, 31, 0, []⟩
abbrev HST_RING_ERR_CNT : Fld := ⟨0x0F021C, 31, 0, []⟩
abbrev HST_EVT_EVT : Fld := ⟨0x0F0220, 8, 0, []⟩
/-! HRT -/
abbrev HRT_STATUS_IMG_SLOT : Fld := ⟨0x100000, 0, 0, []⟩
abbrev HRT_STATUS_PKG_SLOT : Fld := ⟨0x100000, 1, 1, []⟩
abbrev HRT_STATUS_ACT_PEND : Fld := ⟨0x100000, 2, 2, []⟩
abbrev HRT_STATUS_FALLBACK : Fld := ⟨0x100000, 3, 3, []⟩
abbrev HRT_TEMP : Fld := ⟨0x100004, 31, 0, [4]⟩
abbrev HRT_TEMP_CFG_WARN : Fld := ⟨0x10001C, 7, 0, []⟩
abbrev HRT_TEMP_CFG_TRIP : Fld := ⟨0x10001C, 15, 8, []⟩
abbrev HRT_TAMPER : Fld := ⟨0x100020, 3, 0, []⟩
abbrev HRT_LOG_NEXT : Fld := ⟨0x100024, 31, 0, []⟩
abbrev HRT_STICKY_NEXT : Fld := ⟨0x100028, 31, 0, []⟩
abbrev HRT_VERIFY_REASON : Fld := ⟨0x10002C, 7, 0, []⟩
abbrev HRT_VERIFY_TYPE : Fld := ⟨0x10002C, 8, 8, []⟩
abbrev HRT_VERIFY_SLOT : Fld := ⟨0x10002C, 9, 9, []⟩
abbrev HRT_VERIFY_INDEX : Fld := ⟨0x10002C, 31, 16, []⟩
abbrev HRT_FLOOR : Fld := ⟨0x100030, 31, 0, [4]⟩
abbrev HRT_CMD_LEN_CNT : Fld := ⟨0x100038, 31, 0, []⟩
abbrev HRT_CMD_OPC_CNT : Fld := ⟨0x10003C, 31, 0, []⟩
abbrev HRT_CMD_AUTH_CNT : Fld := ⟨0x100040, 31, 0, []⟩
abbrev HRT_CMD_REPLAY_CNT : Fld := ⟨0x100044, 31, 0, []⟩
abbrev HRT_CMD_DUP_CNT : Fld := ⟨0x100048, 31, 0, []⟩
abbrev HRT_OWNER_AUTH_CNT : Fld := ⟨0x10004C, 31, 0, []⟩
abbrev HRT_LOG_SUPP_CNT : Fld := ⟨0x100050, 31, 0, []⟩
abbrev HRT_STICKY_DROP_CNT : Fld := ⟨0x100054, 31, 0, []⟩
abbrev HRT_EVT_DROP_CNT : Fld := ⟨0x100058, 31, 0, []⟩
abbrev HRT_EVT_EVT : Fld := ⟨0x10005C, 12, 0, []⟩
abbrev HRT_LC_STATE : Fld := ⟨0x100100, 2, 0, []⟩
abbrev HRT_LC_OWNER_SET : Fld := ⟨0x100100, 3, 3, []⟩
abbrev HRT_LC_IDENT_OK : Fld := ⟨0x100100, 4, 4, []⟩
abbrev HRT_LC_PENDING : Fld := ⟨0x100100, 5, 5, []⟩
abbrev HRT_DEV_ID : Fld := ⟨0x100104, 31, 0, [4]⟩
abbrev HRT_SESS_OPEN : Fld := ⟨0x100114, 4, 0, []⟩
abbrev HRT_CRED_MIN : Fld := ⟨0x100118, 31, 0, []⟩
abbrev HRT_TIME_FLOOR : Fld := ⟨0x10011C, 31, 0, []⟩
abbrev HRT_OWNER_CTR : Fld := ⟨0x100120, 31, 0, []⟩
abbrev HRT_TAMPER_CNT_CNT : Fld := ⟨0x100124, 3, 0, []⟩
abbrev HRT_LC_EVT_EVT : Fld := ⟨0x100128, 8, 0, []⟩
abbrev HRT_CERT : Fld := ⟨0x108000, 31, 0, [4]⟩
/-! BAR0 control words -/
abbrev MBX_DB_LEN : Fld := ⟨0x1000FC0, 11, 0, [4096]⟩
abbrev MBX_DB_TAG : Fld := ⟨0x1000FC0, 23, 16, [4096]⟩
abbrev MBX_DB_GO : Fld := ⟨0x1000FC0, 31, 31, [4096]⟩
abbrev MBX_STAT_REQ_FREE : Fld := ⟨0x1000FC4, 0, 0, [4096]⟩
abbrev MBX_STAT_INFLIGHT : Fld := ⟨0x1000FC4, 3, 1, [4096]⟩
abbrev MBX_STAT_DB_REJ : Fld := ⟨0x1000FC4, 4, 4, [4096]⟩
abbrev MBX_RSP_LEN : Fld := ⟨0x1000FC8, 11, 0, [4096]⟩
abbrev MBX_RSP_TAG : Fld := ⟨0x1000FC8, 23, 16, [4096]⟩
abbrev MBX_RSP_VALID : Fld := ⟨0x1000FC8, 31, 31, [4096]⟩
abbrev MBX_ACK_ACK : Fld := ⟨0x1000FCC, 0, 0, [4096]⟩
abbrev MBX_IRQ_EN : Fld := ⟨0x1000FD0, 0, 0, [4096]⟩
abbrev RING_TAIL_TAIL : Fld := ⟨0x1000FE0, 7, 0, [4096]⟩
abbrev RING_HEAD_HEAD : Fld := ⟨0x1000FE4, 7, 0, [4096]⟩
abbrev RING_IRQ_CNT : Fld := ⟨0x1000FE8, 7, 0, [4096]⟩
abbrev RING_IRQ_TIME : Fld := ⟨0x1000FE8, 23, 8, [4096]⟩
abbrev RING_IRQ_STARVE : Fld := ⟨0x1000FE8, 24, 24, [4096]⟩
abbrev RING_IRQ_EN : Fld := ⟨0x1000FE8, 31, 31, [4096]⟩
abbrev RING_STAT_STATE : Fld := ⟨0x1000FEC, 1, 0, [4096]⟩
abbrev RING_STAT_ERR : Fld := ⟨0x1000FEC, 6, 2, [4096]⟩
abbrev RING_CTRL_RESET : Fld := ⟨0x1000FF0, 0, 0, [4096]⟩
abbrev HST_DEVSTAT : Fld := ⟨0x1000FF4, 31, 0, [4096]⟩

end Sys2Proof.Machine.F
end

