-- ==== Sys2Proof/Machine/RegMap.lean ====
section
/-! DEFINITION. The register map: one row per register or register array, with the masks of its
access codes (Table 0-6), the bits that act on a write of 1 and read 0, the stopped-only bits (R22)
and the reset value (R13; a "cfg" or "pin" bit is 0 here, R368). Bits of no field are reserved (R12). -/

namespace Sys2Proof.Machine

/-- Rows of FBX. -/
def rows01a : List RegRow := [
  { base := 0x010000, ro := 0xFFFFFF3F },
  { base := 0x010004, ro := 0x1FFFF },
  { base := 0x010008, ro := 0x1FFFF },
  { base := 0x01000C, ro := 0x1FFFF },
  { base := 0x010010, rw := 0x1FFFF, clr := true },
  { base := 0x010014, rw := 0xFFFFFF, rst := 0xFFFFFF, clr := true },
  { base := 0x010018, ro := 0xFFFFFFFF },
  { base := 0x01001C, ro := 0xFFFF3FFF },
  { base := 0x010020, ro := 0xFFFF01FF },
  { base := 0x010024, ro := 0xFFFFFFFF },
  { base := 0x010030, dims := [(4, 8)], ro := 0xFFFFFFFF },
  { base := 0x010050, w1c := 0xF },
  { base := 0x010100, dims := [(4, 6)], st := 0xFFFFFFFF },
  { base := 0x010120, dims := [(4, 16)], rw := 0xFFFFFFFF, clr := true },
  { base := 0x010160, st := 0xFFFFFFFF },
  { base := 0x010164, ro := 0x7 },
  { base := 0x010168, rw := 0xFFFFFFFF, clr := true },
  { base := 0x01016C, w1c := 0x7F },
  { base := 0x010200, dims := [(64, 4)], st := 0xFFFFFFFF },
  { base := 0x010204, dims := [(64, 4)], st := 0xFFFFFFFF, rst := 0x447A0000 },
  { base := 0x010208, dims := [(64, 4)], st := 0xFFFFFFFF, rst := 0x3F000000 },
  { base := 0x01020C, dims := [(64, 4)], st := 0xFFFFFFFF, rst := 0x40A00000 },
  { base := 0x010210, dims := [(64, 4)], st := 0xFFFFFFFF, rst := 0x3C23D70A },
  { base := 0x010214, dims := [(64, 4)], st := 0xFFFFFFFF, rst := 0x3A83126F },
  { base := 0x010218, dims := [(64, 4)], st := 0xFFFFFFFF, rst := 0x3A83126F },
  { base := 0x01021C, dims := [(64, 4)], st := 0xFFFFFFFF, rst := 0x3D4CCCCD },
  { base := 0x010220, dims := [(64, 4)], st := 0xFFFF },
  { base := 0x010224, dims := [(64, 4)], st := 0xFFFFFFFF, rst := 0x447A0000 },
  { base := 0x010228, dims := [(64, 4)], st := 0xFFFFFFFF, rst := 0x43480000 },
  { base := 0x01022C, dims := [(64, 4)], st := 0xFFFFFFFF, rst := 0x40000000 },
  { base := 0x010230, dims := [(64, 4)], ro := 0xF },
  { base := 0x010234, dims := [(64, 4)], ro := 0xFFFFFFFF },
  { base := 0x010238, dims := [(64, 4)], ro := 0xFFFFFFFF },
  { base := 0x01023C, dims := [(64, 4)], ro := 0xFFFFFFFF },
  { base := 0x010400, rw := 0x1F, act := 0x7 },
  { base := 0x010404, ro := 0xFFFF0007 },
  { base := 0x010408, rw := 0x3FFF7F3F, rst := 0x3200 },
  { base := 0x01040C, rw := 0xFFFFFFFF },
  { base := 0x010410, rw := 0xFFFFFFFF },
  { base := 0x010414, rw := 0xFFFFFFFF }]

/-- Rows of FBX, continued. -/
def rows01b : List RegRow := [
  { base := 0x010418, ro := 0xFFFFFFFF },
  { base := 0x010420, rw := 0xFFFFFFFF, clr := true },
  { base := 0x010424, rw := 0xFFFFFFFF, clr := true },
  { base := 0x010428, w1c := 0x1FF },
  { base := 0x010440, dims := [(4, 32)], rw := 0xBFFFFFFF },
  { base := 0x0104C0, dims := [(4, 32)], ro := 0x3FFF },
  { base := 0x010600, rw := 0xF, act := 0x7 },
  { base := 0x010604, ro := 0xFFFF0007 },
  { base := 0x010608, rw := 0x7F, rst := 0x19 },
  { base := 0x01060C, rw := 0xFFFFFFFF },
  { base := 0x010610, rw := 0xFF, rst := 0xFF },
  { base := 0x010614, rw := 0x1FF },
  { base := 0x010618, rw := 0x3, rst := 0x1 },
  { base := 0x01061C, dims := [(4, 4)], rw := 0xFFFFFFFF },
  { base := 0x010630, dims := [(4, 8)], rw := 0x7F },
  { base := 0x010650, ro := 0x1FFF },
  { base := 0x010654, rw := 0xFFFFFFFF, clr := true },
  { base := 0x010658, rw := 0xFFFFFFFF, clr := true },
  { base := 0x01065C, ro := 0xFFFFFFFF }]

/-- Rows of FBX, all. -/
def rows01 : List RegRow := rows01a ++ rows01b

/-- Rows of ANG. -/
def rows02 : List RegRow := [
  { base := 0x020000, ro := 0xFFFF007F, rst := 0xC },
  { base := 0x020004, oa := 0x7 },
  { base := 0x020008, oa := 0xFFFF3F, rst := 0x5B5B14 },
  { base := 0x02000C, oa := 0xFFFFFFF, rst := 0x420071C },
  { base := 0x020010, oa := 0x1FFFF, rst := 0x10258 },
  { base := 0x020014, oa := 0xFFFFFF, rst := 0x16C17 },
  { base := 0x020018, oa := 0xFFFFFFFF, rst := 0x41200000 },
  { base := 0x02001C, oa := 0xFFFFFFFF, rst := 0x42200000 },
  { base := 0x020020, oa := 0xFFFFFFFF, rst := 0x428C0000 },
  { base := 0x020024, oa := 0x3F, rst := 0x5 },
  { base := 0x020028, oa := 0xFFFFFFFF, rst := 0xB60B61 },
  { base := 0x02002C, st := 0xFF },
  { base := 0x020030, ro := 0xFFFFFFFF, rst := 0x1AD7F2A },
  { base := 0x020034, ro := 0xFFFFFFFF },
  { base := 0x020038, ro := 0xFFFFFFFF, rst := 0x42480000 },
  { base := 0x02003C, ro := 0xFFFFFFFF, rst := 0x42480000 },
  { base := 0x020040, ro := 0xFFFFFFFF },
  { base := 0x020044, ro := 0xFFFFFFFF },
  { base := 0x020048, ro := 0xFFFFFFFF },
  { base := 0x02004C, ro := 0xFFFFFFFF },
  { base := 0x020050, ro := 0xFFFFFFFF },
  { base := 0x020054, ro := 0xFFFFFFFF },
  { base := 0x020058, ro := 0xFFFFFFFF },
  { base := 0x02005C, ro := 0x1F, w1c := 0x100 },
  { base := 0x020060, ro := 0xFFFFFFFF },
  { base := 0x020064, ro := 0xFFFFFFFF },
  { base := 0x020068, ro := 0xFFFFFFFF },
  { base := 0x02006C, w1c := 0x3FF }]

/-- Rows of GSV. -/
def rows03a : List RegRow := [
  { base := 0x030000, ro := 0x7FFF, rst := 0x80 },
  { base := 0x030004, oa := 0xFF1F, rst := 0x10 },
  { base := 0x030008, oa := 0xFFFFFFFF },
  { base := 0x03000C, oa := 0xFFF },
  { base := 0x030010, oa := 0xFF },
  { base := 0x030014, oa := 0xFFFFFFFF, rst := 0x3F800000 },
  { base := 0x030018, oa := 0xFFFFFFFF },
  { base := 0x03001C, oa := 0xFFFFFFFF, rst := 0x3C2710 },
  { base := 0x030020, oa := 0xFFFF, rst := 0x6432 },
  { base := 0x030024, oa := 0xFFFFFFFF, rst := 0x3F800000 },
  { base := 0x030028, oa := 0xFFFFFFFF, rst := 0x40000000 },
  { base := 0x030030, oa := 0xFFFFFFFF, rst := 0x3F6AC083 },
  { base := 0x030034, oa := 0xFFFFFFFF, rst := 0x3F866666 },
  { base := 0x030038, oa := 0xFFFFFFFF, rst := 0x3F000000 },
  { base := 0x03003C, oa := 0xFFFFFFFF, rst := 0x3DCCCCCD },
  { base := 0x030040, oa := 0xFFFF, rst := 0x12C },
  { base := 0x030044, oa := 0xFFFFFFFF, rst := 0x3B5A740E },
  { base := 0x030048, oa := 0xFFFFFFFF, rst := 0x40000000 },
  { base := 0x03004C, oa := 0xFFFFFFFF, rst := 0x3DCCCCCD },
  { base := 0x030050, oa := 0xFFFFFFFF, rst := 0x3F800000 },
  { base := 0x030054, oa := 0xFFFFFFFF },
  { base := 0x030058, oa := 0xFFFFFFFF, rst := 0x3F000000 },
  { base := 0x030060, dims := [(4, 4)], oa := 0xFFFFFFFF },
  { base := 0x030080, oa := 0xFFFFFF1F, rst := 0x3020300 },
  { base := 0x030084, oa := 0xFFFFFFFF, rst := 0x3F000000 },
  { base := 0x030088, oa := 0xFFFF, rst := 0xA0 },
  { base := 0x03008C, oa := 0xFFFFFFFF, rst := 0x3F800000 },
  { base := 0x030090, oa := 0xFFFFFFFF, rst := 0x71C71C7 },
  { base := 0x030094, oa := 0xFFFFFFFF, rst := 0x3CF5C28F },
  { base := 0x030098, oa := 0xFFFFFFFF },
  { base := 0x03009C, oa := 0xFFFFFFFF, rst := 0x40000000 },
  { base := 0x0300A0, oa := 0xFFFF07FF, rst := 0x3E80000 },
  { base := 0x0300C0, ro := 0xFFFFFFFF },
  { base := 0x0300C4, ro := 0xFFFFFFFF },
  { base := 0x0300C8, ro := 0xFFFFFFFF },
  { base := 0x0300CC, ro := 0xF },
  { base := 0x0300D0, rw := 0xFFFFFFFF, clr := true },
  { base := 0x0300D4, rw := 0xFFFFFFFF, clr := true },
  { base := 0x0300D8, w1c := 0x7FFF },
  { base := 0x030400, dims := [(128, 4), (8, 16)], oa := 0xFFFFFFFF }]

/-- Rows of GSV, continued. -/
def rows03b : List RegRow := [
  { base := 0x030404, dims := [(128, 4), (8, 16)], oa := 0x87FFFFFF }]

/-- Rows of GSV, all. -/
def rows03 : List RegRow := rows03a ++ rows03b

/-- Rows of SDM. -/
def rows04 : List RegRow := [
  { base := 0x040000, st := 0xF, stop := 0xF, rst := 0x5 },
  { base := 0x040004, ro := 0xFF },
  { base := 0x040010, dims := [(4, 6)], st := 0x7FF01FF, stop := 0x7FF0183 },
  { base := 0x040040, dims := [(4, 24)], st := 0x3FFF, rst := 0x40 },
  { base := 0x0400A0, dims := [(4, 24)], st := 0xFFFFFFFF, rst := 0x80007FFF },
  { base := 0x040100, dims := [(4, 24)], st := 0xFFFFFFFF, rst := 0x3F800000 },
  { base := 0x040160, dims := [(4, 24)], st := 0xFFFFFFFF },
  { base := 0x0401C0, dims := [(4, 24)], oa := 0xFFFFFFFF, rst := 0x3F800000 },
  { base := 0x040220, dims := [(4, 24)], oa := 0xFFFFFFFF },
  { base := 0x040280, dims := [(4, 4)], oa := 0xFFFFFF, rst := 0x324000 },
  { base := 0x040290, dims := [(4, 4)], oa := 0xFFFFFFFF, rst := 0x3D800000 },
  { base := 0x0402A0, dims := [(4, 4)], oa := 0xFFFFFFFF },
  { base := 0x0402B0, dims := [(4, 4)], ro := 0xFFFFFFFF },
  { base := 0x0402C0, dims := [(4, 4)], ro := 0xFFFFFFFF },
  { base := 0x0402D0, ro := 0xFF },
  { base := 0x040300, ro := 0xFFFFFF },
  { base := 0x040304, w1c := 0xFFFFFF },
  { base := 0x040308, rw := 0xFFFFFFFF, clr := true },
  { base := 0x04030C, rw := 0xFFFFFFFF, clr := true },
  { base := 0x040310, rw := 0xFFFFFFFF, clr := true },
  { base := 0x040314, rw := 0xFFFFFFFF, clr := true },
  { base := 0x040318, rw := 0xFFFFFFFF, clr := true },
  { base := 0x04031C, w1c := 0x3F }]

/-- Rows of SAR. -/
def rows05 : List RegRow := [
  { base := 0x050000, st := 0x1037F7F, stop := 0x1000000 },
  { base := 0x050004, ro := 0xFFFF0007 },
  { base := 0x050008, st := 0xFFFF3FFF, rst := 0x400C00 },
  { base := 0x05000C, ro := 0xFFFFFFFF },
  { base := 0x050010, dims := [(8, 2)], rw := 0x13F, ro := 0x600, act := 0x100 },
  { base := 0x050014, dims := [(8, 2)], ro := 0xFFFFFFFF },
  { base := 0x050020, rw := 0xFFFFFFFF, clr := true },
  { base := 0x050024, rw := 0xFFFFFFFF, clr := true },
  { base := 0x050028, rw := 0xFFFFFFFF, clr := true },
  { base := 0x05002C, rw := 0xFFFFFFFF, clr := true },
  { base := 0x050030, w1c := 0xF },
  { base := 0x050100, dims := [(4, 64)], st := 0x3FFFFFFF },
  { base := 0x050200, dims := [(4, 64)], st := 0x3FFFFFFF }]

/-- Rows of MET. -/
def rows06 : List RegRow := [
  { base := 0x060000, ro := 0x3F001F },
  { base := 0x060004, oa := 0xFF01, rst := 0x400 },
  { base := 0x060008, oa := 0x1F1F1F },
  { base := 0x06000C, oa := 0x9F1F1F1F },
  { base := 0x060010, oa := 0xFFFFFFFF, rst := 0x3F800000 },
  { base := 0x060014, oa := 0xFFFFFFFF, rst := 0x3F800000 },
  { base := 0x060018, oa := 0xFFFFFFFF, rst := 0x3F800000 },
  { base := 0x06001C, oa := 0xFFFFF },
  { base := 0x060020, dims := [(4, 4)], oa := 0xFFFFFFFF },
  { base := 0x060030, ro := 0xFFFFFFFF },
  { base := 0x060034, ro := 0xFFFFFFFF },
  { base := 0x060038, ro := 0xFFFFFFFF },
  { base := 0x06003C, ro := 0xFFFFFFFF },
  { base := 0x060040, ro := 0xFFFFFFFF },
  { base := 0x060044, ro := 0xFFFFFFFF },
  { base := 0x060048, rw := 0xFFFFFFFF, clr := true },
  { base := 0x06004C, rw := 0xFFFFFFFF, clr := true },
  { base := 0x060050, w1c := 0x1FF },
  { base := 0x060100, dims := [(96, 4), (12, 8)], oa := 0xFFFFFFFF, rstTab := [0x3F800000, 0x40000000, 0x40400000, 0x40800000, 0x40A00000, 0x40C00000, 0x40E00000, 0x41000000] },
  { base := 0x060104, dims := [(96, 4), (12, 8)], oa := 0xFFFFFFFF, rst := 0x3F800000 },
  { base := 0x060108, dims := [(96, 4), (12, 8)], oa := 0xFFFF },
  { base := 0x060FF0, ro := 0xFFFFFFFF },
  { base := 0x060FF4, ro := 0xFFFFFFFF },
  { base := 0x060FF8, ro := 0xFFFFFFFF },
  { base := 0x060FFC, ro := 0xFFFFFFFF },
  { base := 0x061000, dims := [(4, 156)], ro := 0xFFFFFFFF },
  { base := 0x062000, oa := 0xF1 },
  { base := 0x062004, oa := 0xFFFFFFFF },
  { base := 0x062008, oa := 0xFFFFFFFF, rst := 0x3F666666 },
  { base := 0x06200C, oa := 0xFFFFFFFF, rst := 0x3F8CCCCD },
  { base := 0x062010, oa := 0xFFFFFFFF, rst := 0x3D4CCCCD },
  { base := 0x062014, oa := 0xFFFFFFFF, rst := 0x3CA3D70A },
  { base := 0x062018, ro := 0x70777 },
  { base := 0x06201C, dims := [(4, 3)], ro := 0xFFFFFFFF },
  { base := 0x062028, rw := 0xFFFFFFFF, clr := true },
  { base := 0x06202C, rw := 0xFFFFFFFF, clr := true },
  { base := 0x062030, rw := 0xFFFFFFFF, clr := true },
  { base := 0x062034, rw := 0xFFFFFFFF, clr := true },
  { base := 0x062038, w1c := 0x7 }]

/-- Rows of PWM. -/
def rows07 : List RegRow := [
  { base := 0x070000, st := 0xF3, stop := 0xF3, rst := 0x51 },
  { base := 0x070004, ro := 0xFFFF },
  { base := 0x070040, dims := [(4, 12)], st := 0xFF03FF, stop := 0x3F, rst := 0x190000 },
  { base := 0x070080, dims := [(4, 12)], st := 0x3FFFF, rst := 0xFA00 },
  { base := 0x0700B0, dims := [(4, 12)], st := 0x3FFFF, rst := 0x2EE00 },
  { base := 0x0700E0, dims := [(4, 12)], st := 0xFFFFFF, rst := 0x401900 },
  { base := 0x070110, dims := [(4, 12)], st := 0x1FF01FF },
  { base := 0x070200, dims := [(16, 12)], ro := 0xFFFFFFFF },
  { base := 0x070204, dims := [(16, 12)], ro := 0xFFFFFFFF },
  { base := 0x070208, dims := [(16, 12)], ro := 0xFFFFFFFF },
  { base := 0x07020C, dims := [(16, 12)], ro := 0xFFFFFFFF },
  { base := 0x070300, dims := [(8, 12)], ro := 0x3FFFF },
  { base := 0x070304, dims := [(8, 12)], ro := 0x3FFFF },
  { base := 0x070380, dims := [(8, 12)], ro := 0x8003FFFF },
  { base := 0x070384, dims := [(8, 12)], ro := 0x8003FFFF },
  { base := 0x070400, st := 0xFFF03, rst := 0x41001 },
  { base := 0x070404, rw := 0x1, act := 0x1 },
  { base := 0x070408, ro := 0x80FFFFFF },
  { base := 0x07040C, ro := 0xFFFFFFFF },
  { base := 0x070410, rw := 0xFFFFFFFF, clr := true },
  { base := 0x070414, rw := 0xFFFFFFFF, clr := true },
  { base := 0x070418, rw := 0xFFFFFFFF, clr := true },
  { base := 0x07041C, rw := 0xFFFFFFFF, clr := true },
  { base := 0x070420, ro := 0xFFFFFFFF },
  { base := 0x070424, w1c := 0x1FF }]

/-- Rows of DMP. -/
def rows08 : List RegRow := [
  { base := 0x080000, ro := 0x1FFFFFF },
  { base := 0x080004, ro := 0x3FFF },
  { base := 0x080008, oa := 0xFFFF000F, rst := 0xE100003 },
  { base := 0x08000C, ro := 0xF },
  { base := 0x080010, oa := 0x1F, rst := 0xA },
  { base := 0x080040, dims := [(4, 16)], oa := 0x7FFFFFFF, rst := 0x7FE00, rstMul := 32 },
  { base := 0x080100, dims := [(8, 8)], oa := 0xFF3FFF },
  { base := 0x080104, dims := [(8, 8)], oa := 0xFFFF0FFF, rst := 0x2580364 },
  { base := 0x080140, dims := [(4, 12)], oa := 0x3FF, rst := 0x64 },
  { base := 0x080180, dims := [(4, 8)], oa := 0xFFFF07, rst := 0x3200 },
  { base := 0x0801A0, ro := 0xFFFFFF },
  { base := 0x0801B0, dims := [(4, 3)], ro := 0xFFFFFFFF },
  { base := 0x080200, dims := [(4, 86)], oa := 0xFF07 },
  { base := 0x080404, dims := [(4, 16)], oa := 0xFF, rst := 0xFF },
  { base := 0x080480, dims := [(4, 64)], oa := 0xFF07FFFF },
  { base := 0x080600, dims := [(4, 8)], rw := 0xFFFFFFFF, clr := true },
  { base := 0x080620, rw := 0xFFFFFFFF, clr := true },
  { base := 0x080624, rw := 0xFFFFFFFF, clr := true },
  { base := 0x080628, w1c := 0x3FF }]

/-- Rows of GDR. -/
def rows09 : List RegRow := [
  { base := 0x090000, dims := [(32, 2)], st := 0xFF, stop := 0x3, rst := 0x94 },
  { base := 0x090004, dims := [(32, 2)], st := 0xFFFF1F, rst := 0x32C807 },
  { base := 0x090008, dims := [(32, 2)], st := 0xFF0FFF, rst := 0xA0363 },
  { base := 0x09000C, dims := [(32, 2)], ro := 0x3FFF, rst := 0x4 },
  { base := 0x090010, dims := [(32, 2)], w1c := 0x3FF },
  { base := 0x090014, dims := [(32, 2)], rw := 0x1, act := 0x1 },
  { base := 0x090040, rw := 0xFFFFFFFF, clr := true },
  { base := 0x090044, rw := 0xFFFFFFFF, clr := true },
  { base := 0x090048, rw := 0xFFFFFFFF, clr := true },
  { base := 0x09004C, rw := 0xFFFFFFFF, clr := true },
  { base := 0x090050, rw := 0xFFFFFFFF, clr := true },
  { base := 0x090060, w1c := 0x1FF }]

/-- Rows of DRT. -/
def rows0A : List RegRow := [
  { base := 0x0A0000, dims := [(128, 2)], st := 0xFF, rst := 0x68 },
  { base := 0x0A0004, dims := [(128, 2)], st := 0xFFFF1FFF, rst := 0x64141388 },
  { base := 0x0A0008, dims := [(128, 2)], st := 0xFFFFFFFF, rst := 0x44480000 },
  { base := 0x0A000C, dims := [(128, 2)], st := 0xFFFFFFFF, rst := 0x42C80000 },
  { base := 0x0A0010, dims := [(128, 2)], st := 0xFFFFFFFF, rst := 0x43480000 },
  { base := 0x0A0014, dims := [(128, 2)], st := 0xFFFFFFFF, rst := 0x42C80000 },
  { base := 0x0A0018, dims := [(128, 2)], st := 0xFFFFFFFF, rst := 0x3A83126F },
  { base := 0x0A001C, dims := [(128, 2)], st := 0xFFFFFFFF, rst := 0x3D4CCCCD },
  { base := 0x0A0020, dims := [(128, 2)], st := 0xFFFFFFFF, rst := 0x3CA3D70A },
  { base := 0x0A0024, dims := [(128, 2)], st := 0xFFFF003F, rst := 0x2580014 },
  { base := 0x0A0028, dims := [(128, 2)], st := 0xFFFFFFFF, rst := 0x3CA3D70A },
  { base := 0x0A002C, dims := [(128, 2)], st := 0xFFFFFFFF, rst := 0x531E1A32 },
  { base := 0x0A0030, dims := [(128, 2)], st := 0xFFFFFFFF, rst := 0x40A00000 },
  { base := 0x0A0034, dims := [(128, 2)], st := 0xFFFFFFFF, rst := 0x42C80000 },
  { base := 0x0A0038, dims := [(128, 2)], st := 0xFFFFFFFF, rst := 0x3D4CCCCD },
  { base := 0x0A003C, dims := [(128, 2)], st := 0xFFFFFFFF, rst := 0x3A03126F },
  { base := 0x0A0040, dims := [(128, 2)], st := 0xFFFFFFFF, rst := 0x42700000 },
  { base := 0x0A0044, dims := [(128, 2)], st := 0xFFFFFFFF, rst := 0x42480000 },
  { base := 0x0A0048, dims := [(128, 2)], st := 0xFFFFFFFF, rst := 0x40A00000 },
  { base := 0x0A004C, dims := [(128, 2)], st := 0xFFFFFFFF },
  { base := 0x0A0050, dims := [(128, 2)], st := 0xFFFFFFFF, rst := 0x190A64AF },
  { base := 0x0A0054, dims := [(128, 2)], st := 0xFF, rst := 0x3C },
  { base := 0x0A0060, dims := [(128, 2)], ro := 0xFFFF },
  { base := 0x0A0064, dims := [(128, 2)], ro := 0xFFFFFFFF },
  { base := 0x0A0068, dims := [(128, 2)], ro := 0xFFFFFFFF },
  { base := 0x0A006C, dims := [(128, 2)], ro := 0xFFFFFFFF },
  { base := 0x0A0070, dims := [(128, 2)], ro := 0xFFFFFFFF },
  { base := 0x0A0074, dims := [(128, 2)], ro := 0xFFFFFFFF },
  { base := 0x0A0078, dims := [(128, 2)], rw := 0x7, act := 0x7 },
  { base := 0x0A007C, dims := [(128, 2)], rw := 0xFFFFFFFF },
  { base := 0x0A0100, rw := 0xFFFFFFFF, clr := true },
  { base := 0x0A0104, rw := 0xFFFFFFFF, clr := true },
  { base := 0x0A0108, rw := 0xFFFFFFFF, clr := true },
  { base := 0x0A010C, rw := 0xFFFFFFFF, clr := true },
  { base := 0x0A0110, w1c := 0x7FF }]

/-- Rows of CPR. -/
def rows0B : List RegRow := [
  { base := 0x0B0000, ro := 0xF7F },
  { base := 0x0B0004, w1c := 0x7F, rst := 0x1 },
  { base := 0x0B0008, ro := 0xFFFFFFFF },
  { base := 0x0B000C, st := 0x7 },
  { base := 0x0B0010, oa := 0x7, rst := 0x4 },
  { base := 0x0B0014, w1c := 0xFFF },
  { base := 0x0B0018, ro := 0xFF, w1c := 0xFFFF00 },
  { base := 0x0B001C, st := 0xFFFF0001, rst := 0x3E80000 },
  { base := 0x0B0020, rw := 0xFFFFFFFF, act := 0xFFFFFFFF },
  { base := 0x0B0024, rw := 0x1, act := 0x1 },
  { base := 0x0B0028, ro := 0xFFFFFFFF },
  { base := 0x0B002C, rw := 0xFFFFFFFF, clr := true },
  { base := 0x0B0030, ro := 0xFFFFFFFF },
  { base := 0x0B0034, w1c := 0x7FF }]

/-- Rows of NET. -/
def rows0Ca : List RegRow := [
  { base := 0x0C0000, ro := 0x7FFF, rst := 0xC00 },
  { base := 0x0C0004, oa := 0xFFFF000F },
  { base := 0x0C0008, dims := [(4, 2)], oa := 0xF, rst := 0x8 },
  { base := 0x0C0010, oa := 0xFFFFFFFF },
  { base := 0x0C0014, oa := 0xFFFF },
  { base := 0x0C0018, oa := 0xFFF },
  { base := 0x0C001C, oa := 0xFFFFFFFF, rst := 0x1903C02 },
  { base := 0x0C0020, oa := 0xF },
  { base := 0x0C0040, oa := 0xFFFFFF3F, rst := 0x80800000 },
  { base := 0x0C0044, oa := 0xFFFFFFFF, rst := 0x2106 },
  { base := 0x0C0048, ro := 0xFFFFFFFF },
  { base := 0x0C004C, dims := [(4, 2)], ro := 0xFFFFFFFF },
  { base := 0x0C0054, ro := 0x3FFFFFFF },
  { base := 0x0C0058, ro := 0xFFFFFFFF },
  { base := 0x0C005C, ro := 0xFFFF },
  { base := 0x0C0060, rw := 0xFFFFFFFF },
  { base := 0x0C0064, oa := 0xFF, rst := 0x64 },
  { base := 0x0C0080, dims := [(4, 2)], rw := 0xFFFFFFFF, clr := true },
  { base := 0x0C0088, rw := 0xFFFFFFFF, clr := true },
  { base := 0x0C008C, rw := 0xFFFFFFFF, clr := true },
  { base := 0x0C0090, rw := 0xFFFFFFFF, clr := true },
  { base := 0x0C0094, rw := 0xFFFFFFFF, clr := true },
  { base := 0x0C0098, rw := 0xFFFFFFFF, clr := true },
  { base := 0x0C009C, rw := 0xFFFFFFFF, clr := true },
  { base := 0x0C00A0, rw := 0xFFFFFFFF, clr := true },
  { base := 0x0C00A4, rw := 0xFFFFFFFF, clr := true },
  { base := 0x0C00A8, rw := 0xFFFFFFFF, clr := true },
  { base := 0x0C00AC, rw := 0xFFFFFFFF, clr := true },
  { base := 0x0C00B0, rw := 0xFFFFFFFF, clr := true },
  { base := 0x0C00B4, rw := 0xFFFFFFFF, clr := true },
  { base := 0x0C00B8, rw := 0xFFFFFFFF, clr := true },
  { base := 0x0C00BC, rw := 0xFFFFFFFF, clr := true },
  { base := 0x0C00C0, w1c := 0x7FFF },
  { base := 0x0C1000, dims := [(32, 256)], oa := 0xFFFFFFF, rst := 0x20 },
  { base := 0x0C1004, dims := [(32, 256)], oa := 0xFFFFFFFF },
  { base := 0x0C1008, dims := [(32, 256)], oa := 0xFFFFFFFF },
  { base := 0x0C100C, dims := [(32, 256)], oa := 0x1FFFF, rst := 0xC000 },
  { base := 0x0C1010, dims := [(32, 256)], oa := 0xFFFF00FF, rst := 0x3E80002 },
  { base := 0x0C1014, dims := [(32, 256)], oa := 0xFFFFFFFF },
  { base := 0x0C1018, dims := [(32, 256)], oa := 0x3FFF }]

/-- Rows of NET, continued. -/
def rows0Cb : List RegRow := [
  { base := 0x0C101C, dims := [(32, 256)], oa := 0xFFFF, rst := 0x5 },
  { base := 0x0C3000, dims := [(16, 256)], ro := 0xFFFFFFFF },
  { base := 0x0C3004, dims := [(16, 256)], ro := 0xFFFFFFFF },
  { base := 0x0C3008, dims := [(16, 256)], ro := 0xFFFFFFFF },
  { base := 0x0C300C, dims := [(16, 256)], ro := 0x7 },
  { base := 0x0C4000, dims := [(4, 4096)], oa := 0x3FFFFFFF },
  { base := 0x0C8000, dims := [(16, 256)], ro := 0xFFFFFF07 },
  { base := 0x0C8004, dims := [(16, 256)], ro := 0xFFFFFFFF },
  { base := 0x0C8008, dims := [(16, 256)], ro := 0xFFFFFFFF },
  { base := 0x0C800C, dims := [(16, 256)], ro := 0xFFFFFFFF },
  { base := 0x0CA000, dims := [(4, 4096)], oa := 0xFFFFFFFF }]

/-- Rows of NET, all. -/
def rows0C : List RegRow := rows0Ca ++ rows0Cb

/-- Rows of FLU. -/
def rows0D : List RegRow := [
  { base := 0x0D0000, ro := 0x7F3F7F },
  { base := 0x0D0004, oa := 0xFFFF07, stop := 0x3, rst := 0x101005 },
  { base := 0x0D0008, ro := 0xFFFF0000, oa := 0xFFFF },
  { base := 0x0D000C, ro := 0x37F3F },
  { base := 0x0D0010, ro := 0xFFFFFFFF },
  { base := 0x0D0014, ro := 0xFFFFFFFF },
  { base := 0x0D0018, ro := 0xFFFFFFFF },
  { base := 0x0D001C, ro := 0xFFFFFFFF },
  { base := 0x0D0020, dims := [(4, 2)], ro := 0xFFFFFFFF },
  { base := 0x0D0028, ro := 0xFFFFFFFF },
  { base := 0x0D002C, ro := 0xFFFFFFFF },
  { base := 0x0D0030, ro := 0xFFFFFFFF },
  { base := 0x0D0034, ro := 0xFFFFFFFF },
  { base := 0x0D0038, ro := 0xFFFFFFFF },
  { base := 0x0D003C, ro := 0xFFFFFFFF },
  { base := 0x0D0040, ro := 0x7F },
  { base := 0x0D0044, ro := 0xFFFFFFFF },
  { base := 0x0D0060, dims := [(4, 2)], rw := 0xFFFFFFFF, clr := true },
  { base := 0x0D0068, rw := 0xFFFFFFFF, clr := true },
  { base := 0x0D006C, rw := 0xFFFFFFFF, clr := true },
  { base := 0x0D0070, rw := 0xFFFFFFFF, clr := true },
  { base := 0x0D0074, rw := 0xFFFFFFFF, clr := true },
  { base := 0x0D0078, rw := 0xFFFFFFFF, clr := true },
  { base := 0x0D007C, rw := 0xFFFFFFFF, clr := true },
  { base := 0x0D0080, w1c := 0x3FFF }]

/-- Rows of CAN. -/
def rows0E : List RegRow := [
  { base := 0x0E0000, dims := [(16384, 2)], st := 0x7F0F, rst := 0x8 },
  { base := 0x0E0004, dims := [(16384, 2)], st := 0x7F7FFFFF, rst := 0xF0F3E01 },
  { base := 0x0E0008, dims := [(16384, 2)], st := 0xF0F1F1F, rst := 0x3030E00 },
  { base := 0x0E000C, dims := [(16384, 2)], ro := 0x7FFFF03 },
  { base := 0x0E0010, dims := [(16384, 2)], rw := 0x1, act := 0x1 },
  { base := 0x0E0014, st := 0x3FF0007, rst := 0xA0000 },
  { base := 0x0E4014 },
  { base := 0x0E0018, st := 0x1FFFFFFF },
  { base := 0x0E4018 },
  { base := 0x0E001C, ro := 0x7F },
  { base := 0x0E401C },
  { base := 0x0E0020, dims := [(16384, 2), (4, 2)], ro := 0x3F00, st := 0x1F },
  { base := 0x0E0030, dims := [(16384, 2)], rw := 0xFFFFFFFF, clr := true },
  { base := 0x0E0034, dims := [(16384, 2)], rw := 0xFFFFFFFF, clr := true },
  { base := 0x0E0038, dims := [(16384, 2)], rw := 0xFFFFFFFF, clr := true },
  { base := 0x0E003C, dims := [(16384, 2)], rw := 0xFFFFFFFF, clr := true },
  { base := 0x0E0040, dims := [(16384, 2)], rw := 0xFFFFFFFF, clr := true },
  { base := 0x0E0044, dims := [(16384, 2)], rw := 0xFFFFFFFF, clr := true },
  { base := 0x0E0048, dims := [(16384, 2)], rw := 0xFFFFFFFF, clr := true },
  { base := 0x0E004C, dims := [(16384, 2)], w1c := 0xFF },
  { base := 0x0E0100, dims := [(16384, 2), (8, 16)], st := 0xBFFFFFFF },
  { base := 0x0E0104, dims := [(16384, 2), (8, 16)], st := 0x3FFFFFFF },
  { base := 0x0E0200, dims := [(16384, 2), (4, 64)], st := 0x3FFFFFF, rst := 0x3C },
  { base := 0x0E1000, dims := [(16384, 2), (80, 64)], rw := 0xFFFFFFFF },
  { base := 0x0E1004, dims := [(16384, 2), (80, 64)], rw := 0x30F, ro := 0x1F0F0, w1c := 0xC00, act := 0x300 },
  { base := 0x0E1008, dims := [(16384, 2), (80, 64)], ro := 0xFFFFFFFF },
  { base := 0x0E1010, dims := [(16384, 2), (80, 64), (4, 16)], rw := 0xFFFFFFFF }]

/-- Rows of HST. -/
def rows0F : List RegRow := [
  { base := 0x0F0000, ro := 0xFF },
  { base := 0x0F0004, ro := 0xFFFFFFFF, rst := 0x91641E9C },
  { base := 0x0F0008, lc := 0xFFFFFFFF },
  { base := 0x0F0100, dims := [(16, 16)], st := 0xFFFFFFFF },
  { base := 0x0F0104, dims := [(16, 16)], st := 0xFFFFFFFF },
  { base := 0x0F0108, dims := [(16, 16)], st := 0x7F },
  { base := 0x0F010C, dims := [(16, 16)], ro := 0xFFFFFFFF },
  { base := 0x0F0200, rw := 0xFFFFFFFF, clr := true },
  { base := 0x0F0204, rw := 0xFFFFFFFF, clr := true },
  { base := 0x0F0208, rw := 0xFFFFFFFF, clr := true },
  { base := 0x0F020C, rw := 0xFFFFFFFF, clr := true },
  { base := 0x0F0210, rw := 0xFFFFFFFF, clr := true },
  { base := 0x0F0214, rw := 0xFFFFFFFF, clr := true },
  { base := 0x0F0218, rw := 0xFFFFFFFF, clr := true },
  { base := 0x0F021C, rw := 0xFFFFFFFF, clr := true },
  { base := 0x0F0220, w1c := 0x1FF }]

/-- Rows of HRT. -/
def rows10 : List RegRow := [
  { base := 0x100000, ro := 0xF },
  { base := 0x100004, dims := [(4, 6)], ro := 0xFFFFFFFF },
  { base := 0x10001C, oa := 0xFFFF, rst := 0x9B8C },
  { base := 0x100020, w1c := 0xF },
  { base := 0x100024, ro := 0xFFFFFFFF },
  { base := 0x100028, ro := 0xFFFFFFFF },
  { base := 0x10002C, ro := 0xFFFF03FF },
  { base := 0x100030, dims := [(4, 2)], ro := 0xFFFFFFFF },
  { base := 0x100038, rw := 0xFFFFFFFF, clr := true },
  { base := 0x10003C, rw := 0xFFFFFFFF, clr := true },
  { base := 0x100040, rw := 0xFFFFFFFF, clr := true },
  { base := 0x100044, rw := 0xFFFFFFFF, clr := true },
  { base := 0x100048, rw := 0xFFFFFFFF, clr := true },
  { base := 0x10004C, rw := 0xFFFFFFFF, clr := true },
  { base := 0x100050, rw := 0xFFFFFFFF, clr := true },
  { base := 0x100054, rw := 0xFFFFFFFF, clr := true },
  { base := 0x100058, rw := 0xFFFFFFFF, clr := true },
  { base := 0x10005C, w1c := 0x1FFF },
  { base := 0x100100, ro := 0x3F },
  { base := 0x100104, dims := [(4, 4)], ro := 0xFFFFFFFF },
  { base := 0x100114, ro := 0x1F },
  { base := 0x100118, oa := 0xFFFFFFFF },
  { base := 0x10011C, ro := 0xFFFFFFFF },
  { base := 0x100120, ro := 0xFFFFFFFF },
  { base := 0x100124, ro := 0xF },
  { base := 0x100128, w1c := 0x1FF },
  { base := 0x108000, dims := [(4, 8192)], ro := 0xFFFFFFFF }]

/-- Rows of BAR0 control words. -/
def rows100 : List RegRow := [
  { base := 0x1000FC0, dims := [(4096, 16)], rw := 0x80FF0FFF, act := 0x80FF0FFF },
  { base := 0x1000FC4, dims := [(4096, 16)], ro := 0xF, w1c := 0x10, rst := 0x1 },
  { base := 0x1000FC8, dims := [(4096, 16)], ro := 0x80FF0FFF },
  { base := 0x1000FCC, dims := [(4096, 16)], rw := 0x1, act := 0x1 },
  { base := 0x1000FD0, dims := [(4096, 16)], rw := 0x1 },
  { base := 0x1000FE0, dims := [(4096, 16)], rw := 0xFF },
  { base := 0x1000FE4, dims := [(4096, 16)], ro := 0xFF },
  { base := 0x1000FE8, dims := [(4096, 16)], rw := 0x81FFFFFF, rst := 0x1000001 },
  { base := 0x1000FEC, dims := [(4096, 16)], ro := 0x7F },
  { base := 0x1000FF0, dims := [(4096, 16)], rw := 0x1, act := 0x1 },
  { base := 0x1000FF4, dims := [(4096, 16)], ro := 0xFFFFFFFF }]

/-- The rows of a block, by bits [23:16] of the address (R3); 0x100 is the model's own region for the
BAR0 control words (R441), which no register command reaches. -/
def rowsOf (blk : Nat) : List RegRow :=
  match blk with
  | 0x1 => rows01
  | 0x2 => rows02
  | 0x3 => rows03
  | 0x4 => rows04
  | 0x5 => rows05
  | 0x6 => rows06
  | 0x7 => rows07
  | 0x8 => rows08
  | 0x9 => rows09
  | 0xA => rows0A
  | 0xB => rows0B
  | 0xC => rows0C
  | 0xD => rows0D
  | 0xE => rows0E
  | 0xF => rows0F
  | 0x10 => rows10
  | 0x100 => rows100
  | _ => []

end Sys2Proof.Machine
end

