-- ==== Sys2Proof/Machine/Ops.lean ====
section
/-! DEFINITION. The named operations over the register file, time and angle that every meaning uses. -/

namespace Sys2Proof.Machine

/-! ## The register file -/

/-- Array indices of a byte offset, outer first. -/
def dimsIndex : List (Nat × Nat) → Nat → Option (List Nat)
  | [], off => if off = 0 then some [] else none
  | (s, c) :: ds, off => if off / s < c then (dimsIndex ds (off % s)).map (off / s :: ·) else none

/-- The row's indices of an address, if it lies in the row. -/
def RegRow.find (r : RegRow) (a : Nat) : Option (List Nat) :=
  if a < r.base then none else dimsIndex r.dims (a - r.base)

/-- First row of a list that holds an address. -/
def rowIn : List RegRow → Nat → Option (RegRow × List Nat)
  | [], _ => none
  | r :: rs, a => match r.find a with
    | some ix => some (r, ix)
    | none => rowIn rs a

/-- The register map's row of an address (R3, R4): none where it is unassigned or not a multiple of 4. -/
def rowAt (a : Nat) : Option (RegRow × List Nat) := rowIn (rowsOf (a / 65536)) a

/-- The reset value of a row's register. -/
def RegRow.reset (r : RegRow) (ix : List Nat) : Word :=
  let i := ix.getLastD 0
  BitVec.ofNat 32 (r.rstTab.getD i (r.rst + i * r.rstMul))

/-- The reset value of the register at an address (R13; zero where unassigned). -/
def resetWord (a : Nat) : Word :=
  match rowAt a with
  | some (r, ix) => r.reset ix
  | none => 0

/-- The word of a register. -/
def Dev.word (d : Dev) (a : Nat) : Word := Mem.getD d.regs a (resetWord a)

/-- A register's word replaced. -/
def Dev.setWord (d : Dev) (a : Nat) (w : Word) : Dev := { d with regs := Mem.set d.regs a w (resetWord a) }

/-- The field of an array element. -/
def Fld.ix (f : Fld) (i : Nat) : Fld := { f with addr := f.addr + f.strides.headD 0 * i, strides := f.strides.tail }

/-- The whole word of a field's register. -/
def Fld.whole (f : Fld) : Fld := { f with hi := 31, lo := 0 }

/-- Greatest number a field holds. -/
def Fld.max (f : Fld) : Nat := 2 ^ (f.hi - f.lo + 1) - 1

/-- A field's number. -/
def Dev.get (d : Dev) (f : Fld) : Nat := wbits (d.word f.addr) f.hi f.lo

/-- A field written by the hardware. -/
def Dev.put (d : Dev) (f : Fld) (v : Nat) : Dev := d.setWord f.addr (wset (d.word f.addr) f.hi f.lo v)

/-- A one-bit field as a truth value. -/
def Dev.flag (d : Dev) (f : Fld) : Bool := d.get f != 0

/-- A one-bit field set from a truth value. -/
def Dev.putB (d : Dev) (f : Fld) (b : Bool) : Dev := d.put f (if b then 1 else 0)

/-- A field holding an integer in two's complement. -/
def Dev.putI (d : Dev) (f : Fld) (i : Int) : Dev := d.put f (wrap (f.hi - f.lo + 1) i)

/-- A saturating counter advanced. (DEDUCED, log entry 116.) -/
def Dev.bump (d : Dev) (f : Fld) (n : Nat := 1) : Dev := d.put f (min f.max (d.get f + n))

/-- A wrapping counter advanced. -/
def Dev.wrapInc (d : Dev) (f : Fld) (n : Nat := 1) : Dev := d.put f (d.get f + n)

/-- Bit `i` of a field set. -/
def Dev.setIn (d : Dev) (f : Fld) (i : Nat) : Dev := d.put f (setBit (d.get f) i)

/-- Bit `i` of a field cleared. -/
def Dev.clrIn (d : Dev) (f : Fld) (i : Nat) : Dev := d.put f (clrBit (d.get f) i)

/-- Bit `i` of a field set or cleared. -/
def Dev.putIn (d : Dev) (f : Fld) (i : Nat) (b : Bool) : Dev := d.put f (putBit (d.get f) i b)

/-- Bit `i` of a field. -/
def Dev.bitIn (d : Dev) (f : Fld) (i : Nat) : Bool := (d.get f).testBit i

/-- Element `i` of a list changed. -/
def upd {α : Type} (l : List α) (i : Nat) (f : α → α) : List α := l.modify i f

/-- Apply a change once for each element, in order. -/
def Dev.forAll {α : Type} (d : Dev) (l : List α) (f : Dev → α → Dev) : Dev := l.foldl f d

/-- A change applied only where a condition holds. -/
def Dev.when (d : Dev) (b : Bool) (f : Dev → Dev) : Dev := if b then f d else d

/-! ## Time and angle -/

/-- PWM clocks per microsecond, per millisecond (a tick), per second (Table 1-5). -/
def usec : Nat := 500
def msec : Nat := 500000
def second : Nat := 500000000

/-- The present instant in PWM clocks. -/
def Dev.now (d : Dev) : Nat := d.time.now

/-- `n` PWM clocks pass: once the PWM domain runs (row 3 of kindling, R352) the accumulator advances by ANG_INC at
each (R41); the PTP clock advances by 2 ns with its frequency adjustment (R381).
(DESIGN CHOICE, log entry 2; DEDUCED, log entry 19.) -/
def Dev.advance (d : Dev) (n : Nat) : Dev :=
  if n = 0 then d else
  { d with time := { d.time with
      now := d.time.now + n
      phase := if d.cpr.rows.testBit 3 then d.time.phase + n * d.get F.ANG_INC else d.time.phase
      ptp := ((d.time.ptp : Int) + 2 * n * (2 ^ 32 + d.time.ptpAdj)).toNat } }

/-! ### The CORE clock (R29, R349) -/

/-- Excursion of a CORE profile in 0.01 % (Table 15-1, R91). -/
def sscExcursion (sel : Nat) : Nat := [0, 50, 100, 200, 50, 100].getD sel 0

/-- The triangle 0, 1, 0 over a period of 10^6 steps, summed up to step `a`, in 10^-12 of a period. -/
def triSum (a : Nat) : Nat := if a ≤ 500000 then a * a else 500000000000 - (1000000 - a) * (1000000 - a)

/-- CORE clocks of a profile in `t` PWM clocks from a modulation-period start: the sweep is a triangle at 31.5 kHz
(R349), 63 periods in 10^6 PWM clocks. (DESIGN CHOICE, log entry 129.) -/
def coreClocks (sel t : Nat) : Nat :=
  let e := sscExcursion sel
  let k := t * 63 / 1000000
  let a := t * 63 % 1000000
  if e = 0 then 2 * t
  else if sel < 4 then 2 * t - ceilDiv (e * (k * 500000000000 + triSum a)) 315000000000
  else
    let g := if a < 500000 then triSum (2 * a) else 500000000000 - triSum (2 * a - 1000000)
    2 * t + e * g / 630000000000

/-- CORE clocks since power-on: those counted when the profile in force began, and those since. -/
def Dev.coreNow (d : Dev) (now : Nat) : Nat := d.cpr.coreAt + coreClocks d.cpr.ssc (now - d.cpr.sscAt)

/-- Time passes up to an instant; nothing where it has passed already. -/
def Dev.advanceTo (d : Dev) (t : Nat) : Dev := d.advance (t - d.time.now)

/-- PWM clocks of an ANA clock, whose edges fall on whole multiples of it. (DESIGN CHOICE, log entry 157.) -/
def anaClk : Nat := 5

/-- The first edge of the ANA clock, by its number, not before an instant. -/
def anaEdge (t : Nat) : Nat := ceilDiv t anaClk

/-- Time passes until the PTP clock reaches an instant, ns. -/
def Dev.toPtp (d : Dev) (ns : Nat) : Dev :=
  let rate := (2 * (2 ^ 32 + d.time.ptpAdj)).toNat
  d.advance (ceilDiv (ns * 2 ^ 32 - d.time.ptp) rate)

/-- Samples per line cycle S (SDM_CFG.S_SEL). -/
def Dev.S (d : Dev) : Nat := 256 <<< d.get F.SDM_CFG_S_SEL

/-- Carriers per line cycle C = 2^(C_SEL + 4). -/
def Dev.C (d : Dev) : Nat := 2 ^ (d.get F.PWM_CFG_C_SEL + 4)

/-- The common angle: accumulator bits [47:16] (R41). -/
def Dev.theta (d : Dev) : Nat := d.time.phase / 65536 % 2 ^ 32

/-- The interleave offset in accumulator units (R30). -/
def Dev.phi48 (d : Dev) : Nat := d.get F.ANG_PHI * 65536

/-- The shifted angle of the device's own frames and carriers. -/
def Dev.thetaShifted (d : Dev) : Nat := (d.theta + 2 ^ 32 - d.get F.ANG_PHI) % 2 ^ 32

/-- Time passes until the accumulator reaches a phase (R7: the first update that equals or passes it). -/
def Dev.toPhase (d : Dev) (p : Nat) : Dev :=
  let inc := d.get F.ANG_INC
  if p ≤ d.time.phase ∨ inc = 0 then d else d.advance (ceilDiv (p - d.time.phase) inc)

/-- The index of the boundary of a series (spacing `u`, offset `off`, next index `next`) that comes to
pass now: the next one, or the latest passed where boundaries have been left behind. -/
def Dev.seriesIndex (d : Dev) (u off next : Nat) : Nat := max next ((d.time.phase - off) / u)

/-- The fine offset of an event whose phase has just been passed, in taps of 15.625 ps (R43). -/
def Dev.fineTaps (d : Dev) (p : Nat) : Nat :=
  let inc := d.get F.ANG_INC
  if inc = 0 then 0 else 128 * (d.time.phase - p) / inc

/-- The accumulator at a PWM clock that has passed, along its course. -/
def Dev.phaseAt (d : Dev) (t : Nat) : Int :=
  match d.ang.trail.find? fun s => s.at_ ≤ t with
  | some s => s.phase + (t - s.at_) * s.inc
  | none => (d.time.phase : Int) - (d.now - t) * d.get F.ANG_INC

/-- The instant in taps at which the accumulator's course passed a phase: within a stretch, or at the end of one where a snap
jumped over it; `stop` is where the newest stretch ends. -/
def crossTap (p : Nat) : List AngSeg → Nat → Nat
  | [], stop => 128 * stop
  | s :: l, stop =>
    if p < s.phase && !l.isEmpty then crossTap p l s.at_
    else min (128 * stop) (128 * s.at_ + ceilDiv (128 * (p - s.phase)) (max 1 s.inc))

/-- The true crossing of a phase that has been passed, in taps (R43, R234). -/
def Dev.crossedAt (d : Dev) (p : Nat) : Nat :=
  if d.ang.trail.isEmpty then 128 * d.now - d.fineTaps p else crossTap p d.ang.trail d.now

/-- PTP time at the true crossing of a phase that has been passed (R43, R69). -/
def Dev.stampPtp (d : Dev) (p : Nat) : Nat := d.time.ptp - (128 * d.now - d.crossedAt p) * 2 ^ 26

/-- PTP time: nanoseconds, whole. -/
def Dev.ptpNs (d : Dev) : Nat := d.time.ptp / 2 ^ 32
/-- PTP seconds. -/
def Dev.ptpSec (d : Dev) : Nat := d.ptpNs / 1000000000
/-- Nanoseconds within the PTP second. -/
def Dev.ptpSub (d : Dev) : Nat := d.ptpNs % 1000000000

/-- PTP time is valid (R381). -/
def Dev.ptpOk (d : Dev) : Bool := d.flag F.NET_STATUS_PTP_VALID

/-- The TIME word of a log entry (Table 21-2). -/
def Dev.logTime (d : Dev) : Nat :=
  d.ptpSub + (d.ptpSec % 2 ^ 32) * 2 ^ 30 + (if d.ptpOk then 2 ^ 62 else 0)

/-- The next free value of the model: a value the manual leaves open (Config.freeValue, never evaluated). -/
def Dev.fresh (d : Dev) : Nat × Dev :=
  (Config.freeValue d.time.free, { d with time := { d.time with free := d.time.free + 1 } })

/-- GSV's operating state (Table 12-2). -/
def Dev.gsv (d : Dev) : Nat := d.get F.GSV_STATUS_STATE

/-- GSV in OFF or READY: "stopped" of R22. -/
def Dev.stopped (d : Dev) : Bool := d.gsv ≤ 1

/-- The life-cycle state is SERVICE (Table 22-7). -/
def Dev.service (d : Dev) : Bool := d.get F.HRT_LC_STATE == 3

/-- DEV_ID, 16 bytes (Table 8-9), as HRT_DEV_ID holds it. -/
def Dev.devId (d : Dev) : List Byte := (List.range 4).flatMap fun i => leBytes 4 (d.get (F.HRT_DEV_ID.ix i))

end Sys2Proof.Machine
end

