-- ==== Sys2Proof/Machine/Sha384.lean ====
section
/-! DEFINITION. SHA-384, which the log chain (R477, R478), the signed records (R209, R482) and the trust
chapter name. The manual does not restate it: the function is FIPS 180-4's (PRESUMED). -/

namespace Sys2Proof.Machine

/-- Round constants 0 to 39. -/
def shaKa : List Nat := [
  0x428A2F98D728AE22, 0x7137449123EF65CD, 0xB5C0FBCFEC4D3B2F, 0xE9B5DBA58189DBBC,
  0x3956C25BF348B538, 0x59F111F1B605D019, 0x923F82A4AF194F9B, 0xAB1C5ED5DA6D8118,
  0xD807AA98A3030242, 0x12835B0145706FBE, 0x243185BE4EE4B28C, 0x550C7DC3D5FFB4E2,
  0x72BE5D74F27B896F, 0x80DEB1FE3B1696B1, 0x9BDC06A725C71235, 0xC19BF174CF692694,
  0xE49B69C19EF14AD2, 0xEFBE4786384F25E3, 0x0FC19DC68B8CD5B5, 0x240CA1CC77AC9C65,
  0x2DE92C6F592B0275, 0x4A7484AA6EA6E483, 0x5CB0A9DCBD41FBD4, 0x76F988DA831153B5,
  0x983E5152EE66DFAB, 0xA831C66D2DB43210, 0xB00327C898FB213F, 0xBF597FC7BEEF0EE4,
  0xC6E00BF33DA88FC2, 0xD5A79147930AA725, 0x06CA6351E003826F, 0x142929670A0E6E70,
  0x27B70A8546D22FFC, 0x2E1B21385C26C926, 0x4D2C6DFC5AC42AED, 0x53380D139D95B3DF,
  0x650A73548BAF63DE, 0x766A0ABB3C77B2A8, 0x81C2C92E47EDAEE6, 0x92722C851482353B]

/-- Round constants 40 to 79. -/
def shaKb : List Nat := [
  0xA2BFE8A14CF10364, 0xA81A664BBC423001, 0xC24B8B70D0F89791, 0xC76C51A30654BE30,
  0xD192E819D6EF5218, 0xD69906245565A910, 0xF40E35855771202A, 0x106AA07032BBD1B8,
  0x19A4C116B8D2D0C8, 0x1E376C085141AB53, 0x2748774CDF8EEB99, 0x34B0BCB5E19B48A8,
  0x391C0CB3C5C95A63, 0x4ED8AA4AE3418ACB, 0x5B9CCA4F7763E373, 0x682E6FF3D6B2B8A3,
  0x748F82EE5DEFB2FC, 0x78A5636F43172F60, 0x84C87814A1F0AB72, 0x8CC702081A6439EC,
  0x90BEFFFA23631E28, 0xA4506CEBDE82BDE9, 0xBEF9A3F7B2C67915, 0xC67178F2E372532B,
  0xCA273ECEEA26619C, 0xD186B8C721C0C207, 0xEADA7DD6CDE0EB1E, 0xF57D4F7FEE6ED178,
  0x06F067AA72176FBA, 0x0A637DC5A2C898A6, 0x113F9804BEF90DAE, 0x1B710B35131C471B,
  0x28DB77F523047D84, 0x32CAAB7B40C72493, 0x3C9EBE0A15C9BEBC, 0x431D67C49C100D4C,
  0x4CC5D4BECB3E42B6, 0x597F299CFC657E2A, 0x5FCB6FAB3AD6FAEC, 0x6C44198C4A475817]

/-- Initial hash value of SHA-384. -/
def sha384IV : List Nat := [
  0xCBBB9D5DC1059ED8, 0x629A292A367CD507, 0x9159015A3070DD17, 0x152FECD8F70E5939,
  0x67332667FFC00B31, 0x8EB44A8768581511, 0xDB0C2E0D64F98FA7, 0x47B5481DBEFA4FA4]

/-- Rotate right within 64 bits. -/
def rotr64 (n x : Nat) : Nat := (x >>> n) ||| ((x <<< (64 - n)) % 2 ^ 64)

/-- One more schedule word from the sixteen before it, newest first. -/
def shaW (w : List Nat) : Nat :=
  let a := w.getD 14 0
  let b := w.getD 1 0
  ((rotr64 1 a ^^^ rotr64 8 a ^^^ (a >>> 7)) + (rotr64 19 b ^^^ rotr64 61 b ^^^ (b >>> 6)) + w.getD 15 0 + w.getD 6 0) % 2 ^ 64

/-- The working variables a to h. -/
structure ShaVars where
  a : Nat
  b : Nat
  c : Nat
  d : Nat
  e : Nat
  f : Nat
  g : Nat
  h : Nat
  deriving DecidableEq, Repr

/-- One round with constant `k` and schedule word `w`. -/
def ShaVars.round (v : ShaVars) (k w : Nat) : ShaVars :=
  let t1 := v.h + (rotr64 14 v.e ^^^ rotr64 18 v.e ^^^ rotr64 41 v.e) + ((v.e &&& v.f) ^^^ ((v.e ^^^ (2 ^ 64 - 1)) &&& v.g)) + k + w
  let t2 := (rotr64 28 v.a ^^^ rotr64 34 v.a ^^^ rotr64 39 v.a) + ((v.a &&& v.b) ^^^ (v.a &&& v.c) ^^^ (v.b &&& v.c))
  { a := (t1 + t2) % 2 ^ 64, b := v.a, c := v.b, d := v.c, e := (v.d + t1) % 2 ^ 64, f := v.e, g := v.f, h := v.g }

/-- The rounds over the constants left; `w` holds the last sixteen schedule words, newest first. -/
def shaRounds : List Nat → List Nat → List Nat → ShaVars → ShaVars
  | [], _, _, v => v
  | k :: ks, x :: xs, w, v => shaRounds ks xs (x :: w.take 15) (v.round k x)
  | k :: ks, [], w, v =>
    let x := shaW w
    shaRounds ks [] (x :: w.take 15) (v.round k x)

/-- One 128-byte block. -/
def shaBlock (h : List Nat) (block : List Byte) : List Nat :=
  let ws := (List.range 16).map fun i => ofBE ((block.drop (8 * i)).take 8)
  let v := shaRounds (shaKa ++ shaKb) ws [] ⟨h.getD 0 0, h.getD 1 0, h.getD 2 0, h.getD 3 0, h.getD 4 0, h.getD 5 0, h.getD 6 0, h.getD 7 0⟩
  List.zipWith (fun x y => (x + y) % 2 ^ 64) h [v.a, v.b, v.c, v.d, v.e, v.f, v.g, v.h]

/-- The padded message. -/
def shaPad (m : List Byte) : List Byte :=
  let z := (128 - (m.length + 17) % 128) % 128
  m ++ [0x80] ++ List.replicate z 0 ++ beBytes 16 (8 * m.length)

/-- Blocks of a padded message, by count. -/
def shaFold : Nat → List Byte → List Nat → List Nat
  | 0, _, h => h
  | n + 1, m, h => shaFold n (m.drop 128) (shaBlock h (m.take 128))

/-- SHA-384 of a byte string, 48 bytes. -/
def sha384 (m : List Byte) : List Byte :=
  let p := shaPad m
  ((shaFold (p.length / 128) p sha384IV).take 6).flatMap (beBytes 8)

/-- HMAC with SHA-384 (RFC 2104). -/
def hmac384 (key msg : List Byte) : List Byte :=
  let k := if 128 < key.length then sha384 key else key
  let k := k ++ List.replicate (128 - k.length) 0
  sha384 (k.map (· ^^^ 0x5C) ++ sha384 (k.map (· ^^^ 0x36) ++ msg))

/-- The expansion of HKDF from block i + 1 on, `n` blocks, after the block `t`. -/
def hkdfBlocks (prk info : List Byte) : Nat → Nat → List Byte → List Byte
  | 0, _, _ => []
  | n + 1, i, t =>
    let t := hmac384 prk (t ++ info ++ [BitVec.ofNat 8 (i + 1)])
    t ++ hkdfBlocks prk info n (i + 1) t

/-- HKDF with SHA-384 (RFC 5869), `len` bytes. -/
def hkdf384 (ikm salt info : List Byte) (len : Nat) : List Byte :=
  (hkdfBlocks (hmac384 salt ikm) info ((len + 47) / 48) 0 []).take len

/-- The bytes of an ASCII string. -/
def ascii (s : String) : List Byte := s.toList.map fun c => BitVec.ofNat 8 c.toNat

end Sys2Proof.Machine
end

