-- ==== Sys2Proof/Machine/Events.lean ====
section
/-! DEFINITION. Raising an event: its flag, its class and routing (R263), the trip it causes (R261 to R274),
its log entries (R477 to R481), its record on the events ring (R483), and the recorders' triggers. -/

namespace Sys2Proof.Machine

/-! ## Event tables -/

/-- Event codes of each block's event tables, as ranges. -/
def eventRanges : List (Nat × Nat) :=
  [(0x0101, 0x0104), (0x0110, 0x0116), (0x0120, 0x0128), (0x0201, 0x020A), (0x0301, 0x030F), (0x0401, 0x0406),
   (0x0501, 0x0504), (0x0601, 0x0609), (0x0620, 0x0622), (0x0701, 0x0709), (0x0801, 0x080A), (0x0901, 0x0909),
   (0x0A01, 0x0A0B), (0x0B01, 0x0B0B), (0x0C01, 0x0C0F), (0x0D01, 0x0D0E), (0x0E01, 0x0E08), (0x0F01, 0x0F09),
   (0x1001, 0x100D), (0x1010, 0x1018)]

/-- A block's table defines the code (R264). -/
def eventDefined (code : Nat) : Bool := eventRanges.any fun (lo, hi) => decide (lo ≤ code ∧ code ≤ hi)

/-- Events of default class A. -/
def classAEvents : List Nat :=
  [0x0101, 0x0111, 0x0401, 0x0402, 0x0403, 0x0809, 0x0B01, 0x0B02, 0x0B03, 0x0B04, 0x0B06,
   0x1002, 0x1003, 0x1011, 0x1015, 0x1016, 0x1017]

/-- Events of default class B. -/
def classBEvents : List Nat :=
  [0x0112, 0x0205, 0x0208, 0x0303, 0x0304, 0x0305, 0x0306, 0x0307, 0x0308, 0x030A, 0x030B,
   0x0501, 0x0502, 0x0503, 0x0703, 0x0704, 0x0D09, 0x0D0A]

/-- Default class of an event (the event tables of the block chapters). -/
def defaultClass (code : Nat) : TripClass :=
  if classAEvents.contains code then .a else if classBEvents.contains code then .b else .d

/-- Events whose class and routing no setting changes: FBX_OVERRUN, FBX_MOD_NAN, CPR_PFAIL (R264). -/
def fixedEvents : List Nat := [0x0101, 0x0111, 0x0B05]

/-- Events their chapters send to the sticky region besides the class A ones. -/
def stickyEvents : List Nat :=
  [0x030E, 0x0602, 0x0604, 0x0801, 0x0808, 0x0B01, 0x0B03, 0x0B06, 0x0C07, 0x0C08, 0x0D07, 0x0D0B,
   0x1003, 0x1004, 0x1006, 0x1009, 0x1010, 0x1011, 0x1015, 0x1016, 0x1017]

/-- The event flag register and bit of a code; a CAN event's is its controller's (R436). -/
def evtFlag (code ctl : Nat) : Option (Fld × Nat) :=
  let n := code % 256
  match code / 256 with
  | 0x01 => if n < 0x10 then some (F.FBX_EVT_EVT, n - 1) else if n < 0x20 then some (F.FBX_KU_EVT_EVT, n - 0x10)
            else some (F.FBX_TC_EVT_EVT, n - 0x20)
  | 0x02 => some (F.ANG_EVT_EVT, n - 1)
  | 0x03 => some (F.GSV_EVT_EVT, n - 1)
  | 0x04 => some (F.SDM_EVT_EVT, n - 1)
  | 0x05 => some (F.SAR_EVT_EVT, n - 1)
  | 0x06 => if n < 0x20 then some (F.MET_EVT_EVT, n - 1) else some (F.PQ_EVT_EVT, n - 0x20)
  | 0x07 => some (F.PWM_EVT_EVT, n - 1)
  | 0x08 => some (F.DMP_EVT_EVT, n - 1)
  | 0x09 => some (F.GDR_EVT_EVT, n - 1)
  | 0x0A => some (F.DRT_EVT_EVT, n - 1)
  | 0x0B => some (F.CPR_EVT_EVT, n - 1)
  | 0x0C => some (F.NET_EVT_EVT, n - 1)
  | 0x0D => some (F.FLU_EVT_EVT, n - 1)
  | 0x0E => some (F.CAN_EVT_EVT.ix ctl, n - 1)
  | 0x0F => some (F.HST_EVT_EVT, n - 1)
  | 0x10 => if n < 0x10 then some (F.HRT_EVT_EVT, n - 1) else some (F.HRT_LC_EVT_EVT, n - 0x10)
  | _ => none

/-- Indices of the override entries in force (R263: an enabled entry that names the code). -/
def Dev.overrideOf (d : Dev) (code : Nat) : Option Nat :=
  (List.range 64).find? fun i => d.flag (F.DMP_EVT_OVR_EN.ix i) && d.get (F.DMP_EVT_OVR_CODE.ix i) == code

/-- The number of a class in records and override entries. -/
def TripClass.num : TripClass → Nat
  | .a => 0
  | .b => 1
  | .c => 2
  | .d => 3

/-- The class of a number. -/
def TripClass.ofNum : Nat → TripClass
  | 0 => .a
  | 1 => .b
  | 2 => .c
  | _ => .d

/-- Class and groups an event resolves to (R263, R264). -/
def Dev.resolve (d : Dev) (code : Nat) : TripClass × Nat :=
  let dflt := (defaultClass code, d.get (F.DMP_BLK_GRP.ix (code / 256 - 1)))
  if fixedEvents.contains code then dflt
  else match d.overrideOf code with
    | some i => (TripClass.ofNum (d.get (F.DMP_EVT_OVR_CLASS.ix i)), d.get (F.DMP_EVT_OVR_GRP.ix i))
    | none => dflt

/-! ## Event log -/

/-- The 64-bit DATA word of an event: zero with no item, the item where there is one, and for several
items a word whose packing the manual does not give. (DESIGN CHOICE, log entry 8.) -/
def dataWord (code : Nat) : List Nat → Nat
  | [] => 0
  | [x] => x % 2 ^ 64
  | xs => Config.packData code xs % 2 ^ 64

/-- Bytes 0 to 23 of an entry (Table 21-2). -/
def LogEntry.head (e : LogEntry) : List Byte :=
  leBytes 8 e.time ++ leBytes 4 e.angle ++ leBytes 2 e.code ++ leBytes 2 e.num ++ leBytes 8 (dataWord e.code e.data)

/-- The 32 bytes of an entry. -/
def LogEntry.bytes (e : LogEntry) : List Byte := e.head ++ e.tag

/-- The order of P-384 (R494). -/
def p384Order : Nat :=
  0xFFFFFFFFFFFFFFFFFFFFFFFFFFFFFFFFFFFFFFFFFFFFFFFFC7634D81F4372DDF581A0DB248B0A77AECEC196ACCC52973

/-- A private key derived from the identity seed under an info text (Table 22-1). -/
def seedKey (seed : Nat) (info : String) : Nat := 1 + ofBE (hkdf384 (beBytes 48 seed) [] (ascii info) 64) % (p384Order - 1)

/-- The genesis tag of a region (R478). -/
def Dev.genesis (d : Dev) (region : Nat) : List Byte :=
  (sha384 (d.devId ++ [BitVec.ofNat 8 region, 0x4C, 0x4F, 0x47])).take 8

/-- An entry chained from a tag (R477). -/
def chainEntry (prev : List Byte) (e : LogEntry) : LogEntry := { e with tag := (sha384 (prev ++ e.head)).take 8 }

/-- The tag the next entry of a region chains from. -/
def Dev.lastTag (d : Dev) (region : Nat) (l : List LogEntry) : List Byte :=
  match l.getLast? with
  | some e => e.tag
  | none => d.genesis region

/-- An event written to the normal region, which overwrites its oldest entry when full (R480). -/
def Dev.logNormal (d : Dev) (code : Nat) (items : List Nat) (time angle : Nat) : Dev :=
  let n := d.get F.HRT_LOG_NEXT
  let e := chainEntry (d.lastTag 0 d.log.normal) ⟨n, time, angle, code, items, []⟩
  let l := if d.log.normal.length < 10240 then d.log.normal else d.log.normal.tail
  { d with log := { d.log with normal := l ++ [e] } }.put F.HRT_LOG_NEXT (n + 1)

/-- The sticky region can take an entry: it has room, or its oldest entry has been exported (R480). -/
def Dev.stickyRoom (d : Dev) : Bool :=
  d.log.sticky.length < 2048 || (match d.log.sticky.head? with | some e => e.num < d.log.exported | none => true)

/-- An event written to the sticky region, where there is room. -/
def Dev.logSticky (d : Dev) (code : Nat) (items : List Nat) (time angle : Nat) : Dev :=
  let n := d.get F.HRT_STICKY_NEXT
  let e := chainEntry (d.lastTag 1 d.log.sticky) ⟨n, time, angle, code, items, []⟩
  let l := if d.log.sticky.length < 2048 then d.log.sticky else d.log.sticky.tail
  { d with log := { d.log with sticky := l ++ [e], fullRaised := false } }.put F.HRT_STICKY_NEXT (n + 1)

/-! ## Rings: room (R449 to R451) -/

/-- Descriptors of a ring: SIZE (Table 19-7). -/
def Dev.ringSize (d : Dev) (r : Nat) : Nat := 16 <<< d.get (F.HST_RING_SIZE_SEL.ix r)

/-- Descriptors the device owns, HEAD up to TAIL - 1 modulo SIZE (R450). -/
def Dev.ringOwned (d : Dev) (r : Nat) : Nat :=
  (d.get (F.RING_TAIL_TAIL.ix r) + d.ringSize r - d.get (F.RING_HEAD_HEAD.ix r)) % d.ringSize r

/-- Buffer lengths the device can count on: those read, and the least legal length of those not yet read. -/
def Dev.ringLens (d : Dev) (r : Nat) : List Nat :=
  let f := (d.hst.rings.getD r {}).fetched.map Desc.len
  f ++ List.replicate (d.ringOwned r - f.length) 64

/-- The buffers left after a record of `n` bytes has filled each in turn; none where they do not suffice. -/
def takeBuffers : List Nat → Nat → Option (List Nat)
  | ls, 0 => some ls
  | [], _ => none
  | l :: ls, n => takeBuffers ls (n - l)

/-- The buffers left after every waiting record and one more of `n` bytes. -/
def Dev.ringHasRoom (d : Dev) (r n : Nat) : Bool :=
  let ws := (d.hst.rings.getD r {}).waiting.map fun x => x.bytes.length
  ((ws ++ [n]).foldl (fun acc k => acc.bind fun ls => takeBuffers ls k) (some (d.ringLens r))).isSome

/-- The enabled ring of a use (Table 19-4). -/
def Dev.ringOfUse (d : Dev) (use : Nat) : Option Nat :=
  (List.range 16).find? fun r => d.flag (F.HST_RING_EN.ix r) && d.get (F.HST_RING_USE.ix r) == use

/-- A record put behind the others of a ring. -/
def Dev.ringQueue (d : Dev) (r : Nat) (x : Rec) : Dev :=
  { d with hst := { d.hst with rings := upd d.hst.rings r fun g => { g with waiting := g.waiting ++ [x] } } }

/-- The events ring's record of a raised event (R483): 24 bytes of the entry, TYPE, class, FLAGS. -/
def eventRecord (e : LogEntry) (cls : TripClass) (unlogged : Bool) : List Byte :=
  e.head ++ leBytes 2 0x5802 ++ leBytes 1 cls.num ++ leBytes 1 (if unlogged then 1 else 0) ++ leBytes 4 0

/-- The events ring receives the event where its filter passes it; with no room it is dropped and counted. -/
def Dev.eventToRing (d : Dev) (code : Nat) (items : List Nat) (cls : TripClass) (num : Nat) (unlogged : Bool) : Dev :=
  if cls.num ≤ d.log.filterClass && d.log.filterBlocks.testBit (code / 256) then
    match d.ringOfUse 3 with
    | none => d
    | some r =>
      if d.ringHasRoom r 32 && d.get (F.RING_STAT_STATE.ix r) != 3 then
        d.ringQueue r ⟨.events, eventRecord ⟨num, d.logTime, d.theta, code, items, []⟩ cls unlogged⟩
      else d.bump F.HRT_EVT_DROP_CNT
  else d

/-! ## Recorder triggers -/

/-- An event matches a code and mask as type 4 of Table 5-2: the trace and capture events never do. -/
def codeMatches (code c m : Nat) : Bool := (code < 0x0120 || 0x012F < code) && (code &&& m) == (c &&& m)

/-- The event as seen by the trace trigger of type 4 and the capture sources [22:19]. -/
def Dev.recorderSees (d : Dev) (code : Nat) : Dev :=
  let ev := d.get F.TRC_TRIG_TYPE == 4 && codeMatches code (d.get F.TRC_CODE_CODE) (d.get F.TRC_CODE_MASK)
  let bits := (List.range 4).foldl (fun acc j =>
    let c := d.get (F.CAP_CODE_CODE.ix j)
    let m := d.get (F.CAP_CODE_MASK.ix j)
    if (c != 0 || m != 0) && codeMatches code c m then setBit acc (19 + j) else acc) 0
  { d with trc := { d.trc with evSeen := d.trc.evSeen || ev },
           cap := { d.cap with happened := d.cap.happened ||| bits } }

/-! ## Trips -/

/-- Groups latched (R261). -/
def Dev.latched (d : Dev) : Nat := d.dmp.latchA ||| d.dmp.holdB

/-- Groups holding class C by a source latch. -/
def Dev.cycleGroups (d : Dev) : Nat :=
  d.dmp.latches.foldl (fun acc l => if l.cls = .c then acc ||| l.grps else acc) 0

/-- Legs a group mask names (LEG_MASK). -/
def Dev.legsOf (d : Dev) (grps : Nat) : Nat :=
  (bitList 8 grps).foldl (fun acc g => acc ||| d.get (F.DMP_GRP_LEG_MASK.ix g)) 0

/-- Legs held off: by a latched group, by a class C latch, by the cessation hold (R262, R282), by the
power-fail hold (R358) and a warm reset (R360). -/
def Dev.heldLegs (d : Dev) : Nat :=
  let cease := if d.flag F.GSV_STATUS_HOLD then d.get F.GSV_CFG_CEASE_GRP else 0
  if d.flag F.CPR_STATUS_PFAIL || d.cpr.warm then 0xFFF else d.legsOf (d.latched ||| d.cycleGroups ||| cease)

/-- Draught bridges held (R262, R358). -/
def Dev.heldBridges (d : Dev) : Nat :=
  if d.flag F.CPR_STATUS_PFAIL || d.cpr.warm then 3
  else (bitList 8 d.latched).foldl (fun acc g => acc ||| d.get (F.DMP_GRP_DRT_MASK.ix g)) 0

/-- The instant a leg tripped now is all off (R267): TOPO 0 at once, the others after T_SEQ. -/
def Dev.startSequence (d : Dev) (n : Nat) : LegSeq :=
  if d.get (F.PWM_LEG_CFG_TOPO.ix n) = 0 then .off else .seq (d.now + 5 * d.get (F.DMP_LEG_SEQ_T_SEQ.ix n))

/-- A group's legs are all off. -/
def Dev.legsAllOff (d : Dev) (legs : Nat) : Bool :=
  (bitList 12 legs).all fun n => d.dmp.legs.getD n .free == .off

/-- Groups all of whose legs are off start the delays of their contactor outputs (R270). -/
def Dev.contactorStart (d : Dev) : Dev :=
  (bitList 8 d.dmp.openWait).foldl (fun d g =>
    if d.legsAllOff (d.get (F.DMP_GRP_LEG_MASK.ix g)) then
      let ks := bitList 8 (d.get (F.DMP_GRP_CTL_MASK.ix g))
      let delay (k : Nat) : Nat := if d.get (F.DMP_GRP_LEG_MASK.ix g) = 0 then 0 else msec * d.get (F.DMP_CTL_OPEN_DLY.ix k)
      { d with dmp := { d.dmp with
          openWait := clrBit d.dmp.openWait g
          opening := d.dmp.opening ++ ks.map fun k => (k, d.now + delay k) } }
    else d) d

/-- Outputs a latched group names. -/
def Dev.ctlHeld (d : Dev) : Nat := (bitList 8 d.latched).foldl (fun acc g => acc ||| d.get (F.DMP_GRP_CTL_MASK.ix g)) 0

/-- A group that is latched no longer opens no contactor: neither one that waits for its legs nor one whose delay runs, where
no other latched group names it (R270, R545). (DEDUCED, log entry 147.) -/
def Dev.contactorDrop (d : Dev) : Dev :=
  { d with dmp := { d.dmp with
      openWait := d.dmp.openWait &&& d.latched
      opening := d.dmp.opening.filter fun (k, _) => d.ctlHeld.testBit k } }

/-- Contactor outputs whose delay has run out open (R270). -/
def Dev.contactorDue (d : Dev) : Dev :=
  let due := d.dmp.opening.filter fun (_, t) => t ≤ d.now
  { d with dmp := { d.dmp with
      opening := d.dmp.opening.filter fun (_, t) => d.now < t
      want := due.foldl (fun o (k, _) => clrBit o k) d.dmp.want
      ctlOut := due.foldl (fun o (k, _) => clrBit o k) d.dmp.ctlOut } }

/-- The instant of an edge at its ball, taps: 10 ns after its ideal time (R234). -/
def PwmEdge.ball (e : PwmEdge) : Int := e.tap + 640

/-- The level an output's edges give it at an instant (R230: true is active). -/
def edgeLevel (l : List PwmEdge) (o : Nat) (t : Int) : Bool :=
  l.foldl (fun v e => if e.out = o ∧ e.ball ≤ t then e.on else v) false

/-- Output i of a leg counts as inner by TOPO (R229, R267). -/
def innerOut (topo i : Nat) : Bool := topo == 3 || (topo == 1 && i == 1) || (topo == 2 && i == 0)

/-- An output goes inactive at an instant `off`, and until then no edge makes it active (R267, R268). -/
def forceOut (l : List PwmEdge) (o : Nat) (now off : Int) : List PwmEdge :=
  let l := l.filter fun e => e.out != o || decide (e.ball ≤ now) || (!e.on && decide (e.ball ≤ off))
  if edgeLevel l o off then l ++ [⟨o, off - 640, false⟩] else l

/-- A leg's outputs go inactive by its topology (R267). -/
def Dev.forceLeg (d : Dev) (n : Nat) : Dev :=
  let topo := d.get (F.PWM_LEG_CFG_TOPO.ix n)
  let now : Int := 128 * d.now
  let late : Int := now + 640 * d.get (F.DMP_LEG_SEQ_T_SEQ.ix n)
  let one (l : List PwmEdge) (i : Nat) : List PwmEdge := forceOut l (2 * n + i) now (if innerOut topo i then late else now)
  { d with pwm := { d.pwm with edges := one (one d.pwm.edges 0) 1 } }

/-- Legs newly held start their safe sequence (R267); one already in a sequence keeps its timing (R269). -/
def Dev.holdUpdate (d : Dev) : Dev :=
  let h := d.heldLegs
  let d := d.forAll ((bitList 12 h).filter fun n => d.dmp.legs.getD n .free == .free) Dev.forceLeg
  let legs := (List.range 12).map fun n =>
    let s := d.dmp.legs.getD n .free
    if h.testBit n && s == .free then d.startSequence n else s
  ({ d with dmp := { d.dmp with held := h, legs := legs, drtHeld := d.heldBridges } }).contactorDrop.contactorStart.contactorDue

/-- The class B window of R273 for a group tripping now: whether this trip escalates, and the window after it.
(DEDUCED, log entry 29.) -/
def Dev.bTrip (d : Dev) (g : Nat) : Bool × (Nat × Nat) :=
  let (t0, n) := d.dmp.bWin.getD g (0, 0)
  let (t0, n) := if n = 0 ∨ t0 + second * d.get (F.DMP_GRP_RB_WIN.ix g) < d.now then (d.now, 0) else (t0, n)
  (decide (d.get (F.DMP_GRP_RB_N.ix g) ≤ n), (t0, n + 1))

/-- The source of a trip as the data of DMP_TRIP_A and DMP_TRIP_B: source index or event code. -/
def TripSrc.num : TripSrc → Nat
  | .hw i => i
  | .event c => c
  | .manual => 0x080A

/-- A latch added; one already there with the class and groups is not doubled. One that reaches no group holds none, and its
source still shows latched. -/
def Dev.addLatch (d : Dev) (l : Latch) : Dev :=
  if d.dmp.latches.contains l then d else { d with dmp := { d.dmp with latches := d.dmp.latches ++ [l] } }

/-- Marks the latching of groups: counters, capture's trip sources, the record flag; a pending activation is
cancelled (R489). (DEDUCED, log entry 54.) -/
def Dev.noteLatched (d : Dev) (newGrps : Nat) : Dev :=
  if newGrps = 0 then d else
  let d := (bitList 8 newGrps).foldl (fun d g => d.bump (F.DMP_TRIP_CNT.ix g)) d
  { d with cap := { d.cap with happened := d.cap.happened ||| (newGrps &&& d.get F.CAP_TRIP) },
           marks := { d.marks with trip := some ⟨d.time.frames, d.time.samples⟩ },
           hrt := { d.hrt with act := none } }

/-- Class A in groups (R266, R274): a class B wait ends, a lockout count is made where some group becomes
class A, and the lockout is declared when the count reaches LOCK_N. (DEDUCED, log entry 31.) -/
def Dev.tripA (raise : Nat → List Nat → Dev → Dev) (d : Dev) (src : TripSrc) (grps : Nat) : Dev :=
  let fresh := andNot grps d.latched
  let newA := andNot grps d.dmp.latchA
  let d := d.addLatch ⟨src, .a, grps⟩
  if newA = 0 then d else
  let d := { d with dmp := { d.dmp with
      latchA := d.dmp.latchA ||| grps
      holdB := andNot d.dmp.holdB grps
      onlyB := false
      bWait := (List.range 8).map fun g => if grps.testBit g then none else d.dmp.bWait.getD g none
      openWait := d.dmp.openWait ||| fresh
      lockTimes := if d.service || d.dmp.lockTimes.getLast? == some d.now then d.dmp.lockTimes else d.dmp.lockTimes ++ [d.now] } }
  let d := (d.noteLatched fresh).holdUpdate
  let d := d.put F.DMP_LOCKOUT_CNT_CNT (min 15 d.dmp.lockTimes.length)
  let d := raise 0x0801 [src.num, newA] d
  if !d.dmp.lockout && d.get F.DMP_LOCKOUT_CFG_LOCK_N ≤ d.dmp.lockTimes.length then
    raise 0x0808 [] { d with dmp := { d.dmp with lockout := true } }
  else d

/-- Class B in groups (R273): groups newly latched start their restart wait and count in their window;
a trip beyond RB_N is treated as class A. -/
def Dev.tripB (raise : Nat → List Nat → Dev → Dev) (d : Dev) (src : TripSrc) (grps : Nat) : Dev :=
  let fresh := andNot grps d.latched
  let esc := (bitList 8 fresh).foldl (fun acc g => if (d.bTrip g).1 then setBit acc g else acc) 0
  let newB := andNot fresh esc
  let d := { d with dmp := { d.dmp with
      bWin := (List.range 8).map fun g => if fresh.testBit g then (d.bTrip g).2 else d.dmp.bWin.getD g (0, 0) } }
  let d := d.addLatch ⟨src, .b, andNot grps esc⟩
  let d := if newB = 0 then d else
    let d := { d with dmp := { d.dmp with
        holdB := d.dmp.holdB ||| newB
        openWait := d.dmp.openWait ||| newB
        onlyB := d.dmp.onlyB || d.latched == 0
        bWait := (List.range 8).map fun g =>
          if newB.testBit g then some (d.now + 10 * msec * d.get (F.DMP_GRP_RB_WAIT.ix g)) else d.dmp.bWait.getD g none } }
    raise 0x0802 [src.num, newB] (d.noteLatched newB).holdUpdate
  if esc = 0 then d else Dev.tripA raise (raise 0x0807 [] d) src esc

/-- A trip of a source reaching its groups with a class (R261 to R266, Table 11-4). -/
def Dev.tripWith (raise : Nat → List Nat → Dev → Dev) (d : Dev) (src : TripSrc) (cls : TripClass) (grps : Nat) : Dev :=
  match cls with
  | .a => Dev.tripA raise d src grps
  | .b => if d.service then Dev.tripA raise d src grps else Dev.tripB raise d src grps
  | .c =>
    let new := andNot grps (d.latched ||| d.cycleGroups)
    let d := (d.addLatch ⟨src, .c, grps⟩).holdUpdate
    if new = 0 then d else raise 0x0803 [src.num, d.legsOf new] d
  | .d => raise 0x0804 [] (d.addLatch ⟨src, .d, grps⟩)

/-! ## Raising -/

/-- Alarms for the next member frame (Table 17-3): up to eight event codes raised since the last one. -/
def Dev.noteAlarm (d : Dev) (code : Nat) : Dev :=
  if d.flag F.FLU_STATUS_ADMITTED && d.flu.alarm.length < 8 then { d with flu := { d.flu with alarm := d.flu.alarm ++ [code] } } else d

/-- The log entries of an event: normal region first, then sticky (R479). Answers the entry number
and whether it was suppressed in this tick. -/
def Dev.logEvent (raise : Nat → List Nat → Dev → Dev) (d : Dev) (code : Nat) (items : List Nat) (cls : TripClass) :
    Dev × Nat × Bool :=
  let num := d.get F.HRT_LOG_NEXT
  if d.log.tickCodes.contains code then (d.bump F.HRT_LOG_SUPP_CNT, num, true)
  else
    let t := d.logTime
    let a := d.theta
    let d := { d with log := { d.log with tickCodes := code :: d.log.tickCodes } }
    let d := d.logNormal code items t a
    if code != 0x100B && (cls == .a || stickyEvents.contains code) then
      if d.stickyRoom then (d.logSticky code items t a, num, false)
      else
        let d := d.bump F.HRT_STICKY_DROP_CNT
        (if d.log.fullRaised then d else raise 0x100B [] { d with log := { d.log with fullRaised := true } }, num, false)
    else (d, num, false)

/-- Raise an event; `n` bounds the chain of events a routed event can cause, `ctl` is the CAN controller. -/
def raiseN : Nat → Nat → Nat → List Nat → Dev → Dev
  | 0, _, _, _, d => d
  | n + 1, ctl, code, items, d =>
    let d := match evtFlag code ctl with
      | some (f, b) => d.setIn f b
      | none => d
    let (cls, grps) := d.resolve code
    let d := (d.recorderSees code).noteAlarm code
    let (d, num, unlogged) := d.logEvent (raiseN n 0) code items cls
    let d := d.eventToRing code items cls num unlogged
    match cls with
    | .d => d
    | _ => d.tripWith (raiseN n 0) (.event code) cls grps

/-- Raise an event with the data items its block's table names (R14, R263, R479). (DEDUCED, log entry 62.) -/
def Dev.raise (d : Dev) (code : Nat) (items : List Nat := []) : Dev := raiseN 8 0 code items d

/-- Raise an event of a CAN controller. -/
def Dev.raiseCan (d : Dev) (ctl code : Nat) (items : List Nat := []) : Dev := raiseN 8 ctl code items d

/-- A trip that is no event: a hardware source or the TRIP command. -/
def Dev.trip (d : Dev) (src : TripSrc) (cls : TripClass) (grps : Nat) : Dev := d.tripWith (raiseN 8 0) src cls grps

/-- A hardware source asserts (Table 11-2): enabled, it latches with its class and groups. -/
def Dev.sourceAssert (d : Dev) (i : Nat) : Dev :=
  let was := d.dmp.asserted.testBit i
  let d := { d with dmp := { d.dmp with asserted := setBit d.dmp.asserted i } }
  if d.flag (F.DMP_SRC_EN.ix i) && (!was || !(d.dmp.latches.any fun l => l.src == .hw i)) then
    d.trip (.hw i) (TripClass.ofNum (d.get (F.DMP_SRC_CLASS.ix i))) (d.get (F.DMP_SRC_GRP.ix i))
  else d

/-- A hardware source deasserts: its class D latch clears (Table 11-4). -/
def Dev.sourceDeassert (d : Dev) (i : Nat) : Dev :=
  { d with dmp := { d.dmp with
      asserted := clrBit d.dmp.asserted i
      latches := d.dmp.latches.filter fun l => !(l.src == .hw i && l.cls == .d) } }

end Sys2Proof.Machine
end

