-- ==== Sys2Proof/Machine/Floats.lean ====
section
/-! DEFINITION. IEEE 754 arithmetic for binary32 (f32, Table 0-4) and binary64: each operation computed
exactly and rounded once, to nearest with ties to even. -/

namespace Sys2Proof.Machine

/-- A binary format: precision `p` with the hidden bit, exponent field of `w` bits. -/
structure Fmt where
  p : Nat
  w : Nat
  deriving DecidableEq, Repr

/-- binary32. -/
def f32 : Fmt := ⟨24, 8⟩
/-- binary64. -/
def f64 : Fmt := ⟨53, 11⟩

/-- The exponent of the least subnormal's bit. -/
def Fmt.lsb (f : Fmt) : Int := 3 - (2 ^ (f.w - 1) : Nat) - f.p

/-- The exponent field of infinities and NaN. -/
def Fmt.top (f : Fmt) : Nat := 2 ^ f.w - 1

/-- A value: NaN, an infinity, or `m * 2 ^ e` with a sign. -/
inductive FV where
  | nan
  | inf (s : Bool)
  | fin (s : Bool) (m : Nat) (e : Int)
  deriving DecidableEq, Repr

/-- The value a bit pattern spells. -/
def Fmt.unpack (f : Fmt) (b : Nat) : FV :=
  let m := b % 2 ^ (f.p - 1)
  let e := b / 2 ^ (f.p - 1) % 2 ^ f.w
  let s := (b / 2 ^ (f.p - 1 + f.w)) % 2 == 1
  if e = f.top then (if m = 0 then .inf s else .nan)
  else if e = 0 then .fin s m f.lsb
  else .fin s (m + 2 ^ (f.p - 1)) (f.lsb + (e - 1 : Nat))

/-- The sign bit's weight. -/
def Fmt.sign (f : Fmt) (s : Bool) : Nat := if s then 2 ^ (f.p - 1 + f.w) else 0

/-- A quiet NaN. -/
def Fmt.qnan (f : Fmt) : Nat := f.top * 2 ^ (f.p - 1) + 2 ^ (f.p - 2)

/-- Infinity. -/
def Fmt.infinity (f : Fmt) (s : Bool) : Nat := f.sign s + f.top * 2 ^ (f.p - 1)

/-- Round a magnitude to `k` fewer bits, to nearest with ties to even. -/
def rneShift (m k : Nat) : Nat :=
  let q := m >>> k
  let r := m % 2 ^ k
  let h := 2 ^ k / 2
  if k = 0 then m else if h < r ∨ (r = h ∧ q % 2 = 1) then q + 1 else q

/-- The pattern of a value, rounded to the format (overflow gives infinity). -/
def Fmt.pack (f : Fmt) : FV → Nat
  | .nan => f.qnan
  | .inf s => f.infinity s
  | .fin s m e =>
    if m = 0 then f.sign s else
    let len : Nat := m.log2 + 1
    let sh : Int := max ((len : Int) - f.p) (f.lsb - e)
    let q := if sh ≤ 0 then m <<< (-sh).toNat else rneShift m sh.toNat
    let e' := e + sh
    -- a carry out of the top bit leaves an even q, which the exponent takes
    let (q, e') := if 2 ^ f.p ≤ q then (q / 2, e' + 1) else (q, e')
    if q < 2 ^ (f.p - 1) then f.sign s + q
    else
      let ex := (e' - f.lsb).toNat + 1
      if f.top ≤ ex then f.infinity s else f.sign s + ex * 2 ^ (f.p - 1) + (q - 2 ^ (f.p - 1))

/-- Sign applied to a magnitude. -/
def signed (s : Bool) (m : Nat) : Int := if s then -(m : Int) else m

/-- Exact sum. -/
def FV.add : FV → FV → FV
  | .nan, _ => .nan
  | _, .nan => .nan
  | .inf s, .inf t => if s = t then .inf s else .nan
  | .inf s, _ => .inf s
  | _, .inf t => .inf t
  | .fin s m e, .fin t n g =>
    let b := min e g
    let x := signed s (m <<< (e - b).toNat) + signed t (n <<< (g - b).toNat)
    if x = 0 then .fin (s && t) 0 b else .fin (x < 0) x.natAbs b

/-- Negation. -/
def FV.neg : FV → FV
  | .nan => .nan
  | .inf s => .inf !s
  | .fin s m e => .fin (!s) m e

/-- Magnitude. -/
def FV.abs : FV → FV
  | .nan => .nan
  | .inf _ => .inf false
  | .fin _ m e => .fin false m e

/-- Exact product. -/
def FV.mul : FV → FV → FV
  | .nan, _ => .nan
  | _, .nan => .nan
  | .inf s, .inf t => .inf (s != t)
  | .inf s, .fin t m _ => if m = 0 then .nan else .inf (s != t)
  | .fin s m _, .inf t => if m = 0 then .nan else .inf (s != t)
  | .fin s m e, .fin t n g => .fin (s != t) (m * n) (e + g)

/-- Quotient with enough bits and a sticky bit for one rounding to at most 64 bits. -/
def FV.div : FV → FV → FV
  | .nan, _ => .nan
  | _, .nan => .nan
  | .inf _, .inf _ => .nan
  | .inf s, .fin t _ _ => .inf (s != t)
  | .fin s _ _, .inf t => .fin (s != t) 0 0
  | .fin s m e, .fin t n g =>
    if n = 0 then (if m = 0 then .nan else .inf (s != t))
    else
      let k := n.log2 + 70
      let x := m <<< k
      .fin (s != t) (2 * (x / n) + (if x % n = 0 then 0 else 1)) (e - g - k - 1)

/-- Integer square root by bits, most significant first. -/
def isqrtStep : Nat → Nat → Nat → Nat
  | 0, _, r => r
  | k + 1, n, r => let t := r + 2 ^ k; isqrtStep k n (if t * t ≤ n then t else r)

/-- Integer square root. -/
def isqrt (n : Nat) : Nat := isqrtStep (n.log2 / 2 + 1) n 0

/-- Square root with a sticky bit; negative numbers other than zero give NaN. -/
def FV.sqrt : FV → FV
  | .nan => .nan
  | .inf s => if s then .nan else .inf false
  | .fin s m e =>
    if m = 0 then .fin s 0 e else if s then .nan else
      let k : Nat := if e % 2 = 0 then 140 else 141
      let x := m <<< k
      let r := isqrt x
      .fin false (2 * r + (if r * r = x then 0 else 1)) ((e - k) / 2 - 1)

/-- Order of two values where they have one: NaN has none. -/
def FV.cmp (x y : FV) : Option Ordering :=
  match x, y with
  | .nan, _ => none
  | _, .nan => none
  | .inf s, .inf t => some (if s = t then .eq else if s then .lt else .gt)
  | .inf s, _ => some (if s then .lt else .gt)
  | _, .inf t => some (if t then .gt else .lt)
  | .fin s m e, .fin t n g =>
    let b := min e g
    some (compare (signed s (m <<< (e - b).toNat)) (signed t (n <<< (g - b).toNat)))

/-- The nearest integer, ties to even; NaN and infinities give none. -/
def FV.toIntRNE : FV → Option Int
  | .fin s m e => some (signed s (if 0 ≤ e then m <<< e.toNat else rneShift m (-e).toNat))
  | _ => none

/-- The greatest integer not above. -/
def FV.floorInt : FV → Option Int
  | .fin s m e => some (if 0 ≤ e then signed s (m <<< e.toNat) else (signed s m) / (2 ^ (-e).toNat : Int))
  | _ => none

/-- An integer as a value. -/
def FV.ofInt (i : Int) : FV := .fin (i < 0) i.natAbs 0

/-- The value is finite. -/
def FV.finite : FV → Bool
  | .fin _ _ _ => true
  | _ => false

/-! ## Operations of a format, on bit patterns -/

/-- x + y. (DEDUCED, log entry 16.) -/
def Fmt.add (f : Fmt) (x y : Nat) : Nat := f.pack ((f.unpack x).add (f.unpack y))
/-- x - y. -/
def Fmt.sub (f : Fmt) (x y : Nat) : Nat := f.pack ((f.unpack x).add (f.unpack y).neg)
/-- x × y. -/
def Fmt.mul (f : Fmt) (x y : Nat) : Nat := f.pack ((f.unpack x).mul (f.unpack y))
/-- x ÷ y. -/
def Fmt.div (f : Fmt) (x y : Nat) : Nat := f.pack ((f.unpack x).div (f.unpack y))
/-- x × y + z, rounded once. -/
def Fmt.fma (f : Fmt) (x y z : Nat) : Nat := f.pack (((f.unpack x).mul (f.unpack y)).add (f.unpack z))
/-- The square root. -/
def Fmt.sqrt (f : Fmt) (x : Nat) : Nat := f.pack (f.unpack x).sqrt
/-- x < y. -/
def Fmt.lt (f : Fmt) (x y : Nat) : Bool := (f.unpack x).cmp (f.unpack y) == some .lt
/-- x ≤ y. -/
def Fmt.le (f : Fmt) (x y : Nat) : Bool := let c := (f.unpack x).cmp (f.unpack y); c == some .lt || c == some .eq
/-- x = y as numbers. -/
def Fmt.eq (f : Fmt) (x y : Nat) : Bool := (f.unpack x).cmp (f.unpack y) == some .eq
/-- The lesser (the second where they do not compare). -/
def Fmt.min (f : Fmt) (x y : Nat) : Nat := if f.lt x y then x else y
/-- The greater. -/
def Fmt.max (f : Fmt) (x y : Nat) : Nat := if f.lt y x then x else y
/-- The magnitude. -/
def Fmt.abs (f : Fmt) (x : Nat) : Nat := x % 2 ^ (f.p - 1 + f.w)
/-- The negative. -/
def Fmt.neg (f : Fmt) (x : Nat) : Nat := x ^^^ 2 ^ (f.p - 1 + f.w)
/-- An integer, rounded. -/
def Fmt.ofInt (f : Fmt) (i : Int) : Nat := f.pack (.ofInt i)
/-- A ratio of integers, rounded. -/
def Fmt.ofRat (f : Fmt) (a : Int) (b : Nat) : Nat := f.pack ((FV.ofInt a).div (.ofInt b))
/-- The number is neither NaN nor infinite. -/
def Fmt.finite (f : Fmt) (x : Nat) : Bool := (f.unpack x).finite
/-- The number is NaN. -/
def Fmt.isNan (f : Fmt) (x : Nat) : Bool := f.unpack x == .nan
/-- The number is finite and greater than zero. -/
def Fmt.positive (f : Fmt) (x : Nat) : Bool := f.finite x && f.lt 0 x
/-- The nearest integer (0 where there is none). -/
def Fmt.round (f : Fmt) (x : Nat) : Int := (f.unpack x).toIntRNE.getD 0
/-- Conversion of a pattern to another format. -/
def Fmt.cvt (f g : Fmt) (x : Nat) : Nat := g.pack (f.unpack x)
/-- A sum of numbers added in order, from zero. -/
def Fmt.sum (f : Fmt) (xs : List Nat) : Nat := xs.foldl f.add 0

/-- f32 to binary64, exact. -/
def widen (x : Nat) : Nat := f32.cvt f64 x
/-- binary64 to f32, rounded. -/
def narrow (x : Nat) : Nat := f64.cvt f32 x

end Sys2Proof.Machine
end

