-- ==== Sys2Proof/Machine/Kernels.lean ====
section
/-! DEFINITION. Firebox kernel units: what each operation computes, step by step (R102 to R132). A step that
produces NaN answers none; an operation built from steps is invalid exactly when one of them does (R105). -/

namespace Sys2Proof.Machine

/-! ## Binary32 steps (R102 to R106) -/

/-- A subnormal value flushed to zero with its sign (R103). -/
def ftz (x : Nat) : Nat := if x / 2 ^ 23 % 256 = 0 then x / 2 ^ 31 * 2 ^ 31 else x

/-- The value a rounded step leaves (R103, R105). -/
def kStep (r : Nat) : Option Nat := if f32.isNan r then none else some (ftz r)

/-- An operand that the operation uses (R103, R105). -/
def kRead (w : Word) : Option Nat := kStep w.toNat

/-- A result written to a node or state word (R104). -/
def kOut (x : Nat) : Word := BitVec.ofNat 32 (if x % 2 ^ 31 = 0x7F800000 then x - 1 else x)

/-- RN(x + y). -/
def kAdd (x y : Nat) : Option Nat := kStep (f32.add x y)
/-- RN(x - y). -/
def kSub (x y : Nat) : Option Nat := kStep (f32.sub x y)
/-- RN(x × y). -/
def kMul (x y : Nat) : Option Nat := kStep (f32.mul x y)
/-- RN(x / y). -/
def kDiv (x y : Nat) : Option Nat := kStep (f32.div x y)
/-- FMA(x, y, z). -/
def kFma (x y z : Nat) : Option Nat := kStep (f32.fma x y z)
/-- RN(√x). -/
def kSqrt (x : Nat) : Option Nat := kStep (f32.sqrt x)

/-- -x, exact. -/
def kNeg (x : Nat) : Nat := f32.neg x
/-- |x|, exact. -/
def kAbs (x : Nat) : Nat := f32.abs x

/-- The smaller of two; of two zeros, -0 where either is (R106). -/
def kMin (x y : Nat) : Nat :=
  if f32.lt x y then x else if f32.lt y x then y else if x = 2 ^ 31 then x else y

/-- The larger of two; of two zeros, +0 where either is (R106). -/
def kMax (x y : Nat) : Nat :=
  if f32.lt x y then y else if f32.lt y x then x else if x = 2 ^ 31 then y else x

/-- 1, -1, 0.5, -0.5, 2. -/
def kOne : Nat := 0x3F800000
def kNegOne : Nat := 0xBF800000
def kHalf : Nat := 0x3F000000
def kNegHalf : Nat := 0xBF000000
def kTwo : Nat := 0x40000000

/-- The greatest magnitude, which also stands for no limit at MPT0. -/
def kMaxFinite : Nat := 0x7F7FFFFF

/-- The sign of a number as 1, -1 or 0. -/
def kSign (x : Nat) : Nat := if f32.lt 0 x then kOne else if f32.lt x 0 then kNegOne else 0

/-! ## Sine and cosine (R117) -/

/-- π in units of 2^-200, rounded down. -/
def piFix : Nat := 0x3243f6a8885a308d313198a2e03707344a4093822299f31d008

/-- Alternating Taylor terms in units of 2^-200: `t` is the present term, its order `n`. -/
def taylorFix : Nat → Nat → Nat → Nat → Int → Int
  | 0, _, _, _, acc => acc
  | k + 1, x2, t, n, acc =>
    let t' := t * x2 / 2 ^ 200 / ((n + 1) * (n + 2))
    taylorFix k x2 t' (n + 2) (acc + (if k % 2 = 1 then -(t' : Int) else t'))

/-- Sine and cosine of `a` / 2^32 turns for `a` up to an eighth of a turn, in units of 2^-200. -/
def sincosFix (a : Nat) : Nat × Nat :=
  let x := 2 * a * piFix / 2 ^ 32
  let x2 := x * x / 2 ^ 200
  ((taylorFix 30 x2 x 1 x).toNat, (taylorFix 30 x2 (2 ^ 200) 0 (2 ^ 200)).toNat)

/-- Units of 2^-200 rounded to units of 2^-24, to nearest even. -/
def fixTo24 (v : Nat) : Nat := rneShift v 176

/-- Sine and cosine over a quarter turn, in units of 2^-24. -/
def sincosQuarter (a : Nat) : Nat × Nat :=
  if a ≤ 2 ^ 29 then let (s, c) := sincosFix a; (fixTo24 s, fixTo24 c)
  else let (s, c) := sincosFix (2 ^ 30 - a); (fixTo24 c, fixTo24 s)

/-- A multiple of 2^-24 of magnitude at most 1, as binary32 (exact). -/
def f32OfFix24 (neg : Bool) (m : Nat) : Nat := if m = 0 then 0 else f32.pack (.fin neg m (-24))

/-- SINCOS: cosine and sine of an angle (R117). -/
def kSincos (θ : Word) : Nat × Nat :=
  let q := θ.toNat / 2 ^ 30
  let (s, c) := sincosQuarter (θ.toNat % 2 ^ 30)
  match q with
  | 0 => (f32OfFix24 false c, f32OfFix24 false s)
  | 1 => (f32OfFix24 true s, f32OfFix24 false c)
  | 2 => (f32OfFix24 true c, f32OfFix24 true s)
  | _ => (f32OfFix24 false s, f32OfFix24 true c)

/-! ## Compensator (R111 to R115) -/

/-- A LUT's answer for the error `e`; word i of the LUT is `w i` (R112). -/
def lutEval (w : Nat → Word) (e : Nat) : Option Nat := do
  let inv ← kRead (w 0)
  let x ← kMul (kAbs e) inv
  if f32.lt x 0 then none
  else if f32.le (f32.ofInt 64) x then kRead (w 65)
  else
    let i := ((f32.unpack x).floorInt.getD 0).toNat
    let f := f32.sub x (f32.ofInt i)
    let g0 ← kRead (w (1 + i))
    let g1 ← kRead (w (2 + i))
    let dg ← kSub g1 g0
    kFma f dg g0

/-- Clamp as min(max(x, lo), hi). -/
def kClamp (x lo hi : Nat) : Nat := kMin (kMax x lo) hi

/-- Modes of a coefficient record (Table 4-2). -/
def recMode (ctrl : Word) : Nat := wbits ctrl 1 0

/-- The recursion of R113: the shaped error and the output, from the record's words `k`, the history
`h` (e1, e2, e3, u1, u2, u3) and the operands. -/
def cmpLinear (k h : Nat → Word) (lut : Nat → Word) (r y ff : Word) : Option (Nat × Nat) := do
  let three := recMode (k 11) = 0
  let r ← kRead r
  let y ← kRead y
  let ff ← kRead ff
  let e0 ← kSub r y
  let e := if (k 11).getLsbD 2 then kNeg e0 else e0
  let ep ← if (k 11).getLsbD 3 then (do let g ← lutEval lut e; kMul g e) else some e
  let acc ← kMul (← kRead (k 0)) ep
  let acc ← kFma (← kRead (k 1)) (← kRead (h 0)) acc
  let acc ← kFma (← kRead (k 2)) (← kRead (h 1)) acc
  let acc ← if three then (do kFma (← kRead (k 3)) (← kRead (h 2)) acc) else some acc
  let acc ← kFma (kNeg (← kRead (k 4))) (← kRead (h 3)) acc
  let acc ← kFma (kNeg (← kRead (k 5))) (← kRead (h 4)) acc
  let acc ← if three then (do kFma (kNeg (← kRead (k 6))) (← kRead (h 5)) acc) else some acc
  let acc ← kFma (← kRead (k 9)) ff acc
  return (ep, kClamp acc (← kRead (k 7)) (← kRead (k 8)))

/-- LUT-only mode (R114). -/
def cmpLutOnly (k : Nat → Word) (lut : Nat → Word) (r y ff : Word) : Option (Nat × Nat) := do
  let r ← kRead r
  let y ← kRead y
  let ff ← kRead ff
  let e0 ← kSub r y
  let e := if (k 11).getLsbD 2 then kNeg e0 else e0
  let g ← lutEval lut e
  let acc ← kFma (← kRead (k 9)) ff (kAbs g + e / 2 ^ 31 * 2 ^ 31)
  return (e, kClamp acc (← kRead (k 7)) (← kRead (k 8)))

/-- The value an invalid issue writes (R115). -/
def cmpFallback (k : Nat → Word) : Nat :=
  match kRead (k 10), kRead (k 7), kRead (k 8) with
  | some f, some lo, some hi => kClamp f lo hi
  | _, _, _ => 0

/-- One compensator issue: the result, the six history words after it, and whether it was invalid. -/
def cmpIssue (k h : Nat → Word) (lut : Nat → Word) (r y ff : Word) : Word × List Word × Bool :=
  let shift (ep u : Word) : List Word := [ep, h 0, h 1, u, h 3, h 4]
  if recMode (k 11) = 3 then
    let u := do return kClamp (← kRead (h 3)) (← kRead (k 7)) (← kRead (k 8))
    let w := kOut (u.getD (cmpFallback k))
    (w, [h 0, h 1, h 2, w, h 4, h 5], u.isNone)
  else
    let res := if recMode (k 11) = 2 then cmpLutOnly k lut r y ff else cmpLinear k h lut r y ff
    match res with
    | some (ep, u) => (kOut u, shift (kOut ep) (kOut u), false)
    | none => let w := kOut (cmpFallback k); (w, shift 0 w, true)

/-! ## Transforms (R116, R118) -/

/-- 1/3, 2/3, 1/√3, √3/2 (R116). -/
def k13 : Nat := 0x3EAAAAAB
def k23 : Nat := 0x3F2AAAAB
def kR3 : Nat := 0x3F13CD3A
def kS : Nat := 0x3F5DB3D7

/-- CLARKE. -/
def xfmClarke (a b c : Word) : Option (List Nat) := do
  let a ← kRead a
  let b ← kRead b
  let c ← kRead c
  let bc ← kAdd b c
  let al ← kFma k23 a (kNeg (← kMul k13 bc))
  let be ← kMul kR3 (← kSub b c)
  let ga ← kMul k13 (← kAdd (← kAdd a b) c)
  return [al, be, ga]

/-- ICLARKE. -/
def xfmIClarke (al be ga : Word) : Option (List Nat) := do
  let al ← kRead al
  let be ← kRead be
  let ga ← kRead ga
  let h ← kMul kS be
  let m ← kFma kNegHalf al ga
  return [← kAdd al ga, ← kAdd m h, ← kSub m h]

/-- PARK. -/
def xfmPark (al be θ : Word) : Option (List Nat) := do
  let al ← kRead al
  let be ← kRead be
  let (c, s) := kSincos θ
  let d ← kFma al c (← kMul be s)
  let q ← kFma be c (kNeg (← kMul al s))
  return [d, q]

/-- IPARK. -/
def xfmIPark (dd q θ : Word) : Option (List Nat) := do
  let dd ← kRead dd
  let q ← kRead q
  let (c, s) := kSincos θ
  let al ← kFma dd c (kNeg (← kMul q s))
  let be ← kFma dd s (← kMul q c)
  return [al, be]

/-- SEQ from the present and the delayed pair (R118). -/
def xfmSeq (al be ald bed : Word) : Option (List Nat) := do
  let al ← kRead al
  let be ← kRead be
  let ald ← kRead ald
  let bed ← kRead bed
  let ap ← kMul kHalf (← kSub al bed)
  let bp ← kMul kHalf (← kAdd ald be)
  let an ← kMul kHalf (← kAdd al bed)
  let bn ← kMul kHalf (← kSub be ald)
  return [ap, bp, an, bn]

/-! ## Vector arithmetic (Table 4-5, R544) -/

/-- FTOA: the fraction of a turn as a 32-bit angle. -/
def kFtoa (a : Word) : Option Word :=
  match f32.unpack a.toNat with
  | .fin s m e =>
    if 0 ≤ e + 32 then some (BitVec.ofNat 32 ((signed s m * 2 ^ (e + 32).toNat) % 2 ^ 32).toNat)
    else some (BitVec.ofNat 32 (rneShift ((signed s m) % (2 ^ (-e).toNat : Int)).toNat (-(e + 32)).toNat))
  | _ => none

/-- FTOI: the nearest integer, saturated. -/
def kFtoi (a : Word) : Option Word :=
  match f32.unpack a.toNat with
  | .nan => none
  | .inf s => some (if s then 0x80000000 else 0x7FFFFFFF)
  | v => some (BitVec.ofInt 32 (max (-(2 ^ 31 : Int)) (min (2 ^ 31 - 1) (v.toIntRNE.getD 0))))

/-- Cells one lane of an operation uses (Table 4-5); `k` is DELAY's length. -/
def aluCells (op k : Nat) : Nat :=
  if op = 0x10 then (k + 1) / 2 else if op = 0x0D ∨ op = 0x0E ∨ op = 0x0F then 1 else 0

/-- One lane of a stateless operation: none where it is invalid. -/
def aluPure (op : Nat) (a b c : Word) : Option Word :=
  match op with
  | 0x00 => do return kOut (← kAdd (← kRead a) (← kRead b))
  | 0x01 => do return kOut (← kSub (← kRead a) (← kRead b))
  | 0x02 => do return kOut (← kMul (← kRead a) (← kRead b))
  | 0x03 => do return kOut (← kFma (← kRead a) (← kRead b) (← kRead c))
  | 0x04 => do return kOut (← kDiv (← kRead a) (← kRead b))
  | 0x05 => do return kOut (← kSqrt (← kRead a))
  | 0x06 => do return kOut (← kDiv kOne (← kSqrt (← kRead a)))
  | 0x07 => do return kOut (kMin (← kRead a) (← kRead b))
  | 0x08 => do return kOut (kMax (← kRead a) (← kRead b))
  | 0x09 => do return kOut (kAbs (← kRead a))
  | 0x0A => do return kOut (kMax (← kRead b) (kMin (← kRead a) (← kRead c)))
  | 0x0B => do return kOut (← kRead (if c = 0 ∨ c = 0x80000000 then b else a))
  | 0x0C => do
    let x ← kRead a
    let y ← kRead b
    return if f32.lt y x then 0x3F800000 else 0
  | 0x11 => some (kOut (f32.ofInt a.toInt))
  | 0x12 => some (kOut (f32.ofInt a.toNat))
  | 0x13 => kFtoa a
  | 0x14 => some (a + b)
  | 0x15 => kFtoi a
  | _ => some a

/-- One lane of RATE, INTEG, LPF1: the new state word, none where the lane is invalid. -/
def aluState (op : Nat) (a b c s : Word) : Option Word := do
  let a ← kRead a
  let b ← kRead b
  let s ← kRead s
  match op with
  | 0x0D =>
    let ds ← kSub a s
    return kOut (← kAdd s (kMin (kMax ds (kNeg (kAbs b))) (kAbs b)))
  | 0x0E =>
    let c ← kRead c
    return kOut (kMax b (kMin (← kAdd s a) c))
  | _ => return kOut (← kFma b (← kSub a s) s)

/-- One lane: result, the lane's state words after it, whether it was invalid. `st` holds the words of the
lane's cells, `fb` the unit's fallback word, `k` DELAY's length. -/
def aluLane (op k : Nat) (fb : Word) (st : List Word) (a b c : Word) : Word × List Word × Bool :=
  if op = 0x10 then
    let store := match kRead a with | some x => kOut x | none => fb
    (st.getD (k - 1) 0, store :: st.dropLast, (kRead a).isNone)
  else if op = 0x0D ∨ op = 0x0E ∨ op = 0x0F then
    match aluState op a b c (st.getD 0 0) with
    | some s => (s, s :: st.tail, false)
    | none => (fb, st, true)
  else
    match aluPure op a b c with
    | some x => (x, st, false)
    | none => (fb, st, true)

/-! ## Modulation (R121 to R125) -/

/-- Legs a method writes (Table 4-6). -/
def modLegs (op : Nat) : Nat := if op ≤ 2 then 3 else if op = 4 then 9 else 6

/-- The duty word of an exact fraction (R122). -/
def dutyOf : FV → Word
  | .fin false m e =>
    if 0 ≤ e then (if m = 0 then 0 else 0x7FFFFFFF)
    else if 2 ^ (-e).toNat ≤ m then 0x7FFFFFFF
    else
      let n := if 0 ≤ e + 31 then m <<< (e + 31).toNat else rneShift m (-(e + 31)).toNat
      BitVec.ofNat 32 (min n 0x7FFFFFFF)
  | .inf false => 0x7FFFFFFF
  | _ => 0

/-- D of a binary32 number. -/
def dutyWord (x : Nat) : Word := dutyOf (f32.unpack x)

/-- The leg set of duty A with the complement on B. -/
def legOf (a : Word) : LegSet := ⟨a, 0x7FFFFFFF - a, 0x40000000, 0x40000000⟩

/-- The leg set of all zero words (R125). -/
def legZero : LegSet := ⟨0, 0, 0, 0⟩

/-- The largest and smallest of three. -/
def max3 (u : List Nat) : Nat := kMax (kMax (u.getD 0 0) (u.getD 1 0)) (u.getD 2 0)
def min3 (u : List Nat) : Nat := kMin (kMin (u.getD 0 0) (u.getD 1 0)) (u.getD 2 0)

/-- A step applied to each of a list. -/
def kMap (f : Nat → Option Nat) : List Nat → Option (List Nat)
  | [] => some []
  | x :: xs => do return (← f x) :: (← kMap f xs)

/-- Scaled phase references and whether overmodulation scaled them (R123, R124). -/
def modScale (v : List Nat) (vdc : Nat) (plain : Bool) : Option (List Nat × Bool) := do
  let q ← kDiv kTwo vdc
  let u ← kMap (fun x => kMul x q) v
  let meas ← if plain then some (max3 (u.map kAbs)) else kSub (max3 u) (min3 u)
  let lim := if plain then kOne else kTwo
  if f32.lt lim meas then
    let k ← kDiv lim meas
    return (← kMap (kMul k) u, true)
  else return (u, false)

/-- Zero-sequence of the two-level methods (R123); `sel` is ARG[5:4]. -/
def modZero (op sel : Nat) (u : List Nat) : Option Nat :=
  let dmin := kSub kNegOne (min3 u)
  let dmax := kSub kOne (max3 u)
  match op with
  | 0 => do kMul kNegHalf (← kAdd (max3 u) (min3 u))
  | 1 => if sel % 2 = 1 then (do kMul kNegHalf (← kAdd (max3 u) (min3 u))) else some 0
  | _ => if sel = 0 then dmin else if sel = 1 then dmax
         else if f32.le (kNeg (min3 u)) (max3 u) then dmax else dmin

/-- The two-level methods: leg sets and the scaling flag (R123). -/
def modTwo (op sel : Nat) (v : List Nat) (vdc : Nat) : Option (List LegSet × Bool) := do
  let (u, ovm) ← modScale v vdc (op == 1 && sel % 2 == 0)
  let z ← modZero op sel u
  let ls ← kMap (fun x => do kFma kHalf (← kAdd x z) kHalf) u
  return (ls.map fun x => legOf (dutyWord x), ovm)

/-- floor of a number, none where it is infinite. -/
def kFloor (x : Nat) : Option Int := (f32.unpack x).floorInt

/-- Fraction of a level above its floor, exact. (DEDUCED, log entry 112.) -/
def kFrac (x : Nat) : Option FV := do return (f32.unpack x).add (FV.ofInt (-(← kFloor x)))

/-- The greater and lesser of two exact values. -/
def FV.maxv (x y : FV) : FV := if x.cmp y == some .lt then y else x
def FV.minv (x y : FV) : FV := if x.cmp y == some .lt then x else y

/-- The shift z2 of the nearest-three-vector methods (R124). -/
def modShift2 (w : List Nat) : Option Nat := do
  let f0 ← kFrac (w.getD 0 0)
  let f1 ← kFrac (w.getD 1 0)
  let f2 ← kFrac (w.getD 2 0)
  let s ← kStep (f32.pack (((f0.maxv f1).maxv f2).add ((f0.minv f1).minv f2)))
  kSub kHalf (← kMul kHalf s)

/-- Band of a level: min(max(floor, -1), 0); an infinity lies beyond every band. -/
def kBand (x : Nat) : Int := match kFloor x with
  | some n => min (max n (-1)) 0
  | none => if x / 2 ^ 31 = 1 then -1 else 0

/-- Legs of one phase of a three-level method (Table 4-7). -/
def modPhaseLegs (anpc : Bool) (l : Nat) : List LegSet :=
  let v := f32.unpack l
  let up := v.cmp (FV.ofInt 0) != some .lt
  let outer := legOf (if up then dutyOf v else 0)
  let inner := legOf (if up then 0x7FFFFFFF else dutyOf (v.add (.ofInt 1)))
  let clamp : LegSet :=
    if up then ⟨dutyOf (v.neg.add (.ofInt 1)), 0x7FFFFFFF, 0x40000000, 0x40000000⟩
    else ⟨0x7FFFFFFF, dutyOf (v.add (.ofInt 1)), 0x40000000, 0x40000000⟩
  if anpc then [outer, inner, clamp] else [outer, inner]

/-- The three-level methods: leg sets, scaling flag, clamped shift (R124). -/
def modThree (op sel : Nat) (v i : List Nat) (vup vlo vdc knp : Nat) : Option (List LegSet × Bool × Bool) := do
  let (u, ovm) ← modScale v vdc false
  let z1 ← if op = 5 ∧ sel % 2 = 0 then some 0 else (do kMul kNegHalf (← kAdd (max3 u) (min3 u)))
  let w ← kMap (fun x => kAdd x z1) u
  let z2 ← if op = 5 then some 0 else modShift2 w
  let lp ← kMap (fun x => kAdd x z2) w
  let his ← kMap (fun x => kSub (f32.ofInt (kBand x + 1)) x) lp
  let los ← kMap (fun x => kSub (f32.ofInt (kBand x)) x) lp
  let hi := min3 his
  let lo := max3 los
  let p ← kMul (v.getD 0 0) (i.getD 0 0)
  let p ← kFma (v.getD 1 0) (i.getD 1 0) p
  let p ← kFma (v.getD 2 0) (i.getD 2 0) p
  let bal ← kMul knp (← kDiv (← kSub vup vlo) vdc)
  let req ← kMul bal (kSign p)
  let delta := kMin (kMax req lo) hi
  let ls ← kMap (fun x => do return kMin (kMax (← kAdd x delta) kNegOne) kOne) lp
  return (ls.flatMap (modPhaseLegs (op == 4)), ovm, f32.lt req lo || f32.lt hi req)

/-- What a MOD0 issue comes to (R125). -/
inductive ModRes where
  | nan
  | vdc
  | ok (legs : List LegSet) (ovm npSat : Bool)
  deriving DecidableEq, Repr

/-- One MOD0 issue on its operand words (R125). (DEDUCED, log entry 34.) -/
def modIssue (op sel : Nat) (v b i : List Word) (knp : Word) : ModRes :=
  let three := decide (3 ≤ op)
  let used := v ++ b ++ (if three then i else [])
  if used.any fun w => f32.isNan w.toNat then .nan
  else
    let rd (ws : List Word) : List Nat := ws.map fun w => ftz w.toNat
    let v := rd v
    let b := rd b
    let vdc := if three then kAdd (b.getD 0 0) (b.getD 1 0) else some (b.getD 0 0)
    match vdc with
    | none => .nan
    | some x =>
      if !f32.lt 0 x then .vdc
      else if three then
        match kRead knp with
        | none => .nan
        | some k => match modThree op sel v (rd i) (b.getD 0 0) (b.getD 1 0) x k with
          | some (ls, o, np) => .ok ls o np
          | none => .nan
      else match modTwo op sel v x with
        | some (ls, o) => .ok ls o false
        | none => .nan

/-! ## MPPT (R128 to R132) -/

/-- Parameters of a channel (Table 4-9), each flushed as an operand. -/
structure MpptPar where
  vMin : Nat
  vMax : Nat
  stepMin : Nat
  stepMax : Nat
  kStep : Nat
  eps : Nat
  kCurt : Nat
  band : Nat
  scanHi : Nat
  scanLo : Nat
  scanStep : Nat
  deriving DecidableEq, Repr

/-- A channel's state (R128). -/
structure MpptSt where
  vRef : Nat := 0
  vPrev : Nat := 0
  iPrev : Nat := 0
  pPrev : Nat := 0
  dir : Nat := 0x3F800000
  vMp : Nat := 0
  pMp : Nat := 0
  phase : Nat := 0
  vStart : Nat := 0
  vBest : Nat := 0
  pBest : Nat := 0
  deferred : Bool := false
  aborted : Bool := false
  /-- No issue of SCAN_DOWN has come yet. -/
  first : Bool := false
  deriving DecidableEq, Repr

/-- How a scan ended at this issue. -/
inductive ScanEnd where
  | none
  | done
  | aborting
  | aborted
  deriving DecidableEq, Repr

/-- V_ref written, clamped (R128). -/
def MpptPar.clampV (m : MpptPar) (v : Nat) : Nat := kMin (kMax v m.vMin) m.vMax

/-- A reference moved towards a target by at most a step. -/
def moveTo (v target step : Nat) : Option Nat := do
  let gap ← kSub target v
  if f32.le (kAbs gap) step then return target
  else if f32.lt 0 gap then kAdd v step else kSub v step

/-- TRACK (R129); `inc` chooses incremental conductance. -/
def mpptTrack (m : MpptPar) (inc : Bool) (s : MpptSt) (v i p : Nat) : Option MpptSt := do
  let dP ← kSub p s.pPrev
  let dV ← kSub v s.vPrev
  let dI ← kSub i s.iPrev
  let zV := f32.eq dV 0
  let step ← if zV then some m.stepMin
    else (do return kMin (kMax (← kMul m.kStep (kAbs (← kDiv dP dV))) m.stepMin) m.stepMax)
  let (newdir, move) ← if !inc then
      some (if f32.eq dP 0 || zV then s.dir else (if kSign dP = kSign dV then kOne else kNegOne), true)
    else if f32.le v 0 then some (s.dir, false)
    else if zV then some (kSign dI, !f32.eq dI 0)
    else (do
      let gc ← kAdd (← kDiv dI dV) (← kDiv i v)
      return (kSign gc, f32.lt m.eps (kAbs gc)))
  let rev := newdir != s.dir
  let vRef ← if move then kFma newdir step s.vRef else some s.vRef
  return { s with
    dir := newdir
    vRef := m.clampV vRef
    vMp := if rev then v else s.vMp
    pMp := if rev then p else s.pMp
    vPrev := v
    iPrev := i
    pPrev := p }

/-- CURTAIL (R130). -/
def mpptCurtail (m : MpptPar) (s : MpptSt) (p lim : Nat) : Option MpptSt := do
  if lim = kMaxFinite then return { s with phase := 0, vRef := m.clampV s.vRef }
  let c ← kMul m.kCurt (kAbs (← kSub p lim))
  let c := kMin (kMax c m.stepMin) m.stepMax
  if f32.lt lim p then return { s with phase := 1, vRef := m.clampV (← kAdd s.vRef c) }
  let low ← kMul lim (← kSub kOne m.band)
  if f32.lt p low then
    if f32.lt s.vMp s.vRef then return { s with phase := 1, vRef := m.clampV (kMax (← kSub s.vRef c) s.vMp) }
    else return { s with phase := 0, vRef := m.clampV s.vRef }
  else return { s with phase := 1, vRef := m.clampV s.vRef }

/-- SCAN_UP, SCAN_DOWN and SCAN_RETURN (R131, R132). -/
def mpptScan (m : MpptPar) (s : MpptSt) (v p lim : Nat) : Option (MpptSt × ScanEnd) := do
  let past := lim != kMaxFinite && f32.lt lim p
  match s.phase with
  | 2 =>
    if past then return ({ s with phase := 4, aborted := true, vRef := m.clampV s.vRef }, .aborting)
    let x ← moveTo s.vRef m.scanHi m.scanStep
    let s := { s with vRef := m.clampV x }
    return (if f32.eq s.vRef m.scanHi then { s with phase := 3, first := true } else s, .none)
  | 3 =>
    if past then return ({ s with phase := 4, aborted := true, vRef := m.clampV s.vRef }, .aborting)
    let s := if s.first || f32.lt s.pBest p then { s with vBest := v, pBest := p, first := false } else s
    let x ← moveTo s.vRef m.scanLo m.scanStep
    let s := { s with vRef := m.clampV x }
    return (if f32.eq s.vRef m.scanLo then { s with phase := 4 } else s, .none)
  | _ =>
    let target := m.clampV (if s.aborted then s.vStart else s.vBest)
    let x ← moveTo s.vRef target m.scanStep
    let s := { s with vRef := m.clampV x }
    if f32.eq s.vRef target then
      if s.aborted then return ({ s with phase := 0, aborted := false }, .aborted)
      else return ({ s with phase := 0, vMp := s.vBest, pMp := s.pBest }, .done)
    else return (s, .none)

/-- One MPT0 issue: none where it is invalid (R128). `due` says that a scan has fallen due: DEFERRED shows one that waits in
CURTAIL, and with SCAN_PERIOD changed so that none is due it clears. (DEDUCED, log entry 142.) -/
def mpptIssue (m : MpptPar) (inc due : Bool) (s : MpptSt) (v i lim hold : Word) : Option (MpptSt × ScanEnd) := do
  let v ← kRead v
  let i ← kRead i
  let lim ← kRead lim
  if !(hold = 0 ∨ hold = 0x80000000) then return (s, .none)
  let p ← kMul v i
  let s := if due && s.phase == 0 then { s with phase := 2, vStart := s.vRef, deferred := false, aborted := false }
    else { s with deferred := due && s.phase == 1 }
  match s.phase with
  | 0 =>
    if lim != kMaxFinite && f32.lt lim p then return (← mpptCurtail m { s with phase := 1 } p lim, .none)
    else return (← mpptTrack m inc s v i p, .none)
  | 1 => return (← mpptCurtail m s p lim, .none)
  | _ => mpptScan m s v p lim

end Sys2Proof.Machine
end

