-- ==== Sys2Proof/Machine/Sdm.lean ====
section
/-! DEFINITION. Isolated modulator inputs (chapter 6): the bit-rate filters F1, F2 and F3, the health checks,
and the dual-range pairs. -/

namespace Sys2Proof.Machine

/-! ## Filters (R157 to R161) -/

/-- Running sums: each element added in turn to `s`. -/
def runSums : Int → List Int → List Int
  | _, [] => []
  | s, x :: xs => (s + x) :: runSums (s + x) xs

/-- Sums of every window of `n` consecutive values. -/
def movSum (n : Nat) (l : List Int) : List Int :=
  if l.length < n then [] else
  let s := (l.take n).sum
  s :: runSums s (List.zipWith (· - ·) (l.drop n) l)

/-- The newest `n` bits as values ±1. -/
def bitVals (bits n : Nat) : List Int := (List.range n).map fun i => if bits.testBit i then 1 else -1

/-- The raw third-order result of length `n` per stage (R157). -/
def sinc3 (n bits : Nat) : Int := (movSum n (movSum n (movSum n (bitVals bits (3 * n - 2))))).headD 0

/-- The second-order sum of F3 (R161). -/
def sinc2 (n bits : Nat) : Int := (movSum n (movSum n (bitVals bits (2 * n - 1)))).headD 0

/-- A channel of SDM. -/
def Dev.sch (d : Dev) (n : Nat) : SdmCh := d.sdm.ch.getD n {}

/-- A channel changed. -/
def Dev.schUp (d : Dev) (n : Nat) (f : SdmCh → SdmCh) : Dev :=
  { d with sdm := { d.sdm with ch := upd d.sdm.ch n f } }

/-- Mode of a channel's clock group (Table 6-1). -/
def Dev.schMode (d : Dev) (n : Nat) : Nat := d.get (F.SDM_GRP_MODE.ix (n / 4))

/-- The channel is enabled in a group that is not OFF. -/
def Dev.schOn (d : Dev) (n : Nat) : Bool := d.flag (F.SDM_CH_EN.ix n) && d.schMode n != 0

/-- log2 of the filter length N: OSR in CLKOUT, ALEN otherwise. -/
def Dev.schP (d : Dev) (n : Nat) : Nat :=
  if d.schMode n = 1 then 7 + d.get F.SDM_CFG_OSR_SEL else 6 + d.get (F.SDM_GRP_ALEN.ix (n / 4))

/-- F1 and F2 of a channel are valid (R160). -/
def Dev.schValid (d : Dev) (n : Nat) : Bool :=
  let c := d.sch n
  d.schOn n && !c.fault && 3 * 2 ^ d.schP n ≤ c.n

/-- The scaled raw value x (R159). -/
def Dev.schX (d : Dev) (n : Nat) : Nat :=
  let p := d.schP n
  let r := sinc3 (2 ^ p) (d.sch n).bits
  f32.mul (f32.ofInt r) (f32.pack (.fin false 1 (-(3 * p : Nat))))

/-- A result scaled by a gain and an offset (R159). (DEDUCED, log entry 121.) -/
def scaleWith (x : Nat) (g o : Nat) : Word := kOut ((kFma x (ftz g) (ftz o)).getD 0)

/-- Q1.15 threshold as an integer. -/
def thr15 (v : Nat) : Int := sext 16 v

/-! ## The angle-locked clock (R44, R154, R156) -/

/-- Spacing of the modulator clock edges, accumulator units (Table 2-1). -/
def Dev.modUnit (d : Dev) : Nat := 2 ^ 48 / (d.S * (128 <<< d.get F.SDM_CFG_OSR_SEL))

/-- The SDM_CLK output of a group runs. -/
def Dev.clkRuns (d : Dev) (g : Nat) : Bool := d.sdm.run.testBit g

/-- Level of SDM_CLK[g] at a ball: high for the first half of each period (R154). (DESIGN CHOICE, log entry 135.) -/
def Dev.clkLevel (d : Dev) (g : Nat) : Bool :=
  d.clkRuns g && decide (2 * (d.time.phase % d.modUnit) < d.modUnit)

/-- The groups whose SDM_CLK runs: those of CLKOUT once the synthesiser has locked (R156). A mode changes at a device frame
start, where a period ends (R30). -/
def Dev.clkOutputs (d : Dev) : Dev :=
  let run := (List.range 6).foldl (fun m g => if d.get (F.SDM_GRP_MODE.ix g) = 1 then setBit m g else m) 0
  { d with sdm := { d.sdm with run := if d.cpr.rows.testBit 7 then run else 0 } }

/-- The modulator clock edge at an angle event, placed by its fine offset (R43): its index and its instant in taps. -/
def Dev.placeEdge (d : Dev) (p : Nat) : Dev :=
  { d with sdm := { d.sdm with edge := p / d.modUnit, edgeTap := 128 * d.now - d.fineTaps p } }

/-- First bit of a CLKOUT channel that is not sampled before a phase: bit m is sampled DLY x 2 ns after edge m (R152). -/
def Dev.bitIndex (d : Dev) (n p : Nat) : Nat :=
  ceilDiv (p - d.get (F.SDM_GRP_DLY.ix (n / 4)) * d.get F.ANG_INC) d.modUnit

/-! ## One bit (R161, R163) -/

/-- A line of F3 after a bit: consecutive count and level. -/
def f3Line (en met : Bool) (k run : Nat) : Nat × Bool :=
  let r := if met then min (run + 1) 16 else 0
  (if en then r else 0, en && decide (k + 1 ≤ r))

/-- A level change of a Damper source. -/
def Dev.sourceLevel (d : Dev) (i : Nat) (old new : Bool) : Dev :=
  if new && !old then d.sourceAssert i else if old && !new then d.sourceDeassert i else d

/-- F3 works on a channel: enabled by its own settings in force, in a group that is not OFF. -/
def Dev.f3On (d : Dev) (n : Nat) : Bool := (d.sch n).f3ch.getLsbD 0 && d.schMode n != 0

/-- F3 lines of a channel (R161), by the settings F3 has in force: suspended until enough bits have entered and during
clock loss. -/
def Dev.f3Eval (d : Dev) (n : Nat) : Dev :=
  let c := d.sch n
  let len := wbits c.f3ch 7 2
  let k := wbits c.f3ch 11 8
  let live := d.f3On n && !c.clk && 2 * len ≤ c.n3 && len != 0
  let s := sinc2 len c.b3 * 2 ^ 15
  let full : Int := (len * len : Nat)
  let (hr, hi) := f3Line (live && c.f3ch.getLsbD 12) (decide (thr15 (wbits c.f3thr 15 0) * full < s)) k c.hiRun
  let (lr, lo) := f3Line (live && c.f3ch.getLsbD 13) (decide (s < thr15 (wbits c.f3thr 31 16) * full)) k c.loRun
  let d := d.schUp n fun x => { x with hiRun := hr, loRun := lr, hi := hi, lo := lo }
  (d.sourceLevel (28 + 2 * n) c.hi hi).sourceLevel (29 + 2 * n) c.lo lo

/-- A condition detected on a channel: in fault from this bit, event and counter (R163, Table 6-5). -/
def Dev.schDetect (d : Dev) (n code : Nat) (cnt : Fld) : Dev :=
  let d := d.schUp n fun c => { c with fault := true, clean := 0 }
  ((d.setIn F.SDM_FAULT n).bump cnt).raise code [n]

/-- The window a channel keeps: enough for the longest cascade, and for F3's. -/
def sdmKeep : Nat := 3 * 512
def f3Keep : Nat := 64

/-- A bit put into a window of the newest. -/
def pushBit (w : Nat) (b : Bool) (keep : Nat) : Nat := (2 * w + (if b then 1 else 0)) % 2 ^ keep

/-- One bit of an enabled channel, after INV: the cascade and the checks (R163 to R165). -/
def Dev.schCheck (d : Dev) (n : Nat) (b : Bool) : Dev :=
  let c := d.sch n
  let bits := pushBit c.bits b sdmKeep
  if c.clk then d.schUp n fun c => { c with bits := bits, run := 0, last := b }
  else
    let run := if c.run = 0 ∨ c.last != b then 1 else c.run + 1
    let stuck := !b && decide (64 ≤ run)
    let rail := b && decide (64 ≤ run)
    let d := d.schUp n fun c => { c with bits := bits, n := min (c.n + 1) sdmKeep, run := min run 64, last := b, stuck := stuck, rail := rail }
    let d := if stuck && !c.stuck then d.schDetect n 0x0402 F.SDM_STUCK_CNT else d
    let d := if rail && !c.rail then d.schDetect n 0x0403 F.SDM_RAIL_CNT else d
    if c.fault && !stuck && !rail then
      if 64 ≤ c.clean + 1 then
        (d.schUp n fun c => { c with fault := false, clean := 0, n := 0, n3 := 0 }).raise 0x0404 [n]
      else d.schUp n fun c => { c with clean := c.clean + 1 }
    else d.schUp n fun c => { c with clean := 0 }

/-- One bit at a channel's ball: F3 takes it by its own settings, the channel by those in effect. -/
def Dev.schBit (d : Dev) (n : Nat) (raw : Bool) : Dev :=
  let d := d.schUp n fun c => { c with
    raw := raw, b3 := pushBit c.b3 (raw != c.f3ch.getLsbD 1) f3Keep, n3 := if c.clk then c.n3 else min (c.n3 + 1) f3Keep }
  let d := if d.schOn n then d.schCheck n (raw != d.flag (F.SDM_CH_INV.ix n)) else d
  d.f3Eval n

/-- SDM_VALID shows a channel's validity (R160). -/
def Dev.schShow (d : Dev) (n : Nat) : Dev := d.putIn F.SDM_VALID n (d.schValid n)

/-- Bits at a channel's ball, oldest first. -/
def Dev.schBits (d : Dev) (n : Nat) (bs : List Bool) : Dev :=
  if bs.isEmpty || !(d.schOn n || d.f3On n) then d
  else ((bs.foldl (fun d b => d.schBit n b) d).schUp n fun c => { c with viol := 0 }).schShow n

/-- The bits of a channel up to an angle event at phase `p`: of CLKOUT those that its clock samples before the event, the ball
holding its level where the list is too short (nothing changes after 2,048 equal bits); of CLKIN and MANCH those sampled at
least 100 ns before the event, which are the list's (R158). (DEDUCED, log entry 108.) -/
def Dev.schTake (d : Dev) (n p : Nat) (bs : List Bool) : Dev :=
  if !(d.schOn n || d.f3On n) then d
  else if d.schMode n != 1 then d.schBits n bs
  else if !d.clkRuns (n / 4) then d
  else
    let c := d.sch n
    let k := d.bitIndex n p - c.next
    let bs := bs.take k
    let held := List.replicate (min (k - bs.length) 2048) (bs.getLastD c.raw)
    (d.schBits n (bs ++ held)).schUp n fun c => { c with next := c.next + k }

/-- Bits of all channels up to an angle event, at which a modulator clock edge lies (R44). -/
def Dev.sdmBits (d : Dev) (p : Nat) (bs : List (List Bool)) : Dev :=
  (d.placeEdge p).forAll (List.range 24) fun d n => d.schTake n p (bs.getD n [])

/-- Bits of one channel beyond those taken: on CLKOUT time passes until its clock has sampled the last of them. -/
def Dev.schFeed (d : Dev) (n : Nat) (bs : List Bool) : Dev :=
  if bs.isEmpty || !(d.schOn n || d.f3On n) then d
  else if d.schMode n != 1 then d.schBits n bs
  else if !d.clkRuns (n / 4) then d
  else
    let k := (d.sch n).next + bs.length
    let d := d.toPhase ((k - 1) * d.modUnit + d.get (F.SDM_GRP_DLY.ix (n / 4)) * d.get F.ANG_INC + 1)
    (d.schBits n bs).schUp n fun c => { c with next := k }

/-- Clock loss of a channel: its group's four channels, or the channel alone in MANCH (Table 6-5). -/
def Dev.sdmClockLoss (d : Dev) (n : Nat) : Dev :=
  let chans := if d.schMode n = 3 then [n] else (List.range 4).map fun i => n / 4 * 4 + i
  d.forAll (chans.filter fun i => d.schOn i && !(d.sch i).clk) fun d i =>
    let d := (d.schUp i fun c => { c with clk := true, stuck := false, rail := false, run := 0 }).schDetect i 0x0401 F.SDM_CLK_CNT
    (d.f3Eval i).schShow i

/-- The MOD synthesiser has started and is out of lock: clock loss of every CLKOUT channel (Table 6-5). -/
def Dev.modLost (d : Dev) : Bool := d.cpr.rows.testBit 7 && !d.flag F.SDM_STATUS_MOD_LOCK

/-- Clock loss ends: bits are judged again from the next one (R165); on CLKOUT not while the synthesiser is out of lock. -/
def Dev.sdmClockBack (d : Dev) (n : Nat) : Dev :=
  if d.schMode n = 1 && d.modLost then d else
  let chans := if d.schMode n = 3 then [n] else (List.range 4).map fun i => n / 4 * 4 + i
  d.forAll chans fun d i => d.schUp i fun c => { c with clk := false }

/-- A Manchester code violation: counted, and the bit replaced with the previous one (R153); the eighth in a row is loss of
lock (Table 6-5). -/
def Dev.manchViolation (d : Dev) (n : Nat) : Dev :=
  if !d.schOn n || d.schMode n != 3 then d
  else
    let k := (d.sch n).viol + 1
    let d := ((d.bump F.SDM_MANCH_CNT).schBit n (d.sch n).raw).schUp n fun c => { c with viol := min k 8 }
    if k = 8 then d.sdmClockLoss n else d.schShow n

/-- F3 of a channel takes the settings in effect; a change of EN or INV makes it refill (R161). -/
def Dev.f3Take (d : Dev) (n : Nat) : Dev :=
  let w := d.word (F.SDM_CH_EN.ix n).addr
  let t := d.word (F.SDM_F3_THR_THR_HI.ix n).addr
  let c := d.sch n
  if c.f3ch = w && c.f3thr = t then d
  else (d.schUp n fun c => { c with
    f3ch := w, f3thr := t, n3 := if wbits c.f3ch 1 0 = wbits w 1 0 then c.n3 else 0 }).f3Eval n

/-- Adopted F3 settings act at the first common-angle sample instant at or after the adoption (R21). -/
def Dev.f3Adopt (d : Dev) : Dev :=
  if d.sdm.f3Due then
    let d := d.forAll (List.range 24) Dev.f3Take
    { d with sdm := { d.sdm with f3Due := false } }
  else d

/-- A channel starts over: its cascades refill (R160). Its fault and conditions go on where it stayed monitored; a channel newly
monitored starts without any, but for a clock that is lost (R163). -/
def Dev.schRefill (old d : Dev) (n : Nat) : Dev :=
  let kept := old.schOn n && d.schOn n && old.schMode n == d.schMode n
  let d := d.schUp n fun c =>
    let c := { c with bits := 0, n := 0, n3 := 0 }
    if kept then c
    else { c with run := 0, clk := false, stuck := false, rail := false, clean := 0, fault := false, viol := 0
                  next := d.bitIndex n d.time.phase }
  let d := if d.schOn n && d.schMode n = 1 && d.modLost && !(d.sch n).clk then d.sdmClockLoss n else d
  (d.f3Eval n).schShow n

/-- After a change of the configuration of SDM, channels whose enabling, INV, DLY, ALEN or group mode changed
refill (R160), clock outputs follow their modes (R156), and F3 has settings to take; `old` is the device before the change. -/
def Dev.sdmRefill (old d : Dev) : Dev :=
  let d := d.clkOutputs
  let d := d.forAll (List.range 24) fun d n =>
    let same (f : Fld) : Bool := old.get f == d.get f
    if same (F.SDM_CH_EN.ix n) && same (F.SDM_CH_INV.ix n) && same (F.SDM_GRP_MODE.ix (n / 4)) && same (F.SDM_GRP_DLY.ix (n / 4))
      && old.schP n == d.schP n then d
    else Dev.schRefill old d n
  let d := if old.modUnit = d.modUnit then d else
    d.forAll (List.range 24) fun d n => d.schUp n fun c => { c with next := d.bitIndex n d.time.phase }
  let d := { d with sdm := { d.sdm with f3Due := true } }
  if d.now = d.ang.sampleAt then d.f3Adopt else d

/-! ## Reading F1 and F2 -/

/-- F1 of every channel at a device frame start (R158): the words for nodes 0x0100 on. -/
def Dev.sdmF1 (d : Dev) : Dev :=
  d.forAll (List.range 24) fun d n =>
    if d.schValid n then
      let w := scaleWith (d.schX n) (d.get (F.SDM_CGAIN.ix n)) (d.get (F.SDM_COFFS.ix n))
      d.schUp n fun c => { c with f1 := w }
    else d

/-- F2 of every channel at a common-angle sample instant, and SDM_VALID (R158, R160). -/
def Dev.sdmF2 (d : Dev) : Dev :=
  d.forAll (List.range 24) fun d n =>
    let ok := d.schValid n
    let d := d.putIn F.SDM_VALID n ok
    if ok then
      let x := d.schX n
      let w := scaleWith x (d.get (F.SDM_MGAIN.ix n)) (d.get (F.SDM_MOFFS.ix n))
      d.schUp n fun c => { c with x := x, f2 := w }
    else d

/-- F2 of a channel as delivered, with its VALID flag. -/
def Dev.f2 (d : Dev) (n : Nat) : Nat × Bool := ((d.sch n).f2.toNat, d.bitIn F.SDM_VALID n)

/-! ## Dual range (R166 to R169) -/

/-- A pair's state changed. -/
def Dev.drUp (d : Dev) (j : Nat) (f : DrPair → DrPair) : Dev :=
  { d with sdm := { d.sdm with pair := upd d.sdm.pair j f } }

/-- 1/32, and the largest binary32 numbers not above 1/20 and 0.8. -/
def r32 : Nat := f32.ofRat 1 32
def r20 : Nat := 0x3D4CCCCC
def r08 : Nat := 0x3F4CCCCC

/-- One pair at a common-angle sample (R166, R167). -/
def Dev.drSample (d : Dev) (j : Nat) : Dev :=
  if !d.flag (F.SDM_DR_CFG_EN.ix j) then d else
  let h := d.get (F.SDM_DR_CFG_HI.ix j)
  let l := d.get (F.SDM_DR_CFG_LO.ix j)
  let (yh, hok) := d.f2 h
  let (_, lok) := d.f2 l
  let xh := (d.sch h).x
  let xl := (d.sch l).x
  let p := d.sdm.pair.getD j {}
  let was := d.bitIn F.SDM_DR_STAT_LOW j
  let low := (was || (p.first && p.prevQual)) && f32.le (kAbs xh) r20 && f32.le (kAbs xl) r08 && lok
  let out := if low then kOut ((kFma xl (ftz (d.get (F.SDM_DR_G.ix j))) (ftz (d.get (F.SDM_DR_O.ix j)))).getD 0)
    else BitVec.ofNat 32 yh
  let d := if low != was then
      ((d.putIn F.SDM_DR_STAT_LOW j low).bump F.SDM_DR_SW_CNT).raise 0x0405 [j, if low then 1 else 0]
    else d
  let d := d.putIn F.SDM_DR_STAT_EST_HALT j (!(hok && lok))
  let q := p.qual && f32.lt (kAbs xh) r32 && hok && lok
  let w (x : Nat) : Nat := widen x
  d.drUp j fun p => { p with
    qual := q, first := false, out := out, ok := if low then lok else hok
    count := p.count + 1, sx := f64.add p.sx (w xl), sy := f64.add p.sy (w yh)
    sxx := f64.add p.sxx (f64.mul (w xl) (w xl)), sxy := f64.add p.sxy (f64.mul (w xl) (w yh)) }

/-- The estimate at the end of a qualifying cycle (R168). -/
def Dev.drEstimate (d : Dev) (j : Nat) : Dev :=
  let p := d.sdm.pair.getD j {}
  let n := f64.ofInt p.count
  let den := f64.sub (f64.mul n p.sxx) (f64.mul p.sx p.sx)
  let gc := f64.div (f64.sub (f64.mul n p.sxy) (f64.mul p.sx p.sy)) den
  let oc := f64.div (f64.sub p.sy (f64.mul gc p.sx)) n
  let spread := f64.div den (f64.mul n n)
  let lim := f64.mul (f64.ofInt (d.get (F.SDM_DR_CFG_GLIM.ix j))) (f64.ofRat 1 1000)
  let dev := f64.abs (f64.sub (f64.div gc (widen (d.get (F.SDM_DR_G0.ix j)))) (f64.ofInt 1))
  if p.count = 0 || f64.lt spread (f64.ofRat 1 4096) then d
  else if f64.lt lim dev then d.raise 0x0406 [j]
  else
    let k := f64.pack (.fin false 1 (-(d.get (F.SDM_DR_CFG_EST_K.ix j) : Int)))
    let step (f : Fld) (c : Nat) : Nat :=
      let v := widen (d.get f)
      narrow (f64.add v (f64.mul (f64.sub c v) k))
    let g := step (F.SDM_DR_G.ix j) gc
    let o := step (F.SDM_DR_O.ix j) oc
    (d.put (F.SDM_DR_G.ix j) g).put (F.SDM_DR_O.ix j) o

/-- A counted line-cycle boundary for the pairs: the cycle's verdict, its estimate, and new sums. -/
def Dev.drBoundary (d : Dev) : Dev :=
  d.forAll (List.range 4) fun d j =>
    if !d.flag (F.SDM_DR_CFG_EN.ix j) then d else
    let q := (d.sdm.pair.getD j {}).qual
    let d := if q && d.flag (F.SDM_DR_CFG_EST_EN.ix j) then d.drEstimate j else d
    d.drUp j fun p => { p with prevQual := q, qual := true, first := true, count := 0, sx := 0, sy := 0, sxx := 0, sxy := 0 }

/-- A pair whose configuration a package changed starts over in HIGH with G0 and O0 (R169). -/
def Dev.drRestart (old d : Dev) : Dev :=
  d.forAll (List.range 4) fun d j =>
    let fs := [(F.SDM_DR_CFG_HI.ix j).whole, F.SDM_DR_G0.ix j, F.SDM_DR_O0.ix j]
    if fs.all fun f => old.get f == d.get f then d
    else
      let d := (d.put (F.SDM_DR_G.ix j) (d.get (F.SDM_DR_G0.ix j))).put (F.SDM_DR_O.ix j) (d.get (F.SDM_DR_O0.ix j))
      ((d.putIn F.SDM_DR_STAT_LOW j false).putIn F.SDM_DR_STAT_EST_HALT j false).drUp j fun _ => {}

/-- What MET receives for a current channel (R166): the pair's output where the channel is H of an enabled pair. -/
def Dev.metF2 (d : Dev) (n : Nat) : Nat × Bool :=
  match (List.range 4).find? fun j => d.flag (F.SDM_DR_CFG_EN.ix j) && d.get (F.SDM_DR_CFG_HI.ix j) == n with
  | some j => let p := d.sdm.pair.getD j {}; (p.out.toNat, p.ok)
  | none => d.f2 n

/-- All SDM work at a common-angle sample instant. -/
def Dev.sdmSample (d : Dev) : Dev := d.sdmF2.forAll (List.range 4) Dev.drSample

/-- SDM_STATUS.CLK_OK: a group's bits arrive without clock loss. -/
def Dev.sdmClkOk (d : Dev) : Nat :=
  (List.range 6).foldl (fun acc g =>
    let mode := d.get (F.SDM_GRP_MODE.ix g)
    let lost := (List.range 4).any fun i => d.schOn (4 * g + i) && (d.sch (4 * g + i)).clk
    if mode != 0 && !lost && (mode != 1 || d.flag F.SDM_STATUS_MOD_LOCK) then setBit acc g else acc) 0

end Sys2Proof.Machine
end

