-- ==== Sys2Proof/Machine/Meter.lean ====
section
/-! DEFINITION. Revenue metering (chapter 8): samples, the per-cycle quantities, the energy registers,
snapshots, profile records, and energy across power loss. MET computes in binary64 (R193), each formula in
its written order. -/

namespace Sys2Proof.Machine

/-! ## Settings in force (R202) -/

/-- The words of block 0x06 that settings hold: configuration, corrections, voltage-event settings. -/
def metSetting (a : Nat) : Bool :=
  (0x060004 ≤ a && a ≤ 0x06002F) || (0x060100 ≤ a && a ≤ 0x0602FF) || (0x062000 ≤ a && a ≤ 0x062017)

/-- The settings words now in the register file. -/
def Dev.metSettings (d : Dev) : List (Nat × Word) := d.regs.filter fun (a, _) => metSetting a

/-- A field of a copy of the settings. -/
def cfgGet (m : List (Nat × Word)) (f : Fld) : Nat := wbits (Mem.getD m f.addr (resetWord f.addr)) f.hi f.lo

/-- A setting as MET takes samples with it, as it processes them, and as the cycle that closed last had it. -/
def Dev.mget (d : Dev) (f : Fld) : Nat := cfgGet d.met.cfg f
def Dev.pget (d : Dev) (f : Fld) : Nat := cfgGet d.met.proc f
def Dev.oget (d : Dev) (f : Fld) : Nat := cfgGet d.met.past f

/-- MET's state changed. -/
def Dev.metUp (d : Dev) (f : Met → Met) : Dev := { d with met := f d.met }

/-- ANG is in HOLDOVER. -/
def Dev.holdover (d : Dev) : Bool := d.get F.ANG_STATUS_LOCK == 2

/-- Version of the owner setting package in force; 0 with none. -/
def Dev.pkgVersion (d : Dev) : Nat :=
  match d.hrt.pkgForce with
  | some i => (d.hrt.pkg.getD i {}).version
  | none => 0

/-! ## Samples (R187, R191, R193) -/

/-- Sine and cosine of an angle as binary64, rounded once: (cos, sin). -/
def trig64 (θ : Nat) : Nat × Nat :=
  let a := θ % 2 ^ 30
  let (s, c) := if a ≤ 2 ^ 29 then sincosFix a else let (s, c) := sincosFix (2 ^ 30 - a); (c, s)
  let f (neg : Bool) (v : Nat) : Nat := if v = 0 then 0 else f64.pack (.fin neg v (-200))
  match θ / 2 ^ 30 % 4 with
  | 0 => (f false c, f false s)
  | 1 => (f true s, f false c)
  | 2 => (f true c, f true s)
  | _ => (f false s, f true c)

/-- The sample taken now. -/
def Dev.metTake (d : Dev) : MetSample :=
  let vs := [F.MET_CHAN_V_VA, F.MET_CHAN_V_VB, F.MET_CHAN_V_VC].map fun f => d.f2 (d.mget f)
  let is := [F.MET_CHAN_I_IA, F.MET_CHAN_I_IB, F.MET_CHAN_I_IC].map fun f => d.metF2 (d.mget f)
  let inEn := d.mget F.MET_CHAN_I_IN_EN = 1
  let n : Nat × Bool := if inEn then d.metF2 (d.mget F.MET_CHAN_I_IN) else (0, true)
  { v := vs.map fun x => widen x.1
    i := (is ++ [n]).map fun x => widen x.1
    ok := (List.zipWith (fun v i => v.2 && i.2) vs is) ++ [n.2]
    theta := d.ang.theta
    at_ := d.now
    hold := d.holdover
    first := d.met.opening }

/-- Number of the first metering channel that is invalid now. -/
def Dev.badChannel (d : Dev) : Nat :=
  let cs := ([F.MET_CHAN_V_VA, F.MET_CHAN_V_VB, F.MET_CHAN_V_VC, F.MET_CHAN_I_IA, F.MET_CHAN_I_IB, F.MET_CHAN_I_IC].map fun f => d.mget f)
  (cs.find? fun c => !(d.metF2 c).2).getD (cs.headD 0)

/-- Lagrange weight l_m(δ), m from -2 to 2 (R193). -/
def lagrange (δ : Nat) (m : Int) : Nat :=
  ([-2, -1, 0, 1, 2].filter fun j => j != m).foldl
    (fun acc j => f64.mul acc (f64.div (f64.sub δ (f64.ofInt j)) (f64.ofInt (m - j)))) (f64.ofInt 1)

/-- i'[n] = G Σ l_m(δ) i[n+m], where `get m` is i[n+m] (R193). -/
def corrected (g δ : Nat) (get : Int → Nat) : Nat :=
  f64.mul g (f64.sum ([-2, -1, 0, 1, 2].map fun m => f64.mul (lagrange δ m) (get m)))

/-- PWM clocks as seconds. -/
def clkSec (n : Nat) : Nat := f64.div (f64.ofInt n) (f64.ofInt 500000000)

/-- One sample with its corrected currents joins the open cycle's sums (R188, R191, R194). -/
def MetSums.add (m : MetSums) (s : MetSample) (ic : List Nat) (dt : Nat) : MetSums :=
  let w := clkSec dt
  let term (x : Nat) (a b : Nat) : Nat := if s.ok.getD x false then f64.mul (f64.mul a b) w else 0
  let v (x : Nat) := s.v.getD x 0
  let i (x : Nat) := ic.getD x 0
  { vi := (List.range 3).map fun x => f64.add (m.vi.getD x 0) (term x (v x) (i x))
    vv := (List.range 3).map fun x => f64.add (m.vv.getD x 0) (term x (v x) (v x))
    ii := (List.range 4).map fun x => f64.add (m.ii.getD x 0) (term x (i x) (i x))
    samples := m.samples + 1
    clocks := m.clocks + dt
    flags := m.flags ||| (if s.hold then 1 else 0) ||| (if (s.ok.take 3).all id then 0 else 4) }

/-! ## Closing a cycle (R192 to R197) -/

/-- Gain and phase of a channel for an RMS current, or of its first breakpoint (R192): G and δ. -/
def Dev.metCorrection (d : Dev) (c : Nat) (rms : Option Nat) : Nat × Nat :=
  let bp (b : Nat) := widen (d.pget ((F.MET_CORR_I_BP.ix c).ix b))
  let g (b : Nat) := widen (d.pget ((F.MET_CORR_GAIN.ix c).ix b))
  let ph (b : Nat) := f64.div (f64.ofInt (sext 16 (d.pget ((F.MET_CORR_PHASE.ix c).ix b)))) (f64.ofInt 1000)
  let δ (p : Nat) := f64.div (f64.mul p (f64.ofInt d.S)) (f64.ofInt 360)
  match rms with
  | none => (g 0, δ (ph 0))
  | some x =>
    if f64.le x (bp 0) then (g 0, δ (ph 0))
    else if f64.le (bp 7) x then (g 7, δ (ph 7))
    else
      let b := ((List.range 7).find? fun b => f64.lt x (bp (b + 1))).getD 6
      let t := f64.div (f64.sub x (bp b)) (f64.sub (bp (b + 1)) (bp b))
      let mix (f : Nat → Nat) : Nat := f64.add (f b) (f64.mul t (f64.sub (f (b + 1)) (f b)))
      (mix g, δ (mix ph))

/-- An increment of energy on a register (R197). -/
def Dev.addEnergy (d : Dev) (i e : Nat) : Dev :=
  let x := f64.add (f64.mul e (f64.ofInt (2 ^ 32))) (d.met.residue.getD i 0)
  let n := f64.round x
  d.metUp fun m => { m with
    energy := upd m.energy i fun v => wrap 96 ((v : Int) + n)
    residue := m.residue.set i (f64.sub x (f64.ofInt n)) }

/-- The energies of one register set (phase A, B, C or T) booked (R195, R196). -/
def Dev.bookSet (d : Dev) (x ep ep1 eq1 es es1 : Nat) : Dev :=
  let dir (d : Dev) (base e : Nat) : Dev :=
    let d := if f64.lt 0 e then d.addEnergy (base + x) e else if f64.lt e 0 then d.addEnergy (base + 4 + x) (f64.neg e) else d
    d.addEnergy (base + 8 + x) e
  let d := dir (dir d 0 ep) 12 ep1
  let pos := f64.le 0 ep1
  let d := if f64.lt 0 eq1 then d.addEnergy ((if pos then 24 else 28) + x) eq1
    else if f64.lt eq1 0 then d.addEnergy ((if pos then 36 else 32) + x) (f64.neg eq1) else d
  ((d.addEnergy (40 + x) eq1).addEnergy (44 + x) es).addEnergy (48 + x) es1

/-- Quantities of one phase (Table 8-1). -/
structure PhaseQ where
  ep : Nat
  v : Nat
  i : Nat
  p1 : Nat
  q1 : Nat
  ep1 : Nat
  eq1 : Nat
  es : Nat
  es1 : Nat
  pf : Nat
  thdV : Nat
  thdI : Nat
  deriving DecidableEq, Repr

/-- RMS phasor of one series over the last S corrected samples, oldest first (R194): (re, im). -/
def dftPhasor (s : Nat) (xs : List (Nat × Nat)) : Nat × Nat :=
  let k := f64.div (f64.sqrt (f64.ofInt 2)) (f64.ofInt s)
  let re := f64.sum (xs.map fun (x, θ) => f64.mul x (trig64 θ).1)
  let im := f64.sum (xs.map fun (x, θ) => f64.mul x (trig64 θ).2)
  (f64.mul k re, f64.neg (f64.mul k im))

/-- √(a² + b²). -/
def hyp64 (a b : Nat) : Nat := f64.sqrt (f64.add (f64.mul a a) (f64.mul b b))

/-- THD of an RMS value against its fundamental. -/
def thd64 (x x1 : Nat) : Nat :=
  if f64.eq x1 0 then 0 else f64.div (f64.sqrt (f64.max (f64.sub (f64.mul x x) (f64.mul x1 x1)) 0)) x1

/-- Quantities of phase x of the cycle that closes; `tc` is its duration in seconds. -/
def Dev.phaseQ (d : Dev) (x tc : Nat) : PhaseQ :=
  let kv := widen (d.pget F.MET_RATIO_V)
  let ki := widen (d.pget F.MET_RATIO_I)
  let h := f64.ofInt 3600
  let m := d.met.sums
  let s := d.S
  let win := (d.met.dft.take s).reverse
  let (vr, vi) := dftPhasor s (win.map fun p => (p.v.getD x 0, p.theta))
  let (ir, ii) := dftPhasor s (win.map fun p => (p.i.getD x 0, p.theta))
  let vr := f64.mul kv vr
  let vi := f64.mul kv vi
  let ir := f64.mul ki ir
  let ii := f64.mul ki ii
  let ep := f64.div (f64.mul (f64.mul kv ki) (m.vi.getD x 0)) h
  let v := f64.mul kv (f64.sqrt (f64.div (m.vv.getD x 0) tc))
  let i := f64.mul ki (f64.sqrt (f64.div (m.ii.getD x 0) tc))
  let p1 := f64.add (f64.mul vr ir) (f64.mul vi ii)
  let q1 := f64.sub (f64.mul vi ir) (f64.mul vr ii)
  let v1 := hyp64 vr vi
  let i1 := hyp64 ir ii
  let vit := f64.mul (f64.mul v i) tc
  { ep := ep, v := v, i := i, p1 := p1, q1 := q1
    ep1 := f64.div (f64.mul p1 tc) h, eq1 := f64.div (f64.mul q1 tc) h
    es := f64.div vit h, es1 := f64.div (f64.mul (f64.mul v1 i1) tc) h
    pf := if f64.eq (f64.mul v i) 0 then 0 else f64.div (f64.mul h ep) vit
    thdV := thd64 v v1, thdI := thd64 i i1 }

/-- Flags that accompany every cycle of this power-on (Table 8-3). -/
def Dev.powerFlags (d : Dev) : Nat :=
  (if d.flag F.MET_STATUS_EMBER_MISSED then 8 else 0) + (if d.flag F.MET_STATUS_NO_HISTORY then 16 else 0)
  + (if d.met.restart then 64 else 0)

/-- The open cycle closes over its sums (R194 to R197): registers, node words, and the correction of the next
cycle; settings that end metering (R202) end it here. `extra` are further flags. -/
def Dev.metClose (d : Dev) (extra : Nat) : Dev :=
  let m := d.met.sums
  let irregular := m.samples != d.S
  let flags := m.flags ||| (if irregular then 2 else 0) ||| d.powerFlags ||| extra
  let d := if irregular then d.raise 0x0607 else d
  let fresh (d : Dev) : Dev :=
    let d := d.metUp fun x => { x with sums := {}, past := x.proc, proc := x.cfg }
    if d.mget F.MET_CFG_EN = 1 then d else d.metUp fun x => { x with open_ := false, opening := false, hist := [], dft := [] }
  if m.clocks = 0 then fresh d else
  let tc := clkSec m.clocks
  let q := (List.range 3).map fun x => d.phaseQ x tc
  let z (f : PhaseQ → Nat) : Nat := f64.sum (q.map f)
  let d := d.forAll ((List.range 3).zip q) fun d (x, p) => d.bookSet x p.ep p.ep1 p.eq1 p.es p.es1
  let d := d.bookSet 3 (z PhaseQ.ep) (z PhaseQ.ep1) (z PhaseQ.eq1) (z PhaseQ.es) (z PhaseQ.es1)
  let h := f64.ofInt 3600
  let vi := f64.sum (q.map fun p => f64.mul p.v p.i)
  let rate (e : Nat) : Nat := f64.div (f64.mul h e) tc
  let inRms := f64.mul (widen (d.pget F.MET_RATIO_I)) (f64.sqrt (f64.div (m.ii.getD 3 0) tc))
  let pfT := if f64.eq vi 0 then 0 else f64.div (f64.mul h (z PhaseQ.ep)) (f64.mul tc vi)
  let vals := q.map PhaseQ.v ++ q.map PhaseQ.i ++ [inRms]
    ++ q.map (fun p => rate p.ep) ++ [rate (z PhaseQ.ep)]
    ++ q.map PhaseQ.q1 ++ [rate (z PhaseQ.eq1)]
    ++ q.map (fun p => f64.mul p.v p.i) ++ [vi]
    ++ q.map PhaseQ.pf ++ [pfT]
    ++ q.map PhaseQ.thdV ++ q.map PhaseQ.thdI
    ++ [f64.div (f64.ofInt 1) tc]
  let rms := (List.range 4).map fun x => f64.sqrt (f64.div (m.ii.getD x 0) tc)
  let d := fresh (d.metUp fun x => { x with
    closed := some ⟨vals.map fun v => BitVec.ofNat 32 (narrow v), flags, m.clocks⟩
    prevI := some rms })
  let cs := (List.range 4).map fun c => d.metCorrection c (some (rms.getD c 0))
  d.metUp fun x => { x with gain := cs.map Prod.fst, delta := cs.map Prod.snd }

/-- A sample about to be processed opens a cycle where it is the first of one, with its gain and phase (R192). -/
def Dev.metOpen (d : Dev) (s : MetSample) : Dev :=
  if !s.first then d else
  let cs := (List.range 4).map fun c => d.metCorrection c (d.met.prevI.map fun l => l.getD c 0)
  d.metUp fun m => { m with open_ := true, sums := {}, gain := cs.map Prod.fst, delta := cs.map Prod.snd }

/-- A sample with its corrected currents and its weight is processed into the open cycle; the sample after it closes the
cycle where it opens the next. -/
def Dev.metAdd (d : Dev) (s : MetSample) (ic : List Nat) (next : Option MetSample) : Dev :=
  if !d.met.open_ then d else
  let ok (x : Nat) (v : Nat) : Nat := if s.ok.getD x false then v else 0
  let p : MetProc := ⟨(List.range 3).map fun x => ok x (s.v.getD x 0), (List.range 3).map fun x => ok x (ic.getD x 0), s.theta⟩
  let dt := match next with | some n => n.at_ - s.at_ | none => 0
  let d := d.metUp fun m => { m with sums := m.sums.add s ic dt, dft := (p :: m.dft).take 1024 }
  if next.any MetSample.first then d.metClose 0 else d

/-- Sample number two back is processed with its weight; a cycle whose last sample it is closes (R193). -/
def Dev.metProcess (d : Dev) : Dev :=
  match d.met.hist with
  | _ :: nxt :: s :: _ =>
    let d := d.metOpen s
    let cur (c : Nat) (m : Int) : Nat := match d.met.hist[(2 - m).toNat]? with | some y => y.i.getD c 0 | none => 0
    d.metAdd s ((List.range 4).map fun c => corrected (d.met.gain.getD c 0) (d.met.delta.getD c 0) (cur c)) (some nxt)
  | _ => d

/-- A pending sample is processed with δ = 0 and its cycle's gain (R205). -/
def Dev.metFinish (d : Dev) (s : MetSample) (next : Option MetSample) : Dev :=
  let d := d.metOpen s
  d.metAdd s ((List.range 4).map fun c => f64.mul (d.met.gain.getD c 0) (s.i.getD c 0)) next

/-- MET at a common-angle sample instant: the sample is taken, and the one two back processed. The cycle in progress when
settings end metering still completes (R202). -/
def Dev.metSample (d : Dev) : Dev :=
  if !d.met.run || (d.mget F.MET_CFG_EN != 1 && !(d.met.open_ && d.pget F.MET_CFG_EN == 1)) then d else
  let s := d.metTake
  let bad := ((s.ok.take 3).filter fun b => !b).length
  let d := if bad = 0 then d else d.bump F.MET_INVALID_CNT bad
  let d := if bad != 0 && !d.met.wasBad then d.raise 0x0606 [d.badChannel] else d
  (d.metUp fun m => { m with
    hist := (s :: m.hist).take 1026, wasBad := bad != 0, opening := false, samples := m.samples + 1 }).metProcess

/-- A counted line-cycle boundary: the next sample opens a metering cycle (R188, R189). -/
def Dev.metBoundary (d : Dev) : Dev :=
  if !d.met.run || d.mget F.MET_CFG_EN != 1 then d
  else d.metUp fun m => { m with opening := true, cyc := if m.open_ then m.cyc + 1 else m.cyc }

/-! ## Snapshots and profile records (R199 to R201) -/

/-- Number `v` written into two words. -/
def Dev.put64 (d : Dev) (lo hi : Fld) (v : Nat) : Dev := (d.put lo (v % 2 ^ 32)).put hi (v / 2 ^ 32)

/-- The live energy registers copied into the snapshot's. -/
def Dev.metRegsOut (d : Dev) : Dev :=
  d.forAll (List.range 52) fun d i =>
    let v := d.met.energy.getD i 0
    d.forAll (List.range 3) fun d w => d.put (F.MET_ENERGY.ix (3 * i + w)) (v / 2 ^ (32 * w) % 2 ^ 32)

/-- The snapshot's energy register i. -/
def Dev.snapReg (d : Dev) (i : Nat) : Nat :=
  d.get (F.MET_ENERGY.ix (3 * i)) + d.get (F.MET_ENERGY.ix (3 * i + 1)) * 2 ^ 32 + d.get (F.MET_ENERGY.ix (3 * i + 2)) * 2 ^ 64

/-- MET_CYC of the snapshot. -/
def Dev.snapCyc (d : Dev) : Nat := d.get F.MET_SNAP_CYC_LO + d.get F.MET_SNAP_CYC_HI * 2 ^ 32

/-- A record waits for its ring; its producer may hold 16 in all, whatever ring they wait for (R201, R221): none where it may
not. -/
def Dev.ringHold (d : Dev) (r : Nat) (p : Producer) (bytes : List Byte) : Option Dev :=
  let n := (d.hst.rings.map fun g => (g.waiting.filter fun x => x.prod == p).length).sum
  if n < 16 then some (d.ringQueue r ⟨p, bytes⟩) else none

/-- The entries of a profile record: enabled register indices (Table 8-11). -/
def Dev.profEntries (d : Dev) : List Nat :=
  ((List.range 16).map fun e => d.oget (F.MET_PROF_SEL.ix (e / 4)) / 256 ^ (e % 4) % 256).filterMap fun b =>
    if b.testBit 7 then some (b % 64) else none

/-- Profile record (Table 8-5). -/
def Dev.profRecord (d : Dev) (flags : Nat) : List Byte :=
  let es := d.profEntries
  leBytes 2 0x5601 ++ leBytes 1 es.length ++ leBytes 1 0 ++ leBytes 2 (d.oget F.MET_PROF_CFG_N) ++ leBytes 2 0
  ++ leBytes 8 d.snapCyc ++ leBytes 8 d.met.snapSec ++ leBytes 4 d.met.snapNs ++ leBytes 4 flags ++ leBytes 8 d.met.profDur
  ++ es.flatMap fun i => leBytes 1 i ++ leBytes 3 0 ++ leBytes 12 (d.snapReg i)

/-- A profile interval begins: no flag, no duration, and no kindling in it yet (R200, R202). -/
def Dev.profRestart (d : Dev) : Dev := d.metUp fun m => { m with profFlags := 0, profDur := 0, restart := false }

/-- A profile record at an interval's end (R201). -/
def Dev.profEnd (d : Dev) : Dev :=
  let flags := d.met.profFlags ||| (if d.met.profDropped then 128 else 0)
  let d' := match d.ringHold (d.oget F.MET_PROF_CFG_RING) .profile (d.profRecord flags) with
    | some e => e.metUp fun m => { m with profDropped := false }
    | none => ((d.bump F.MET_PROF_DROP_CNT).metUp fun m => { m with profDropped := true }).raise 0x0608
  d'.profRestart

/-- The record of a save from the snapshot's words, or from the live registers. -/
def Dev.metRecord (d : Dev) (ember : Bool) : MetSave :=
  let n := d.mget F.MET_PROF_CFG_N
  { ember := ember, saveInt := d.mget F.MET_CFG_SAVE_INT, seq := d.met.seq
    cyc := if ember then d.met.cyc else d.snapCyc
    sec := if ember then d.ptpSec else d.met.snapSec
    ns := if ember then d.ptpSub else d.met.snapNs
    flags := if ember then d.met.snap.flags ||| 256 else d.get F.MET_SNAP_FLAGS
    regs := if ember then d.met.energy else (List.range 52).map d.snapReg
    profSeq := if n = 0 then 0 else (if ember then d.met.cyc else d.snapCyc) % n
    pkgVer := d.pkgVersion, missedCnt := d.get F.MET_MISSED_CNT
    missedMs := d.get F.MET_MISSED_MS_LO + d.get F.MET_MISSED_MS_HI * 2 ^ 32, good := false }

/-- MET_SNAPSHOT: the closed cycle's snapshot is latched (R199); with a new N the interval restarts after it (R202). -/
def Dev.metSnapshot (d : Dev) : Dev :=
  match d.met.closed with
  | none => d
  | some c =>
    let flags := c.flags ||| (if d.ptpOk then 32 else 0)
    let d := d.metRegsOut.put64 F.MET_SNAP_CYC_LO F.MET_SNAP_CYC_HI d.met.cyc
    let d := (d.put F.MET_SNAP_FLAGS flags).put F.MET_SNAP_DUR c.dur
    let d := d.metUp fun m => { m with
      closed := none, snap := { c with flags := flags }, snapSec := d.ptpSec, snapNs := d.ptpSub
      profFlags := m.profFlags ||| flags, profDur := m.profDur + c.dur }
    let n := d.oget F.MET_PROF_CFG_N
    let d := if n != 0 && d.met.cyc % n == 0 then d.profEnd else d
    let d := if d.oget F.MET_PROF_CFG_N = d.mget F.MET_PROF_CFG_N then d else d.profRestart
    if !d.met.due then d else d.metUp fun m => { m with due := false, save := some (d.metRecord false) }

/-- Nodes of the latest snapshot (Table 8-4). -/
def Dev.metNodes (d : Dev) : List (Nat × Word) :=
  let ws := d.met.snap.nodes
  ((List.range ws.length).map fun i => (0x0040 + i, ws.getD i 0))
  ++ [(0x005E, BitVec.ofNat 32 (d.get F.MET_SNAP_FLAGS)), (0x005F, BitVec.ofNat 32 (d.get F.MET_SNAP_CYC_LO))]

/-! ## Energy across power loss (R204 to R208) -/

/-- The save takes a SEQ. -/
def Dev.takeSeq (d : Dev) : Dev :=
  (d.put64 F.MET_SEQ_LO F.MET_SEQ_HI d.met.seq).metUp fun m => { m with seq := m.seq + 1 }

/-- A save goes to the next ring slot with the next SEQ (R204). -/
def Dev.metWrite (d : Dev) (r : MetSave) : Dev :=
  let j := d.get F.MET_STATUS_RING_NEXT
  let r := { r with seq := d.met.seq }
  let d := d.takeSeq.metUp fun m => { m with saving := some (j, r), ring := m.ring.set j (some r) }
  d.put F.MET_STATUS_SAVE_BUSY 1

/-- MET_PERIODIC_SAVE: the snapshot latched first after a save fell due is written; while a write is in progress it waits. -/
def Dev.metPeriodicSave (d : Dev) : Dev :=
  if !d.met.run || d.met.saving.isSome then d else
  match d.met.save with
  | some r => (d.metUp fun m => { m with save := none }).metWrite r
  | none => d

/-- PERIODIC_SAVE_COMPLETE: the slot's write and read-back end (R204). -/
def Dev.metSaveDone (d : Dev) (ok : Bool) : Dev :=
  match d.met.saving with
  | none => d
  | some (j, rec_) =>
    let d := d.metUp fun m => { m with saving := none, ring := m.ring.set j (some { rec_ with good := ok }) }
    let d := (d.put F.MET_STATUS_SAVE_BUSY 0).put F.MET_STATUS_RING_NEXT ((j + 1) % 32)
    if ok then d else d.raise 0x0605

/-- The ember slot to write: not the one with the valid record of the higher SEQ (R205). -/
def Met.emberNext (m : Met) : Nat :=
  let q (i : Nat) : Nat := match m.ember.getD i none with | some r => if r.good then r.seq + 1 else 0 | none => 0
  if q 0 ≤ q 1 then 0 else 1

/-- The ember sequence (R205): sampling stops, the open cycle closes over the samples it has, and the record
goes to an ember slot; a periodic write in progress is abandoned. (DEDUCED, log entry 114.) -/
def Dev.metEmber (d : Dev) : Dev :=
  if !d.met.run then d else
  let d := d.put F.MET_STATUS_SAVE_BUSY 0
  let d := d.metUp fun m => { m with run := false, saving := none, due := false, save := none }
  let d := match d.met.hist with
    | last :: s :: _ => (d.metFinish s (some last)).metFinish last none
    | [last] => d.metFinish last none
    | [] => d
  let counted := d.met.opening
  let d := if d.met.open_ then
      (d.metClose 256).metUp fun m => { m with cyc := if counted then m.cyc else m.cyc + 1, open_ := false, opening := false }
    else d
  let j := d.met.emberNext
  let rec_ := { d.metRecord true with flags := (match d.met.closed with | some c => c.flags | none => d.met.snap.flags) ||| 256 ||| (if d.ptpOk then 32 else 0) }
  d.takeSeq.metUp fun m => { m with embering := some (j, rec_), ember := m.ember.set j (some rec_), closed := none }

/-- EMBER_WRITE_COMPLETE: the record is in MRAM and read back (R205). -/
def Dev.metEmberDone (d : Dev) : Dev :=
  match d.met.embering with
  | none => d
  | some (j, rec_) =>
    let d := d.metUp fun m => { m with embering := none, ember := m.ember.set j (some { rec_ with good := true }) }
    let d := d.put F.MET_STATUS_EMBER_NEXT d.met.emberNext
    d.raise 0x0601 [rec_.seq]

/-- The loss bound of a periodic slot, in ms: SAVE_INT × 250 ms and the hold-up window, rounded up (R207).
(DESIGN CHOICE, log entry 60.) -/
def MetSave.bound (r : MetSave) : Nat := r.saveInt * 250 + 1

/-- MET_RESTORE: the 34 slots are examined and the energy restored (R207, R208). -/
def Dev.metRestore (d : Dev) : Dev :=
  let all := (d.met.ring ++ d.met.ember).filterMap id
  let best := (all.filter MetSave.good).foldl (fun (acc : Option MetSave) r =>
    match acc with | none => some r | some b => if b.seq < r.seq then some r else acc) none
  let top := all.foldl (fun acc r => max acc r.seq) 0
  let d := d.metUp fun m => { m with
    run := true, cfg := d.metSettings, proc := d.metSettings, past := d.metSettings, cfgPend := false, seq := top + 1
    energy := List.replicate 52 0, residue := List.replicate 52 0, cyc := 0, hist := [], dft := [], sums := {}
    open_ := false, opening := false, prevI := none, closed := none, snap := {}, samples := 0, restart := true
    profFlags := 0, profDur := 0, saveTicks := 0, due := false, save := none, embering := none, saving := none
    since := [4096, 4096, 4096], sag := none, swell := none, intr := none, pqSeq := 0 }
  let d := (d.put F.MET_STATUS_RUN 1).put F.MET_STATUS_EMBER_NEXT d.met.emberNext
  let d := match best with
    | some r =>
      let d := d.metUp fun m => { m with energy := r.regs, cyc := r.cyc }
      let d := (d.put64 F.MET_SEQ_LO F.MET_SEQ_HI r.seq).put F.MET_MISSED_CNT r.missedCnt
      let d := d.put64 F.MET_MISSED_MS_LO F.MET_MISSED_MS_HI r.missedMs
      if r.ember then d else
      let d := (d.put F.MET_STATUS_EMBER_MISSED 1).put F.MET_LAST_BOUND r.bound
      let d := (d.put F.MET_MISSED_CNT (r.missedCnt + 1)).put64 F.MET_MISSED_MS_LO F.MET_MISSED_MS_HI (r.missedMs + r.bound)
      d.raise 0x0602 [r.bound]
    | none =>
      let d := d.put F.MET_STATUS_NO_HISTORY 1
      if all.isEmpty then d.raise 0x0603 else (d.put F.MET_STATUS_RESTORE_FAIL 1).raise 0x0604
  d.metRegsOut.put64 F.MET_SNAP_CYC_LO F.MET_SNAP_CYC_HI d.met.cyc

/-- Ticks toward the periodic save (R204): one falls due every SAVE_INT × 250 of them, and takes the next snapshot. -/
def Dev.metTick (d : Dev) : Dev :=
  if !d.met.run then d
  else if d.met.saveTicks + 1 < 250 * d.mget F.MET_CFG_SAVE_INT then d.metUp fun m => { m with saveTicks := m.saveTicks + 1 }
  else d.metUp fun m => { m with saveTicks := 0, due := true }

end Sys2Proof.Machine
end

