-- ==== Sys2Proof/Machine/PowerQuality.lean ====
section
/-! DEFINITION. Voltage events (chapter 9): half-cycle RMS, sag, swell and interruption, their records. -/

namespace Sys2Proof.Machine

/-- MET takes samples and computes URMS(1/2). -/
def Dev.metOn (d : Dev) : Bool := d.met.run && d.mget F.MET_CFG_EN == 1

/-- Detection is on: MET runs and both enables are set (R224). -/
def Dev.pqOn (d : Dev) : Bool := d.metOn && d.mget F.PQ_CFG_EN == 1

/-- b_x of Table 9-1: the first sample at or after the phase's crossing, modulo half a cycle. -/
def pqOffset (s x : Nat) : Nat :=
  let c := [0x40000000, 0x15555555, 0x6AAAAAAB].getD x 0
  ceilDiv (c * s) (2 ^ 32) % (s / 2)

/-- URMS(1/2) of a phase over the last S samples; none where the window is invalid or not yet full (R212, R215). -/
def Dev.pqUrms (d : Dev) (x : Nat) : Option Nat :=
  let s := d.S
  let win := (d.met.hist.take s).reverse
  if win.length < s || win.any (fun m => !m.ok.getD x false) then none
  else
    let sum := f64.sum (win.map fun m => f64.mul (m.v.getD x 0) (m.v.getD x 0))
    some (f64.mul (widen (d.mget F.MET_RATIO_V)) (f64.sqrt (f64.mul (f64.div (f64.ofInt 1) (f64.ofInt s)) sum)))

/-- Kinds of voltage event. -/
inductive PqKind where
  | sag | swell | intr
  deriving DecidableEq, Repr

/-- KIND of the record (Table 9-2). -/
def PqKind.num : PqKind → Nat
  | .sag => 1
  | .swell => 2
  | .intr => 3

/-- The condition's phase field, open field, event counter, and open event of a kind. -/
def PqKind.phField : PqKind → Fld
  | .sag => F.PQ_STATUS_SAG_PH
  | .swell => F.PQ_STATUS_SWL_PH
  | .intr => F.PQ_STATUS_INT_PH
def PqKind.openField : PqKind → Fld
  | .sag => F.PQ_STATUS_SAG_OPEN
  | .swell => F.PQ_STATUS_SWL_OPEN
  | .intr => F.PQ_STATUS_INT_OPEN
def PqKind.count : PqKind → Fld
  | .sag => F.PQ_SAG_CNT
  | .swell => F.PQ_SWL_CNT
  | .intr => F.PQ_INT_CNT
def Dev.pqOpen (d : Dev) : PqKind → Option PqOpen
  | .sag => d.met.sag
  | .swell => d.met.swell
  | .intr => d.met.intr
def Dev.setPq (d : Dev) (k : PqKind) (o : Option PqOpen) : Dev :=
  let d := d.putB k.openField o.isSome
  d.metUp fun m => match k with
    | .sag => { m with sag := o }
    | .swell => { m with swell := o }
    | .intr => { m with intr := o }

/-- The condition of a kind after a valid refresh, from whether it held (R216). -/
def Dev.pqCond (d : Dev) (k : PqKind) (was : Bool) (u : Nat) : Bool :=
  let w (f : Fld) : Nat := widen (d.mget f)
  let un := w F.PQ_UDIN
  let h := w F.PQ_HYST
  match k with
  | .sag => if was then !f64.le (f64.mul (f64.add (w F.PQ_SAG) h) un) u else f64.lt u (f64.mul (w F.PQ_SAG) un)
  | .swell => if was then !f64.le u (f64.mul (f64.sub (w F.PQ_SWELL) h) un) else f64.lt (f64.mul (w F.PQ_SWELL) un) u
  | .intr => if was then !f64.le (f64.mul (f64.add (w F.PQ_INTR) h) un) u else f64.lt u (f64.mul (w F.PQ_INTR) un)

/-- An event's record (Table 9-2) at the instant it ends; `phase48` is the boundary's phase. -/
def Dev.pqRecord (d : Dev) (k : PqKind) (o : PqOpen) (flags ptp hc : Nat) (ok : Bool) (ext : List Nat) : List Byte :=
  let ns := o.ptp / 2 ^ 32
  let dur := if ok then ptp / 2 ^ 32 - ns else 2 * (d.now - o.clock)
  leBytes 2 0x5602 ++ leBytes 1 k.num ++ leBytes 1 (o.phases + 16 * o.startPhase) ++ leBytes 4 flags
  ++ leBytes 8 d.met.pqSeq ++ leBytes 8 (ns / 1000000000) ++ leBytes 4 (ns % 1000000000) ++ leBytes 4 hc ++ leBytes 8 dur
  ++ leBytes 8 o.cyc ++ ext.flatMap (fun e => leBytes 4 (narrow e)) ++ leBytes 4 (d.mget F.PQ_UDIN)

/-- An event ends (R219 to R221): its record is held for the ring, or discarded. (DEDUCED, log entry 61.) -/
def Dev.pqEnd (d : Dev) (k : PqKind) (o : PqOpen) (ptp : Nat) (extra : Nat) : Dev :=
  let s := d.S
  let hc := min 0xFFFFFFFF ((2 * (d.met.samples - o.sample) + s / 2) / s)
  let ok := o.ptpOk && d.ptpOk
  let (free, d) := d.fresh
  let ext := o.ext.map fun e => e.getD (widen (free % 2 ^ 32))
  let flags := o.flags ||| extra ||| (if ok then 8 else 0) ||| (if d.met.pqDropped then 32 else 0)
  let bytes := d.pqRecord k o flags ptp hc ok ext
  let d := d.setPq k none
  let d := if d.bitIn F.CAP_MET 1 then { d with cap := { d.cap with happened := setBit d.cap.happened 18 } } else d
  match d.ringHold (d.mget F.PQ_CFG_RING) .voltage bytes with
  | some e => (e.metUp fun m => { m with pqSeq := m.pqSeq + 1, pqDropped := false }).raise 0x0621 [k.num, o.phases + 16 * o.startPhase, hc]
  | none => ((d.bump F.PQ_DROP_CNT).metUp fun m => { m with pqSeq := m.pqSeq + 1, pqDropped := true }).raise 0x0622

/-- The lesser or greater of an extreme and a new value. -/
def pqExt (k : PqKind) (e : Option Nat) (u : Nat) : Option Nat :=
  match e with
  | none => some u
  | some v => some (if k = .swell then f64.max v u else f64.min v u)

/-- One kind at a valid refresh of phase x (R216 to R220). -/
def Dev.pqKindRefresh (d : Dev) (x u p48 : Nat) (k : PqKind) : Dev :=
  let was := d.get k.phField
  let now := putBit was x (d.pqCond k (was.testBit x) u)
  let d := d.put k.phField now
  match d.pqOpen k with
  | none =>
    if now = 0 then d else
    let o : PqOpen := { startPhase := x, phases := now, ext := (List.range 3).map fun y => if y = x then some u else none
                        flags := if d.holdover then 1 else 0, sample := d.met.samples, clock := d.now
                        ptp := d.stampPtp p48, ptpOk := d.ptpOk, cyc := d.met.cyc }
    let d := (d.setPq k (some o)).bump k.count
    let d := if d.bitIn F.CAP_MET 0 then { d with cap := { d.cap with happened := setBit d.cap.happened 17 } } else d
    d.raise 0x0620 [k.num, x, d.met.cyc % 2 ^ 32]
  | some o =>
    let o := { o with phases := o.phases ||| now, ext := upd o.ext x fun e => pqExt k e u }
    let d := d.setPq k (some o)
    if now = 0 then d.pqEnd k o (d.stampPtp p48) 0 else d

/-- Every open event carries a flag. -/
def Dev.pqMark (d : Dev) (flag : Nat) : Dev :=
  d.forAll [PqKind.sag, .swell, .intr] fun d k =>
    match d.pqOpen k with | some o => d.setPq k (some { o with flags := o.flags ||| flag }) | none => d

/-- A refresh of phase x at a sample instant (R212 to R216). Interruption starts after a sag and ends before
it in the order raised (R218). -/
def Dev.pqRefresh (d : Dev) (x p48 : Nat) : Dev :=
  let d := d.metUp fun m => { m with since := m.since.set x 0 }
  match d.pqUrms x with
  | none => d.pqMark 4
  | some u =>
    let d := d.put (F.PQ_URMS.ix x) (narrow u)
    if !d.pqOn then d else
    let was := d.met.intr.isSome
    if was then ((d.pqKindRefresh x u p48 .intr).pqKindRefresh x u p48 .sag).pqKindRefresh x u p48 .swell
    else ((d.pqKindRefresh x u p48 .sag).pqKindRefresh x u p48 .intr).pqKindRefresh x u p48 .swell

/-- Voltage events at the common-angle sample of index n within the cycle, before the sample joins the windows
(R212 to R214); `p48` is the sample instant's phase. -/
def Dev.pqSample (d : Dev) (n p48 : Nat) : Dev :=
  if !d.metOn then d else
  let d := if d.holdover then d.pqMark 1 else d
  let d := d.metUp fun m => { m with since := m.since.map fun k => min (k + 1) 4096 }
  let s := d.S
  d.forAll (List.range 3) fun d x =>
    if n % (s / 2) == pqOffset s x && s / 4 ≤ d.met.since.getD x 0 then d.pqRefresh x p48 else d

/-- A snap marks every open event (R214). -/
def Dev.pqSnap (d : Dev) : Dev := d.pqMark 2

/-- The voltage-event state cleared (R223, R224). -/
def Dev.pqClear (d : Dev) : Dev :=
  (d.put F.PQ_STATUS_SAG_PH 0 |>.put F.PQ_STATUS_SWL_PH 0 |>.put F.PQ_STATUS_INT_PH 0 |>.setPq .sag none).setPq .swell none
    |>.setPq .intr none

/-- Open events end at an adoption of settings, interruption first, with SETTINGS; the opening boundary is stamped as R69 lays
down (R219, R223). -/
def Dev.pqSettings (d : Dev) : Dev :=
  let stamp := d.stampPtp ((d.time.nextTurn - 1) * 2 ^ 48)
  let d := d.forAll [PqKind.intr, .sag, .swell] fun d k =>
    match d.pqOpen k with | some o => d.pqEnd k o stamp 16 | none => d
  d.pqClear

/-- MET_SETTINGS_ADOPT: the settings of an activated package come into force at an opening boundary (R202, R223);
samples already taken are processed under the old ones. Metering that they enable opens its first cycle here. -/
def Dev.metSettingsAdopt (d : Dev) : Dev :=
  let opening := d.ang.cycAt = d.now ∧ (d.met.opening = true ∨ d.mget F.MET_CFG_EN ≠ 1)
  if !d.met.cfgPend || !d.met.run || !decide opening then d else
  let oldN := d.mget F.MET_PROF_CFG_N
  let wasOn := d.mget F.MET_CFG_EN
  let d := d.pqSettings
  let d := d.metUp fun m => { m with cfg := d.metSettings, cfgPend := false, proc := if m.open_ then m.proc else d.metSettings }
  let d := if d.mget F.MET_PROF_CFG_N = oldN ∨ d.met.open_ = true then d else d.profRestart
  let d := if d.mget F.MET_CFG_EN = 1 ∧ wasOn ≠ 1 then d.metUp fun m => { m with
      hist := [], dft := [], sums := {}, open_ := false, opening := true, wasBad := false } else d
  let d := if d.pqOn then d else d.pqClear
  d.raise 0x0609 [d.pkgVersion]

/-- Nodes of Table 9-3. -/
def Dev.pqNodes (d : Dev) : List (Nat × Word) :=
  ((List.range 3).map fun x => (0x0060 + x, BitVec.ofNat 32 (d.get (F.PQ_URMS.ix x))))
  ++ [(0x0063, d.word F.PQ_STATUS_SAG_PH.addr)]

end Sys2Proof.Machine
end

