-- ==== Sys2Proof/Machine/Sha256.lean ====
section
/-! DEFINITION. SHA-256, which the schedule image's node-map hash names (Table 3-7). The manual does not
restate it: the function is FIPS 180-4's (PRESUMED). -/

namespace Sys2Proof.Machine

/-- Round constants. -/
def sha256K : List Nat := [
  0x428A2F98, 0x71374491, 0xB5C0FBCF, 0xE9B5DBA5, 0x3956C25B, 0x59F111F1, 0x923F82A4, 0xAB1C5ED5,
  0xD807AA98, 0x12835B01, 0x243185BE, 0x550C7DC3, 0x72BE5D74, 0x80DEB1FE, 0x9BDC06A7, 0xC19BF174,
  0xE49B69C1, 0xEFBE4786, 0x0FC19DC6, 0x240CA1CC, 0x2DE92C6F, 0x4A7484AA, 0x5CB0A9DC, 0x76F988DA,
  0x983E5152, 0xA831C66D, 0xB00327C8, 0xBF597FC7, 0xC6E00BF3, 0xD5A79147, 0x06CA6351, 0x14292967,
  0x27B70A85, 0x2E1B2138, 0x4D2C6DFC, 0x53380D13, 0x650A7354, 0x766A0ABB, 0x81C2C92E, 0x92722C85,
  0xA2BFE8A1, 0xA81A664B, 0xC24B8B70, 0xC76C51A3, 0xD192E819, 0xD6990624, 0xF40E3585, 0x106AA070,
  0x19A4C116, 0x1E376C08, 0x2748774C, 0x34B0BCB5, 0x391C0CB3, 0x4ED8AA4A, 0x5B9CCA4F, 0x682E6FF3,
  0x748F82EE, 0x78A5636F, 0x84C87814, 0x8CC70208, 0x90BEFFFA, 0xA4506CEB, 0xBEF9A3F7, 0xC67178F2]

/-- Initial hash value of SHA-256. -/
def sha256IV : List Nat := [
  0x6A09E667, 0xBB67AE85, 0x3C6EF372, 0xA54FF53A, 0x510E527F, 0x9B05688C, 0x1F83D9AB, 0x5BE0CD19]

/-- Rotate right within 32 bits. -/
def rotr32 (n x : Nat) : Nat := (x >>> n) ||| ((x <<< (32 - n)) % 2 ^ 32)

/-- One more schedule word from the sixteen before it, newest first. -/
def sha256W (w : List Nat) : Nat :=
  let a := w.getD 14 0
  let b := w.getD 1 0
  ((rotr32 7 a ^^^ rotr32 18 a ^^^ (a >>> 3)) + (rotr32 17 b ^^^ rotr32 19 b ^^^ (b >>> 10)) + w.getD 15 0 + w.getD 6 0) % 2 ^ 32

/-- One round of SHA-256 with constant `k` and schedule word `w`. -/
def ShaVars.round256 (v : ShaVars) (k w : Nat) : ShaVars :=
  let t1 := v.h + (rotr32 6 v.e ^^^ rotr32 11 v.e ^^^ rotr32 25 v.e) + ((v.e &&& v.f) ^^^ ((v.e ^^^ (2 ^ 32 - 1)) &&& v.g)) + k + w
  let t2 := (rotr32 2 v.a ^^^ rotr32 13 v.a ^^^ rotr32 22 v.a) + ((v.a &&& v.b) ^^^ (v.a &&& v.c) ^^^ (v.b &&& v.c))
  { a := (t1 + t2) % 2 ^ 32, b := v.a, c := v.b, d := v.c, e := (v.d + t1) % 2 ^ 32, f := v.e, g := v.f, h := v.g }

/-- The rounds over the constants left; `w` holds the last sixteen schedule words, newest first. -/
def sha256Rounds : List Nat → List Nat → List Nat → ShaVars → ShaVars
  | [], _, _, v => v
  | k :: ks, x :: xs, w, v => sha256Rounds ks xs (x :: w.take 15) (v.round256 k x)
  | k :: ks, [], w, v =>
    let x := sha256W w
    sha256Rounds ks [] (x :: w.take 15) (v.round256 k x)

/-- One 64-byte block. -/
def sha256Block (h : List Nat) (block : List Byte) : List Nat :=
  let ws := (List.range 16).map fun i => ofBE ((block.drop (4 * i)).take 4)
  let v := sha256Rounds sha256K ws [] ⟨h.getD 0 0, h.getD 1 0, h.getD 2 0, h.getD 3 0, h.getD 4 0, h.getD 5 0, h.getD 6 0, h.getD 7 0⟩
  List.zipWith (fun x y => (x + y) % 2 ^ 32) h [v.a, v.b, v.c, v.d, v.e, v.f, v.g, v.h]

/-- Blocks of a padded message, by count. -/
def sha256Fold : Nat → List Byte → List Nat → List Nat
  | 0, _, h => h
  | n + 1, m, h => sha256Fold n (m.drop 64) (sha256Block h (m.take 64))

/-- SHA-256 of a byte string, 32 bytes. (PRESUMED, log entry 6.) -/
def sha256 (m : List Byte) : List Byte :=
  let p := m ++ [0x80] ++ List.replicate ((64 - (m.length + 9) % 64) % 64) 0 ++ beBytes 8 (8 * m.length)
  (sha256Fold (p.length / 64) p sha256IV).flatMap (beBytes 4)

end Sys2Proof.Machine
end

