-- ==== Sys2Proof/Machine/Image.lean ====
section
/-! DEFINITION. The schedule image: its header and tables (R75, R92, Tables 3-1, 3-7, 3-8), what a slot's
operation reads, writes and keeps, and the checks of VERIFY (R76 to R94, Table 3-9). -/

namespace Sys2Proof.Machine

/-! ## Slots -/

/-- The slot of four words (Table 3-1). -/
def slotOf (w : Nat → Nat) : Slot where
  unit := w 0 % 16
  op := w 0 / 2 ^ 4 % 64
  rate := w 0 / 2 ^ 10 % 16
  phase := w 0 / 2 ^ 14 % 1024
  arg := w 0 / 2 ^ 24 % 256
  issue := w 1 % 2 ^ 17
  sect := w 1 / 2 ^ 17 % 1024
  a := w 2 % 2 ^ 14
  b := w 2 / 2 ^ 16 % 2 ^ 14
  c := w 3 % 2 ^ 14
  dst := w 3 / 2 ^ 16 % 2 ^ 14

/-- Reserved bits of a slot's words are nonzero. -/
def slotReserved (w : Nat → Nat) : Bool :=
  w 1 / 2 ^ 27 != 0 || w 2 / 2 ^ 14 % 4 != 0 || w 2 / 2 ^ 30 != 0 || w 3 / 2 ^ 14 % 4 != 0 || w 3 / 2 ^ 30 != 0

/-- UNIT and OP name an operation (Tables 3-2, 4-4 to 4-6). -/
def Slot.valid (s : Slot) : Bool :=
  if s.unit < 8 then s.op = 0 else if s.unit < 10 then s.op ≤ 5 else if s.unit < 14 then s.op ≤ 0x16
  else if s.unit = 14 then s.op ≤ 5 else s.op ≤ 1

/-- Latency L (Table 4-1). -/
def Slot.latency (s : Slot) : Nat :=
  if s.unit < 8 then 16 else if s.unit < 10 then 20
  else if s.unit < 14 then (if s.op = 4 ∨ s.op = 5 ∨ s.op = 6 then 24 else 4)
  else if s.unit = 14 then 40 else 32

/-- Initiation interval (Table 4-1). -/
def Slot.interval (s : Slot) : Nat :=
  if s.unit < 8 then 8 else if s.unit < 10 then 2
  else if s.unit < 14 then (if s.op = 4 ∨ s.op = 5 ∨ s.op = 6 then 8 else 1) else 8

/-- Clock at which a slot's result lands. -/
def Slot.lands (s : Slot) : Nat := s.issue + s.latency

/-- The slot issues in frame `k` (R78). -/
def Slot.selected (s : Slot) (k : Nat) : Bool := k % 2 ^ s.rate == s.phase

/-- Two slots issue in a common frame (R90). -/
def Slot.common (x y : Slot) : Bool :=
  let m := 2 ^ min x.rate y.rate
  x.phase % m == y.phase % m

/-- Lanes of an ALU slot (R119). -/
def Slot.lanes (s : Slot) : Nat := s.arg % 4 + 1

/-- DELAY's length k. -/
def Slot.delay (s : Slot) : Nat := s.arg / 16 + 1

/-- Operands an ALU operation reads: B, C. -/
def aluUsesB (op : Nat) : Bool := [0, 1, 2, 3, 4, 7, 8, 0xA, 0xB, 0xC, 0xD, 0xE, 0xF, 0x14].contains op
def aluUsesC (op : Nat) : Bool := [3, 0xA, 0xB, 0xE].contains op

/-- Operand runs as lengths of A, B and C; 0 where unused (R108, Tables 4-4 to 4-6). -/
def Slot.runs (s : Slot) : Nat × Nat × Nat :=
  if s.unit < 8 then (1, 1, 1)
  else if s.unit < 10 then
    match s.op with
    | 0 => (3, 0, 0)
    | 1 => (3, 0, 0)
    | 2 => (2, 1, 0)
    | 3 => (2, 1, 0)
    | 4 => (1, 0, 0)
    | _ => (2, 0, 0)
  else if s.unit < 14 then
    (s.lanes, if aluUsesB s.op then (if s.arg.testBit 2 then 1 else s.lanes) else 0,
      if aluUsesC s.op then (if s.arg.testBit 3 then 1 else s.lanes) else 0)
  else if s.unit = 14 then (3, if s.op ≤ 2 then 1 else 2, if s.op ≤ 2 then 0 else 3)
  else (2, 1, 1)

/-- Length of the result run. -/
def Slot.results (s : Slot) : Nat :=
  if s.unit < 8 then 1
  else if s.unit < 10 then (match s.op with | 0 => 3 | 1 => 3 | 5 => 4 | _ => 2)
  else if s.unit < 14 then s.lanes else if s.unit = 14 then 0 else 1

/-- ALU cells a slot uses, from SECT. -/
def Slot.cells (s : Slot) : Nat :=
  if 10 ≤ s.unit ∧ s.unit < 14 then s.lanes * aluCells s.op s.delay else 0

/-- Legs a MOD0 slot writes, as a mask. -/
def Slot.legs (s : Slot) : Nat :=
  if s.unit = 14 ∧ s.op ≤ 5 then (2 ^ modLegs s.op - 1) * 2 ^ (s.arg % 16) % 2 ^ 12 else 0

/-- ARG lies in its operation's range (R118, R119, R121, Table 4-6). -/
def Slot.argOk (s : Slot) : Bool :=
  if s.unit < 8 then true
  else if s.unit < 10 then (if s.op = 5 then s.arg < 4 && s.rate == 0 else s.arg == 0)
  else if s.unit < 14 then
    (s.op == 0x10 || s.arg / 16 == 0) && (aluUsesB s.op || !s.arg.testBit 2) && (aluUsesC s.op || !s.arg.testBit 3)
  else if s.unit = 14 then
    s.arg / 64 == 0 && s.arg % 16 + modLegs s.op ≤ 12 &&
      (match s.op with | 0 => s.arg / 16 == 0 | 1 => s.arg / 16 ≤ 1 | 2 => s.arg / 16 ≤ 2 | 5 => s.arg / 16 ≤ 1 | _ => s.arg / 16 == 0)
  else s.arg == 0

/-- SECT lies in its range (R75, R120, R128). -/
def Slot.sectOk (s : Slot) : Bool :=
  if s.unit < 8 then true
  else if s.unit < 10 then s.sect == 0
  else if s.unit < 14 then (if s.cells = 0 then s.sect == 0 else s.sect + s.cells ≤ 1024)
  else if s.unit = 14 then s.sect == 0 else s.sect < 4

/-- Every slot field in range (reason 0x0A). -/
def Slot.fieldsOk (s : Slot) : Bool :=
  let (na, nb, nc) := s.runs
  s.valid && s.rate ≤ 10 && s.phase < 2 ^ s.rate && s.argOk && s.sectOk &&
  (nb != 0 || s.b == 0) && (nc != 0 || s.c == 0) && (s.unit != 14 || s.dst == 0) &&
  s.a + na ≤ 16384 && s.b + nb ≤ 16384 && s.c + nc ≤ 16384

/-! ## Reading an image -/

/-- The four words of slot `i` of the table at `off`. -/
def slotWords (m : Mem) (off i : Nat) : Nat → Nat := fun k => Mem.num m (off + 16 * i + 4 * k) 4

/-- Entries of a table of 32-bit words. -/
def tableWords (m : Mem) (off n : Nat) : List Nat := (List.range n).map fun i => Mem.num m (off + 4 * i) 4

/-- Header fields (Table 3-7). -/
def hdr (m : Mem) (off n : Nat) : Nat := Mem.num m off n
def hImgLen (m : Mem) : Nat := hdr m 0x08 4
def hVersion (m : Mem) : Nat := hdr m 0x0C 4
def hSlots (m : Mem) : Nat := hdr m 0x20 2
def hBanks (m : Mem) : Nat := hdr m 0x22 1
def hPorts (m : Mem) : Nat := hdr m 0x2C 2
def hHostpars (m : Mem) : Nat := hdr m 0x2E 2

/-- Words of the port table, host-parameter table and state table. -/
def portWords (m : Mem) : List Nat := tableWords m (hdr m 0x54 4) (hPorts m)
def hostparWords (m : Mem) : List Nat := tableWords m (hdr m 0x58 4) (hHostpars m)
def stateCount (m : Mem) : Nat := Mem.num m (hdr m 0x5C 4) 2
def stateWords (m : Mem) : List Nat := tableWords m (hdr m 0x5C 4 + 2) (stateCount m)

/-- NODE_MAP_HASH as the device computes it (Table 3-7). -/
def nodeMapHash (m : Mem) : List Byte :=
  sha256 (Mem.bytes m (hdr m 0x54 4) (4 * hPorts m) ++ Mem.bytes m (hdr m 0x58 4) (4 * hHostpars m)
    ++ Mem.bytes m (hdr m 0x5C 4) (2 + 4 * stateCount m))

/-- The image of a slot's content. -/
def imageOf (slot : Nat) (m : Mem) : Image where
  slot := slot
  version := hVersion m
  s := hdr m 0x10 2
  c := hdr m 0x12 2
  fMax := hdr m 0x14 4
  ssc := hdr m 0x18 2
  legMask := hdr m 0x1A 2
  legMode := hdr m 0x1C 4
  budget := hdr m 0x24 4
  deadline := hdr m 0x28 4
  hash := Mem.bytes m 0x30 32
  slots := (List.range (hSlots m)).map fun i => slotOf (slotWords m (hdr m 0x50 4) i)
  ports := (portWords m).map fun w => (w % 256, w / 2 ^ 16 % 2 ^ 14)
  hostpars := (hostparWords m).map fun w => ⟨w % 2 ^ 14, w / 2 ^ 14 % 4, w / 2 ^ 16 % 256⟩

/-- Initial node runs read until `len` bytes are used: runs and the bytes used. -/
def initRuns : Nat → Mem → Nat → Nat → List (Nat × List Word) × Nat
  | 0, _, _, _ => ([], 0)
  | k + 1, m, off, len =>
    if len = 0 then ([], 0)
    else
      let n := Mem.num m (off + 2) 2
      let run := (Mem.num m off 2, (tableWords m (off + 4) n).map (BitVec.ofNat 32))
      let used := 4 + 4 * n
      if len < used then ([run], used)
      else let (rs, u) := initRuns k m (off + used) (len - used); (run :: rs, used + u)

/-- The image's initial node runs and their total bytes. -/
def imageRuns (m : Mem) : List (Nat × List Word) × Nat :=
  initRuns (hdr m 0x6C 4) m (hdr m 0x68 4) (hdr m 0x6C 4)

/-! ## Configuration the image is held against -/

/-- B of R91, in binary64. -/
def imageBudget (s fMax ssc : Nat) : Int :=
  let t := f64.div (f64.ofInt 1000000000) (f64.mul (f64.ofInt s) (widen fMax))
  let f := f64.sub (f64.ofInt 1) (f64.div (f64.ofInt ssc) (f64.ofInt 10000))
  ((f64.unpack (f64.mul t f)).floorInt.getD 0) - 200

/-- The nominal frequency of ANG_SRC.F_NOM, binary64 and Hz. -/
def Dev.fNom (d : Dev) : Nat := if d.flag F.ANG_SRC_F_NOM then 60 else 50

/-- LEG_MODE and LEG_MASK the leg configuration asks for. -/
def Dev.legModes (d : Dev) : Nat :=
  (List.range 12).foldl (fun acc n => acc + d.get (F.PWM_LEG_CFG_MODE.ix n) * 4 ^ n) 0
def Dev.legsUsed (d : Dev) : Nat :=
  (List.range 12).foldl (fun acc n => if d.get (F.PWM_LEG_CFG_MODE.ix n) = 0 then acc else setBit acc n) 0

/-- First MOD0 slot that breaks R85: it shares a leg with an earlier one of a common frame. -/
def legClash (slots : List Slot) : Option Nat :=
  (List.range slots.length).find? fun i =>
    match slots[i]? with
    | none => false
    | some x => (slots.take i).any fun y => x.common y && (x.legs &&& y.legs) != 0

/-- Cause 0x03 to 0x07 by which the configuration disagrees with a header (Table 3-9, R94). -/
def Dev.configCause (d : Dev) (m : Image) : Option (Nat × Nat) :=
  let c := d.C
  if !(m.s = 256 ∨ m.s = 512 ∨ m.s = 1024) || m.s != d.S || m.s != 256 <<< d.get F.PWM_CFG_S_SEL then some (0x03, 0)
  else if m.c != c || 8 * m.s < m.c || m.c < 16 || 2048 < m.c then some (0x04, 0)
  else if !f32.finite m.fMax || f32.lt m.fMax (f32.ofInt 45) || f32.lt (f32.ofInt 70) m.fMax
      || f32.le m.fMax (f32.ofInt d.fNom) then some (0x05, 0)
  else if !(m.ssc = 0 ∨ m.ssc = 50 ∨ m.ssc = 100 ∨ m.ssc = 200) || m.ssc < sscExcursion (d.get F.CPR_SSC_SSC) then
    some (0x06, 0)
  else if m.legMask != d.legsUsed || m.legMode != d.legModes then some (0x07, 0)
  else match legClash m.slots with
    | some i => some (0x07, i)
    | none => if m.slots.foldl (fun acc s => acc ||| s.legs) 0 != m.legMask then some (0x07, 0) else none

/-! ## VERIFY (R93, Table 3-9) -/

/-- Index of the first entry that fails a test. -/
def firstBad {α : Type} (l : List α) (bad : Nat → α → Bool) : Option Nat :=
  ((List.range l.length).zip l).find? (fun (i, x) => bad i x) |>.map Prod.fst

/-- 0x01: fixed header fields. -/
def headerBad (m : Mem) : Bool :=
  hdr m 0 4 != 0x535A4C50 || hdr m 4 2 != 1 || hdr m 6 2 != 0x80 || hdr m 0x1A 2 / 2 ^ 12 != 0 || hBanks m / 16 != 0
  || hBanks m % 2 == 0 || hdr m 0x23 1 != 0 || (Mem.bytes m 0x74 12).any (· != 0)
  || hSlots m == 0 || 4096 < hSlots m || 51 < hPorts m || 1024 < hHostpars m

/-- The tables as offset and length (R92). -/
def tables (m : Mem) : List (Nat × Nat) :=
  [(hdr m 0x50 4, 16 * hSlots m), (hdr m 0x54 4, 4 * hPorts m), (hdr m 0x58 4, 4 * hHostpars m),
   (hdr m 0x5C 4, 2 + 4 * stateCount m), (hdr m 0x60 4, 0x4000 * popCount 4 (hBanks m)), (hdr m 0x64 4, 0x4400),
   (hdr m 0x68 4, hdr m 0x6C 4)]

/-- 0x02: layout. -/
def layoutBad (m : Mem) : Bool :=
  let ts := (tables m).filter fun t => t.2 != 0
  let overlap := (List.range ts.length).any fun i => (List.range i).any fun j =>
    let (x, n) := ts.getD i (0, 0)
    let (y, k) := ts.getD j (0, 0)
    decide (x < y + k ∧ y < x + n)
  let (runs, used) := imageRuns m
  196608 < hImgLen m + 312 || ts.any (fun (x, n) => decide (hImgLen m < x + n)) || overlap || used != hdr m 0x6C 4
  || runs.any fun (a, ws) => !ws.isEmpty && (a < 0x0400 || 0x4000 < a + ws.length)

/-- 0x0B: order of ISSUE (R77). -/
def orderBad (slots : List Slot) (i : Nat) (x : Slot) : Bool :=
  match i with
  | 0 => false
  | j + 1 => match slots[j]? with
    | none => false
    | some y => decide (x.issue < y.issue) || (slots.take i).any fun z => z.issue == x.issue && z.unit == x.unit

/-- 0x0C: occupancy (R90). -/
def occupancyBad (slots : List Slot) (i : Nat) (x : Slot) : Bool :=
  (slots.take i).any fun y => y.unit == x.unit && y.common x && x.issue < y.issue + y.interval

/-- State of a slot: tagged indices (0 section, 1 cell, 2 SEQ line pair, 3 MPPT channel). -/
def Slot.stateKeys (s : Slot) : List (Nat × Nat) :=
  if s.unit < 8 then [(0, s.sect)]
  else if s.unit < 10 then (if s.op = 5 then [(2, 4 * (s.unit - 8) + s.arg % 4)] else [])
  else if s.unit < 14 then (List.range s.cells).map fun i => (1, s.sect + i)
  else if s.unit = 15 then [(3, s.sect)] else []

/-- 0x0E: collisions and state (R80, R118, R120). -/
def collisionBad (slots : List Slot) (table : List Nat) (i : Nat) (x : Slot) : Bool :=
  let before := slots.take i
  x.stateKeys.any (fun k =>
    before.any (fun y => y.stateKeys.contains k)
    || (k.1 < 2 && !(table.any fun w => w / 2 ^ 10 % 2 == k.1 && w % 2 ^ 10 == k.2)))
  || before.any fun y => y.common x && y.lands == x.lands && y.results != 0 && x.results != 0
    && y.dst < x.dst + x.results && x.dst < y.dst + y.results

/-- A port number of Table 3-5. -/
def portAssigned (p : Nat) : Bool := p ≤ 2 || (0x10 ≤ p && p ≤ 0x3F)

/-- First failing cause of Table 3-9 and its index; none where VERIFY accepts. A port entry with a reserved bit set is refused
under 0x0F, the reason of its table. (DEDUCED, log entries 88 and 140.) -/
def Dev.verifyImage (d : Dev) (m : Mem) : Option (Nat × Nat) :=
  let img := imageOf 0 m
  let ws := (List.range (hSlots m)).map fun i => slotWords m (hdr m 0x50 4) i
  let at_ (r : Nat) (o : Option Nat) (k : Option (Nat × Nat)) : Option (Nat × Nat) :=
    match o with | some i => some (r, i) | none => k
  if headerBad m then some (0x01, 0)
  else if layoutBad m then some (0x02, 0)
  else match d.configCause img with
  | some c => some c
  | none =>
    if nodeMapHash m != img.hash then some (0x08, 0)
    else if imageBudget img.s img.fMax img.ssc != img.budget || (img.budget : Int) - 100 != img.deadline then some (0x09, 0)
    else
      at_ 0x0A (firstBad ws fun _ w => slotReserved w || !(slotOf w).fieldsOk) <|
      at_ 0x0B (firstBad img.slots (orderBad img.slots)) <|
      at_ 0x0C (firstBad img.slots (occupancyBad img.slots)) <|
      at_ 0x0D (firstBad img.slots fun _ s => img.budget < s.lands || (s.unit == 14 && img.deadline < s.lands)) <|
      at_ 0x0E (firstBad img.slots (collisionBad img.slots (stateWords m))) <|
      at_ 0x0F (firstBad (portWords m) fun i w =>
        !portAssigned (w % 256) || ((portWords m).take i).any (fun v => v % 256 == w % 256)
        || w / 2 ^ 8 % 256 != 0 || w / 2 ^ 30 != 0 || w / 2 ^ 16 % 2 ^ 14 < 0x0800) <|
      at_ 0x10 (firstBad (hostparWords m) fun i w =>
        let node := w % 2 ^ 14
        let tag := w / 2 ^ 16 % 256
        node < 0x0400 || 0x07FF < node || w / 2 ^ 14 % 4 == 3 || 5 < tag || w / 2 ^ 24 != 0
        || (tag != 0 && ((hostparWords m).take i).any fun v => v / 2 ^ 16 % 256 == tag)) <|
      at_ 0x11 (firstBad img.slots fun _ s => s.results != 0 && (s.dst < 0x0800 || 0x4000 < s.dst + s.results)) none

end Sys2Proof.Machine
end

