-- ==== Sys2Proof/Machine/Firebox.lean ====
section
/-! DEFINITION. Firebox: activation of an image (R74, R88, R95), the issue of a slot on its operand nodes
and the landing of its result (R78, R79, R85, R109), the guards and the overrun (R97 to R99). -/

namespace Sys2Proof.Machine

/-! ## Memories -/

/-- Firebox's state changed. -/
def Dev.fbxUp (d : Dev) (f : Fbx → Fbx) : Dev := { d with fbx := f d.fbx }

/-- A node's word. -/
def Dev.node (d : Dev) (n : Nat) : Word := Mem.rd d.fbx.nodes n

/-- Nodes written. -/
def Dev.putNodes (d : Dev) (ws : List (Nat × Word)) : Dev :=
  d.fbxUp fun x => { x with nodes := ws.foldl (fun m (n, w) => Mem.wr m n w) x.nodes }

/-- A run of nodes. -/
def Dev.nodeRun (d : Dev) (a n : Nat) : List Word := (List.range n).map fun i => d.node (a + i)

/-- An output port's word (R84). -/
def Dev.port (d : Dev) (p : Nat) : Word := Mem.rd d.fbx.ports p

/-- Bases of Firebox's state words. -/
def cellBase : Nat := 0x10000
def seqBase : Nat := 0x20000
def mpptBase : Nat := 0x30000

/-! ## Activation (R88, R95) -/

/-- The coefficient banks of an image: a bank not supplied is a copy of bank 0 (R88). -/
def imageCoef (m : Mem) : Mem :=
  let mask := hBanks m
  let off := hdr m 0x60 4
  Mem.ofFn 16384 fun i =>
    let b := i / 4096
    let b := if mask.testBit b then b else 0
    BitVec.ofNat 32 (Mem.num m (off + 0x4000 * popCount b mask + 4 * (i % 4096)) 4)

/-- The LUTs of an image. -/
def imageLut (m : Mem) : Mem := Mem.ofFn 4352 fun i => BitVec.ofNat 32 (Mem.num m (hdr m 0x64 4 + 4 * i) 4)

/-- MPPT state at a stopped activation (R128). -/
def Dev.mpptStart (d : Dev) : List (Nat × Word) :=
  (List.range 4).flatMap fun c =>
    let sum := kAdd (ftz (d.get (F.MPT_V_MIN.ix c))) (ftz (d.get (F.MPT_V_MAX.ix c)))
    let v := (sum.bind fun s => kMul kHalf s).getD 0
    [(mpptBase + 16 * c, kOut v), (mpptBase + 16 * c + 4, 0x3F800000)]

/-- Firebox's registers of the image in force (Tables 3-10 to 3-12, 3-19, 3-20). -/
def Dev.imageRegs (d : Dev) (img : Image) : Dev :=
  let d := d.put F.FBX_STATUS_RUN 1 |>.put F.FBX_STATUS_IMG_SLOT img.slot |>.put F.FBX_STATUS_SSC_MAX (img.ssc / 50)
    |>.put F.FBX_STATUS_SLOTS img.slots.length |>.put F.FBX_BUDGET_B img.budget |>.put F.FBX_DEADLINE_D img.deadline
    |>.put F.FBX_VERSION_VERSION img.version
  d.forAll (List.range 8) fun d i => d.put (F.FBX_NODE_HASH.ix i) (ofLE ((img.hash.drop (4 * i)).take 4))

/-- An image comes into force at a frame start (R95): live keeps nodes and state, stopped loads the initial
runs, zeroes the other host-parameter and work nodes and clears all state. -/
def Dev.activateImage (d : Dev) (slot : Nat) (m : Mem) (live : Bool) : Dev :=
  let img := imageOf slot m
  let d := d.fbxUp fun x => { x with active := some img, coef := imageCoef m, lut := imageLut m }
  let d := if live then d else
    let kept := d.fbx.nodes.filter fun (a, _) => a < 0x0400
    let st := d.mpptStart
    let d := d.fbxUp fun x => { x with
      nodes := (imageRuns m).1.foldl (fun n (a, ws) => Mem.wrs n a ws) kept
      state := st.foldl (fun s (a, w) => Mem.wr s a w) []
      seqPos := List.replicate 8 0
      scanTimer := List.replicate 4 0
      npAny := true
      npAll := false }
    d.forAll (List.range 4) fun d c =>
      d.put (F.MPT_STAT_PHASE.ix c) 0 |>.put (F.MPT_STAT_DEFERRED.ix c) 0 |>.put (F.MPT_V_BEST.ix c) 0
        |>.put (F.MPT_P_BEST.ix c) 0 |>.put (F.MPT_V_MP.ix c) 0
  let d := (d.imageRegs img).raise 0x0102 [slot, img.version, if live then 1 else 0]
  -- R241, R245: carries return to 0 and the dead times to DT_MAX
  let d := d.forAll (List.range 12) fun d n =>
    let dt := d.get (F.PWM_DTMAX_DT_MAX.ix n)
    d.put (F.PWM_DT_NOW_DT_AB.ix n) dt |>.put (F.PWM_DT_NOW_DT_BA.ix n) dt
  { d with pwm := { d.pwm with legs := d.pwm.legs.map fun l =>
      { l with a := { l.a with carry := 0 }, b := { l.b with carry := 0 } } } }

/-! ## Landing (R79, R85, R109) -/

/-- CORE clocks of the frame in progress up to an instant (R29). -/
def Dev.frameClocks (d : Dev) (now : Nat) : Nat := d.coreNow now - d.fbx.frameCore

/-- The greatest offset below 2^k from `t` on whose PWM clock comes before CORE clock `clk` of the frame. -/
def Dev.clockSearch (d : Dev) (clk : Nat) : Nat → Nat → Nat
  | 0, t => t
  | k + 1, t => d.clockSearch clk k (if d.frameClocks (t + 2 ^ k) < clk then t + 2 ^ k else t)

/-- The PWM clock by which CORE clock `clk` of the frame in progress has come: at the nominal ratio, or along the
sweep of the profile in force (R29, R349). -/
def Dev.clockAt (d : Dev) (clk : Nat) : Nat :=
  if d.cpr.ssc = 0 && d.cpr.coreAt = 2 * d.cpr.sscAt then d.fbx.frameAt + (clk + 1) / 2
  else if clk = 0 then d.fbx.frameAt else d.clockSearch clk 20 d.fbx.frameAt + 1

/-- A set completes in a leg's shadow; the newest one that has stood there for 8 ns is still known (R236). -/
def LegPwm.shadowed (l : LegPwm) (s : LegShadow) : LegPwm :=
  let past := l.shadow.toList ++ l.older
  let fresh := past.takeWhile fun p => s.done < p.done + 4
  { l with shadow := some s, older := fresh ++ (past.drop fresh.length).take 1 }

/-- Leg sets of a flight written into the PWM shadow, which completes them (R85, R236). -/
def Dev.landLegs (d : Dev) (fl : Flight) : Dev :=
  if fl.legs.isEmpty then d else
  let t := d.clockAt fl.lands
  { d with
    pwm := { d.pwm with legs := fl.legs.foldl (fun ls (n, s) => upd ls n fun l => l.shadowed ⟨s, d.fbx.fcnt, t⟩) d.pwm.legs }
    fbx := { d.fbx with
      legsDone := fl.legs.foldl (fun m (n, _) => setBit m n) d.fbx.legsDone
      modDone := d.fbx.modDone ++ [(fl.slot, t)]
      lastDone := some t } }

/-- A result lands: nodes, state, registers, legs, events at one clock (R79, R109). -/
def Dev.land (d : Dev) (fl : Flight) : Dev :=
  let d := d.fbxUp fun x => { x with
    nodes := fl.nodes.foldl (fun m (n, w) => Mem.wr m n w) x.nodes
    state := fl.state.foldl (fun m (n, w) => Mem.wr m n w) x.state
    endClk := max x.endClk fl.lands
    seqPos := match fl.seq with | some p => upd x.seqPos p fun n => (n + 1) % (d.S / 4) | none => x.seqPos
    scanTimer := match fl.restart with | some c => x.scanTimer.set c 0 | none => x.scanTimer }
  let d := d.forAll fl.regs fun d (a, w) => d.setWord a w
  let d := d.landLegs fl
  d.forAll fl.events fun d (c, items) => d.raise c items

/-- Every result due at or before a clock lands, in order of landing. -/
def Dev.landUpTo (d : Dev) (clk : Nat) : Dev :=
  let due := (d.fbx.flight.filter fun f => f.lands ≤ clk).mergeSort fun x y => x.lands ≤ y.lands
  let d := d.fbxUp fun x => { x with flight := x.flight.filter fun f => clk < f.lands }
  d.forAll due Dev.land

/-- The result of one slot lands, with those due before it. -/
def Dev.landSlot (d : Dev) (slot : Nat) : Dev :=
  match d.fbx.flight.find? fun f => f.slot == slot with
  | none => d
  | some fl => (d.advanceTo (d.clockAt fl.lands)).landUpTo fl.lands

/-! ## Issue (R78, R79, R110 to R132) -/

/-- An invalid issue or lane: counted and raised (R105). -/
def Dev.kernelNan (d : Dev) (unit slot n : Nat) : Dev :=
  if n = 0 then d else (d.bump (F.FBX_NAN_CNT.ix unit) n).raise 0x0110 [unit, slot]

/-- Consecutive node writes. -/
def runOf (a : Nat) (ws : List Word) : List (Nat × Word) := (List.range ws.length).map fun i => (a + i, ws.getD i 0)

/-- A compensator slot (R111 to R115). -/
def Dev.issueCmp (d : Dev) (s : Slot) (i : Nat) : Flight × Nat :=
  let rec_ := d.fbx.bank * 4096 + 16 * s.arg
  let k := fun j => Mem.rd d.fbx.coef (rec_ + j)
  let h := fun j => Mem.rd d.fbx.state (6 * s.sect + j)
  let lut := fun j => Mem.rd d.fbx.lut (68 * wbits (k 11) 9 4 + j)
  let (w, hist, bad) := cmpIssue k h lut (d.node s.a) (d.node s.b) (d.node s.c)
  ({ slot := i, lands := s.lands, nodes := [(s.dst, w)], state := runOf (6 * s.sect) hist }, if bad then 1 else 0)

/-- Positions in a SEQ line pair are counted modulo S/4; the pair's lines lie one after the other. -/
def seqAddr (pair line pos : Nat) : Nat := seqBase + 512 * pair + 256 * line + pos

/-- A transform slot (R116 to R118). -/
def Dev.issueXfm (d : Dev) (s : Slot) (i : Nat) : Flight × Nat :=
  let r := d.nodeRun s.a 3
  let x := r.getD 0 0
  let y := r.getD 1 0
  let fb : Word := BitVec.ofNat 32 (d.get (F.FBX_KU_FALLBACK.ix (s.unit - 8)))
  let out (res : Option (List Nat)) : List Word :=
    match res with | some l => l.map kOut | none => List.replicate s.results fb
  let bad (res : Option (List Nat)) : Nat := if res.isNone then 1 else 0
  let base : Flight := { slot := i, lands := s.lands }
  match s.op with
  | 0 => let q := xfmClarke x y (r.getD 2 0); ({ base with nodes := runOf s.dst (out q) }, bad q)
  | 1 => let q := xfmIClarke x y (r.getD 2 0); ({ base with nodes := runOf s.dst (out q) }, bad q)
  | 2 => let q := xfmPark x y (d.node s.b); ({ base with nodes := runOf s.dst (out q) }, bad q)
  | 3 => let q := xfmIPark x y (d.node s.b); ({ base with nodes := runOf s.dst (out q) }, bad q)
  | 4 =>
    let (c, sn) := kSincos x
    ({ base with nodes := runOf s.dst [kOut c, kOut sn] }, 0)
  | _ =>
    let pair := 4 * (s.unit - 8) + s.arg % 4
    let pos := d.fbx.seqPos.getD pair 0
    let pa := seqAddr pair 0 pos
    let pb := seqAddr pair 1 pos
    let q := xfmSeq x y (Mem.rd d.fbx.state pa) (Mem.rd d.fbx.state pb)
    let (sa, sb) : Word × Word := match q with
      | some _ => (kOut (ftz x.toNat), kOut (ftz y.toNat))
      | none => (0, 0)
    ({ base with nodes := runOf s.dst (out q), state := [(pa, sa), (pb, sb)], seq := some pair }, bad q)

/-- A vector arithmetic slot (R119, R120): lanes one by one. -/
def Dev.issueAlu (d : Dev) (s : Slot) (i : Nat) : Flight × Nat :=
  let fb : Word := BitVec.ofNat 32 (d.get (F.FBX_KU_FALLBACK.ix (s.unit - 8)))
  let m := aluCells s.op s.delay
  let words := if s.op = 0x10 then s.delay else 2 * m
  let lane (l : Nat) :=
    let base := cellBase + 2 * (s.sect + l * m)
    let st := (List.range words).map fun j => Mem.rd d.fbx.state (base + j)
    let (w, st', bad) := aluLane s.op s.delay fb st (d.node (s.a + l))
      (d.node (if s.arg.testBit 2 then s.b else s.b + l)) (d.node (if s.arg.testBit 3 then s.c else s.c + l))
    (w, runOf base st', bad)
  let ls := (List.range s.lanes).map lane
  ({ slot := i, lands := s.lands, nodes := runOf s.dst (ls.map fun x => x.1), state := ls.flatMap fun x => x.2.1 },
    (ls.filter fun x => x.2.2).length)

/-- A modulation slot: status, counters and events at the issue, leg sets at the landing (R121 to R127). -/
def Dev.issueMod (d : Dev) (s : Slot) (i : Nat) : Dev × Flight :=
  let three := decide (3 ≤ s.op)
  let b := d.nodeRun s.b (if three then 2 else 1)
  let res := modIssue s.op (s.arg / 16 % 4) (d.nodeRun s.a 3) b (d.nodeRun s.c (if three then 3 else 0))
    (BitVec.ofNat 32 (d.get F.FBX_MOD_KNP))
  let n := modLegs s.op
  let (legs, ovm, np, bad) := match res with
    | .ok ls o p => (ls, o, p, false)
    | _ => (List.replicate n legZero, false, false, true)
  let was := d.flag F.FBX_MOD_STAT_OVM
  let d := d.putB F.FBX_MOD_STAT_OVM ovm |>.putB F.FBX_MOD_STAT_VDC_BAD bad
  let d := if ovm then d.bump F.FBX_MOD_OVM_CNT else d
  let d := if ovm && !was then d.raise 0x0113 else d
  let d := match res with | .nan => d.raise 0x0111 | .vdc => d.raise 0x0112 | _ => d
  let d := if three then
      (d.putB F.FBX_MOD_STAT_NP_SAT np).fbxUp fun x => { x with npAny := true, npAll := (x.npAll || !x.npAny) && np }
    else d
  let fl : Flight := { slot := i, lands := s.lands
                       legs := (List.range n).map fun j => (s.arg % 16 + j, legs.getD j legZero) }
  (d, fl)

/-- Parameters of an MPPT channel. -/
def Dev.mpptPar (d : Dev) (c : Nat) : MpptPar :=
  let g (f : Fld) : Nat := ftz (d.get (f.ix c))
  ⟨g F.MPT_V_MIN, g F.MPT_V_MAX, g F.MPT_STEP_MIN, g F.MPT_STEP_MAX, g F.MPT_K_STEP, g F.MPT_EPS, g F.MPT_K_CURT,
   g F.MPT_BAND, g F.MPT_SCAN_HI, g F.MPT_SCAN_LO, g F.MPT_SCAN_STEP⟩

/-- State of an MPPT channel from its words and registers. -/
def Dev.mpptSt (d : Dev) (c : Nat) : MpptSt :=
  let g (j : Nat) : Nat := (Mem.rd d.fbx.state (mpptBase + 16 * c + j)).toNat
  { vRef := g 0, vPrev := g 1, iPrev := g 2, pPrev := g 3, dir := g 4, pMp := g 5, vStart := g 6
    aborted := g 7 != 0, first := g 8 != 0
    vMp := d.get (F.MPT_V_MP.ix c), vBest := d.get (F.MPT_V_BEST.ix c), pBest := d.get (F.MPT_P_BEST.ix c)
    phase := d.get (F.MPT_STAT_PHASE.ix c), deferred := d.flag (F.MPT_STAT_DEFERRED.ix c) }

/-- State words and registers of an MPPT channel. -/
def mpptWords (c : Nat) (s : MpptSt) : List (Nat × Word) :=
  runOf (mpptBase + 16 * c) [kOut s.vRef, kOut s.vPrev, kOut s.iPrev, kOut s.pPrev, BitVec.ofNat 32 s.dir, kOut s.pMp,
    kOut s.vStart, if s.aborted then 1 else 0, if s.first then 1 else 0]
def mpptRegs (c : Nat) (s : MpptSt) : List (Nat × Word) :=
  [((F.MPT_STAT_PHASE.ix c).addr, BitVec.ofNat 32 (s.phase + if s.deferred then 8 else 0)),
   ((F.MPT_V_BEST.ix c).addr, kOut s.vBest), ((F.MPT_P_BEST.ix c).addr, kOut s.pBest), ((F.MPT_V_MP.ix c).addr, kOut s.vMp)]

/-- A scan of a channel is due (R131). -/
def Dev.scanDue (d : Dev) (c : Nat) : Bool :=
  let p := d.get (F.MPT_SCAN_CFG_SCAN_PERIOD.ix c)
  p != 0 && p * 60000 ≤ d.fbx.scanTimer.getD c 0

/-- An MPPT slot (R128 to R132). -/
def Dev.issueMpt (d : Dev) (s : Slot) (i : Nat) : Flight × Nat :=
  let c := s.sect
  let st := d.mpptSt c
  let r := d.nodeRun s.a 2
  match mpptIssue (d.mpptPar c) (s.op == 1) (d.scanDue c) st (r.getD 0 0) (r.getD 1 0) (d.node s.b) (d.node s.c) with
  | none => ({ slot := i, lands := s.lands, nodes := [(s.dst, kOut ((d.mpptPar c).clampV st.vRef))] }, 1)
  | some (t, e) =>
    let evs := match e with
      | .done => [(0x0115, [c, t.vBest])]
      | .aborting => [(0x0116, [c])]
      | _ => []
    ({ slot := i, lands := s.lands, nodes := [(s.dst, kOut ((d.mpptPar c).clampV t.vRef))], state := mpptWords c t
       regs := mpptRegs c t, events := evs, restart := match e with | .done => some c | .aborted => some c | _ => none }, 0)

/-- Index of the slot's earlier holder of its unit at its issue clock, if any (R97). -/
def Fbx.unitHeld (x : Fbx) (slots : List Slot) (s : Slot) : Bool :=
  x.issued.any fun j => match slots[j]? with
    | some y => y.unit == s.unit && s.issue < y.issue + y.interval && y.issue ≤ s.issue
    | none => false

/-- Slot `i` issues: it reads its nodes after every result due by its clock has landed, and its own result
is on its way (R79). -/
def Dev.issueSlot (d : Dev) (s : Slot) (i : Nat) : Dev :=
  let d := (d.advanceTo (d.clockAt s.issue)).landUpTo s.issue
  let d := d.fbxUp fun x => { x with issued := x.issued ++ [i] }
  let fly (d : Dev) (fl : Flight) : Dev := d.fbxUp fun x => { x with flight := x.flight ++ [fl] }
  if s.unit < 8 then
    let (fl, bad) := d.issueCmp s i
    fly (d.kernelNan s.unit i bad) fl
  else if s.unit < 10 then
    let (fl, bad) := d.issueXfm s i
    fly (d.kernelNan s.unit i bad) fl
  else if s.unit < 14 then
    let (fl, bad) := d.issueAlu s i
    fly (d.kernelNan s.unit i bad) fl
  else if s.unit = 14 then
    let (d, fl) := d.issueMod s i
    fly d fl
  else
    let (fl, bad) := d.issueMpt s i
    fly (d.kernelNan s.unit i bad) fl

/-! ## Guards (R97 to R99) -/

/-- An overrun of the frame in progress (R99): slots not issued are abandoned, leg sets not complete withheld. -/
def Dev.overrun (d : Dev) (cause slot : Nat) : Dev :=
  let d := d.fbxUp fun x => { x with abandoned := true, flight := x.flight.filter fun f => f.legs.isEmpty }
  if d.fbx.overrun then d else
  let first := !d.flag F.FBX_STATUS_OVR
  let k := d.fbx.fcnt
  let d := d.fbxUp fun x => { x with overrun := true }
  let d := d.bump F.FBX_OVR_CNT_CNT
  let d := if first then
      d.put F.FBX_STATUS_OVR 1 |>.put F.FBX_OVR_INFO_SLOT slot |>.put F.FBX_OVR_INFO_CAUSE cause
        |>.put F.FBX_OVR_INFO_FCNT (k % 65536)
    else d
  d.raise 0x0101 [cause, slot, k]

/-- The slots of the table that issue in the frame in progress, with their indices. -/
def Dev.frameSlots (d : Dev) : List (Nat × Slot) :=
  match d.fbx.active with
  | none => []
  | some img => ((List.range img.slots.length).zip img.slots).filter fun (_, s) => s.selected d.fbx.fcnt

/-- What the guards find at the end of a frame: cause and the first slot concerned (R97, R98). A MOD0 slot on its way is the
deadline guard's. (DEDUCED, log entry 130.) -/
def Dev.frameFault (d : Dev) : Option (Nat × Nat) :=
  if !d.fbx.running || d.fbx.abandoned then none
  else
    let ss := d.frameSlots
    match ss.find? (fun (i, _) => !d.fbx.issued.contains i || d.fbx.flight.any fun f => f.slot == i && f.legs.isEmpty) with
    | some (i, _) => some (2, i)
    | none =>
      match ss.find? (fun (_, s) => (s.legs &&& andNot s.legs d.fbx.legsDone) != 0) with
      | some (i, _) => some (3, i)
      | none => (ss.find? fun (i, _) => d.fbx.modDone.any fun m => m.1 == i && d.now < m.2 + 50).map fun x => (3, x.1)

/-- The frame in progress ends (R97 to R99, Tables 3-13 to 3-15): results due before the next frame start land, the guards judge it,
and what has not landed is discarded. -/
def Dev.frameEnd (d : Dev) : Dev :=
  if d.fbx.active.isNone || !d.fbx.running then d else
  let d := d.landUpTo (d.frameClocks d.now - 1)
  let d := match d.frameFault with | some (c, i) => d.overrun c i | none => d
  let d := d.put F.FBX_LAST_END_END d.fbx.endClk
  let d := if d.get F.FBX_MAX_END_END < d.fbx.endClk then d.put F.FBX_MAX_END_END d.fbx.endClk else d
  let d := match d.fbx.lastDone with
    | some t =>
      let m := d.now - t
      if m < d.get F.FBX_PWM_MARGIN_MARGIN then d.put F.FBX_PWM_MARGIN_MARGIN m else d
    | none => d
  d.fbxUp fun x => { x with flight := [] }

/-- Firebox begins frame `k`: nothing issued, guards clear, the bank in force latched (R86). -/
def Dev.frameBegin (d : Dev) (k bank : Nat) : Dev :=
  let old := d.get F.FBX_STATUS_BANK
  let d := d.fbxUp fun x => { x with
    running := x.active.isSome, frameAt := d.now, frameCore := d.coreNow d.now, fcnt := k, bank := bank, issued := []
    abandoned := false, overrun := false, flight := [], endClk := 0, legsDone := 0, modDone := [], lastDone := none }
  if d.fbx.active.isSome && old != bank then (d.put F.FBX_STATUS_BANK bank).raise 0x0103 [old, bank] else d

/-- The output ports take the values their nodes hold at the frame start (R84). At a stopped activation these are the
values just loaded. (DEDUCED, log entry 51.) -/
def Dev.copyPorts (d : Dev) : Dev :=
  match d.fbx.active with
  | none => d.fbxUp fun x => { x with ports := [] }
  | some img => d.fbxUp fun x => { x with
      ports := img.ports.foldl (fun m (p, n) => Mem.wr m p (Mem.rd x.nodes n)) [] }

/-- An increase of ANG_CYCLE ends a whole line cycle for FBX_NP_SAT (R127). -/
def Dev.npCycle (d : Dev) : Dev :=
  let sat := d.fbx.npAny && d.fbx.npAll
  let d := d.fbxUp fun x => { x with npAny := false, npAll := false }
  if sat then d.raise 0x0114 else d

/-! ## What the commands do -/

/-- SLOT_ISSUE: a selected slot of the frame in progress issues once; with its unit still held the slot guard
declares an overrun (R97), after what is due by then has landed (R99). -/
def Dev.slotIssue (d : Dev) (i : Nat) : Dev :=
  match d.fbx.active with
  | none => d
  | some img => match img.slots[i]? with
    | none => d
    | some s =>
      if !d.fbx.running || d.fbx.abandoned || !s.selected d.fbx.fcnt || d.fbx.issued.contains i then d
      else if d.fbx.unitHeld img.slots s then ((d.advanceTo (d.clockAt s.issue)).landUpTo s.issue).overrun 1 i
      else d.issueSlot s i

/-- FBX_OVERRUN: a guard declares an overrun of the frame in progress; what has completed by then has landed (R99). -/
def Dev.fbxOverrun (d : Dev) (cause slot : Nat) : Dev :=
  if d.fbx.active.isSome && d.fbx.running then (d.landUpTo (d.frameClocks d.now)).overrun cause slot else d

/-- MPPT_SCAN_DUE: the scan period of a channel has passed (R131). -/
def Dev.mpptDue (d : Dev) (c : Nat) : Dev :=
  let p := d.get (F.MPT_SCAN_CFG_SCAN_PERIOD.ix c)
  d.fbxUp fun x => { x with scanTimer := upd x.scanTimer c fun t => max t (p * 60000) }

/-- MPPT scan timers count a tick (R131). -/
def Dev.mpptTick (d : Dev) : Dev :=
  if d.fbx.active.isSome then d.fbxUp fun x => { x with scanTimer := x.scanTimer.map (· + 1) } else d

end Sys2Proof.Machine
end

