-- ==== Sys2Proof/Machine/Recorders.lean ====
section
/-! DEFINITION. Trace probes and disturbance capture (chapter 5). -/

namespace Sys2Proof.Machine

/-- The trace's and capture's state changed. -/
def Dev.trcUp (d : Dev) (f : Trc → Trc) : Dev := { d with trc := f d.trc }
def Dev.capUp (d : Dev) (f : Cap → Cap) : Dev := { d with cap := f d.cap }

/-! ## Records (R148, Table 5-4) -/

/-- A record header. -/
def recHeader (type ch flags count pre seq cause : Nat) (s : SampleInfo) (dec fmt src dropped fcnt : Nat) : List Byte :=
  leBytes 2 type ++ leBytes 1 ch ++ leBytes 1 flags ++ leBytes 2 count ++ leBytes 2 pre ++ leBytes 4 seq
    ++ leBytes 4 cause ++ leBytes 4 s.cycle ++ leBytes 4 s.theta ++ leBytes 4 s.sec ++ leBytes 4 s.ns
    ++ leBytes 1 dec ++ leBytes 1 fmt ++ leBytes 2 src ++ leBytes 4 dropped ++ leBytes 4 fcnt ++ leBytes 4 0

/-- Flags of what happened from a frame or sample ordinal on. -/
def Dev.markFlags (d : Dev) (since : Nat) (key : Mark → Nat) : Nat :=
  let on (m : Option Mark) (b : Nat) : Nat := match m with | some x => if since ≤ key x then b else 0 | none => 0
  on d.marks.snap 1 + on d.marks.hold 2 + on d.marks.trip 16

/-- Header data of the present instant with the frame ordinal given. -/
def Dev.sampleInfo (d : Dev) (theta : Nat) (frame : Nat) : SampleInfo :=
  { cycle := d.get F.ANG_CYCLE, theta := theta % 2 ^ 32, sec := d.ptpSec % 2 ^ 32
    ns := d.ptpSub + (if d.ptpOk then 2 ^ 30 else 0), frame := frame }

/-! ## Trace (R136 to R144) -/

/-- Probe fields. -/
def Dev.prbEn (d : Dev) (p : Nat) : Bool := d.flag (F.TRC_PROBE_EN.ix p)
def Dev.prbDec (d : Dev) (p : Nat) : Nat := d.get (F.TRC_PROBE_DEC.ix p)
def Dev.probes (d : Dev) : List Nat := (List.range 32).filter d.prbEn

/-- The probe records in frames of this count (R139). -/
def Dev.prbHit (d : Dev) (p k : Nat) : Bool := k % 2 ^ d.prbDec p == d.get (F.TRC_PROBE_PHASE.ix p)

/-- Samples kept before and after a probe's trigger sample (R141). -/
def Dev.trcPre (d : Dev) : Nat := 16384 * d.get F.TRC_TRIG_PRE / 100
def Dev.trcPost (d : Dev) : Nat := 16383 - d.trcPre

/-- Trace state. -/
def Dev.trcSt (d : Dev) : Nat := d.get F.TRC_STATUS_STATE

/-- The probe has its post-trigger samples. -/
def Dev.prbFull (d : Dev) (p : Nat) : Bool :=
  match d.trc.trig.getD p none with
  | some (t, _) => t + d.trcPost ≤ d.trc.count.getD p 0
  | none => false

/-- One probe takes its sample of the frame just ended (R138, R141). -/
def Dev.prbRecord (d : Dev) (p : Nat) : Dev :=
  let n := d.trc.count.getD p 0
  let v := d.node (d.get (F.TRC_PROBE_NODE.ix p))
  d.trcUp fun t => { t with
    buf := Mem.wr t.buf (16384 * p + n % 16384) v
    count := upd t.count p fun _ => n + 1
    last := upd t.last p fun _ => t.cur
    trig := if n = 0 then upd t.trig p fun o => o.map fun _ => (1, t.cur) else t.trig }

/-- A stream block that has filled becomes a record, or is discarded whole (R144). -/
def Dev.streamBlock (d : Dev) (p : Nat) : Dev :=
  let b := d.trc.blocks.getD p {}
  let d := d.trcUp fun t => { t with blocks := upd t.blocks p fun _ => {} }
  let src := d.get (F.TRC_PROBE_NODE.ix p)
  let bytes (d : Dev) : List Byte :=
    recHeader 0x5402 p (d.markFlags b.first.frame Mark.frame) 256 0 d.trc.seq 0 b.first (d.prbDec p)
      (d.get (F.TRC_PROBE_FMT.ix p)) src d.trc.dropped (b.first.frame % 2 ^ 32) ++ bytesOf b.vals.reverse
  let drop (d : Dev) : Dev :=
    let first := !d.trc.dropping
    let d := (d.bump F.TRC_DROP 256).trcUp fun t => { t with dropped := sat32 (t.dropped + 256), dropping := true }
    if first then d.raise 0x0123 else d
  match d.ringOfUse 1 with
  | none => drop d
  | some r =>
    if d.ringHasRoom r 1072 && d.get (F.RING_STAT_STATE.ix r) != 3 then
      let d := d.trcUp fun t => { t with seq := (t.seq + 1) % 2 ^ 32 }
      (d.ringQueue r ⟨.stream p, bytes d⟩).trcUp fun t => { t with dropped := 0, dropping := false }
    else drop d

/-- One probe takes a sample in STREAM (R144). -/
def Dev.prbStream (d : Dev) (p : Nat) : Dev :=
  let v := d.node (d.get (F.TRC_PROBE_NODE.ix p))
  let d := d.trcUp fun t => { t with blocks := upd t.blocks p fun b =>
    { vals := v :: b.vals, first := if b.vals.isEmpty then t.cur else b.first } }
  if (d.trc.blocks.getD p {}).vals.length = 256 then d.streamBlock p else d

/-- The probes record the frame of count k. -/
def Dev.trcSamples (d : Dev) (k : Nat) : Dev :=
  let st := d.trcSt
  d.forAll (d.probes.filter fun p => d.prbHit p k) fun d p =>
    if st = 4 then d.prbStream p
    else if st = 1 || (st = 2 && !d.prbFull p) then d.prbRecord p else d

/-- Order of two trigger values in a format; none where a NaN is involved. -/
def fmtCmp (fmt : Nat) (x y : Word) : Option Ordering :=
  match fmt with
  | 0 => (f32.unpack x.toNat).cmp (f32.unpack y.toNat)
  | 1 => some (compare x.toInt y.toInt)
  | _ => some (compare x.toNat y.toNat)

/-- The value trigger of Table 5-2 (types 1 to 3); POL inverts the comparison. (DEDUCED, log entry 58.) -/
def Dev.valueTrigger (d : Dev) (x : Word) (prev : Option Word) : Bool :=
  let cmp (a : Word) (f : Fld) : Option Ordering := fmtCmp (d.get F.TRC_TRIG_FMT) a (BitVec.ofNat 32 (d.get f))
  let pol := d.flag F.TRC_TRIG_POL
  match d.get F.TRC_TRIG_TYPE with
  | 1 => match cmp x F.TRC_LEVEL with
    | some o => (o == .gt) != pol
    | none => false
  | 2 => match prev with
    | none => false
    | some p => match cmp p F.TRC_LEVEL, cmp x F.TRC_LEVEL with
      | some a, some b => (a != .gt) != pol && (b == .gt) != pol
      | _, _ => false
  | 3 => match cmp x F.TRC_LEVEL, cmp x F.TRC_HIGH with
    | some a, some b => (a != .lt && b != .gt) != pol
    | _, _ => false
  | _ => false

/-- The trigger's verdict on the frame just ended (R140). -/
def Dev.trcTriggered (d : Dev) : Bool :=
  match d.get F.TRC_TRIG_TYPE with
  | 4 => d.trc.evSeen
  | 5 => d.trc.capSeen
  | _ => d.valueTrigger (d.node (d.get F.TRC_TRIG_NODE)) d.trc.prev

/-- The trigger sample's count and header data, and the samples kept before it (R141). -/
def Dev.shotTrig (d : Dev) (p : Nat) : Nat × SampleInfo × Nat :=
  let (t, info) := (d.trc.trig.getD p none).getD (d.trc.count.getD p 0, {})
  (t, info, min d.trcPre (min 16383 (t - 1)))

/-- A probe whose last sample has just been taken: what happened from its first sample to its last (R148). -/
def Dev.prbClose (d : Dev) (p : Nat) : Dev :=
  if d.trcSt != 2 || !d.prbFull p || (d.trc.flags.getD p none).isSome then d else
  let (_, info, pre) := d.shotTrig p
  d.trcUp fun t => { t with flags := upd t.flags p fun _ => some (d.markFlags (info.frame - pre * 2 ^ d.prbDec p) Mark.frame) }

/-- The record of probe p of a frozen shot (R141, R142). -/
def Dev.shotRecord (d : Dev) (p : Nat) : List Byte :=
  let n := d.trc.count.getD p 0
  let (t, info, pre) := d.shotTrig p
  let count := min (n - (t - 1 - pre)) 16384
  let from_ := t - 1 - pre
  let flags := (d.trc.flags.getD p none).getD 0 + (if pre < d.trcPre then 4 else 0)
  recHeader 0x5401 p flags count pre d.trc.seq d.trc.cause info (d.prbDec p) (d.get (F.TRC_PROBE_FMT.ix p))
    (d.get (F.TRC_PROBE_NODE.ix p)) 0 d.trc.trigFcnt
    ++ bytesOf ((List.range count).map fun i => Mem.rd d.trc.buf (16384 * p + (from_ + i) % 16384))

/-- Arming: nothing recorded, no trigger (R140). -/
def Dev.trcStart (d : Dev) (st : Nat) : Dev :=
  (d.trcUp fun t => { t with
    count := List.replicate 32 0, last := List.replicate 32 {}, trig := List.replicate 32 none, prev := none
    evSeen := false, capSeen := false, forced := false, unload := []
    blocks := List.replicate 32 {} }).put F.TRC_STATUS_STATE st

/-- The last record of a shot is written (R142). -/
def Dev.trcDone (d : Dev) : Dev :=
  let d := d.raise 0x0121
  if d.flag F.TRC_CTRL_REARM then d.trcStart 1 else d.put F.TRC_STATUS_STATE 0

/-- In UNLOAD, the shot's records are put on the trace ring, once one is enabled (R142). -/
def Dev.trcUnload (d : Dev) : Dev :=
  if d.trcSt != 3 || d.trc.unload.isEmpty then d else
  match d.ringOfUse 1 with
  | none => d
  | some r =>
    let lastP := d.trc.unload.getLastD 0
    let d := d.forAll d.trc.unload fun d p => d.ringQueue r ⟨.trace p (p == lastP), d.shotRecord p⟩
    d.trcUp fun t => { t with unload := [] }

/-- Every enabled probe has its samples: the buffer freezes (R141). -/
def Dev.trcFreeze (d : Dev) : Dev :=
  if d.trcSt != 2 || !d.probes.all d.prbFull then d else
  let d := d.forAll d.probes fun d p =>
    let t := ((d.trc.trig.getD p none).getD (1, {})).1
    d.put (F.TRC_TIDX_IDX.ix p) ((t - 1) % 16384)
  let d := (d.trcUp fun t => { t with unload := d.probes }).put F.TRC_STATUS_STATE 3
  if d.probes.isEmpty then d.trcDone else d

/-- A trigger accepted in the frame of count k (R140, R141). -/
def Dev.trcAccept (d : Dev) (k cause : Nat) : Dev :=
  let d := d.trcUp fun t => { t with
    trig := (List.range 32).map fun p => some (t.count.getD p 0, t.last.getD p {})
    flags := List.replicate 32 none
    cause := cause, trigFcnt := k, seq := (t.seq + 1) % 2 ^ 32 }
  let d := ((d.put F.TRC_STATUS_STATE 2).put F.TRC_TRIG_FCNT k).put F.TRC_STATUS_SEQ (d.trc.seq % 65536)
  d.raise 0x0120 [cause, k]

/-- The trigger evaluated once for the frame just ended (R140, R142). -/
def Dev.trcTrigger (d : Dev) (k : Nat) : Dev :=
  let st := d.trcSt
  let hit := d.trcTriggered
  let forced := d.trc.forced
  let x := d.node (d.get F.TRC_TRIG_NODE)
  let d := d.trcUp fun t => { t with prev := some x, evSeen := false, capSeen := false, forced := false }
  if st = 1 && (hit || forced) then d.trcAccept k (if hit then d.get F.TRC_TRIG_TYPE else 0x100)
  else if (st = 2 || st = 3) && hit then (d.bump F.TRC_MISSED).raise 0x0122
  else d

/-- The records of the trace still waiting on a ring leave it. -/
def Dev.dropWaiting (d : Dev) (mine : Producer → Bool) : Dev :=
  { d with hst := { d.hst with rings := d.hst.rings.map fun g => { g with waiting := g.waiting.filter fun x => !mine x.prod } } }

/-- A trace shot's record; a capture's. -/
def Producer.isTrace : Producer → Bool
  | .trace _ _ => true
  | _ => false
def Producer.isCapture : Producer → Bool
  | .capture _ _ => true
  | _ => false

/-- The control bits of the trace act at a frame start (R136). -/
def Dev.trcControl (d : Dev) : Dev :=
  let st := d.trcSt
  let t := d.trc
  let d := d.trcUp fun t => { t with arm := false, stop := false, force := false }
  if t.stop then
    if st = 0 then d else
    let d := if st = 3 then d.dropWaiting Producer.isTrace else d
    (d.trcUp fun t => { t with unload := [], forced := false }).put F.TRC_STATUS_STATE 0
  else if t.arm && st = 0 then d.trcStart (if d.flag F.TRC_CTRL_MODE then 4 else 1)
  else if t.force && st = 1 then d.trcUp fun t => { t with forced := true }
  else d

/-- The trace at a device frame start, before any node changes: the frame just ended is recorded and judged once,
then the control bits act for the frame that begins. -/
def Dev.traceFrame (d : Dev) : Dev :=
  let k := d.get F.ANG_FCNT
  let n := d.time.frames
  let d := if n = d.trc.done then d else
    let d := (d.trcSamples k).trcTrigger k
    (d.forAll d.probes Dev.prbClose).trcFreeze.trcUp fun t => { t with done := n }
  d.trcControl.trcUnload

/-- The header data of the frame that begins, its start angle among it. -/
def Dev.traceFrameInfo (d : Dev) (angle : Nat) : Dev :=
  d.trcUp fun t => { t with cur := d.sampleInfo angle d.time.frames }

/-- A stopped image activation abandons an armed or triggered trace (R143). -/
def Dev.traceAbort (d : Dev) : Dev :=
  if d.trcSt = 1 || d.trcSt = 2 then (d.trcStart 0).raise 0x0124 else d

/-! ## Capture (R145 to R147) -/

/-- Capture state; samples kept before and after the trigger sample. -/
def Dev.capSt (d : Dev) : Nat := d.get F.CAP_STATUS_STATE
def Dev.capPre (d : Dev) : Nat := 8192 * d.get F.CAP_CFG_PRE / 100
def Dev.capPost (d : Dev) : Nat := 8191 - d.capPre

/-- Enabled capture channels. -/
def Dev.capChans (d : Dev) : List Nat := bitList 32 (d.get F.CAP_EN)

/-- The value a channel records now (R145). -/
def Dev.capValue (d : Dev) (c : Nat) : Word :=
  if c < 24 then (d.sch c).f2
  else
    let f := c - 24
    Mem.rd d.sar.published (64 * d.get (F.CAP_SAR_CONV.ix f) + d.get (F.CAP_SAR_SLOT.ix f))

/-- Every enabled channel records one sample. -/
def Dev.capRecord (d : Dev) : Dev :=
  let n := d.cap.count
  let ws := d.capChans.map fun c => (8192 * c + n % 8192, d.capValue c)
  d.capUp fun t => { t with buf := ws.foldl (fun m (a, w) => Mem.wr m a w) t.buf, count := n + 1 }

/-- Arming capture. -/
def Dev.capStart (d : Dev) : Dev :=
  (d.capUp fun t => { t with count := 0, trig := none, unload := [], retrig := false }).put F.CAP_STATUS_STATE 1

/-- The record of channel c of a frozen capture (R146, R147). -/
def Dev.capRecordBytes (d : Dev) (c : Nat) : List Byte :=
  let n := d.cap.count
  let (t, info) := d.cap.trig.getD (n, {})
  let pre := min d.capPre (min 8191 (t - 1))
  let from_ := t - 1 - pre
  let count := min (n - from_) 8192
  let flags := d.cap.flags + (if pre < d.capPre then 4 else 0) + (if d.cap.retrig then 8 else 0)
  let src := if c < 24 then c else c - 24
  recHeader 0x5403 c flags count pre d.cap.seq (d.get F.CAP_CAUSE) info 0 (if c < 24 then 0 else 3) src 0 info.frame
    ++ bytesOf ((List.range count).map fun i => Mem.rd d.cap.buf (8192 * c + (from_ + i) % 8192))

/-- The last record of a capture is written (R147, R142). -/
def Dev.capDone (d : Dev) : Dev :=
  let d := d.raise 0x0126
  if d.flag F.CAP_CTRL_REARM then d.capStart else d.put F.CAP_STATUS_STATE 0

/-- In UNLOAD, the records are put on the capture ring, once one is enabled. -/
def Dev.capUnload (d : Dev) : Dev :=
  if d.capSt != 3 || d.cap.unload.isEmpty then d else
  match d.ringOfUse 2 with
  | none => d
  | some r =>
    let lastC := d.cap.unload.getLastD 0
    let d := d.forAll d.cap.unload fun d c => d.ringQueue r ⟨.capture c (c == lastC), d.capRecordBytes c⟩
    d.capUp fun t => { t with unload := [] }

/-- The post-trigger samples are there: the buffer freezes. -/
def Dev.capFreeze (d : Dev) : Dev :=
  match d.cap.trig with
  | none => d
  | some (t, _) =>
    if d.capSt != 2 || d.cap.count < t + d.capPost then d else
    let d := (d.put F.CAP_TIDX ((t - 1) % 8192)).put F.CAP_STATUS_STATE 3
    let length := min d.capPre (min 8191 (t - 1)) + d.cap.count - t
    let d := d.capUp fun x => { x with unload := d.capChans, flags := d.markFlags (d.time.samples - length) Mark.sample }
    if d.capChans.isEmpty then d.capDone else d

/-- The control bits of capture act at a sample instant (R136). -/
def Dev.capControl (d : Dev) : Dev :=
  let st := d.capSt
  let t := d.cap
  let d := d.capUp fun t => { t with arm := false, stop := false, force := false }
  if t.stop then
    if st = 0 then d else
    let d := if st = 3 then d.dropWaiting Producer.isCapture else d
    (d.capUp fun t => { t with unload := [] }).put F.CAP_STATUS_STATE 0
  else if t.arm && st = 0 then d.capStart
  else if t.force && st = 1 then d.capUp fun t => { t with happened := setBit t.happened 23 }
  else d

/-- The ANG_FCNT of the frame in which a sample taken now lies: the frame that starts at the same instant has it.
(DEDUCED, log entry 63.) -/
def Dev.frameNow (d : Dev) : Nat :=
  if d.time.nextFrame * (2 ^ 48 / d.S) + d.phi48 ≤ d.time.phase then (d.get F.ANG_FCNT + 1) % 2 ^ 32 else d.get F.ANG_FCNT

/-- What happened since the last sample instant triggers, or counts (R146, R147). -/
def Dev.capTrigger (d : Dev) : Dev :=
  let c := d.cap.happened
  let d := d.capUp fun t => { t with happened := 0 }
  if c = 0 then d else
  match d.capSt with
  | 1 =>
    let d := d.capUp fun t => { t with
      trig := some (t.count, d.sampleInfo d.ang.theta d.frameNow), seq := (t.seq + 1) % 2 ^ 32 }
    let d := ((d.put F.CAP_STATUS_STATE 2).put F.CAP_CAUSE c).put F.CAP_STATUS_SEQ (d.cap.seq % 65536)
    (d.trcUp fun t => { t with capSeen := true }).raise 0x0125 [c]
  | 2 => ((d.bump F.CAP_RETRIG).capUp fun t => { t with retrig := true }).raise 0x0128
  | _ => (d.bump F.CAP_MISSED).raise 0x0127

/-- Capture at a common-angle sample instant. -/
def Dev.captureSample (d : Dev) : Dev :=
  let d := d.capControl
  let d := if d.capSt = 1 || d.capSt = 2 then d.capRecord else d
  (d.capTrigger.capFreeze).capUnload

end Sys2Proof.Machine
end

