-- ==== Sys2Proof/Machine/Angle.lean ====
section
/-! DEFINITION. Angle timebase and grid synchronisation (chapter 2): the PLL, the sources and lock states, snap
and slew, line cycles, stamps and phasor records. The PLL computes in binary64, each formula in its written order. -/

namespace Sys2Proof.Machine

/-- ANG's state changed. -/
def Dev.angUp (d : Dev) (f : Ang → Ang) : Dev := { d with ang := f d.ang }

/-! ## Frequencies and increments (R41, R47) -/

/-- The increment of a binary64 frequency (R41); 0 where it is not a positive finite number. -/
def incOf (f : Nat) : Nat :=
  match f64.unpack f with
  | .fin false m e =>
    (if 0 ≤ e then rneDiv (m * 2 ^ (48 + e.toNat) : Nat) 500000000
     else rneDiv (m * 2 ^ 48 : Nat) (500000000 * 2 ^ (-e).toNat)).toNat
  | _ => 0

/-- The frequency of an increment, binary64 (R41). -/
def freqOf (inc : Nat) : Nat := f64.ofRat (inc * 500000000 : Nat) (2 ^ 48)

/-- 2π, binary64. -/
def twoPi : Nat := 0x401921FB54442D18

/-- Nominal frequency, binary64. -/
def Dev.fNom64 (d : Dev) : Nat := f64.ofInt d.fNom

/-- f_lo and f_hi of R47, binary64. -/
def Dev.fLo (d : Dev) : Nat := f64.max (widen (d.get F.ANG_FLIM_LO_FLO)) (f64.ofInt 40)
def Dev.fHi (d : Dev) : Nat :=
  let h := f64.min (widen (d.get F.ANG_FLIM_HI_FHI)) (f64.ofInt 70)
  match d.fbx.active with
  | some i => f64.min h (widen i.fMax)
  | none => h

/-- A new stretch of the accumulator's course begins here. -/
def Dev.angMark (d : Dev) : Dev :=
  let s : AngSeg := ⟨d.now, d.time.phase, d.get F.ANG_INC⟩
  d.angUp fun a => { a with trail := (s :: a.trail.dropWhile fun x => x.at_ == s.at_).take 256 }

/-- The increment put in force, within the limits of R47; entering the clamp is an event. -/
def Dev.setInc (d : Dev) (inc : Nat) : Dev :=
  let lo := incOf d.fLo
  let hi := incOf d.fHi
  let clamped := inc < lo || hi < inc
  let was := d.flag F.ANG_STATUS_FCLAMP
  let v := min (max inc lo) hi
  let old := d.get F.ANG_INC
  let d := (d.put F.ANG_INC v).put F.ANG_F (narrow (freqOf v))
  let d := if old = v && !d.ang.trail.isEmpty then d else d.angMark
  let d := d.putB F.ANG_STATUS_FCLAMP clamped
  if clamped && !was then d.raise 0x0204 else d

/-- The increment in force, brought inside limits that have moved (R47). -/
def Dev.keepInc (d : Dev) : Dev :=
  let i := d.get F.ANG_INC
  if i < incOf d.fLo || incOf d.fHi < i then d.setInc i else d

/-! ## The interleave offset (R30) -/

/-- The first index of a series (spacing `u`, offset `off`) whose boundary is still to come. -/
def Dev.nextIndex (d : Dev) (u off : Nat) : Nat := if d.time.phase < off then 0 else (d.time.phase - off) / u + 1

/-- The offset in force: the crown's, brought below a carrier and rounded down to a modulator clock (R30). Where it changes, the
frame and carrier in progress end at the first start of their new series (R235). (DESIGN CHOICE, log entry 134.) -/
def Dev.rephase (d : Dev) : Dev :=
  let m := 2 ^ 32 / (d.S * (128 <<< d.get F.SDM_CFG_OSR_SEL))
  let phi := d.ang.phi % (2 ^ 32 / d.C) / m * m
  if phi = d.get F.ANG_PHI then d else
  let d := d.put F.ANG_PHI phi
  let c := 2 ^ 48 / d.C
  { d with time := { d.time with
      nextFrame := d.nextIndex (2 ^ 48 / d.S) d.phi48
      nextCarrier := d.nextIndex c d.phi48, nextHalf := d.nextIndex c (d.phi48 + c / 2) } }

/-- The crown gives an interleave offset (R407, R408). -/
def Dev.setPhi (d : Dev) (phi : Nat) : Dev := (d.angUp fun a => { a with phi := phi }).rephase

/-! ## Sources and lock states -/

/-- Source in force (Table 2-2) and lock state (Table 2-3). -/
def Dev.angSrc (d : Dev) : Nat := d.get F.ANG_STATUS_SRC
def Dev.angLock (d : Dev) : Nat := d.get F.ANG_STATUS_LOCK

/-- A lock state entered, with its event (Table 2-24). (DEDUCED, log entry 105.) -/
def Dev.setLock (d : Dev) (l : Nat) : Dev :=
  let d := (d.put F.ANG_STATUS_LOCK l).put F.ANG_STATUS_HOLD_CYC 0
  match l with
  | 0 => d.raise 0x0201
  | 2 => (d.angUp fun a => { a with expired := false }).raise 0x0202
  | _ => d

/-- A snap awaits its boundary, which comes after the present instant (R59). -/
def Dev.setSnap (d : Dev) (s : Option SnapWait) (first : Bool := false) : Dev :=
  (d.angUp fun a => { a with snap := s, snapAfter := d.time.phase, snapFirst := first }).putB F.ANG_STATUS_SNAP_PEND s.isSome

/-- GSV asks for a snap (R59): without effect while SNAP_EN is 0, and in FORM (R543). -/
def Dev.requestSnap (d : Dev) : Dev :=
  if d.flag F.ANG_HOLD_SNAP_EN && d.angSrc != 1 && d.ang.snap.isNone then d.setSnap (some .now) else d

/-! ## The PLL (R46 to R51) -/

/-- sin(a - b) > 0 or not tells on which side of `a` an angle lies: the component of (vd, vq) across angle `a`. -/
def across (x y : Int) (a : Nat) : Int :=
  let o := a % 2 ^ 30
  let (s, c) := if o ≤ 2 ^ 29 then sincosFix o else let (s, c) := sincosFix (2 ^ 30 - o); (c, s)
  let s : Int := s
  let c : Int := c
  match a / 2 ^ 30 % 4 with
  | 0 => y * c - x * s
  | 1 => -(y * s) - x * c
  | 2 => -(y * c) + x * s
  | _ => y * s + x * c

/-- Bisection of a half turn: greatest angle from `lo` on whose direction is not past the vector. -/
def bisectAngle (x y : Int) : Nat → Nat → Nat
  | 0, lo => lo
  | k + 1, lo => bisectAngle x y k (if 0 ≤ across x y (lo + 2 ^ k) then lo + 2 ^ k else lo)

/-- atan2(y, x) of two binary64 numbers, as a turn fraction of 32 bits, signed, rounded down. -/
def atan2Turn (y x : Nat) : Int :=
  match f64.unpack y, f64.unpack x with
  | .fin sy my ey, .fin sx mx ex =>
    let e := if ex ≤ ey then ex else ey
    let yi := signed sy (my * 2 ^ (ey - e).toNat)
    let xi := signed sx (mx * 2 ^ (ex - e).toNat)
    if yi = 0 ∧ 0 ≤ xi then 0
    else if 0 ≤ yi then bisectAngle xi yi 31 0
    else (bisectAngle (-xi) (-yi) 31 0 : Int) - 2 ^ 31
  | _, _ => 0

/-- Positive-sequence error of (v1a, v1b) against an angle (the pseudocode's vd, vq and atan2). -/
def seqError (v1a v1b θ : Nat) : Int :=
  let (c, s) := trig64 θ
  let vd := f64.add (f64.mul v1a c) (f64.mul v1b s)
  let vq := f64.add (f64.mul (f64.neg v1a) s) (f64.mul v1b c)
  atan2Turn vq vd

/-- An angle difference of 32 bits as radians, binary64. -/
def radOf (e : Int) : Nat := f64.mul (f64.ofRat e (2 ^ 32)) twoPi

/-- The advance w × t as a 48-bit fraction of a turn. (DESIGN CHOICE, log entry 15.) -/
def turnsOf (w t : Nat) : Int := f64.round (f64.mul (f64.div (f64.mul w t) twoPi) (f64.pack (.fin false 1 48)))

/-- The PLL's own angle at the present instant, advanced by w from the last sample (R46). -/
def Dev.pllAngle (d : Dev) : Nat :=
  wrap 48 (d.ang.th + turnsOf d.ang.w (clkSec (d.now - d.ang.sampleAt)))

/-- The measured phase voltages as MET's channel assignment names them, with their validity. -/
def Dev.phaseV (d : Dev) : List (Nat × Bool) :=
  [F.MET_CHAN_V_VA, F.MET_CHAN_V_VB, F.MET_CHAN_V_VC].map fun f => let (v, ok) := d.f2 (d.get f); (widen v, ok)

/-- A sample at which the loop runs: filters, error, integrator and frequency (R46, R48 pseudocode). -/
def Dev.pllUpdate (d : Dev) (th ts : Nat) : Dev :=
  let v (i : Nat) : Nat := (d.phaseV.getD i (0, false)).1
  let va := f64.div (f64.sub (f64.sub (f64.mul (f64.ofInt 2) (v 0)) (v 1)) (v 2)) (f64.ofInt 3)
  let vb := f64.div (f64.sub (v 1) (v 2)) (f64.sqrt (f64.ofInt 3))
  let k := f64.ofRat (d.get F.ANG_PLL_SOGI_K) 64
  let out := Config.dsogi d.ang.sogi va vb k d.ang.w ts
  let g (i : Nat) : Nat := out.getD i 0 % 2 ^ 64
  let vnom := widen (d.get F.GSV_VNOM)
  let e := seqError (g 0) (g 1) (th / 65536)
  let wn := f64.mul twoPi (f64.ofInt (d.get F.ANG_PLL_BW))
  let er := radOf e
  let wi := f64.add d.ang.wi (f64.mul (f64.mul (f64.mul wn wn) er) ts)
  let kp := f64.mul (f64.mul (f64.ofInt 2) (f64.ofRat (d.get F.ANG_PLL_ZETA) 128)) wn
  let w := f64.add (f64.add (f64.mul twoPi d.fNom64) wi) (f64.mul kp er)
  let d := d.angUp fun a => { a with sogi := (out.drop 4).take 16, err := e, wi := wi, w := w }
  let d := (d.put F.ANG_V1 (narrow (f64.div (hyp64 (g 0) (g 1)) vnom))).put F.ANG_V2 (narrow (f64.div (hyp64 (g 2) (g 3)) vnom))
  (d.put F.ANG_F_MEAS (narrow (f64.div w twoPi))).putI F.ANG_PHJ (seqError (g 0) (g 1) d.ang.theta)

/-- F_MEAS in force, binary64. -/
def Dev.fMeas (d : Dev) : Nat := f64.div d.ang.w twoPi

/-- The criteria of R50 and of R51 at one sample: counts of consecutive samples. -/
def Dev.pllCounts (d : Dev) (ok : Bool) : Dev :=
  let v1 := widen (d.get F.ANG_V1)
  let thr := d.get F.ANG_LOCK_ERR_THR
  let e := d.ang.err.natAbs
  let bad := !ok || f64.lt v1 (f64.ofRat 1 10) || decide (thr * 65536 < e)
  let good := ok && f64.le (f64.ofRat 15 100) v1 && decide (e ≤ thr * 32768)
  d.angUp fun a => { a with
    lossCnt := if bad then min 255 (a.lossCnt + 1) else 0
    lockCnt := if good then min 255 (a.lockCnt + 1) else 0 }

/-- Consecutive samples of R50 and R51. -/
def Dev.nFrames (d : Dev) : Nat := max 1 (d.get F.ANG_LOCK_N_FRAMES)

/-- The PLL at a common-angle sample (R46): it starts at the first sample with three valid channels, whose Ts is the nominal
one; the samples before count toward loss of lock (R50). (DEDUCED, log entry 136.) -/
def Dev.pllSample (d : Dev) : Dev :=
  let ok := d.phaseV.all Prod.snd
  if !d.ang.started && !ok then d.pllCounts false else
  let first := !d.ang.started
  let ts := if first then f64.div (f64.ofInt 1) (f64.mul (f64.ofInt d.S) d.fNom64) else clkSec (d.now - d.ang.sampleAt)
  let d := if first then d.angUp fun a => { a with started := true, w := f64.mul twoPi d.fNom64, wi := 0 } else d
  let th := if d.angSrc = 0 && d.angLock = 0 then d.ang.theta * 65536
    else if first then d.ang.th else wrap 48 (d.ang.th + turnsOf d.ang.w ts)
  let d := d.angUp fun a => { a with th := th }
  let d := if ok then d.pllUpdate th ts else d
  let d := d.pllCounts ok
  d.angUp fun a => { a with
    hist := (incOf d.fMeas :: a.hist).take 256, cycSum := f64.add a.cycSum d.fMeas, cycCount := a.cycCount + 1 }

/-- Angle error between the FOLLOW PLL and the accumulator, 48-bit units, signed. -/
def Dev.followError (d : Dev) : Int := sext 48 (d.pllAngle + 2 ^ 48 - d.time.phase % 2 ^ 48)

/-- FOLLOW's lock state at a sample (R50, R51, R55, R57, R65). -/
def Dev.followLock (d : Dev) : Dev :=
  if d.angSrc != 0 then d else
  let n := d.nFrames
  let l := d.angLock
  if d.ang.loss then (d.angUp fun a => { a with loss := false }).setLock 2
  else if (l = 0 || l = 1) && n ≤ d.ang.lossCnt then
    d.angUp fun a => { a with loss := true, frozen := a.hist.getD n (a.hist.getLastD (d.get F.ANG_INC)) }
  else if l = 3 && n ≤ d.ang.lockCnt then
    ((d.angUp fun a => { a with first := true }).setLock 1).setSnap (some .now)
  else if l = 2 && n ≤ d.ang.lockCnt then d.setLock 1
  else if l = 1 && d.ang.started && d.ang.snap.isNone && d.followError.natAbs < 2 ^ 32 then d.setLock 0
  else d

/-- Greatest correction of R57, 48-bit units per frame. -/
def Dev.slewMax (d : Dev) : Int := (d.get F.ANG_REACQ_SLEW * 2 ^ 24 / d.S : Nat)

/-- An integer within ± a bound. -/
def clampI (x b : Int) : Int := if b < x then b else if x < -b then -b else x

/-- The increment of the source at a sample (R42, R48, R52, R55, R57, R543): in ACQUIRE a snap comes before the slew. -/
def Dev.angIncrement (d : Dev) : Dev :=
  let nom := incOf d.fNom64
  match d.angSrc with
  | 0 =>
    match d.angLock with
    | 0 => d.setInc (d.ang.hist.headD nom)
    | 1 =>
      if !d.ang.started then d.keepInc else
      let base := d.ang.hist.headD nom
      let step := if d.ang.snap.isSome then 0 else clampI d.followError d.slewMax
      d.setInc ((base : Int) + rneDiv (step * d.S * base) (2 ^ 48)).toNat
    | 2 => d.setInc d.ang.frozen
    | _ => d.setInc nom
  | 1 =>
    if d.fbx.active.isNone then d.setInc nom
    else match d.ang.form with
      | some i => (d.angUp fun a => { a with form := none }).setInc i
      | none => d.keepInc
  | _ => if d.angLock = 3 then d.setInc nom else d.keepInc


/-! ## FORM (R52, R543) -/

/-- The port FORM_FREQ is read at a device frame start (R52), the image's first frame bringing LOCKED (R543).
(DEDUCED, log entry 20.) -/
def Dev.formFrame (d : Dev) : Dev :=
  if d.angSrc != 1 then d else
  if d.fbx.active.isNone then (if d.angLock = 3 then d else d.setLock 3) else
  let d := if d.angLock = 0 then d else d.setLock 0
  let x := widen (Mem.rd d.fbx.ports 0).toNat
  if !f64.finite x then d.raise 0x0205 else
  let f0 := freqOf (d.get F.ANG_INC)
  let lim := f64.div (widen (d.get F.ANG_FORM_RATE_RATE)) (f64.mul (f64.ofInt d.S) f0)
  let inc := incOf (f64.min (f64.max x (f64.sub f0 lim)) (f64.add f0 lim))
  if d.now = d.ang.sampleAt then d.setInc inc else d.angUp fun a => { a with form := some inc }

/-! ## GROUP (R53, R54, R58) -/

/-- Group frames per line cycle G (Table 0-5 of the group chapter's G_SEL). -/
def Dev.G (d : Dev) : Nat := 8 <<< d.get F.FLU_CFG_G_SEL

/-- A group-frame boundary in a member whose source is GROUP: `frame` is the crown's increment and the error
e measured now, where an authenticated crown frame arrived since the last boundary. A boundary without one leaves the run of
errors beyond the bound; a member that has never heard a crown keeps its increment. (DEDUCED, log entry 137.) -/
def Dev.groupBoundary (d : Dev) (frame : Option (Nat × Int)) : Dev :=
  if d.angSrc != 2 then d else
  let m := d.get F.ANG_LOCK_GRP_MISS
  let thr := d.get F.ANG_LOCK_ERR_THR * 65536
  let waiting := d.angLock == 3 || d.ang.snapFirst
  let d := match frame with
    | none => d.angUp fun a => { a with grpMiss := min 15 (a.grpMiss + 1) }
    | some (inc, e) => d.angUp fun a => { a with
        grpMiss := 0, grpInc := inc, grpErr := e
        grpBig := if thr < e.natAbs && !waiting then min 15 (a.grpBig + 1) else 0 }
  let lost := m ≤ d.ang.grpMiss || m ≤ d.ang.grpBig
  let e := d.ang.grpErr
  let d :=
    if d.angLock ≤ 1 && lost then ((if d.ang.grpInc = 0 then d else d.setInc d.ang.grpInc).raise 0x0206).setLock 2
    else if frame.isNone then d
    else if d.angLock = 3 then ((d.angUp fun a => { a with first := true }).setLock 1).setSnap (some (.measured e)) true
    else if d.angLock = 2 && !lost then
      let d := d.setLock 1
      if d.stopped then d.setSnap (some (.measured e)) else d
    else if d.ang.snap == some .now then d.setSnap (some (.measured e))
    else if d.angLock = 1 && d.ang.snap.isNone && e.natAbs < 65536 && !lost then d.setLock 0
    else d
  if frame.isNone || 1 < d.angLock then d else
  let corr := if d.ang.snap.isSome then 0
    else if d.angLock = 1 then clampI e (d.get F.ANG_REACQ_SLEW * 256 / d.G : Nat) else e
  d.setInc ((d.ang.grpInc : Int) + rneDiv (corr * d.G * d.get F.ANG_INC) (2 ^ 32)).toNat

/-! ## Snap (R59 to R62) -/

/-- The snap unit U = 2^32 / min(S, C). -/
def Dev.snapUnit (d : Dev) : Nat := 2 ^ 32 / min d.S d.C

/-- An index moved by a whole number of steps. -/
def moveIdx (i : Nat) (k : Int) : Nat := ((i : Int) + k).toNat

/-- The angle and the numbering of frames, samples and carriers move by n units (R59); time does not (R60). -/
def Dev.snapBy (d : Dev) (n : Int) : Dev :=
  let δ := n * d.snapUnit
  let δ := if (d.time.phase : Int) + δ * 65536 < 0 then δ + 2 ^ 32 else δ
  let moved := δ - n * d.snapUnit
  let k (per : Nat) : Int := δ * per / 2 ^ 32
  let phase := ((d.time.phase : Int) + δ * 65536).toNat
  let turn := if 0 ≤ n then d.time.nextTurn else phase / 2 ^ 48 + 1
  let due := d.flu.nextG * (2 ^ 48 / d.G) ≤ d.time.phase
  let group := if due then phase / (2 ^ 48 / d.G) else phase / (2 ^ 48 / d.G) + 1
  let clocks := d.sdm.ch.map fun c => { c with next := moveIdx c.next (δ * 65536 / d.modUnit) }
  let d := { d with
    flu := { d.flu with nextG := group }, sdm := { d.sdm with ch := clocks }
    pwm := { d.pwm with grid := moveIdx d.pwm.grid (k d.C) } }
  let d := { d with time := { d.time with
      phase := phase
      nextSample := moveIdx d.time.nextSample (k d.S)
      nextFrame := moveIdx d.time.nextFrame (k d.S)
      nextCarrier := moveIdx d.time.nextCarrier (k d.C)
      nextHalf := moveIdx d.time.nextHalf (k d.C)
      nextTurn := if moved = 0 then turn else max turn 1 } }
  let d := { d.angMark with marks := { d.marks with snap := some ⟨d.time.frames, d.time.samples⟩ } }
  let d := d.angUp fun a => { a with
    cycSnap := true, th := if d.angSrc = 0 && d.angLock = 0 then wrap 48 ((a.th : Int) + δ * 65536) else a.th }
  ((d.setSnap none).pqSnap).raise 0x0203 [wrap 32 n]

/-- The next frame start is also a carrier start, and for a number a crown announced a group-frame boundary; a member with an
offset applies it at its own frame start, the offset later. (DEDUCED, log entry 21; DEDUCED, log entry 138.) -/
def Dev.snapBoundary (d : Dev) : Bool :=
  let i := d.time.nextFrame
  i * min d.S d.C % d.S == 0 && (match d.ang.snap with
    | some (.announced _) => i * d.G % d.S == 0
    | _ => true)

/-- The accumulator at the next device frame start. -/
def Dev.frameTarget (d : Dev) : Nat := d.time.nextFrame * (2 ^ 48 / d.S) + d.phi48

/-- The pending snap takes effect at the next frame start that is a carrier start (R59, R62): it waits
for LOCKED or ACQUIRE, and acts in no FORM (R543). -/
def Dev.snapNow (d : Dev) : Dev :=
  let target := d.frameTarget
  if 1 < d.angLock || d.angSrc = 1 || !d.snapBoundary || target ≤ d.ang.snapAfter then d else
  let u := d.snapUnit
  let crown := d.get F.FLU_STATUS_ROLE == 2
  match d.ang.snap with
  | none => d
  | some (.announced n) => (d.toPhase target).snapBy n
  | some (.measured e) => (d.toPhase target).snapBy (rneDiv e u)
  | some .now =>
    if d.angSrc != 0 || crown || !d.ang.started then d
    else let d := d.toPhase target; d.snapBy (rneDiv d.followError (u * 65536))

/-- ANG_SNAP: at an update that is a common-angle sample instant too the snap is taken there, between the judgement of lock and
the increment (R64). -/
def Dev.angSnap (d : Dev) : Dev :=
  if d.time.nextSample * (2 ^ 48 / d.S) = d.frameTarget then d else d.snapNow

/-- ANG at a common-angle sample instant whose angle is `θ` (R46): lock, a snap that falls on this update, the increment (R64).
(DEDUCED, log entry 18.) -/
def Dev.angSample (d : Dev) (θ : Nat) : Dev :=
  let d := d.angUp fun a => { a with theta := θ % 2 ^ 32 }
  let d := d.pllSample
  let d := (d.angUp fun a => { a with sampleAt := d.now }).followLock
  let d := (if d.frameTarget ≤ d.time.phase then d.snapNow else d).angIncrement
  if d.angLock = 2 then { d with marks := { d.marks with hold := some ⟨d.time.frames, d.time.samples⟩ } } else d

/-! ## Line cycles (R45, R56, R61, R63, R68, R69) -/

/-- The stamp registers show the oldest stamp (R72). -/
def Dev.stampRegs (d : Dev) : Dev :=
  let s := d.ang.stamps.headD ⟨0, 0, false, false, 0⟩
  (d.put F.ANG_STAMP_STAT_COUNT d.ang.stamps.length |>.put F.ANG_STAMP_SEC_SEC s.sec |>.put F.ANG_STAMP_NS_NS s.ns
    |>.putB F.ANG_STAMP_NS_PTP_OK s.ok).putB F.ANG_STAMP_NS_SNAP s.snap |>.put F.ANG_STAMP_CYC_CYC s.cycle

/-- A boundary's stamp enters the FIFO (R69). -/
def Dev.pushStamp (d : Dev) (target : Nat) : Dev :=
  let t := d.stampPtp target / 2 ^ 32
  let s : Stamp := ⟨t / 1000000000 % 2 ^ 32, t % 1000000000, d.ptpOk, d.ang.cycSnap, d.get F.ANG_CYCLE⟩
  if d.ang.stamps.length < 16 then (d.angUp fun a => { a with stamps := a.stamps ++ [s] }).stampRegs
  else (d.put F.ANG_STAMP_STAT_OVF 1).raise 0x0209

/-- The oldest stamp read and removed (R72): ANG_STAMP_CYC's value, and the FIFO after it. -/
def Dev.popStamp (d : Dev) : Dev := (d.angUp fun a => { a with stamps := a.stamps.tail }).stampRegs

/-- The mean of F_MEAS over line cycles, and their duration in seconds. -/
def meanOf (l : List CycleMean) : Nat :=
  f64.div (f64.sum (l.map CycleMean.sum)) (f64.ofInt (l.map CycleMean.count).sum)
def durOf (l : List CycleMean) : Nat := clkSec (l.map CycleMean.dur).sum

/-- ROCOF at a boundary (R68), once both windows hold line cycles. -/
def Dev.rocof (d : Dev) : Dev :=
  let w := max 1 (d.get F.ANG_ROCOF_CFG_WIN)
  let l := d.ang.cycles
  if l.length < 2 * w then d else
  let a := l.take w
  let b := (l.drop w).take w
  if (a.map CycleMean.count).sum = 0 || (b.map CycleMean.count).sum = 0 then d
  else d.put F.ANG_ROCOF (narrow (f64.div (f64.sub (meanOf a) (meanOf b)) (durOf a)))

/-- A turn of the accumulator. -/
def turn48 : Nat := 2 ^ 48

/-- The line cycle in progress closes, and the next one opens (R68). -/
def Dev.closeCycle (d : Dev) : Dev :=
  d.angUp fun a => { a with
    cycles := (CycleMean.mk a.cycSum a.cycCount (d.now - a.cycAt) :: a.cycles).take 100
    cycSum := 0, cycCount := 0, cycAt := d.now, cycFrame := d.time.frames, cycSnap := false }

/-- The accumulator passes its next whole turn. -/
def Dev.passTurn (d : Dev) : Dev :=
  let i := max d.time.nextTurn 1
  let d := d.toPhase (i * turn48)
  { d with time := { d.time with nextTurn := max (i + 1) (d.time.phase / turn48 + 1) } }

/-- The line cycle in progress is one whose crossing of zero does not count (R61). -/
def Dev.shortCycle (d : Dev) : Bool := d.ang.cycSnap && decide (d.time.frames < d.ang.cycFrame + d.S / 2)

/-- The next crossing of angle zero comes to pass; answers whether it is a line-cycle boundary (R61). -/
def Dev.angCrossing (d : Dev) : Dev × Bool :=
  let target := max d.time.nextTurn 1 * turn48
  let d := d.passTurn
  if d.shortCycle then (d.raise 0x020A, false)
  else
    let d := ((d.wrapInc F.ANG_CYCLE).pushStamp target).closeCycle
    let d := if d.angLock = 2 then d.bump F.ANG_STATUS_HOLD_CYC else d
    (d.rocof, true)

/-- ANG_HOLD_EXPIRED: HOLDOVER has lasted HOLD_MAX line cycles (R56). -/
def Dev.holdExpired (d : Dev) : Dev :=
  let m := d.get F.ANG_HOLD_HOLD_MAX
  if d.angLock = 2 && m != 0 && m ≤ d.get F.ANG_STATUS_HOLD_CYC && !d.ang.expired then
    (d.angUp fun a => { a with expired := true }).raise 0x0208
  else d

/-- ANG_SRC_CHANGE: a changed SEL takes effect at a line-cycle boundary (R63, R543). -/
def Dev.srcChange (d : Dev) : Dev :=
  let sel := d.get F.ANG_SRC_SEL
  if sel = d.angSrc || sel = 3 || d.ang.cycAt != d.now then d else
  let d := d.put F.ANG_STATUS_SRC sel
  let d := d.angUp fun a => { a with lossCnt := 0, lockCnt := 0, loss := false, form := none, grpMiss := 0, grpBig := 0 }
  let d := d.setSnap none
  let d :=
    if sel = 1 then d.setLock (if d.fbx.active.isSome then 0 else 3)
    else
      let d := (d.angUp fun a => { a with first := true }).setLock 1
      if d.stopped then d.setSnap (some .now) else d
  d.raise 0x0207

/-! ## Outputs (R66, R67, R70) -/

/-- The input nodes of Table 2-4 for the frame whose start angle is given; `f` is the frequency as it stood before a FORM port value
read at this frame start came into force. (DEDUCED, log entry 20.) -/
def Dev.angNodes (d : Dev) (angle : Nat) (f : Word) : List (Nat × Word) :=
  let b := (d.get F.ANG_BIAS_MAX_BMAX : Int)
  let w (f : Fld) : Word := d.word f.addr
  [(0x0000, BitVec.ofNat 32 d.ang.theta), (0x0001, BitVec.ofInt 32 (angle + clampI d.ang.bias b)), (0x0002, f),
   (0x0003, w F.ANG_F_MEAS), (0x0004, w F.ANG_ROCOF), (0x0005, w F.ANG_V1), (0x0006, w F.ANG_V2), (0x0007, w F.ANG_PHJ),
   (0x0008, BitVec.ofNat 32 (wbits (w F.ANG_STATUS_SRC) 15 0)), (0x0009, w F.ANG_FCNT), (0x000A, w F.ANG_CYCLE)]

/-- Phasor records per second (Table 2-17). -/
def phrRate (sel : Nat) : Nat := [10, 12, 15, 20, 25, 30, 50, 60].getD sel 10

/-- The next reporting instant, PTP ns: a whole second plus i / RATE, not before now and after the latest one (R70). -/
def Dev.phrNext (d : Dev) : Nat :=
  let rate := phrRate (d.get F.ANG_PHR_CFG_RATE)
  let t := match d.ang.phrAt with | some l => max d.ptpNs (l + 1) | none => d.ptpNs
  t / 1000000000 * 1000000000 + ceilDiv (t % 1000000000 * rate) 1000000000 * 1000000000 / rate

/-- PHASOR_REPORT: time passes to the next reporting instant, and its record is written (R70, Table 2-5). -/
def Dev.phasorReport (d : Dev) : Dev :=
  if !d.flag F.ANG_PHR_CFG_EN then d else
  let rate := phrRate (d.get F.ANG_PHR_CFG_RATE)
  let t := d.phrNext
  let d := (d.toPtp t).angUp fun a => { a with phrAt := some t }
  let i := d.ptpSub * rate / 1000000000
  let ns := i * 1000000000 / rate
  let back := (d.ptpSub - ns) * d.get F.ANG_INC / 2
  let θ := wrap 32 (((d.time.phase : Int) - back) / 65536 - (2 ^ 32 * d.fNom * i / rate : Nat))
  let state := d.get F.ANG_STATUS_SRC + 4 * d.get F.ANG_STATUS_LOCK + 16 * d.get F.ANG_STATUS_FCLAMP + (if d.ptpOk then 32 else 0)
  let bytes := leBytes 4 d.ptpSec ++ leBytes 4 ns ++ leBytes 4 (d.get F.ANG_V1) ++ leBytes 4 θ ++ leBytes 4 (d.get F.ANG_F_MEAS)
    ++ leBytes 4 (d.get F.ANG_ROCOF) ++ leBytes 2 d.ang.phrSeq ++ leBytes 1 state ++ leBytes 1 rate ++ leBytes 4 (d.get F.ANG_CYCLE)
  let d' := (d.ringHold (d.get F.ANG_PHR_CFG_RING) .phasor bytes).getD d
  d'.angUp fun a => { a with phrSeq := (a.phrSeq + 1) % 65536 }

end Sys2Proof.Machine
end

