-- ==== Sys2Proof/Machine/Pwm.lean ====
section
/-! DEFINITION. High-resolution PWM (chapter 10): carriers, reload, edge times, minimum pulses, dead time, delay
lines and the sync chain. Every time inside the PWM is counted in taps of 15.625 ps. -/

namespace Sys2Proof.Machine

/-- PWM's state changed; a leg's. -/
def Dev.pwmUp (d : Dev) (f : Pwm → Pwm) : Dev := { d with pwm := f d.pwm }
def Dev.legUp (d : Dev) (n : Nat) (f : LegPwm → LegPwm) : Dev := d.pwmUp fun p => { p with legs := upd p.legs n f }
def Dev.leg (d : Dev) (n : Nat) : LegPwm := d.pwm.legs.getD n {}

/-- The present instant in taps. -/
def Dev.nowTaps (d : Dev) : Int := 128 * d.now

/-- The mode a leg acts in: inactive with no active image (R74, R228, R230). -/
def Dev.legMode (d : Dev) (n : Nat) : Nat :=
  let m := d.get (F.PWM_LEG_CFG_MODE.ix n)
  if d.fbx.active.isNone || m = 3 then 0 else m

/-- The leg set in force (PWM_LEG). -/
def Dev.legSet (d : Dev) (n : Nat) : LegSet :=
  ⟨d.word (F.PWM_LEG_DUTY_A.ix n).addr, d.word (F.PWM_LEG_DUTY_B.ix n).addr,
   d.word (F.PWM_LEG_CENTRE_A.ix n).addr, d.word (F.PWM_LEG_CENTRE_B.ix n).addr⟩

/-- The level of PWM[o] at its ball at an instant: none while high-impedance (R230, R231). -/
def Dev.pwmPin (d : Dev) (o : Nat) (t : Int) : Option Bool :=
  if d.pwm.hiZ then none
  else
    let pol := d.flag ((if o % 2 = 0 then F.PWM_LEG_CFG_POL_A else F.PWM_LEG_CFG_POL_B).ix (o / 2))
    some (edgeLevel d.pwm.edges o t != pol)

/-! ## Reload (R236, R237) -/

/-- A leg takes a set that was written after the one in force. -/
def Dev.takeSet (d : Dev) (n : Nat) (s : LegShadow) : Dev :=
  if (match (d.leg n).inForce with | some t => decide (s.done ≤ t) | none => false) then d else
  let d := (d.put (F.PWM_LEG_DUTY_A.ix n) s.set.dutyA.toNat).put (F.PWM_LEG_DUTY_B.ix n) s.set.dutyB.toNat
  let d := (d.put (F.PWM_LEG_CENTRE_A.ix n) s.set.centreA.toNat).put (F.PWM_LEG_CENTRE_B.ix n) s.set.centreB.toNat
  d.legUp n fun l => { l with inForce := some s.done }

/-- A leg samples its shadow as it stood 8 ns before a reload point; `late` is the frame whose set would be late (R236, R237). -/
def Dev.reloadLeg (d : Dev) (n : Nat) (late : Option Nat) : Dev :=
  let l := d.leg n
  let d := match (l.shadow.toList ++ l.older).find? fun s => s.done + 4 ≤ d.now with
    | some s => d.takeSet n s
    | none => d
  match l.shadow with
  | some s => if d.now < s.done + 4 && late == some s.frame then (d.bump F.PWM_LATE_CNT).raise 0x0701 [n, s.frame] else d
  | none => d

/-- The frame whose sets are due at a reload point that coincides with frame start `m` (R237). -/
def Dev.dueFrame (d : Dev) (coincides : Bool) (m : Nat) : Option Nat :=
  if !coincides then none
  else if d.time.nextFrame ≤ m then some d.fbx.fcnt else some ((d.fbx.fcnt + 2 ^ 32 - 1) % 2 ^ 32)

/-! ## Requests and judgement (R233, R239 to R241) -/

/-- P_f of R233. -/
def Dev.predictedPeriod (d : Dev) : Nat :=
  let inc := d.get F.ANG_INC
  if inc = 0 then 0 else (rneDiv (2 ^ 55 : Nat) (d.C * inc)).toNat

/-- Requested on and off offsets (R233). -/
def requested (dw cw : Word) (pf : Nat) : Nat × Nat :=
  let p (w : Word) : Int := if w.toNat < 2 ^ 31 then w.toNat else 0
  let edge (x : Int) : Int := (x * pf + 2 ^ 31) / 2 ^ 32
  ((max 0 (edge (2 * p cw - p dw))).toNat, (min (pf : Int) (edge (2 * p cw + p dw))).toNat)

/-- What the judgement answers: the interval emitted, whether the policy acted, the new carry. -/
structure Judged where
  iv : Option (Nat × Nat)
  acted : Bool
  carry : Int
  deriving DecidableEq, Repr

/-- The interval of a width about the request's midpoint, shifted inward (R241). -/
def placeWidth (on off w pf : Nat) : Nat × Nat :=
  let t0 : Int := ((on : Int) + off - w) / 2
  let t0 := (min (max t0 0) ((pf : Int) - w)).toNat
  (t0, t0 + w)

/-- The pseudocode of R240 for one output. -/
def judge (mpp on off pf thOn thOff : Nat) (carry : Int) : Judged :=
  let w : Int := if on < off then (off : Int) - on else 0
  let w' := w + (if mpp = 2 then carry else 0)
  let emit (width : Nat) : Option (Nat × Nat) :=
    if width = 0 then none else if pf ≤ width then some (0, pf)
    else if (width : Int) = w then some (on, off) else some (placeWidth on off width pf)
  if 0 < w' ∧ w' < thOn then
    ⟨emit (if mpp = 1 then thOn else 0), true, if mpp = 2 then w' else 0⟩
  else if 0 < (pf : Int) - w' ∧ (pf : Int) - w' < thOff then
    ⟨emit (if mpp = 1 then pf - thOff else pf), true, if mpp = 2 then w' - pf else 0⟩
  else if w' ≤ 0 then ⟨none, false, if mpp = 2 then w' else 0⟩
  else if (pf : Int) ≤ w' then ⟨some (0, pf), false, if mpp = 2 then w' - pf else 0⟩
  else ⟨emit w'.toNat, false, 0⟩

/-! ## Edges (R234, R235, R242, R248) -/

/-- Command transitions of one output in a carrier, and its level at the end (R235). -/
def transitions (iv : Option (Nat × Nat)) (pf : Nat) (prev : Bool) : List (Int × Bool) × Bool :=
  let starts := match iv with | some (0, _) => true | _ => false
  let first : List (Int × Bool) := if starts != prev then [(0, starts)] else []
  match iv with
  | none => (first, false)
  | some (on, off) =>
    (first ++ (if 0 < on then [((on : Int), true)] else []) ++ (if off < pf then [((off : Int), false)] else []), pf ≤ off)

/-- Edges of a complementary pair from A's transitions: the incoming output's edge is delayed (R242). -/
def exchanges (tr : List (Int × Bool)) (dtAB dtBA : Nat) : List (Int × Bool) × List (Int × Bool) :=
  tr.foldl (fun (a, b) (x, on) =>
    if on then (a ++ [(x + (dtBA : Int), true)], b ++ [(x, false)])
    else (a ++ [(x, false)], b ++ [(x + (dtAB : Int), true)])) ([], [])

/-- Edges of outputs A and B of a leg in one carrier, from the crossing, and their levels at its end. Where both were off
the one that comes on at the start exchanges with none. (DEDUCED, log entry 44; DEDUCED, log entry 57.) -/
def legEdges (mode pf dtAB dtBA : Nat) (a b : OutPwm) : (List (Int × Bool) × Bool) × (List (Int × Bool) × Bool) :=
  match mode with
  | 1 =>
    let (tr, last) := transitions a.iv pf a.prev
    let (ea, eb) := if a.prev || b.prev then exchanges tr dtAB dtBA
      else match tr with
        | (0, true) :: rest => let (ea, eb) := exchanges rest dtAB dtBA; ((0, true) :: ea, eb)
        | _ => let (ea, eb) := exchanges tr dtAB dtBA; (ea, (0, true) :: eb)
    ((ea, last), (eb, !last))
  | 2 => (transitions a.iv pf a.prev, transitions b.iv pf b.prev)
  | _ => (([], false), ([], false))

/-- Static trim of output i of leg n, taps (R248). -/
def Dev.trim (d : Dev) (n i : Nat) : Int :=
  sext 9 (d.get ((if i = 0 then F.PWM_TRIM_TRIM_A else F.PWM_TRIM_TRIM_B).ix n))

/-- Edges put on an output from offset `lo` on, as far as the leg's safe sequence lets them act (R268). At a carrier start what
the carrier before has left stays ahead of them, and a delayed on-edge still to come unless a new edge comes first. -/
def Dev.emitEdges (d : Dev) (n i : Nat) (es : List (Int × Bool)) (lo : Int) : Dev :=
  let o := 2 * n + i
  let base := d.pwm.crossing + d.trim n i
  let new := (es.filter fun (x, _) => lo ≤ x).map fun (x, on) => (⟨o, base + x, on⟩ : PwmEdge)
  let stays (e : PwmEdge) : Bool := lo == 0 && (decide (e.tap ≤ base) || !new.any fun x => decide (x.tap ≤ e.tap))
  let keep := d.pwm.edges.filter fun e => e.out != o || decide (e.tap < base + lo) || stays e
  match d.dmp.legs.getD n .free with
  | .free => d.pwmUp fun p => { p with edges := keep ++ new }
  | .off => d
  | .seq t =>
    if innerOut (d.get (F.PWM_LEG_CFG_TOPO.ix n)) i then
      d.pwmUp fun p => { p with edges := p.edges ++ new.filter fun e => !e.on && decide (e.ball ≤ 128 * (t : Int)) }
    else d

/-- The edges long past leave the list, but for the latest one of each output that made it active. -/
def prunedEdges (l : List PwmEdge) (crossing : Int) : List PwmEdge :=
  let old := l.filter fun e => decide (e.tap + 128 < crossing)
  let held := (List.range 24).filterMap fun o => (old.filter fun e => e.out == o).getLast?.filter PwmEdge.on
  held ++ l.filter fun e => decide (crossing ≤ e.tap + 128)

/-- An edge's instant before its output's trim. -/
def Dev.untrimmed (d : Dev) (e : PwmEdge) : Int := e.tap - d.trim (e.out / 2) (e.out % 2)

/-- Where an edge of the carrier that ends comes if its start has not passed it: at the start, but for an on-edge that follows
its exchange by the dead time, which still follows it by that (R235, R242). (DEDUCED, log entry 145.) -/
def Dev.lateEdge (d : Dev) (es : List PwmEdge) (crossing : Int) (e : PwmEdge) : Int :=
  let n := e.out / 2
  let dt : Int := d.get ((if e.out % 2 = 0 then F.PWM_DT_NOW_DT_BA else F.PWM_DT_NOW_DT_AB).ix n)
  let fall := es.find? fun f => f.out / 2 == n && f.out != e.out && !f.on && d.untrimmed f + dt == d.untrimmed e
  let at_ : Int := match fall with
    | some f => if d.legMode n = 1 && e.on then min (d.untrimmed f) crossing + dt else crossing
    | none => crossing
  max crossing at_ + d.trim n (e.out % 2)

/-- Edges of the carrier that ends and have not come move to the start of the new one (R235). -/
def Dev.endCarrier (d : Dev) (crossing : Int) : Dev :=
  let es := prunedEdges d.pwm.edges d.pwm.crossing
  let es := es.map fun e =>
    if crossing < d.untrimmed e && d.dmp.legs.getD (e.out / 2) .free == .free then { e with tap := d.lateEdge es crossing e } else e
  d.pwmUp fun p => { p with edges := es, crossing := crossing }

/-! ## Dead time (R242 to R245) -/

/-- A direction's dead time at a carrier start (R243). -/
def adaptDt (cur dmin dmax margin step : Nat) (tr : Option Nat) : Nat :=
  match tr with
  | none => cur
  | some t =>
    let target := min (max (t + margin) dmin) dmax
    if cur ≤ target then min target (cur + step) else max target (cur - step)

/-- Both dead times at DT_MAX (R243 to R245). -/
def Dev.dtMax (d : Dev) (n : Nat) : Dev :=
  let m := d.get (F.PWM_DTMAX_DT_MAX.ix n)
  (d.put (F.PWM_DT_NOW_DT_AB.ix n) m).put (F.PWM_DT_NOW_DT_BA.ix n) m

/-- Dead times of a leg at a carrier start. -/
def Dev.legDeadTime (d : Dev) (n : Nat) : Dev :=
  let l := d.leg n
  let d := if !d.flag (F.PWM_LEG_CFG_ADAPT.ix n) || l.fault then d.dtMax n
    else
      let g (f : Fld) : Nat := d.get (f.ix n)
      let move (f : Fld) (tr : Option Nat) (d : Dev) : Dev :=
        d.put (f.ix n) (adaptDt (d.get (f.ix n)) (g F.PWM_DTMIN_DT_MIN) (g F.PWM_DTMAX_DT_MAX) (g F.PWM_DTADP_MARGIN) (g F.PWM_DTADP_STEP) tr)
      move F.PWM_DT_NOW_DT_BA l.trBA (move F.PWM_DT_NOW_DT_AB l.trAB d)
  d.legUp n fun l => { l with trAB := none, trBA := none }

/-! ## Carriers -/

/-- Thresholds of Table 10-3: on-side and off-side. -/
def Dev.thresholds (d : Dev) (n mode : Nat) : Nat × Nat :=
  let tmin := 128 * d.get (F.PWM_LEG_CFG_TMIN.ix n)
  if mode = 1 then (d.get (F.PWM_DT_NOW_DT_BA.ix n) + tmin, d.get (F.PWM_DT_NOW_DT_AB.ix n) + tmin) else (tmin, tmin)

/-- The centre word: one half while HALF is 1 (R238). -/
def Dev.centre (d : Dev) (w : Word) : Word := if d.flag F.PWM_CFG_HALF then 0x40000000 else w

/-- One output's request judged for the carrier that begins; a held leg carries nothing (R241, R271). -/
def judgeOut (held : Bool) (mpp pf : Nat) (th : Nat × Nat) (duty centre : Word) (o : OutPwm) : OutPwm :=
  let (on, off) := requested duty centre pf
  if held then { o with carry := 0, iv := if on < off then some (on, off) else none, acted := false, prev := o.lvl, thOn := th.1, thOff := th.2 }
  else
    let j := judge mpp on off pf th.1 th.2 o.carry
    { o with carry := j.carry, iv := j.iv, acted := j.acted, prev := o.lvl, thOn := th.1, thOff := th.2 }

/-- One leg at a carrier start (R236 to R243). -/
def Dev.legCarrier (d : Dev) (n pf : Nat) (late : Option Nat) : Dev :=
  let d := (d.reloadLeg n late).legDeadTime n
  let mode := d.legMode n
  let mpp := d.get (F.PWM_LEG_CFG_MPP.ix n)
  let cfg := (d.get (F.PWM_LEG_CFG_MODE.ix n), mpp)
  let held := d.dmp.legs.getD n .free != .free
  let d := if (d.leg n).cfg = cfg then d
    else d.legUp n fun l => { l with cfg := cfg, a := { l.a with carry := 0 }, b := { l.b with carry := 0 } }
  let th := d.thresholds n mode
  let s := d.legSet n
  let off (o : OutPwm) : OutPwm := { o with carry := 0, iv := none, acted := false, prev := o.lvl, lvl := false }
  let l := d.leg n
  let a := if mode = 0 then off l.a else judgeOut held mpp pf th s.dutyA (d.centre s.centreA) l.a
  let b := if mode = 2 then judgeOut held mpp pf th s.dutyB (d.centre s.centreB) l.b
    else { l.b with prev := l.b.lvl, iv := none, acted := false, carry := 0 }
  let d := d.bump F.PWM_MINP_CNT ((if a.acted then 1 else 0) + (if b.acted then 1 else 0))
  let ((ea, la), (eb, lb)) := legEdges mode pf (d.get (F.PWM_DT_NOW_DT_AB.ix n)) (d.get (F.PWM_DT_NOW_DT_BA.ix n)) a b
  let (ea, eb) := if mode = 0 then ((if a.prev then [((0 : Int), false)] else []), (if b.prev then [((0 : Int), false)] else [])) else (ea, eb)
  let d := d.legUp n fun l => { l with a := { a with lvl := la }, b := { b with lvl := lb } }
  (d.emitEdges n 0 ea 0).emitEdges n 1 eb 0

/-- Legs no group holds return to PWM control once all off (R271, R245, R241). -/
def Dev.releaseLegs (d : Dev) : Dev :=
  d.forAll (List.range 12) fun d n =>
    let ready := match d.dmp.legs.getD n .free with | .free => false | .off => true | .seq t => decide (t ≤ d.now)
    if ready && !d.dmp.held.testBit n then
      let d := { d with dmp := { d.dmp with legs := upd d.dmp.legs n fun _ => .free } }
      (d.dtMax n).legUp n fun l => { l with
        a := { l.a with carry := 0, lvl := false }, b := { l.b with carry := 0, lvl := false }, trAB := none, trBA := none }
    else d

/-- Class C latches of deasserted sources clear at a carrier start, and the starts at which one holds a leg are
counted (Tables 11-4 and 11-10). -/
def Dev.cycleClear (d : Dev) : Dev :=
  let gone (l : Latch) : Bool := l.cls == .c && (match l.src with | .hw i => !d.dmp.asserted.testBit i | _ => true)
  let d := { d with dmp := { d.dmp with latches := d.dmp.latches.filter fun l => !gone l } }
  let d := if d.legsOf d.cycleGroups = 0 then d else d.bump F.DMP_CYCLE_CNT
  d.holdUpdate

/-- Delay lines swap in each group that meets both conditions (R246). -/
def Dev.swapLines (d : Dev) : Dev :=
  d.forAll (List.range 4) fun d g =>
    if d.pwm.spare.getD g false && d.pwm.swapAt.getD g 0 + msec ≤ d.now then
      let d := (d.putIn F.PWM_STATUS_DL_SEL g (!d.bitIn F.PWM_STATUS_DL_SEL g)).clrIn F.PWM_STATUS_DL_STALE g
      (d.wrapInc F.PWM_DL_SWAP_CNT).pwmUp fun p => { p with
        swapAt := upd p.swapAt g fun _ => d.now, spare := upd p.spare g fun _ => false }
    else d

/-! ## Sync chain (R249 to R253) -/

/-- Role in force: 0 off, 1 source, 2 regenerate (R249), off while the balls are high-impedance; Flue role 0 is
standalone and 2 crown. (DEDUCED, log entry 56.) -/
def Dev.syncRole (d : Dev) : Nat :=
  if d.pwm.hiZ then 0 else
  match d.get F.PWM_SYNC_CFG_ROLE with
  | 0 => 0
  | 1 => if d.get F.FLU_STATUS_ROLE = 0 || d.get F.FLU_STATUS_ROLE = 2 then 1 else 2
  | 2 => 1
  | _ => 2


/-- SYNC_OUT of a source at the common-grid carrier start of index `j` (R249), or of a substituting member (R253). -/
def Dev.driveSync (d : Dev) (j : Nat) : Dev :=
  let grid : Int := d.crossedAt (j * (2 ^ 48 / d.C))
  let width := if j % d.C == 0 && !d.shortCycle then 120 else 40
  if d.syncRole = 1 then d.pwmUp fun p => { p with syncOut := [(grid + 640, width)] }
  else if d.syncRole = 2 && d.flag F.PWM_STATUS_SYNC_SUBST then
    d.pwmUp fun p => { p with syncOut := [(grid + d.get F.PWM_SYNC_DLY_D + 512, width)] }
  else d

/-- The common grid has come to its next carrier start: SYNC_OUT is driven there (R249). -/
def Dev.gridSync (d : Dev) : Dev :=
  let j := d.time.phase / (2 ^ 48 / d.C)
  if j = d.pwm.grid then d else (d.pwmUp fun p => { p with grid := j }).driveSync j

/-- CARRIER_START: reload, delay-line swap, releases, predicted period, judgement, dead times and edges.
(DEDUCED, log entry 28.) -/
def Dev.carrierStart (d : Dev) : Dev :=
  let u := 2 ^ 48 / d.C
  let j := d.seriesIndex u d.phi48 d.time.nextCarrier
  let target := j * u + d.phi48
  let d := d.toPhase target
  let d := { d with time := { d.time with nextCarrier := j + 1 } }
  let d := (d.cycleClear.releaseLegs).swapLines
  let d := d.endCarrier (d.nowTaps - d.fineTaps target)
  let pf := d.predictedPeriod
  let d := d.pwmUp fun p => { p with period := pf, index := j }
  let late := d.dueFrame (j * d.S % d.C == 0) (j * d.S / d.C)
  d.forAll (List.range 12) fun d n => d.legCarrier n pf late

/-- One output's off-edge from a set taken at a half-carrier (R238); `h` is the offset of the half. -/
def halfOut (duty : Word) (pf : Nat) (h : Int) (o : OutPwm) : OutPwm :=
  match o.iv with
  | none => o
  | some (on, off) =>
    if o.acted || !decide ((on : Int) < h) || !decide (h < off) then o else
    let t := (requested duty 0x40000000 pf).2
    let t : Int := if t < pf then min (max (t : Int) (on + o.thOn)) ((pf : Int) - (o.thOff + 1) / 2) else t
    { o with iv := some (on, (max t h).toNat) }

/-- A leg at a half-carrier: a set it takes governs its off-edges from the half on (R238). -/
def Dev.legHalf (d : Dev) (n pf : Nat) (h : Int) (late : Option Nat) : Dev :=
  let before := (d.leg n).inForce
  let d := d.reloadLeg n late
  if (d.leg n).inForce = before then d else
  let mode := d.legMode n
  let s := d.legSet n
  let l := d.leg n
  let a := if mode = 0 then l.a else halfOut s.dutyA pf h l.a
  let b := if mode = 2 then halfOut s.dutyB pf h l.b else l.b
  let ((ea, la), (eb, lb)) := legEdges mode pf (d.get (F.PWM_DT_NOW_DT_AB.ix n)) (d.get (F.PWM_DT_NOW_DT_BA.ix n)) a b
  if mode = 0 || d.dmp.legs.getD n .free != .free then d else
  let d := d.legUp n fun l => { l with a := { a with lvl := la }, b := { b with lvl := lb } }
  (d.emitEdges n 0 ea h).emitEdges n 1 eb h

/-- HALF_CARRIER_RELOAD: sets taken at the half govern the off-edges of the second half (R236, R238). -/
def Dev.halfReload (d : Dev) : Dev :=
  if !d.flag F.PWM_CFG_HALF then d else
  let u := 2 ^ 48 / d.C
  let off := d.phi48 + u / 2
  let j := d.seriesIndex u off d.time.nextHalf
  let target := j * u + off
  let d := d.toPhase target
  let d := { d with time := { d.time with nextHalf := j + 1 } }
  let h : Int := d.nowTaps - d.fineTaps target - d.pwm.crossing
  let late := d.dueFrame ((2 * j + 1) * d.S % (2 * d.C) == 0) ((2 * j + 1) * d.S / (2 * d.C))
  d.forAll (List.range 12) fun e n => e.legHalf n d.pwm.period h late

/-! ## Feedback (R243, R244) -/

/-- The latest edge of an output that goes off at or before an instant at the ball. -/
def lastOff (l : List PwmEdge) (o : Nat) (t : Int) : Option PwmEdge :=
  (l.filter fun e => e.out == o && !e.on && decide (e.ball ≤ t)).getLast?

/-- The edge at its ball of the output that comes on after output edge `e` of leg n goes off: dead time after it, each
edge with its own trim (R242, R248). `up` says that B goes off and A comes on. -/
def Dev.incomingEdge (d : Dev) (n : Nat) (up : Bool) (e : PwmEdge) : Int :=
  if up then e.ball - d.trim n 1 + d.trim n 0 + d.get (F.PWM_DT_NOW_DT_BA.ix n)
  else e.ball - d.trim n 0 + d.trim n 1 + d.get (F.PWM_DT_NOW_DT_AB.ix n)

/-- A leg whose exchanges are measured: complementary, adaptive, not held (R243, R245). -/
def Dev.adapts (d : Dev) (n : Nat) : Bool :=
  d.legMode n == 1 && d.flag (F.PWM_LEG_CFG_ADAPT.ix n) && d.dmp.legs.getD n .free == .free

/-- VSW_FB_TRANSITION: VSW_FB[n] changes `dt` taps from now. The transition of the expected sense measures its
exchange where it comes before the incoming edge; up to 2 us after that edge it answers it (R243, R244). -/
def Dev.vswTransition (d : Dev) (n : Nat) (rising : Bool) (dt : Nat) : Dev :=
  let t := d.nowTaps + dt
  let d := d.advance (dt / 128)
  if !d.adapts n then d else
  let up := rising != d.flag (F.PWM_LEG_CFG_VSW_INV.ix n)
  let l := d.leg n
  match lastOff d.pwm.edges (if up then 2 * n + 1 else 2 * n) t with
  | none => d
  | some e =>
    let incoming := d.incomingEdge n up e
    if (if up then l.seenBA else l.seenAB) = some e.tap || incoming + 128000 < t then d else
    let d := d.legUp n fun l => { l with
      seenAB := if up then l.seenAB else some e.tap
      seenBA := if up then some e.tap else l.seenBA
      miss := 0, clean := min 64 (l.clean + 1), fault := l.fault && decide (l.clean + 1 < 64) }
    if incoming ≤ t then d else
    let tr := (t - e.ball).toNat
    let past := d.get (F.PWM_DTMAX_DT_MAX.ix n) < tr + d.get (F.PWM_DTADP_MARGIN.ix n)
    let was := if up then l.overBA else l.overAB
    let d := d.legUp n fun l =>
      if up then { l with trBA := some tr, overBA := past } else { l with trAB := some tr, overAB := past }
    let d := if up then (d.put (F.PWM_TDC_T_BA.ix n) tr).put (F.PWM_TDC_VALID_BA.ix n) 1
      else (d.put (F.PWM_TDC_T_AB.ix n) tr).put (F.PWM_TDC_VALID_AB.ix n) 1
    if past && !was then d.raise 0x0705 else d

/-- VSW_EXCHANGE_MISSING: an exchange of leg n went without its transition (R244). -/
def Dev.vswMissing (d : Dev) (n : Nat) : Dev :=
  if !d.adapts n then d else
  let m := (d.leg n).miss + 1
  let d := d.legUp n fun l => { l with miss := min 8 m, clean := 0, fault := l.fault || decide (8 ≤ m) }
  if m = 8 then (d.bump F.PWM_VSW_CNT).raise 0x0704 [n] else d

/-! ## Delay lines (R246, R247) -/

/-- DELAY_LINE_CALIBRATED. -/
def Dev.lineCalibrated (d : Dev) (g : Nat) : Dev :=
  (d.clrIn F.PWM_STATUS_DL_FAIL g).pwmUp fun p => { p with
    spare := upd p.spare g fun _ => true, calAt := upd p.calAt g fun _ => d.now }

/-- PWM_DL_STALE: 4 ms since the group's last swap. -/
def Dev.lineStale (d : Dev) (g : Nat) : Dev :=
  let d := d.advanceTo (d.pwm.swapAt.getD g 0 + 4 * msec)
  if d.bitIn F.PWM_STATUS_DL_STALE g then d else (d.setIn F.PWM_STATUS_DL_STALE g).raise 0x0702 [g]

/-- PWM_DL_FAIL: 16 ms without a calibrated line. -/
def Dev.lineFail (d : Dev) (g : Nat) : Dev :=
  if d.pwm.spare.getD g false then d else
  let d := d.advanceTo (d.pwm.calAt.getD g 0 + 16 * msec)
  if d.bitIn F.PWM_STATUS_DL_FAIL g then d else (d.setIn F.PWM_STATUS_DL_FAIL g).raise 0x0703 [g]

/-- A member compares a pulse with its own grid (R252): ANG in GROUP and LOCKED, and D valid. -/
def Dev.syncCompares (d : Dev) : Bool :=
  d.syncRole == 2 && d.angSrc == 2 && d.angLock == 0 && d.flag F.PWM_SYNC_DLY_VALID

/-- e of a pulse that arrived at a phase, in taps, and the index of the nearest common-grid carrier start (R252). -/
def Dev.syncError (d : Dev) (t : Int) : Int × Int :=
  let inc : Int := d.get F.ANG_INC
  let u : Int := 2 ^ 48 / (d.C : Int)
  let p := (d.time.phase : Int) + (t - d.get F.PWM_SYNC_DLY_D - d.nowTaps) * inc / 128
  let m := (p + u / 2) / u
  (if inc = 0 then 0 else (p - m * u) * 128 / inc, m)

/-- A valid pulse judged against the member's own grid (R252, R253). -/
def Dev.syncJudge (d : Dev) (t : Int) (line : Bool) : Dev :=
  let (e, m) := d.syncError t
  let thr := 64 * d.get F.PWM_SYNC_CFG_THR
  let off := decide (thr < e.natAbs)
  let atTurn := m % d.C == 0 && !d.shortCycle
  let d := if line then d else d.putI F.PWM_SYNC_ERR e
  let bad := if line then d.pwm.syncBad else if off then d.pwm.syncBad + 1 else 0
  let good := if off then 0 else d.pwm.syncGood + 1
  let d := d.pwmUp fun p => { p with syncBad := min bad 16, syncGood := min good 4 }
  let d := if !line && bad = d.get F.PWM_SYNC_CFG_NERR then (d.bump F.PWM_SYNC_ERR_CNT).raise 0x0707 [wrap 64 e] else d
  let d := if (line && (off || !atTurn)) || (!line && atTurn && !off) then (d.bump F.PWM_SYNC_ERR_CNT).raise 0x0708 else d
  if d.flag F.PWM_STATUS_SYNC_SUBST && 4 ≤ good then d.put F.PWM_STATUS_SYNC_SUBST 0 else d

/-- SYNC_IN_PULSE: a pulse of a width in ns arrives `dt` taps from now (R249, R250, R252). One that comes later than a carrier and
a half after the last valid one follows a missing one (R253). (DESIGN CHOICE, log entry 55.) -/
def Dev.syncPulse (d : Dev) (width dt : Nat) : Dev :=
  let t := d.nowTaps + dt
  let d := d.advance (dt / 128)
  if d.syncRole != 2 || width < 20 then d else
  if 200 < width then d.pwmUp fun p => { p with syncGood := 0 } else
  let missed := match d.pwm.syncAt with | some s => decide (3 * (d.predictedPeriod : Int) < 2 * (t - s)) | none => false
  let d := d.pwmUp fun p => { p with syncAt := some t, syncGood := if missed then 0 else p.syncGood }
  let d := d.put F.PWM_STATUS_SYNC_IN_OK 1
  let d := if d.flag F.PWM_STATUS_SYNC_SUBST then d else d.pwmUp fun p => { p with syncOut := [(t + 512, width)] }
  if d.syncCompares then d.syncJudge t (80 ≤ width)
  else if d.flag F.PWM_STATUS_SYNC_SUBST then
    let d := d.pwmUp fun p => { p with syncGood := min 4 (p.syncGood + 1) }
    if 4 ≤ d.pwm.syncGood then d.put F.PWM_STATUS_SYNC_SUBST 0 else d
  else d

/-- PWM_SYNC_LOSS: two expected pulses went missing; a member substitutes (R253). -/
def Dev.syncLoss (d : Dev) : Dev :=
  if d.syncRole != 2 then d else
  let d := match d.pwm.syncAt with
    | some t => d.advanceTo ((t + 2 * d.predictedPeriod).toNat / 128)
    | none => d
  if d.flag F.PWM_STATUS_SYNC_SUBST then d.pwmUp fun p => { p with syncGood := 0 } else
  let d := ((d.put F.PWM_STATUS_SYNC_SUBST 1).put F.PWM_STATUS_SYNC_IN_OK 0).bump F.PWM_SYNC_ERR_CNT
  (d.pwmUp fun p => { p with syncGood := 0, syncBad := 0 }).raise 0x0706

/-- PWM_SYNC_MEAS: 64 differences of the chain delay measurement, taps; D is their mean (R251). (DEDUCED, log entry 146.) -/
def Dev.syncMeasured (d : Dev) (diffs : List Nat) : Dev :=
  if !d.pwm.meas || diffs.length != 64 then d else
  let m := (diffs.sum + 32) / 64
  (((d.put F.PWM_SYNC_DLY_D m).put F.PWM_SYNC_DLY_VALID 1).pwmUp fun p => { p with meas := false }).raise 0x0709 [m]

/-! ## Images, kindling and reset -/

/-- An image is activated, or none is left: carries at 0 and dead times at DT_MAX (R241, R245). -/
def Dev.pwmImage (d : Dev) : Dev :=
  let d := d.forAll (List.range 12) Dev.dtMax
  let d := d.pwmUp fun p => { p with legs := p.legs.map fun l => { l with a := { l.a with carry := 0 }, b := { l.b with carry := 0 } } }
  if d.fbx.active.isSome then d
  else
    let es := (List.range 24).foldl (fun l o => forceOut l o d.nowTaps d.nowTaps) d.pwm.edges
    d.pwmUp fun p => { p with
      edges := es, legs := p.legs.map fun l => { l with a := { l.a with lvl := false }, b := { l.b with lvl := false } } }

/-- The configuration store is in force: outputs drive their inactive level, dead times are DT_MAX (R231, R245). -/
def Dev.pwmStart (d : Dev) : Dev :=
  (d.forAll (List.range 12) Dev.dtMax).pwmUp fun p => { p with
    hiZ := false, swapAt := List.replicate 4 d.now, calAt := List.replicate 4 d.now }

end Sys2Proof.Machine
end

