-- ==== Sys2Proof/Machine/Damper.lean ====
section
/-! DEFINITION. Damper (chapter 11): comparators and their strobe, trip inputs, the releases of groups, contactor
outputs and their feedback. Latching itself is in Events.lean. -/

namespace Sys2Proof.Machine

/-- Damper's state changed. -/
def Dev.dmpUp (d : Dev) (f : Dmp → Dmp) : Dev := { d with dmp := f d.dmp }

/-! ## Comparators (R256 to R259) -/

/-- The AON copy governs: its SRC is AON and no package is in force (R258). -/
def Dev.liveCopy (d : Dev) : Bool :=
  d.hrt.pkgForce.isNone && (match d.dmp.aonCopy with | some (w, _) => w.getLsbD 0 | none => false)

/-- The entry word a comparator is judged with. -/
def Dev.cmpEntry (d : Dev) (j : Nat) : Word :=
  if d.liveCopy then (match d.dmp.aonCopy with | some (_, l) => Mem.rd l j | none => 0)
  else d.word (F.DMP_CMP_EN.ix j).addr

/-- A field of a comparator's entry. -/
def cmpFld (w : Word) (f : Fld) : Nat := wbits w f.hi f.lo

/-- The comparator is enabled in the mode given. -/
def cmpOn (w : Word) (mode : Nat) : Bool := cmpFld w F.DMP_CMP_EN == 1 && cmpFld w F.DMP_CMP_MODE == mode

/-- A comparator's output from its pin's voltage in microvolts and the output it held (R256). -/
def cmpOutput (w : Word) (uv : Nat) (held : Bool) : Bool :=
  let th := cmpFld w F.DMP_CMP_THR * 3000000
  let hys := [0, 10000, 20000, 40000].getD (cmpFld w F.DMP_CMP_HYST) 0 * 1024
  let v := uv * 1024
  if cmpFld w F.DMP_CMP_INV = 1 then (if held then decide (v ≤ th + hys) else decide (v < th))
  else if held then decide (th ≤ v + hys) else decide (th < v)

/-- The end of the blanking interval that the latest edge of leg BLANK_LEG started, if it has not passed (R259). -/
def Dev.blankEnd (d : Dev) (w : Word) : Option Nat :=
  let len : Int := 128 * cmpFld w F.DMP_CMP_BLANK
  let leg := cmpFld w F.DMP_CMP_BLANK_LEG
  let past := d.pwm.edges.filter fun e => e.out / 2 == leg && decide (e.ball ≤ d.nowTaps) && decide (d.nowTaps < e.ball + len)
  match past.getLast? with
  | some _ => some (((past.foldl (fun m e => max m (e.ball + len)) 0) + 127) / 128).toNat
  | none => none

/-- COMPARATOR_ASSERT: a continuous comparator's pin is at a voltage, `dt` PWM clocks from now; its assertion sets
its latch, or waits out the blanking interval. (DEDUCED, log entry 120.) -/
def Dev.comparatorAssert (d : Dev) (j uv dt : Nat) : Dev :=
  let d := d.advance dt
  let w := d.cmpEntry j
  if !cmpOn w 0 || !cmpOutput w uv (d.dmp.cmpOut.testBit j) then d else
  let d := d.dmpUp fun x => { x with cmpOut := setBit x.cmpOut j }
  if d.dmp.asserted.testBit j then d else
  match d.blankEnd w with
  | some t => d.dmpUp fun x => { x with blank := x.blank.set j (some t) }
  | none => d.sourceAssert j

/-- BLANKING_END: an assertion still present at the end of its blanking interval sets the latch (R259); an edge meanwhile has
started an interval of its own. -/
def Dev.blankingEnd (d : Dev) (j : Nat) : Dev :=
  match d.dmp.blank.getD j none with
  | none => d
  | some t =>
    let d := (d.advanceTo t).dmpUp fun x => { x with blank := x.blank.set j none }
    match d.blankEnd (d.cmpEntry j) with
    | some u => d.dmpUp fun x => { x with blank := x.blank.set j (some u) }
    | none => if d.dmp.cmpOut.testBit j then d.sourceAssert j else d

/-- The strobe in force: SRC and PER. -/
def Dev.strobeCfg (d : Dev) : Nat × Nat :=
  let w := if d.liveCopy then (match d.dmp.aonCopy with | some (w, _) => w | none => 0) else d.word F.DMP_STROBE_SRC.addr
  (cmpFld w F.DMP_STROBE_SRC, min 8 (cmpFld w F.DMP_STROBE_PER))

/-- The end of the 1 us of strobe k, PWM clocks (R258). (DESIGN CHOICE, log entry 107.) -/
def Dev.strobeEnd (d : Dev) (k : Nat) : Nat :=
  match d.strobeCfg with
  | (0, per) => d.dmp.slowOrigin + ceilDiv (k * 15625 * 2 ^ per) usec * usec + usec
  | (_, per) => d.dmp.aonOrigin + k * 2 ^ per * 1953125 / 128 + usec

/-- The analog die's copy strobes from the AON clock, which runs through reset and kindling (R258). -/
def Dev.aonRuns (d : Dev) : Bool := match d.dmp.aonCopy with | some (w, _) => w.getLsbD 0 | none => false

/-- The next end of a strobe not taken yet. -/
def Dev.nextStrobe (d : Dev) : Nat :=
  let (src, per) := d.strobeCfg
  let (org, period) := if src = 0 then (d.dmp.slowOrigin, 2000000) else (d.dmp.aonOrigin, 1953125)
  let k := 128 * (d.now - org) / (period * 2 ^ per)
  let ends := (List.range 4).map fun i => d.strobeEnd (k + i - 1)
  (ends.find? fun t => d.now ≤ t && d.dmp.strobeAt < t).getD (d.strobeEnd (k + 3))

/-- One sampled comparator's result at a strobe end (R256, R258). -/
def Dev.strobeResult (d : Dev) (uvs : List Nat) (j : Nat) : Dev :=
  let w := d.cmpEntry j
  if !cmpOn w 1 then d else
  let was := d.dmp.cmpOut.testBit j
  let out := cmpOutput w (uvs.getD (cmpFld w F.DMP_CMP_IN_SEL) 0) was
  let d := d.dmpUp fun x => { x with cmpOut := putBit x.cmpOut j out, strobed := putBit x.strobed j out }
  if out && !was then
    let d := if d.liveCopy then d.dmpUp fun x => { x with early := setBit x.early j } else d
    d.sourceAssert j
  else if was && !out then d.sourceDeassert j
  else d

/-- COMPARATOR_STROBE: the next strobe ends with the pins at the voltages given, microvolts (R258). -/
def Dev.comparatorStrobe (d : Dev) (uvs : List Nat) : Dev :=
  let t := d.nextStrobe
  ((d.advanceTo t).dmpUp fun x => { x with strobeAt := t }).forAll (List.range 16) fun d j => d.strobeResult uvs j

/-- FLT_N_ASSERT: the ball has been low for 5 ns (Table 11-2). -/
def Dev.fltAssert (d : Dev) (n dt : Nat) : Dev := (d.advance dt).sourceAssert (16 + n)

/-- SOURCE_DEASSERT: a comparator's pin, at the voltage given, or an FLT_N ball deasserts; the other sources follow
the blocks they come from. -/
def Dev.sourceReleased (d : Dev) (i uv dt : Nat) : Dev :=
  let d := d.advance dt
  if i < 16 then
    let w := d.cmpEntry i
    if cmpOn w 0 && !cmpOutput w uv (d.dmp.cmpOut.testBit i) then
      (d.dmpUp fun x => { x with cmpOut := clrBit x.cmpOut i, blank := x.blank.set i none }).sourceDeassert i
    else d
  else if i < 28 then d.sourceDeassert i
  else d

/-! ## Releases (R272 to R274) -/

/-- A latch's source is now asserted (events and the TRIP command never are: R265). -/
def Dev.latchUp (d : Dev) (l : Latch) : Bool := match l.src with | .hw i => d.dmp.asserted.testBit i | _ => false

/-- A latch without one group. -/
def Latch.drop (l : Latch) (g : Nat) : Latch := { l with grps := clrBit l.grps g }

/-- Latches of a group for which a condition holds leave the group. -/
def Dev.dropLatches (d : Dev) (g : Nat) (gone : Latch → Bool) : Dev :=
  d.dmpUp fun x => { x with latches := (x.latches.map fun l => if l.grps.testBit g && gone l then l.drop g else l).filter fun l => l.grps != 0 || l.cls == .d }

/-- A class B latch of a group still asserted. -/
def Dev.bAsserted (d : Dev) (g : Nat) : Bool := d.dmp.latches.any fun l => l.cls == .b && l.grps.testBit g && d.latchUp l

/-- The restart wait of a group starts (R273). -/
def Dev.startWait (d : Dev) (g : Nat) : Dev :=
  d.dmpUp fun x => { x with bWait := x.bWait.set g (some (d.now + 10 * msec * d.get (F.DMP_GRP_RB_WAIT.ix g))) }

/-- RESTART_WAIT_END: a class B group's wait ends (R273). -/
def Dev.restartWaitEnd (d : Dev) (g : Nat) : Dev :=
  match d.dmp.bWait.getD g none with
  | none => d
  | some t =>
    let d := d.advanceTo t
    let d := d.dropLatches g fun l => l.cls == .b && !d.latchUp l
    if d.bAsserted g then d.startWait g
    else
      let d := d.dmpUp fun x => { x with holdB := clrBit x.holdB g, bWait := x.bWait.set g none }
      d.holdUpdate.raise 0x0806 [2 ^ g]

/-- One named group of a CLEAR_TRIP that holds class A (R272); answers whether it is released. -/
def Dev.clearGroup (d : Dev) (g : Nat) : Dev :=
  if !d.dmp.latchA.testBit g then d else
  let d := d.dropLatches g fun l => l.cls == .a || (l.cls == .b && !d.latchUp l)
  let d := d.dmpUp fun x => { x with latchA := clrBit x.latchA g }
  if d.bAsserted g then (d.dmpUp fun x => { x with holdB := setBit x.holdB g }).startWait g else d

/-- CLEAR_TRIP completes with STATE (R272): a named group has a class A source still asserted, or LOCKOUT. -/
def Dev.clearRefused (d : Dev) (grps : Nat) : Bool :=
  d.gsv == 8 || (d.dmp.latches.any fun l => l.cls == .a && (l.grps &&& grps) != 0 && d.latchUp l)
    || ((List.range 86).any fun i => d.dmp.asserted.testBit i && d.flag (F.DMP_SRC_EN.ix i) && d.get (F.DMP_SRC_CLASS.ix i) == 0
          && (d.get (F.DMP_SRC_GRP.ix i) &&& grps) != 0)

/-- CLEAR_TRIP on groups where it is not refused; answers the groups released. An overrun's OVR and FBX_OVR_INFO clear with the
first CLEAR_TRIP that names one of its groups. (DESIGN CHOICE, log entry 141.) -/
def Dev.clearTrip (d : Dev) (grps : Nat) : Dev × Nat :=
  let before := d.dmp.latchA
  let ovr := d.dmp.latches.any fun l => l.src == .event 0x0101 && (l.grps &&& grps &&& before) != 0
  let d := d.forAll (bitList 8 grps) Dev.clearGroup
  let released := andNot (before &&& grps) d.latched
  let d := if ovr then (d.put F.FBX_STATUS_OVR 0).setWord F.FBX_OVR_INFO_SLOT.addr 0 else d
  let d := d.holdUpdate
  (if released = 0 then d else d.raise 0x0805 [released], released)

/-- LOCKOUT_COUNT_AGE: the oldest count leaves the window (R274). -/
def Dev.lockoutAge (d : Dev) : Dev :=
  match d.dmp.lockTimes with
  | [] => d
  | t :: _ =>
    if d.dmp.lockout then d else
    let win := second * d.get F.DMP_LOCKOUT_CFG_LOCK_WIN
    let d := d.advanceTo (t + win)
    let d := d.dmpUp fun x => { x with lockTimes := x.lockTimes.filter fun t => d.now < t + win }
    d.put F.DMP_LOCKOUT_CNT_CNT (min 15 d.dmp.lockTimes.length)

/-- SAFE_SEQUENCE_INNER_OFF: a leg's T_SEQ expires, and the leg is all off (R267, R270). -/
def Dev.sequenceEnd (d : Dev) (n : Nat) : Dev :=
  match d.dmp.legs.getD n .free with
  | .seq t =>
    let d := d.advanceTo t
    (d.dmpUp fun x => { x with legs := x.legs.set n .off }).holdUpdate
  | _ => d

/-! ## Contactor outputs (R270, R277, R545) -/

/-- GSV asks an output to close, or opens it (R545). -/
def Dev.ctlClose (d : Dev) (k : Nat) : Dev := d.dmpUp fun x => { x with want := setBit x.want k }
def Dev.ctlOpen (d : Dev) (k : Nat) : Dev := d.dmpUp fun x => { x with want := clrBit x.want k, ctlOut := clrBit x.ctlOut k }

/-- Wanted outputs close where no latched group names them and none is opening them. -/
def Dev.ctlUpdate (d : Dev) : Dev :=
  let ok := (bitList 8 d.dmp.want).filter fun k =>
    d.flag (F.DMP_CTL_EN.ix k) && !d.ctlHeld.testBit k && !(d.dmp.opening.any fun (j, _) => j == k)
  d.dmpUp fun x => { x with ctlOut := ok.foldl setBit x.ctlOut }

/-- CTL_FB[k] after FB_INV. -/
def Dev.ctlFb (d : Dev) (k : Nat) : Bool := d.dmp.fbPin.testBit k != d.flag (F.DMP_CTL_FB_INV.ix k)

/-- Disagreements of outputs and supervised feedbacks run on, begin or end; MISMATCH clears with agreement (R277). -/
def Dev.ctlFeedback (d : Dev) : Dev :=
  let differs (k : Nat) : Bool := d.flag (F.DMP_CTL_FB_EN.ix k) && d.ctlFb k != d.dmp.ctlOut.testBit k
  let next (k : Nat) : Option Nat :=
    if differs k then (match d.dmp.disagree.getD k none with | some t => some t | none => some d.now) else none
  let d := d.dmpUp fun x => { x with disagree := (List.range 8).map next }
  d.put F.DMP_CTL_STATE_MISMATCH ((List.range 8).foldl (fun m k => if differs k then m else clrBit m k) (d.get F.DMP_CTL_STATE_MISMATCH))

/-- CONTACTOR_OPEN_DELAY: an output's OPEN_DLY runs out (R270). -/
def Dev.openDelayEnd (d : Dev) (k : Nat) : Dev :=
  match d.dmp.opening.find? fun (j, _) => j == k with
  | some (_, t) => (d.advanceTo t).contactorDue
  | none => d

/-- CTL_FB_CHANGE: a feedback ball changes. -/
def Dev.ctlFbChange (d : Dev) (k : Nat) (level : Bool) (dt : Nat) : Dev :=
  (d.advance dt).dmpUp fun x => { x with fbPin := putBit x.fbPin k level }

/-- DMP_CTL_FB: a disagreement has lasted FB_TIME (R277). -/
def Dev.ctlFbFault (d : Dev) (k : Nat) : Dev :=
  match d.dmp.disagree.getD k none with
  | some t =>
    let d := d.advanceTo (t + msec * d.get (F.DMP_CTL_FB_TIME.ix k))
    if d.bitIn F.DMP_CTL_STATE_MISMATCH k then d
    else ((d.setIn F.DMP_CTL_STATE_MISMATCH k).bump F.DMP_CTL_FB_CNT).raise 0x0809 [k]
  | none => d

/-! ## Packages (R258, R275, R276) -/

/-- An owner setting package is put in force: `old` is the device before it. The AON copy is written, a changed
DMP_STROBE moves the origin, and enabled sources that are asserted latch at once. -/
def Dev.dmpPackage (d old : Dev) : Dev :=
  let strobe := d.word F.DMP_STROBE_SRC.addr
  let before := match d.dmp.aonCopy with | some (w, _) => w | none => old.word F.DMP_STROBE_SRC.addr
  let entries := (List.range 16).filterMap fun j =>
    let w := d.word (F.DMP_CMP_EN.ix j).addr
    if cmpOn w 1 then some (j, w) else none
  let d := d.dmpUp fun x => { x with
    aonCopy := some (strobe, entries)
    slowOrigin := if strobe = before then x.slowOrigin else d.now
    aonOrigin := if strobe = before then x.aonOrigin else d.now }
  let early := d.dmp.early
  let d := d.dmpUp fun x => { x with early := 0 }
  (d.forAll (List.range 86) fun d i =>
    let latched := d.dmp.latches.any fun l => l.src == .hw i
    if (d.dmp.asserted.testBit i || early.testBit i) && d.flag (F.DMP_SRC_EN.ix i) && !latched then
      d.trip (.hw i) (TripClass.ofNum (d.get (F.DMP_SRC_CLASS.ix i))) (d.get (F.DMP_SRC_GRP.ix i))
    else d).holdUpdate

/-- Every derived view of Damper: DMP_STATUS, the source latches, legs and bridges held, contactor levels. -/
def Dev.dmpRegs (d : Dev) : Dev :=
  let src (w : Nat) : Nat := (List.range 32).foldl (fun m i =>
    if d.dmp.latches.any fun l => l.src == .hw (32 * w + i) then setBit m i else m) 0
  let d := d.put F.DMP_STATUS_LATCH_A d.dmp.latchA |>.put F.DMP_STATUS_HOLD_B d.dmp.holdB |>.put F.DMP_STATUS_CYCLE d.cycleGroups
    |>.putB F.DMP_STATUS_LOCKOUT d.dmp.lockout |>.put F.DMP_LEG_OFF_LEGS d.dmp.held |>.put F.DMP_LEG_OFF_DRT d.dmp.drtHeld
    |>.put F.DMP_CTL_STATE_OUT d.dmp.ctlOut
    |>.put F.DMP_CTL_STATE_FB ((List.range 8).foldl (fun m k => putBit m k (d.ctlFb k)) 0)
  (List.range 3).foldl (fun d w => d.put (F.DMP_SRC_LATCH.ix w) (src w)) d

end Sys2Proof.Machine
end

