-- ==== Sys2Proof/Machine/Sar.lean ====
section
/-! DEFINITION. Auxiliary converter pair (chapter 7): table passes, publication, register-mode conversions,
plausibility. -/

namespace Sys2Proof.Machine

/-- SAR's state changed. -/
def Dev.sarUp (d : Dev) (f : Sar → Sar) : Dev := { d with sar := f d.sar }

/-- Converter x is enabled; entries of its table. -/
def Dev.sarEn (d : Dev) (x : Nat) : Bool := d.flag (if x = 0 then F.SAR_CFG_EN_A else F.SAR_CFG_EN_B)
def Dev.sarLen (d : Dev) (x : Nat) : Nat := d.get (if x = 0 then F.SAR_CFG_LEN_A else F.SAR_CFG_LEN_B)

/-- A field of entry i of converter x's table (Table 7-4). -/
def sarTab (a b : Fld) (x i : Nat) : Fld := if x = 0 then a.ix i else b.ix i
def Dev.sarCh (d : Dev) (x i : Nat) : Nat := d.get (sarTab F.SAR_TAB_A_CH F.SAR_TAB_B_CH x i)
def Dev.sarAlign (d : Dev) (x i : Nat) : Bool := d.flag (sarTab F.SAR_TAB_A_ALIGN F.SAR_TAB_B_ALIGN x i)
def Dev.sarRepeat (d : Dev) (x i : Nat) : Nat := d.get (sarTab F.SAR_TAB_A_REPEAT F.SAR_TAB_B_REPEAT x i) + 1
def Dev.sarDelay (d : Dev) (x i : Nat) : Nat := d.get (sarTab F.SAR_TAB_A_DELAY F.SAR_TAB_B_DELAY x i)
def Dev.sarDest (d : Dev) (x i : Nat) : Nat := d.get (sarTab F.SAR_TAB_A_DEST F.SAR_TAB_B_DEST x i)

/-- Entry time in units of 10 ns (R175). -/
def Dev.sarEntry (d : Dev) (x i : Nat) : Nat := d.sarRepeat x i * 25 + max (d.sarDelay x i) 25

/-- Pass length of a converter in units of 10 ns. -/
def Dev.sarPass (d : Dev) (x : Nat) : Nat := ((List.range (d.sarLen x)).map (d.sarEntry x)).sum

/-- A reserved channel code; a differential one (Table 7-1). -/
def sarReserved (ch : Nat) : Bool := ch == 22 || ch == 23 || ch == 31
def sarDiff (ch : Nat) : Bool := 24 ≤ ch && ch ≤ 30

/-- The code of an input (R173). The operand is what stands at the input of Table 7-1, in microvolts before its divider, or the
sensor's reading in millionths of a degree Celsius. (DEDUCED, log entry 143.) -/
def sarCode (ch : Nat) (uv : Int) : Int :=
  if sarDiff ch then max (-32768) (min (rneDiv (32768 * uv) 3000000) 32767)
  else
    let div := match ch with | 17 => 2 | 18 => 8 | 20 => 2 | _ => 1
    let code := if ch = 16 then rneDiv (21845 * 1000000000 + (uv - 25000000) * 65536) 1000000000
      else rneDiv (65536 * uv) (3000000 * div)
    max 0 (min code 65535)

/-- A code at its limit (R173). -/
def sarSat (ch : Nat) (code : Int) : Bool :=
  if sarDiff ch then code == -32768 || code == 32767 else code == 0 || code == 65535

/-- The result word of a code (Table 7-2). -/
def sarWord (ch : Nat) (left : Bool) (code : Int) : Word :=
  if left then BitVec.ofNat 32 (wrap 16 code * 65536)
  else if sarDiff ch then BitVec.ofInt 32 code else BitVec.ofNat 32 (wrap 16 code)

/-- floor(sum / R + 1/2) (R177). -/
def sarMean (vs : List Int) : Int := (2 * vs.sum + (vs.length : Int)) / (2 * (vs.length : Int))

/-- The edge at which entry i of converter x begins, in a pass that began at an edge (R176). -/
def Dev.sarBegin (d : Dev) (t0 x i : Nat) : Nat := t0 + ((List.range i).map (d.sarEntry x)).sum

/-- SAR_CONVERSION_DONE: entry i of converter x, the next of its table, has made its R conversions of the inputs given (an
input not given stands at 0); saturated codes count. (DEDUCED, log entry 144.) -/
def Dev.sarConverted (d : Dev) (x i : Nat) (uvs : List Int) : Dev :=
  if !d.sarEn x || d.sar.pass.isNone || d.sarLen x ≤ i || d.sar.next.getD x 0 != i then d else
  let d := d.advanceTo (anaClk * (d.sarBegin d.sar.t0 x i + 25 * d.sarRepeat x i))
  let ch := d.sarCh x i
  let codes := (List.range (d.sarRepeat x i)).map fun j => sarCode ch (uvs.getD j 0)
  let d := d.bump F.SAR_SAT_CNT (codes.filter (sarSat ch)).length
  d.sarUp fun s => { s with
    next := upd s.next x (· + 1)
    pending := Mem.wr s.pending (64 * x + d.sarDest x i) (sarWord ch (d.sarAlign x i) (sarMean codes)) }

/-- Pass k is a plausibility pass (R184). -/
def Dev.plausPass (d : Dev) (k : Nat) : Bool := d.get F.SAR_PLAUS_N != 0 && k % d.get F.SAR_PLAUS_N == 0

/-- Judgement of a plausibility pass (R184); its saturated codes count (Table 7-3). -/
def Dev.plausJudge (d : Dev) (a b : Nat) : Dev :=
  let d := d.bump F.SAR_SAT_CNT ([a, b].filter (sarSat 15)).length
  let d := (d.put F.SAR_PLAUS_RES_CODE_A a).put F.SAR_PLAUS_RES_CODE_B b
  if d.get F.SAR_PLAUS_THR < (max a b - min a b) then
    let n := d.sar.bad + 1
    let d := d.sarUp fun s => { s with bad := n }
    if d.get F.SAR_PLAUS_K ≤ n && !d.flag F.SAR_STATUS_MISMATCH then
      ((d.put F.SAR_STATUS_MISMATCH 1).bump F.SAR_MIS_CNT).raise 0x0501 [a, b]
    else d
  else
    let was := d.flag F.SAR_STATUS_MISMATCH
    let d := (d.put F.SAR_STATUS_MISMATCH 0).sarUp fun s => { s with bad := 0 }
    if was then d.raise 0x0504 else d

/-- Every enabled converter has gone through its table. -/
def Dev.sarThrough (d : Dev) : Bool := (List.range 2).all fun x => !d.sarEn x || d.sar.next.getD x 0 == d.sarLen x

/-- The two enabled converters' longest pass; a disabled one makes none. -/
def Dev.sarSpan (d : Dev) : Nat :=
  max (if d.sarEn 0 then d.sarPass 0 else 0) (if d.sarEn 1 then d.sarPass 1 else 0)

/-- What the slots read once the pass is published (R178, R179); a converter that makes no pass keeps its own until the
next frame start. -/
def Dev.sarSlots (d : Dev) : Mem :=
  let written (x s : Nat) : Bool := (List.range (d.sarLen x)).any fun i => d.sarDest x i == s
  (List.range 128).foldl (fun m q =>
    if !d.sarEn (q / 64) then m
    else Mem.wr m q (if written (q / 64) (q % 64) then Mem.rd d.sar.pending q else 0)) d.sar.published

/-- SAR_PASS_COMPLETE: once every entry is done the pending buffer is published whole, 250 ns after the longer pass (R176,
R178); `a` and `b` are the inputs in the plausibility slot. With the die-to-die link lost no pass completes (R181). -/
def Dev.sarPublish (d : Dev) (a b : Int) : Dev :=
  if d.cpr.d2dLost || !d.sarThrough then d else
  match d.sar.pass with
  | none => d
  | some k =>
    let d := d.advanceTo (anaClk * (d.sar.t0 + d.sarSpan + 25))
    let d := d.sarUp fun s => { s with published := d.sarSlots, pass := none }
    let d := (d.wrapInc F.SAR_STATUS_PASSES).put F.SAR_STATUS_STALE 0
    if d.plausPass k then d.plausJudge (sarCode 15 a).toNat (sarCode 15 b).toNat else d

/-- The conversions of a pass: each entry's, and the plausibility slot. -/
def Dev.sarConversions (d : Dev) (k t0 x : Nat) : List (Nat × Nat) :=
  if !d.sarEn x then [] else
  ((List.range (d.sarLen x)).map fun i => (d.sarBegin t0 x i, d.sarBegin t0 x i + 25 * d.sarRepeat x i))
    ++ (if d.plausPass k then [(t0 + d.sarSpan, t0 + d.sarSpan + 25)] else [])

/-- Edge at which a pass begins whose frame starts at an instant: the first at or more than 100 ns after it (R176). -/
def passEdge (frame : Nat) : Nat := anaEdge (frame + 50)

/-- Frame start k for the converters (R176, R179 to R181): an unfinished pass is abandoned, a converter found disabled at
the frame start before reads zero, a new pass begins. `linkOk` says that the die-to-die link is up: with
it lost the abandoned pass counts but SAR_LATE is not raised. (DEDUCED, log entry 126.) -/
def Dev.sarFrame (d : Dev) (k : Nat) (linkOk : Bool) : Dev :=
  let d := if d.sar.pass.isNone then d else
    let e := (d.put F.SAR_STATUS_STALE 1).bump F.SAR_LATE_CNT
    if linkOk then e.raise 0x0502 else e
  let on := d.sarEn 0 || d.sarEn 1
  let t0 := passEdge d.now
  d.sarUp fun s => { s with
    pending := []
    t0 := t0
    next := [0, 0]
    conv := (List.range 2).map fun x =>
      (s.conv.getD x []).filter (fun c => s.t0 ≤ c.1) ++ d.sarConversions k t0 x
    off := [!d.sarEn 0, !d.sarEn 1]
    pass := if on then some k else none }

/-- Slots of a converter that stood disabled through the frame before read zero (R179). -/
def Dev.sarIdle (d : Dev) : Dev :=
  d.sarUp fun s => { s with published := s.published.filter fun (q, _) => !s.off.getD (q / 64) true }

/-- Nodes of the converters' published results, every slot (R178). -/
def Dev.sarNodes (d : Dev) : List (Nat × Word) := (List.range 128).map fun q => (0x0120 + q, Mem.rd d.sar.published q)

/-- SAR_REG_START (R182). Answers whether it was taken: 0 yes, 1 BUSY, 2 STATE, 3 a reserved channel. -/
def Dev.sarRegStart (d : Dev) (x ch : Nat) (left : Bool) : Dev × Nat :=
  if sarReserved ch then (d, 3)
  else if !d.sarEn x then (d, 2)
  else if d.flag (F.SAR_REG_PEND.ix x) then (d, 1)
  else
    (d.put (F.SAR_REG_CH.ix x) ch |>.putB (F.SAR_REG_ALIGN.ix x) left |>.put (F.SAR_REG_PEND.ix x) 1
      |>.put (F.SAR_REG_DONE.ix x) 0 |>.sarUp fun s => { s with
        req := upd s.req x fun _ => (ch, left), reqAt := upd s.reqAt x fun _ => d.now }, 0)

/-- The instant of the next device frame start as the increment in force brings it. -/
def Dev.nextFrameAt (d : Dev) : Nat :=
  let target := d.time.nextFrame * (2 ^ 48 / d.S) + d.phi48
  d.now + (if target ≤ d.time.phase then 0 else ceilDiv (target - d.time.phase) (max 1 (d.get F.ANG_INC)))

/-- The edge at which converter x starts the conversion asked for: the first at which it has 250 ns free before its next
conversion (R182); none before the next pass. -/
def Dev.sarRegEdge (d : Dev) (x : Nat) : Option Nat :=
  let conv := d.sar.conv.getD x []
  let from_ := anaEdge (d.sar.reqAt.getD x 0)
  let free (e : Nat) : Bool := from_ ≤ e && e + 25 ≤ passEdge d.nextFrameAt && conv.all fun c => e + 25 ≤ c.1 || c.2 ≤ e
  (from_ :: conv.map Prod.snd).foldl (fun best e =>
    if !free e then best else match best with | some b => some (min b e) | none => some e) none

/-- SAR_REG_DONE: the code of a register-mode conversion is ready, 250 ns after its start, in the format its request asked
for (R182); one that has no room before the next pass is not ready yet. (DEDUCED, log entry 144.) -/
def Dev.sarRegDone (d : Dev) (x : Nat) (uv : Int) : Dev :=
  if !d.flag (F.SAR_REG_PEND.ix x) then d else
  match d.sarRegEdge x with
  | none => d
  | some e =>
    let d := d.advanceTo (anaClk * (e + 25))
    let (ch, left) := d.sar.req.getD x (0, false)
    let code := sarCode ch uv
    let d := if sarSat ch code then d.bump F.SAR_SAT_CNT else d
    d.put (F.SAR_REG_DATA.ix x) (sarWord ch left code).toNat
      |>.put (F.SAR_REG_PEND.ix x) 0 |>.put (F.SAR_REG_DONE.ix x) 1

/-- SAR_REF: the reference is found outside its window, or back in it (Table 7-3). -/
def Dev.sarRef (d : Dev) (ok : Bool) : Dev :=
  if ok then d.put F.SAR_STATUS_REF_OK 1
  else ((d.put F.SAR_STATUS_REF_OK 0).bump F.SAR_REF_CNT).raise 0x0503

end Sys2Proof.Machine
end

