-- ==== Sys2Proof/Machine/Gsv.lean ====
section
/-! DEFINITION. Grid supervisor (chapter 12): judged quantities and boundary tables, operating states, P_LIMIT and
reactive references, islanding, the permissive, and what GSV asks of ANG and Damper. Binary64 throughout (R292). -/

namespace Sys2Proof.Machine

/-- GSV's state changed. -/
def Dev.supUp (d : Dev) (f : Gsv → Gsv) : Dev := { d with sup := f d.sup }

/-- A binary32 setting as binary64. -/
def Dev.real (d : Dev) (f : Fld) : Nat := widen (d.get f)

/-- `x + y`, `x - y` in binary64. -/
abbrev radd (x y : Nat) : Nat := f64.add x y
abbrev rsub (x y : Nat) : Nat := f64.sub x y
abbrev rmul (x y : Nat) : Nat := f64.mul x y

/-- One in binary64. -/
def r1 : Nat := 0x3FF0000000000000

/-! ## Judged quantities (R292) -/

/-- Root of the mean square of a phase over the window, in units of V_nom. (DEDUCED, log entry 125.) -/
def Dev.vphOf (d : Dev) (x : Nat) : Nat :=
  let vs := ((d.sup.hist.take (d.S / 2)).map fun l => l.getD x 0).reverse
  let sum := f64.sum (vs.map fun v => rmul v v)
  f64.div (f64.sqrt (rmul (f64.ofRat 2 d.S) sum)) (d.real F.GSV_VNOM)

/-- The judged quantities of a sample: kept where a phase channel is invalid. -/
def Dev.gsvJudge (d : Dev) : Dev :=
  let vs := d.phaseV
  let d := d.supUp fun g => { g with hist := (vs.map Prod.fst :: g.hist).take 512 }
  if !vs.all Prod.snd then d else
  let vph := (List.range 3).map d.vphOf
  let v1 := d.real F.ANG_V1
  let (lo, hi) := if d.flag F.GSV_CFG_VSEL then (v1, v1)
    else (f64.min (f64.min (vph.getD 0 0) (vph.getD 1 0)) (vph.getD 2 0), f64.max (f64.max (vph.getD 0 0) (vph.getD 1 0)) (vph.getD 2 0))
  d.supUp fun g => { g with vph := vph, vLow := lo, vHigh := hi, f := d.fMeas }

/-! ## Boundary tables (R293, R294) -/

/-- Field of entry i of table t. -/
def rtFld (f : Fld) (t i : Nat) : Fld := (f.ix t).ix i

/-- The quantity of a table. -/
def Gsv.quantity (g : Gsv) (t : Nat) : Nat := match t with | 0 => g.vLow | 1 => g.vHigh | _ => g.f

/-- An entry is beyond, given that it was or was not (R293). -/
def Dev.entryBeyond (d : Dev) (t i : Nat) (was : Bool) : Bool :=
  let q := d.sup.quantity t
  let l := d.real (rtFld F.GSV_RT_LEVEL t i)
  let h := d.real (F.GSV_RT_HYS.ix t)
  if !d.flag (rtFld F.GSV_RT_EN t i) then false
  else if t % 2 = 0 then f64.lt q l || (was && f64.lt q (radd l h))
  else f64.lt l q || (was && f64.lt (rsub l h) q)

/-- The entries of a table judged after `dt` PWM clocks: beyond mask and timers. -/
def Dev.tableStep (d : Dev) (t dt : Nat) : Nat × List Nat :=
  let old := d.sup.beyond.getD t 0
  let tm := d.sup.timer.getD t []
  let now := (List.range 16).foldl (fun m i => putBit m i (d.entryBeyond t i (old.testBit i))) 0
  (now, (List.range 16).map fun i => if now.testBit i && old.testBit i then tm.getD i 0 + dt else 0)

/-- The region of a table: the most severe among its met entries (R294). -/
def Dev.tableRegion (d : Dev) (t : Nat) : Nat :=
  (List.range 16).foldl (fun r i =>
    if (d.sup.beyond.getD t 0).testBit i && msec * d.get (rtFld F.GSV_RT_TIME t i) ≤ (d.sup.timer.getD t []).getD i 0
    then max r (d.get (rtFld F.GSV_RT_REGION t i)) else r) 0

/-- The region in force and the tables at it put in GSV_STATUS; a change is an event (R296). -/
def Dev.regionUpdate (d : Dev) : Dev :=
  let rs := (List.range 4).map d.tableRegion
  let r := rs.foldl max 0
  let tabs := (List.range 4).foldl (fun m t => putBit m t (rs.getD t 0 == r)) 0
  let old := d.get F.GSV_STATUS_REGION
  let d := (d.put F.GSV_STATUS_REGION r).put F.GSV_STATUS_TABLES tabs
  if r = old then d else d.raise 0x0302 [r, tabs]

/-- The four tables judged. -/
def Dev.tablesStep (d : Dev) (dt : Nat) : Dev :=
  let s := (List.range 4).map fun t => d.tableStep t dt
  (d.supUp fun g => { g with beyond := s.map Prod.fst, timer := s.map Prod.snd }).regionUpdate

/-! ## Contactor roles (R286 to R288) -/

/-- The output of a role, where the role is used. -/
def Dev.ctlRole (d : Dev) (en out : Fld) : Option Nat := if d.flag en then some (d.get out) else none
def Dev.rolePre (d : Dev) : Option Nat := d.ctlRole F.GSV_CTL_MAP_PRE_EN F.GSV_CTL_MAP_PRE
def Dev.roleDc (d : Dev) : Option Nat := d.ctlRole F.GSV_CTL_MAP_DC_EN F.GSV_CTL_MAP_DC
def Dev.roleAc (d : Dev) : Option Nat := d.ctlRole F.GSV_CTL_MAP_AC_EN F.GSV_CTL_MAP_AC

/-- A role closed or opened (R545). -/
def Dev.roleSet (d : Dev) (k : Option Nat) (close : Bool) : Dev :=
  match k with
  | none => d
  | some k => if close then d.ctlClose k else d.ctlOpen k

/-- What feedback says of a role: none where the output is not supervised. -/
def Dev.roleFb (d : Dev) (k : Option Nat) : Option Bool :=
  match k with
  | none => none
  | some k => if d.flag (F.DMP_CTL_FB_EN.ix k) then some (d.ctlFb k) else none

/-- A role's contactor is closed, by feedback where supervised and by CTL_OUT otherwise (Table 12-1). -/
def Dev.roleClosed (d : Dev) (k : Option Nat) : Bool :=
  match k with
  | none => false
  | some j => (d.roleFb k).getD (d.dmp.ctlOut.testBit j)

/-! ## States (R281 to R291, R298) -/

/-- The READY conditions (R283, R516). -/
def Dev.readyOk (d : Dev) : Bool :=
  d.flag F.GSV_CFG_EN && d.fbx.active.isSome && d.angLock == 0 && d.latched == 0 && !d.dmp.lockout && !d.service

/-- The cessation hold asserted at once, or due for release at the next frame start (R282). -/
def Dev.setHold (d : Dev) (on : Bool) : Dev :=
  if on then ((d.supUp fun g => { g with release := false }).put F.GSV_STATUS_HOLD 1).holdUpdate
  else if d.flag F.GSV_STATUS_HOLD then d.supUp fun g => { g with release := true } else d

/-- States in which regions act (R296). -/
def Dev.acting (d : Dev) : Bool := (4 ≤ d.gsv && d.gsv ≤ 6) || (d.gsv == 3 && d.sup.closeAt.isSome)

/-- A state entered (Tables 12-2 and 12-3): what it holds, its contactors, its ramps and timers. (DEDUCED, log entry 30.) -/
def Dev.gsvEnter (d : Dev) (new : Nat) : Dev :=
  let old := d.gsv
  let d := ((d.put F.GSV_STATUS_STATE new).raise 0x0301 [old, new])
  let d := if d.bitIn F.CAP_GSV new then { d with cap := { d.cap with happened := setBit d.cap.happened (8 + new) } } else d
  let d := d.supUp fun g => { g with enterAt := d.now }
  let running := 4 ≤ new && new ≤ 6
  let d := if running then d else (d.put F.GSV_STATUS_STOP_PEND 0).supUp fun g => { g with stopAt := none }
  let d := if new = 6 then (d.bump F.GSV_CEASE_CNT).supUp fun g => { g with pmem := g.plim, plim := 0 }
    else if old = 6 && running then d.supUp fun g => { g with restore := true }
    else if new = 4 && old = 3 then d.supUp fun g => { g with plim := 0, restore := false }
    else if running then d else d.supUp fun g => { g with plim := 0 }
  let d := d.setHold (!(3 ≤ new && new ≤ 5) || d.sup.stopAt.isSome)
  let d := if new ≤ 1 || 7 ≤ new then ((d.roleSet d.rolePre false).roleSet d.roleDc false).roleSet d.roleAc false else d
  if new = 7 then ((d.supUp fun g => { g with prior := old, rts := 0 }).put F.GSV_RTS_TMR 0).put F.GSV_STATUS_RTS_OK 0
  else if new = 2 then (d.supUp fun g => { g with step := 0, preFail := false }).roleSet d.rolePre true
  else if new = 3 then d.supUp fun g => { g with closeAt := none }
  else d

/-- The effect of the region in force in RUN, RIDE and CEASE: 4 RUN, 5 RIDE, 6 CEASE, 0 no target (Table 12-4).
(DEDUCED, log entry 45.) -/
def Dev.regionTarget (d : Dev) : Nat :=
  let r := d.get F.GSV_STATUS_REGION
  let r := if r = 4 && !d.flag F.GSV_CFG_MAYTRIP then 2 else r
  match r with
  | 0 => 4
  | 1 => 5
  | 2 => if d.flag F.GSV_CFG_PERM_REG then 6 else 5
  | 3 => 6
  | _ => 0

/-- VDC in volts (R286). -/
def Dev.vdcNow (d : Dev) : Nat :=
  let idx := d.get F.GSV_VDC_SRC_IDX
  let kind := d.get F.GSV_VDC_SRC_KIND
  let raw : Nat :=
    if kind = 0 then widen (d.f2 idx).1
    else
      let x := kind - 1
      let w := Mem.rd d.sar.published (64 * x + idx)
      let signed := (List.range (d.sarLen x)).any fun i => d.sarDest x i == idx && sarDiff (d.sarCh x i)
      f64.ofInt (if signed then w.toInt else w.toNat)
  rmul raw (d.real F.GSV_VDC_GAIN)

/-- The AC breaker that SYNC has commanded closed is confirmed closed (R287). -/
def Dev.breakerClosed (d : Dev) : Bool :=
  match d.sup.closeAt with
  | none => false
  | some t => (d.roleFb d.roleAc).getD (decide (t + msec * d.get F.GSV_CLOSE_T_AC_T ≤ d.now))

/-- PRECHARGE and SYNC (Table 12-3, R286, R287): a lost lock or an exceeded SYNC_TIME ends the start; a confirmed breaker goes
before a pending STOP (R284). The numbers of the causes are the model's. (DESIGN CHOICE, log entry 39.) -/
def Dev.gsvStarting (d : Dev) : Dev :=
  let sync := d.get F.GSV_SEQ_T_SYNC_TIME
  let cause := if d.angLock != 0 then 2
    else if d.gsv = 3 && sync != 0 && d.sup.enterAt + second * sync ≤ d.now then 3
    else if d.gsv = 3 && d.breakerClosed then 0
    else if d.sup.cmd = 2 then 1 else 0
  if cause != 0 then (d.raise 0x030C [cause]).gsvEnter 1
  else if d.gsv = 2 then
    if d.sup.step = 0 then
      if !f64.le (d.real F.GSV_PRE_V) d.vdcNow then d else
      let d := d.roleSet d.roleDc true
      if d.rolePre.isNone && d.roleDc.isNone then d.gsvEnter 3
      else
        let d := d.supUp fun g => { g with step := 1, stepAt := d.now }
        if d.get F.GSV_CLOSE_T_DC_T = 0 then (d.roleSet d.rolePre false).gsvEnter 3 else d
    else if d.sup.stepAt + msec * d.get F.GSV_CLOSE_T_DC_T ≤ d.now then (d.roleSet d.rolePre false).gsvEnter 3
    else d
  else
    match d.sup.closeAt with
    | none =>
      if d.angLock = 0 && d.flag F.GSV_STATUS_RTS_OK then
        (d.roleSet d.roleAc true).supUp fun g => { g with closeAt := some d.now }
      else d
    | some _ => if d.breakerClosed then d.gsvEnter 4 else d

/-- The stop sequence once P_LIMIT is zero, or at once in CEASE (R288). -/
def Dev.gsvStopping (d : Dev) : Dev :=
  let d := match d.sup.stopAt with
    | some _ => d
    | none => ((d.supUp fun g => { g with stopAt := some d.now }).setHold true).roleSet d.roleAc false
  let open_ := match d.roleFb d.roleAc with
    | some c => !c
    | none => decide (d.sup.stopAt.getD d.now + msec * d.get F.GSV_CLOSE_T_AC_T ≤ d.now)
  if open_ then (d.roleSet d.roleDc false).gsvEnter 1 else d

/-- RUN, RIDE and CEASE (Table 12-3, R284, R288, R291): the region first, then the stop that is pending. -/
def Dev.gsvRunning (d : Dev) : Dev :=
  let d := if d.sup.cmd = 2 then d.put F.GSV_STATUS_STOP_PEND 1 else d
  let st := d.gsv
  let pend := d.flag F.GSV_STATUS_STOP_PEND
  let tgt := if d.sup.permitCease then 6 else d.regionTarget
  if st = 6 && tgt != 6 && d.angLock = 0 then d.gsvEnter (if tgt = 0 then 4 else tgt)
  else if st != 6 && tgt = 6 then d.gsvEnter 6
  else if tgt = 5 && st = 4 then d.gsvEnter 5
  else if tgt = 4 && st = 5 then d.gsvEnter 4
  else if pend && (st = 6 || f64.le d.sup.plim 0 || d.sup.stopAt.isSome) then d.gsvStopping
  else d

/-- The first of R284's causes that applies at this instant. -/
def Dev.gsvNext (d : Dev) : Dev :=
  let st := d.gsv
  if d.dmp.lockout then (if st = 8 then d else d.gsvEnter 8)
  else if d.latched != 0 then (if st = 7 then d else d.gsvEnter 7)
  else if st = 8 then d.gsvEnter 0
  else
    let ok := d.readyOk
    match st with
    | 7 =>
      if d.flag F.GSV_CFG_AUTO_RS && d.dmp.onlyB && 3 ≤ d.sup.prior && d.sup.prior ≤ 6 && ok then d.gsvEnter 2
      else d.gsvEnter (if ok then 1 else 0)
    | 0 => if ok then d.gsvEnter 1 else d
    | 1 => if !ok then d.gsvEnter 0 else if d.sup.cmd = 1 then d.gsvEnter 2 else d
    | 2 => d.gsvStarting
    | 3 => d.gsvStarting
    | _ => d.gsvRunning

/-- The trip events of the region in force where it comes into force (R295, R296). -/
def Dev.gsvTrips (d : Dev) (acting : Bool) : Dev :=
  let r := d.get F.GSV_STATUS_REGION
  let trip := r = 5 || (r = 4 && d.flag F.GSV_CFG_MAYTRIP)
  if !acting || !trip then d.supUp fun g => { g with tripReg := none }
  else if d.sup.tripReg == some r then d
  else
    let d := d.supUp fun g => { g with tripReg := some r }
    if r = 4 then d.raise 0x0307
    else (bitList 4 (d.get F.GSV_STATUS_TABLES)).foldl (fun d t => d.raise (0x0303 + t)) d

/-- The return-to-service window timer (R287). -/
def Dev.gsvWindow (d : Dev) (dt : Nat) : Dev :=
  let g := d.sup
  let f := d.fMeas
  let ok := f64.le (d.real F.GSV_RTS_VLO) g.vLow && f64.le g.vHigh (d.real F.GSV_RTS_VHI)
    && f64.le (rsub d.fNom64 (d.real F.GSV_RTS_DFLO)) f && f64.le f (radd d.fNom64 (d.real F.GSV_RTS_DFHI))
  let d := d.supUp fun g => { g with rts := if ok then g.rts + dt else 0 }
  (d.put F.GSV_RTS_TMR (sat32 (d.sup.rts / msec))).putB F.GSV_STATUS_RTS_OK (second * d.get F.GSV_RTS_T_DELAY ≤ d.sup.rts)

/-- P_LIMIT's ramps after `dt` (R298). -/
def Dev.gsvRamp (d : Dev) (dt : Nat) : Dev :=
  let g := d.sup
  let s := clkSec dt
  if d.gsv != 4 && d.gsv != 5 then d.supUp fun g => { g with plim := 0 }
  else if d.flag F.GSV_STATUS_STOP_PEND then
    d.supUp fun g => { g with plim := f64.max 0 (rsub g.plim (rmul (d.real F.GSV_STOP_RAMP) s)) }
  else if g.restore then
    let p := f64.min g.pmem (radd g.plim (rmul (d.real F.GSV_RESTORE_RAMP) s))
    d.supUp fun g => { g with plim := p, restore := f64.lt p g.pmem }
  else d.supUp fun g => { g with plim := f64.min r1 (radd g.plim (rmul (d.real F.GSV_RTS_RAMP) s)) }

/-- The snap request of R304. -/
def Dev.gsvSnapRequest (d : Dev) : Dev :=
  let l := d.angLock
  let ask := l == 1 && d.sup.lockPrev != 1 && d.angSrc == 0 && d.gsv != 4 && d.gsv != 5
    && (d.flag F.GSV_STATUS_HOLD || (d.gsv == 3 && d.sup.closeAt.isNone))
  let d := d.supUp fun g => { g with lockPrev := l }
  if ask then (d.raise 0x030D).requestSnap else d

/-- Reactive references of RIDE (R297). -/
def Dev.gsvReactive (d : Dev) : Dev :=
  if d.gsv != 5 then d.supUp fun g => { g with iq := 0, iq2 := 0 } else
  let v1 := d.real F.ANG_V1
  let db := d.real F.GSV_DRC_DB
  let k := d.real F.GSV_DRC_K
  let mx := d.real F.GSV_DRC_IQMAX
  let lo := rsub r1 db
  let hi := radd r1 db
  let iq := if f64.lt v1 lo then f64.min (rmul k (rsub lo v1)) mx
    else if f64.lt hi v1 then f64.max (rmul (f64.neg k) (rsub (rsub v1 r1) db)) (f64.neg mx) else 0
  d.supUp fun g => { g with iq := iq, iq2 := f64.min (rmul (d.real F.GSV_DRC_K2) (d.real F.ANG_V2)) (d.real F.GSV_DRC_I2MAX) }

/-! ## Islanding (R300, R301) -/

/-- One detector's condition, with its bit of GSV_ISL_CFG. -/
def Dev.islHolds (d : Dev) : Nat :=
  let g := d.sup
  let c := [g.dfClk.any fun t => msec * d.get F.GSV_ISL_TF_TF ≤ t, d.get F.GSV_ISL_CFG_RC_N ≤ g.rcRun && g.rcRun != 0,
    d.get F.GSV_ISL_CFG_VS_N ≤ g.vsRun && g.vsRun != 0, d.get F.GSV_ISL_CFG_THD_N ≤ g.thdRun && g.thdRun != 0]
  (List.range 4).foldl (fun m i => if c.getD i false && d.bitIn F.GSV_ISL_CFG_EN i then setBit m i else m) 0

/-- Conditions that begin to hold raise GSV_ISLAND. (DEDUCED, log entry 59.) -/
def Dev.islJudge (d : Dev) : Dev :=
  let h := d.islHolds
  let new := andNot h (d.get F.GSV_ISL_STAT_HOLD)
  let d := d.put F.GSV_ISL_STAT_HOLD h
  if new = 0 then d else (d.bump F.GSV_ISL_CNT).raise 0x0308 [h]

/-- The harmonic detector takes a newly latched snapshot. -/
def Dev.islHarmonic (d : Dev) : Dev :=
  let c := d.snapCyc
  if c = d.sup.thdCyc then d else
  let h := ((List.range 3).map fun x => widen (d.met.snap.nodes.getD (0x17 + x) 0).toNat).foldl f64.max 0
  let mean := f64.div (f64.sum (d.sup.thdHist.take 16)) (f64.ofInt 16)
  let base := if d.sup.thdRun = 0 then mean else d.sup.thdBase
  let rise := 16 ≤ d.sup.thdHist.length && f64.lt (d.real F.GSV_ISL_THD) (rsub h base)
  d.supUp fun g => { g with
    thdCyc := c, thdHist := (h :: g.thdHist).take 48, thdBase := base
    thdRun := if rise && d.gsv = 4 then min 255 (g.thdRun + 1) else 0 }

/-- The passive detectors at a sample (R300) and the bias β (R301). -/
def Dev.gsvIslanding (d : Dev) (dt : Nat) : Dev :=
  let d := d.islHarmonic
  let run := d.gsv = 4
  let df := f64.abs (rsub d.fMeas d.fNom64)
  let far := run && f64.lt (d.real F.GSV_ISL_DF) df
  let shift := run && decide (d.get F.GSV_ISL_VS < (sext 32 (d.get F.ANG_PHJ)).natAbs)
  let d := d.supUp fun g => { g with
    dfClk := if far then some (match g.dfClk with | some t => t + dt | none => 0) else none
    vsRun := if shift then min 255 (g.vsRun + 1) else 0
    rcRun := if run then g.rcRun else 0, thdRun := if run then g.thdRun else 0 }
  let d := d.islJudge
  let ai := run && d.bitIn F.GSV_ISL_CFG_EN 4
  let own : Int := f64.round (rmul (radd (d.real F.GSV_ISL_B0) (rmul (d.real F.GSV_ISL_KB) (rsub d.fMeas d.fNom64)))
    (f64.ofRat (2 ^ 32 : Nat) 360))
  let β : Int := if d.angSrc = 2 then d.sup.rxBias else if ai && d.angSrc = 0 then own else 0
  d.angUp fun a => { a with bias := β }

/-- The ROCOF detector at a line-cycle boundary (R300). -/
def Dev.gsvBoundary (d : Dev) : Dev :=
  let far := d.gsv = 4 && f64.lt (d.real F.GSV_ISL_ROCOF) (f64.abs (d.real F.ANG_ROCOF))
  d.supUp fun g => { g with rcRun := if far then min 255 (g.rcRun + 1) else 0 }

/-! ## Permissive (R303) -/

/-- PERMIT_OK judged from the context's present value. -/
def Dev.gsvPermit (d : Dev) (ok : Bool) : Dev :=
  if !d.flag F.GSV_PERMIT_EN then (d.put F.GSV_STATUS_PERMIT_OK 0).supUp fun g => { g with permitCease := false } else
  let was := d.flag F.GSV_STATUS_PERMIT_OK
  let d := d.putB F.GSV_STATUS_PERMIT_OK ok
  let d := if ok && !was then d.supUp fun g => { g with permitSince := d.now } else d
  let d := if ok && d.sup.permitSince + msec * d.get F.GSV_PERMIT_RET ≤ d.now then d.supUp fun g => { g with permitCease := false } else d
  if ok || !was then d else
  let d := d.raise 0x0309
  match d.get F.GSV_PERMIT_ACT with
  | 0 => d
  | 1 => d.supUp fun g => { g with permitCease := true }
  | 2 => d.raise 0x030A
  | _ => if 4 ≤ d.gsv && d.gsv ≤ 6 then d.put F.GSV_STATUS_STOP_PEND 1 else d

/-! ## The sample instant -/

/-- PRE_TIME has passed without VDC at PRE_V (R286). -/
def Dev.prechargeFail (d : Dev) : Dev :=
  if d.gsv = 2 && d.sup.step = 0 && !d.sup.preFail && d.sup.enterAt + msec * d.get F.GSV_SEQ_T_PRE_TIME ≤ d.now
    && !f64.le (d.real F.GSV_PRE_V) d.vdcNow then
    (d.supUp fun g => { g with preFail := true }).raise 0x030B
  else d

/-- The transitions of one instant: the first cause that applies, and the trips of a region that begins to act. A STOP that
entry into RUN goes before is still pending. -/
def Dev.gsvDecide (d : Dev) : Dev :=
  let acting := d.acting
  let was := d.gsv
  let d := d.gsvNext
  let d := if was = 3 && d.gsv = 4 && d.sup.cmd = 2 then d else d.supUp fun g => { g with cmd := 0 }
  if d.acting && !acting then
    let d := d.gsvTrips true
    if d.dmp.lockout && d.gsv != 8 then d.gsvEnter 8 else if d.latched != 0 && d.gsv < 7 then d.gsvEnter 7 else d
  else d

/-- GSV at a common-angle sample instant (R280); `permit` is the permissive context's value. -/
def Dev.gsvSample (d : Dev) (permit : Bool) : Dev :=
  let dt := d.now - d.sup.sampleAt.getD d.now
  let d := (d.supUp fun g => { g with sampleAt := some d.now }).gsvJudge
  let d := (d.tablesStep dt).put F.GSV_VDC (narrow d.vdcNow)
  let d := ((d.gsvWindow dt).gsvSnapRequest).gsvPermit permit
  let d := ((d.gsvTrips d.acting).gsvIslanding dt).prechargeFail
  let d := ((d.gsvRamp dt).gsvDecide).gsvReactive
  d.put F.GSV_PLIM (narrow d.sup.plim)

/-! ## Frame start -/

/-- The hold is deasserted at the frame start that latches the new state (R282). -/
def Dev.gsvFrame (d : Dev) : Dev :=
  if d.sup.release then ((d.supUp fun g => { g with release := false }).put F.GSV_STATUS_HOLD 0).holdUpdate else d

/-- The bank of the state (Table 12-2): FORM in place of NORMAL while SEL is FORM. -/
def Dev.gsvBank (d : Dev) : Nat :=
  match d.gsv with
  | 3 => if d.get F.ANG_SRC_SEL = 1 then 3 else 0
  | 4 => if d.get F.ANG_SRC_SEL = 1 then 3 else 0
  | 5 => 1
  | _ => 2

/-- Nodes 0x0010 to 0x001D (Table 12-1). -/
def Dev.gsvNodes (d : Dev) : List (Nat × Word) :=
  let w (x : Nat) : Word := BitVec.ofNat 32 (narrow x)
  let b (v : Bool) (k : Nat) : Nat := if v then 2 ^ k else 0
  let flags := b (d.flag F.GSV_STATUS_HOLD) 0 + b (d.flag F.GSV_STATUS_PERMIT_OK) 1 + b (d.flag F.GSV_STATUS_RTS_OK) 2
    + b (d.flag F.GSV_STATUS_STOP_PEND) 3 + b (d.roleClosed d.roleAc) 4 + b (d.roleClosed d.roleDc) 5
  [(0x10, BitVec.ofNat 32 d.gsv), (0x11, BitVec.ofNat 32 d.gsvBank),
   (0x12, BitVec.ofNat 32 (d.get F.GSV_STATUS_REGION + 16 * d.get F.GSV_STATUS_TABLES)),
   (0x13, w d.sup.plim), (0x14, w d.sup.iq), (0x15, w d.sup.iq2), (0x16, w d.sup.vLow), (0x17, w d.sup.vHigh),
   (0x18, w (d.sup.vph.getD 0 0)), (0x19, w (d.sup.vph.getD 1 0)), (0x1A, w (d.sup.vph.getD 2 0)),
   (0x1B, BitVec.ofInt 32 (clampI d.ang.bias (d.get F.ANG_BIAS_MAX_BMAX))), (0x1C, BitVec.ofNat 32 flags),
   (0x1D, d.word F.GSV_VDC.addr)]

/-! ## Commands and expiries -/

/-- STATE_REQUEST's acceptance (R285): none accepted with no effect or refused; `some` the request to act. -/
def Dev.startRefused (d : Dev) : Bool :=
  d.gsv != 1 || (d.flag F.GSV_PERMIT_EN && d.get F.GSV_PERMIT_ACT != 0 && !d.flag F.GSV_STATUS_PERMIT_OK)

/-- LOCKOUT_RESET in LOCKOUT (R290): the count is cleared, and GSV leaves LOCKOUT at the next sample instant, at which it
evaluates (R280). -/
def Dev.lockoutReset (d : Dev) : Dev :=
  let d := (d.dmpUp fun x => { x with lockTimes := [], lockout := false }).put F.DMP_LOCKOUT_CNT_CNT 0
  d.raise 0x030E

/-- GSV_PRECH_FAIL, PRECHARGE_DC_T, BREAKER_AC_T, SYNC_TIME_EXPIRED: a time of the start or stop sequence runs out. What GSV
makes of it comes at the first common-angle sample instant not before it (R280, R545). (DEDUCED, log entry 148.) -/
def Dev.prechTimeEnd (d : Dev) : Dev :=
  if d.gsv != 2 || d.sup.step != 0 || d.sup.preFail then d
  else d.advanceTo (d.sup.enterAt + msec * d.get F.GSV_SEQ_T_PRE_TIME)
def Dev.dcTimeEnd (d : Dev) : Dev :=
  if d.gsv != 2 || d.sup.step != 1 then d else d.advanceTo (d.sup.stepAt + msec * d.get F.GSV_CLOSE_T_DC_T)
def Dev.acTimeEnd (d : Dev) : Dev :=
  let t := msec * d.get F.GSV_CLOSE_T_AC_T
  match (if d.gsv = 3 then d.sup.closeAt else d.sup.stopAt) with | some c => d.advanceTo (c + t) | none => d
def Dev.syncTimeEnd (d : Dev) : Dev :=
  let s := d.get F.GSV_SEQ_T_SYNC_TIME
  if d.gsv != 3 || s = 0 then d else d.advanceTo (d.sup.enterAt + second * s)

/-- An activated package's settings come into force at a sample instant, outside RIDE and CEASE; the tables judge afresh what
of them has changed (R299). (DEDUCED, log entry 124.) -/
def Dev.gsvAdopt (d : Dev) : Dev :=
  match d.sup.pend with
  | none => d
  | some ws =>
    if d.gsv = 5 || d.gsv = 6 then d else
    let new := ws.foldl (fun d (a, w) => d.setWord a w) d
    let changed (t : Nat) : Bool :=
      d.word (F.GSV_RT_HYS.ix t).addr != new.word (F.GSV_RT_HYS.ix t).addr
        || (List.range 16).any fun i => d.word (rtFld F.GSV_RT_LEVEL t i).addr != new.word (rtFld F.GSV_RT_LEVEL t i).addr
            || d.word (rtFld F.GSV_RT_TIME t i).addr != new.word (rtFld F.GSV_RT_TIME t i).addr
    let d := (new.supUp fun g => { g with
      pend := none
      beyond := (List.range 4).map fun t => if changed t then 0 else g.beyond.getD t 0
      timer := (List.range 4).map fun t => if changed t then List.replicate 16 0 else g.timer.getD t [] })
    d.raise 0x030F [d.pkgVersion]

/-- GSV_SETTINGS_ADOPT: at the sample instant that is now, where the activation comes after its evaluation; the region is
judged again at it. -/
def Dev.gsvSettings (d : Dev) : Dev :=
  if d.sup.pend.isNone || d.sup.sampleAt != some d.now || d.gsv = 5 || d.gsv = 6 then d else d.gsvAdopt.tablesStep 0

end Sys2Proof.Machine
end

