-- ==== Sys2Proof/Machine/Gdr.lean ====
section
/-! DEFINITION. Integrated gate drivers (chapter 13): drive words, high-side supplies, short circuit and
overcurrent, retry and latch. -/

namespace Sys2Proof.Machine

/-! ## What Draught commands (R325 to R327) -/

/-- A channel. -/
def Dev.ch (d : Dev) (c : Nat) : DrtCh := d.drt.getD c {}

/-- A channel changed. -/
def Dev.chUp (d : Dev) (c : Nat) (f : DrtCh → DrtCh) : Dev := { d with drt := upd d.drt c f }

/-- State of a channel (Table 14-2). -/
def Dev.drtState (d : Dev) (c : Nat) : Nat := d.get (F.DRT_STAT_STATE.ix c)

/-- A field of the configuration in force (R344): the copy taken at the last update or state change. -/
def Dev.drtCfg (d : Dev) (c : Nat) (f : Fld) : Nat :=
  wbits ((d.ch c).cfg.getD (f.addr % 128 / 4) (d.word (f.ix c).addr)) f.hi f.lo

/-- An f32 setting in force, as binary64. -/
def Dev.drtReal (d : Dev) (c : Nat) (f : Fld) : Nat := widen (d.drtCfg c f)

/-- PER, DT and TSETTLE of the period in progress. -/
def DrtCh.per (x : DrtCh) : Nat := wbits x.pwm 12 0
def DrtCh.settle (x : DrtCh) : Nat := wbits x.pwm 31 24
def DrtCh.dead (x : DrtCh) : Nat := wbits x.pwm 23 16

/-- Table 14-1: high leg, low leg, floating leg of a sector, and the sense expected for DIR = 0 (true rising). -/
def sectorLegs (s : Nat) : Nat × Nat × Nat × Bool :=
  [(0, 1, 2, false), (0, 2, 1, true), (1, 2, 0, false), (1, 0, 2, true), (2, 0, 1, false), (2, 1, 0, true)].getD s (0, 1, 2, false)

/-- The on time of the chopped high side in the PWM period in progress, ANA clocks (R326). -/
def DrtCh.onClocks (x : DrtCh) : Nat :=
  if f64.le r1 x.d then x.per else min x.per (f64.round (rmul x.d (f64.ofInt x.per))).toNat

/-- When the chopped high side of the period in progress is commanded off: the end of its on time, or the current limit
(R326, R333). At a duty of 1 it stays on to the period's end. -/
def DrtCh.highOff (x : DrtCh) : Nat :=
  let t := x.perAt + anaClk * x.onClocks
  match x.limAt with
  | some l => min t l
  | none => t

/-- The synchronous low side of the chopped leg: on from DT after the high side goes off to DT before the next period
begins; nothing where no time is left between (R326). (DEDUCED, log entry 149.) -/
def DrtCh.syncLow (x : DrtCh) : Option (Nat × Nat) :=
  let from_ := x.highOff + anaClk * x.dead
  if from_ + anaClk * x.dead < x.perEnd then some (from_, x.perEnd - anaClk * x.dead) else none

/-- The gates a channel commands at an instant of its PWM period: bit 2l the high side of leg l, bit 2l + 1 the low side
(Tables 13-1 and 14-2). -/
def Dev.drtGates (d : Dev) (c t : Nat) : Nat :=
  let x := d.ch c
  match d.drtState c with
  | 2 => if x.limAt.any (· ≤ t) then 0 else 0x2A
  | 3 | 4 | 5 =>
    let (h, l, _, _) := sectorLegs (d.get (F.DRT_STAT_SECTOR.ix c))
    let high := if t < x.highOff then 2 ^ (2 * h) else 0
    let rec_ := d.drtCfg c F.DRT_CFG_SYNC_REC == 1 && x.syncLow.any fun (a, b) => a ≤ t && t < b
    high + 2 ^ (2 * l + 1) + (if rec_ then 2 ^ (2 * h + 1) else 0)
  | _ => 0

/-- The instants of a PWM period at which a channel's gates change, rising. -/
def DrtCh.edges (x : DrtCh) : List Nat :=
  [x.perAt, x.highOff] ++ (match x.syncLow with | some (a, b) => [a, b] | none => [])

/-! ## Bridges and their gates -/

/-- A bridge. -/
def Dev.bridge (d : Dev) (b : Nat) : Bridge := d.gdr.br.getD b {}

/-- A bridge changed. -/
def Dev.bridgeUp (d : Dev) (b : Nat) (f : Bridge → Bridge) : Dev := { d with gdr := { d.gdr with br := upd d.gdr.br b f } }

/-- Kindling has ended (R366). -/
def Dev.kindled (d : Dev) : Bool := d.get F.CPR_STATUS_STEP == 13

/-- The high-side source in force (Table 13-2): 1 external, 2 bootstrap. -/
def Dev.hsSource (d : Dev) (b : Nat) : Nat :=
  match d.get (F.GDR_CFG_HS_SRC.ix b) with
  | 0 => if d.kindled then 2 else 1
  | n => n

/-- Legs of a bridge in lockout (R312). -/
def Dev.lockedOut (d : Dev) (b : Nat) : Nat :=
  let x := d.bridge b
  if x.extLow && d.hsSource b == 1 then 7 else x.low

/-- The bridge's gates are held off whatever the words say (R310, R314, R315, R320, R321, R33). -/
def Dev.bridgeHeld (d : Dev) (b : Nat) : Bool :=
  let x := d.bridge b
  x.wait.isSome || x.latched || x.wire || d.gdr.linkHold || d.gdr.vdrvLow

/-- New gate commands at an instant: when gates were commanded off, and when low sides turn on at the ball, 50 ns after
the other gate of the leg was commanded off at the earliest (R309). -/
def Bridge.command (x : Bridge) (t cmd : Nat) : Bridge :=
  let off := (List.range 6).map fun g => if x.cmd.testBit g && !cmd.testBit g then t else x.offAt.getD g 0
  { x with
    cmd := cmd
    offAt := off
    lowOn := (List.range 3).map fun l =>
      if !x.cmd.testBit (2 * l + 1) && cmd.testBit (2 * l + 1) then some (max t (off.getD (2 * l) 0 + 25)) else x.lowOn.getD l none }

/-- The drivers have taken every drive word sent before an instant, one in each ANA clock (R307): the gates follow what
Draught commands. Words arrive whole but for those a DRIVE_WORD spoils. (DESIGN CHOICE, log entry 66.) -/
def Dev.wordsTo (d : Dev) (b t : Nat) : Dev :=
  let x := d.bridge b
  let from_ := anaClk * x.upTo
  if t ≤ from_ then d else
  let ts := from_ :: (d.ch b).edges.filter fun e => from_ < e && e < t
  d.bridgeUp b fun x => { ts.foldl (fun x e => x.command e (d.drtGates b e)) x with upTo := anaEdge t }

/-- The refresh of a leg in the PWM period in progress, at an instant (R313): the high side is held off for 400 ns, and
the low side is on from 50 ns to 350 ns. -/
def Dev.refreshing (d : Dev) (b l t : Nat) : Option Bool :=
  let at_ := (d.ch b).perAt
  if (d.bridge b).refresh.testBit l && at_ ≤ t && t < at_ + 200 then some (at_ + 25 ≤ t && t < at_ + 175) else none

/-- The level of a gate at its ball at the present instant (R309, R313): commanded on by the word in force, not held, its
high side not in lockout, and 50 ns after the other gate of its leg was commanded off; in a refresh as the refresh has
it. -/
def Dev.gateOn (d : Dev) (b g : Nat) : Bool :=
  let e := d.wordsTo b (d.now + 1)
  let x := e.bridge b
  !d.bridgeHeld b && !(g % 2 == 0 && (d.lockedOut b).testBit (g / 2)) &&
    match d.refreshing b (g / 2) d.now with
    | some low => g % 2 == 1 && low
    | none => x.cmd.testBit g && x.offAt.getD (g ^^^ 1) 0 + 25 ≤ d.now

/-- The gates of a bridge now on. -/
def Dev.gatesOn (d : Dev) (b : Nat) : Nat := (List.range 6).foldl (fun m g => if d.gateOn b g then setBit m g else m) 0

/-- All six gates are commanded off now, whatever the word in force says. -/
def Dev.gatesOff (d : Dev) (b : Nat) : Dev :=
  let d := d.wordsTo b (d.now + 1)
  d.bridgeUp b fun x => x.command d.now 0

/-- A bridge is in fault. -/
def Bridge.faulted (x : Bridge) : Bool := x.wait.isSome || x.latched

/-- A detection now joins the fault of the bridge (R319). -/
def Dev.joinsFault (d : Dev) (b : Nat) : Bool := (d.bridge b).faulted && decide (d.now < (d.bridge b).joinTo)

/-- A bridge enters fault with the leg of its first detection (R318, R320): off, softly where asked; it waits, or latches
when its tries are exhausted. The fault wire asserts toward Damper (source 84 + b). A bridge already held by a fault
joins nothing (R321). -/
def Dev.bridgeFault (d : Dev) (b legs : Nat) (soft : Bool) : Dev :=
  let x := d.bridge b
  if x.faulted then d else
  let on := d.gatesOn b
  let latch := d.get (F.GDR_RETRY_N.ix b) ≤ d.get (F.GDR_STATUS_TRIES.ix b)
  let d := d.gatesOff b
  let d := d.bridgeUp b fun x => { x with
    soft := if soft then some (d.now + 250 * (d.get (F.GDR_CFG_SOFT_T.ix b) + 1), on) else x.soft
    wait := if latch then none else some (d.now + 10 * msec * (d.get (F.GDR_RETRY_WAIT.ix b) + 1))
    latched := latch
    joinTo := (d.ch b).perEnd
    scLegs := 0
    ocLegs := 0
    uvLegs := 0
    raised := 0
    driveSince := none }
  let d := d.sourceAssert (84 + b)
  if latch then d.raise 0x0906 [b, legs] else d

/-- A cause's event, once per fault (R319); outside a fault's joining time each time. -/
def Dev.causeEvent (d : Dev) (b cause ev legs : Nat) : Dev :=
  if (d.bridge b).raised.testBit cause then d
  else (d.bridgeUp b fun x => { x with raised := setBit x.raised cause }).raise ev [b, legs]

/-! ## Drive words (R307 to R309) -/

/-- CRC-4, polynomial x^4 + x + 1, initial value 0, over `n` bits, most significant first (Table 13-1). -/
def crc4 (v : Nat) : Nat → Nat → Nat
  | 0, c => c
  | n + 1, c =>
    let c2 := 2 * c % 16
    crc4 v n (if (c / 8 % 2 == 1) != v.testBit n then c2 ^^^ 3 else c2)

/-- A GATE field without the legs whose two gates it commands on, and those legs. -/
def splitGates (g : Nat) : Nat × Nat :=
  (List.range 3).foldl (fun (m, x) l =>
    if g.testBit (2 * l) && g.testBit (2 * l + 1) then (clrBit (clrBit m (2 * l)) (2 * l + 1), setBit x l) else (m, x)) (g, 0)

/-- The drive word that Draught sends in an ANA clock: GATE, SEQ that counts the clocks, CRC (Table 13-1). -/
def Dev.drtWord (d : Dev) (b k : Nat) : Nat :=
  let v := d.drtGates b (anaClk * k) + 256 * (k % 16)
  v + 4096 * crc4 v 12 0

/-- The drivers take a word whose CRC is good and whose SEQ follows (R308). -/
def wordGood (w k : Nat) : Bool := crc4 (w % 4096) 12 0 == w / 4096 % 16 && w / 256 % 16 == k % 16

/-- DRIVE_WORD: the next ANA clock's word reaches a bridge's drivers, with the bits of `err` changed on the link (R307,
R308). (DESIGN CHOICE, log entry 66.) -/
def Dev.driveWord (d : Dev) (b err : Nat) : Dev :=
  let k := max (anaEdge d.now) (d.bridge b).upTo
  let d := (d.advanceTo (anaClk * k)).wordsTo b (anaClk * k)
  let w := d.drtWord b k ^^^ err
  let x := d.bridge b
  let d := d.bridgeUp b fun x => { x with upTo := k + 1 }
  if wordGood w k then
    let (gates, both) := splitGates (w % 64)
    let d := d.bridgeUp b fun x => { x.command d.now gates with bad := 0 }
    if both = 0 then d else d.raise 0x0908 [b, both]
  else
    let d := d.bump F.GDR_LINK_CNT
    let n := if x.badAt.any (· + 1 = k) then x.bad + 1 else 1
    let d := d.bridgeUp b fun y => { y with bad := n % 3, badAt := some k }
    if n < 3 then d
    else if (d.bridge b).faulted && !d.joinsFault b then d
    else ((d.bridgeFault b 0 false).put (F.GDR_FAULT_LINK.ix b) 1).causeEvent b 3 0x0907 0

/-! ## Supplies (R312 to R315) -/

/-- HS_WARNING_ASSERT: BST[n] against SW[n], in millivolts, below 8.5 V. -/
def Dev.hsWarn (d : Dev) (n mv dt : Nat) : Dev :=
  let d := d.advance dt
  let (b, l) := (n / 3, n % 3)
  if mv < 8500 && !(d.bridge b).warn.testBit l then
    (d.bridgeUp b fun x => { x with warn := setBit x.warn l }).raise 0x0903 [b, 2 ^ l]
  else d

/-- HS_WARNING_RELEASE: above 9.0 V. -/
def Dev.hsWarnEnd (d : Dev) (n mv dt : Nat) : Dev :=
  let d := d.advance dt
  if 9000 < mv then d.bridgeUp (n / 3) fun x => { x with warn := clrBit x.warn (n % 3) } else d

/-- Lockouts not answered yet act (R314): counted, flagged, the bridge in fault, GDR_BOOT_UV; also where a source that
comes into force brings one. -/
def Dev.lockoutJudge (d : Dev) (b : Nat) : Dev :=
  let new := andNot (d.lockedOut b) (d.bridge b).lockSeen
  let d := d.bridgeUp b fun x => { x with lockSeen := d.lockedOut b }
  if new = 0 then d else
  let d := (d.bump F.GDR_UV_CNT (popCount 3 new)).put (F.GDR_FAULT_UV.ix b) (d.get (F.GDR_FAULT_UV.ix b) ||| new)
  if (d.bridge b).faulted && !d.joinsFault b then d.raise 0x0904 [b, new]
  else ((d.bridgeFault b new false).bridgeUp b fun x => { x with uvLegs := x.uvLegs ||| new }).causeEvent b 2 0x0904 new

/-- Lockouts of both bridges answered. -/
def Dev.lockouts (d : Dev) : Dev := (d.lockoutJudge 0).lockoutJudge 1

/-- HS_LOCKOUT_ASSERT: the leg's own supply below 7.5 V, or VHS_EXT less VMOT below 9.0 V while external is in force. -/
def Dev.hsLockout (d : Dev) (n mv : Nat) (ext : Bool) (dt : Nat) : Dev :=
  let d := d.advance dt
  let (b, l) := (n / 3, n % 3)
  let d :=
    if ext then (if mv < 9000 then d.bridgeUp b fun x => { x with extLow := true } else d)
    else if mv < 7500 then d.bridgeUp b fun x => { x with low := setBit x.low l } else d
  d.lockoutJudge b

/-- HS_LOCKOUT_RELEASE: the leg's own supply above 8.0 V, or VHS_EXT less VMOT no longer below 9.0 V. -/
def Dev.hsLockoutEnd (d : Dev) (n mv : Nat) (ext : Bool) (dt : Nat) : Dev :=
  let d := d.advance dt
  if ext then (if 9000 ≤ mv then d.bridgeUp (n / 3) fun x => { x with extLow := false } else d)
  else if 8000 < mv then d.bridgeUp (n / 3) fun x => { x with low := clrBit x.low (n % 3) } else d

/-- VDRV_UNDERVOLTAGE: VDRV below 9.8 V, millivolts (R315). -/
def Dev.vdrvLow (d : Dev) (mv dt : Nat) : Dev :=
  let d := d.advance dt
  if mv < 9800 && !d.gdr.vdrvLow then
    let d := (d.gatesOff 0).gatesOff 1
    ({ d with gdr := { d.gdr with vdrvLow := true } }.bump F.GDR_UV_CNT).raise 0x0909 [3, 0]
  else d

/-- VDRV_RECOVERED: VDRV above 10.2 V. -/
def Dev.vdrvEnd (d : Dev) (mv dt : Nat) : Dev :=
  let d := d.advance dt
  if 10200 < mv then { d with gdr := { d.gdr with vdrvLow := false } } else d

/-! ## Short circuit and overcurrent (R316 to R319) -/

/-- Counts of a detection: a leg with both causes counts in GDR_SC_CNT only (R319). -/
def Dev.countFault (d : Dev) (b l : Nat) (sc : Bool) : Dev :=
  let x := d.bridge b
  if sc then
    let d := if x.ocLegs.testBit l then d.put F.GDR_OC_CNT (d.get F.GDR_OC_CNT - 1) else d
    if x.scLegs.testBit l then d else d.bump F.GDR_SC_CNT
  else if x.scLegs.testBit l || x.ocLegs.testBit l then d else d.bump F.GDR_OC_CNT

/-- The events of short circuit and overcurrent, with the legs flagged so far. -/
def Dev.faultEvents (d : Dev) (b : Nat) : Dev :=
  let x := d.bridge b
  let d := if x.scLegs = 0 then d else d.causeEvent b 0 0x0901 x.scLegs
  if x.ocLegs = 0 then d else d.causeEvent b 1 0x0902 x.ocLegs

/-- A short circuit, in a leg armed by a gate that is on (R316), or an overcurrent is detected (R318, R319). -/
def Dev.legFault (d : Dev) (n : Nat) (sc : Bool) : Dev :=
  let (b, l) := (n / 3, n % 3)
  let armed := !sc || (d.gatesOn b >>> (2 * l)) % 4 != 0
  if (if (d.bridge b).faulted then !d.joinsFault b else !armed) then d else
  let d := d.bridgeFault b (2 ^ l) true
  let d := d.countFault b l sc
  let d := if sc then (d.setIn (F.GDR_FAULT_SC.ix b) l).bridgeUp b fun y => { y with scLegs := setBit y.scLegs l }
    else (d.setIn (F.GDR_FAULT_OC.ix b) l).bridgeUp b fun y => { y with ocLegs := setBit y.ocLegs l }
  if (d.bridge b).soft.isSome then d else d.faultEvents b

/-- GDR_SHORT_CIRCUIT: a leg's shunt amplifier rises at a rate in mV/us (R316). -/
def Dev.shortCircuit (d : Dev) (n rate dt : Nat) : Dev :=
  let d := d.advance dt
  if 1000 * (d.get (F.GDR_SC_SC_SLEW.ix (n / 3)) + 1) < rate then d.legFault n true else d

/-- The instants at which a leg's low side last turned on at its ball: by a word, and in a refresh. -/
def Dev.lowTurnOns (d : Dev) (n : Nat) : List Nat :=
  let (b, l) := (n / 3, n % 3)
  let x := (d.wordsTo b (d.now + 1)).bridge b
  (x.lowOn.getD l none).toList ++ (if x.refresh.testBit l then [(d.ch b).perAt + 25] else [])

/-- When the blanking that the level detector of a leg is in ends: OC_BLANK after a turn-on (R317). -/
def Dev.ocBlankEnd (d : Dev) (n : Nat) : Option Nat :=
  let len := 5 * d.get (F.GDR_SC_OC_BLANK.ix (n / 3))
  (d.lowTurnOns n).foldl (fun m t => if t ≤ d.now && d.now < t + len then some (max (m.getD 0) (t + len)) else m) none

/-- An excess of the level detector that lasts until an instant (R317): one still present at the end of its blanking is
detected then. Two turn-ons at most fall into one PWM period's blanking. -/
def Dev.ocDetect (d : Dev) (n end_ : Nat) : Nat → Dev
  | 0 => d
  | k + 1 =>
    match d.ocBlankEnd n with
    | none => d.legFault n false
    | some t => if t ≤ end_ then (d.advanceTo t).ocDetect n end_ k else d

/-- GDR_OVERCURRENT: a leg's shunt amplifier exceeds OC_THR, microvolts, and stays above it for `stay` PWM clocks
(R317). -/
def Dev.overcurrent (d : Dev) (n uv stay dt : Nat) : Dev :=
  let d := d.advance dt
  if d.flag (F.GDR_CFG_OC_EN.ix (n / 3)) && 20000 * d.get (F.GDR_SC_OC_THR.ix (n / 3)) < uv then d.ocDetect n (d.now + stay) 4
  else d

/-- SOFT_TURNOFF_END: full sink follows SOFT_T; the fault's events are raised (Table 13-3). -/
def Dev.softEnd (d : Dev) (b : Nat) : Dev :=
  match (d.bridge b).soft with
  | some (t, _) => (((d.advanceTo t).bridgeUp b fun x => { x with soft := none })).faultEvents b
  | none => d

/-! ## Retry and latch (R320, R321) -/

/-- A lockout of the bridge or a VDRV undervoltage remains. -/
def Dev.gdrCause (d : Dev) (b : Nat) : Bool := d.lockedOut b != 0 || d.gdr.vdrvLow

/-- The bridge is released: fault ended, fault wire released. -/
def Dev.bridgeRelease (d : Dev) (b : Nat) : Dev :=
  (d.bridgeUp b fun x => { x with wait := none, latched := false, joinTo := 0 }).sourceDeassert (84 + b)

/-- GDR_RETRY_WAIT_END: the wait ends; the bridge is released, or waits again while a cause remains (R320). -/
def Dev.retryEnd (d : Dev) (b : Nat) : Dev :=
  match (d.bridge b).wait with
  | none => d
  | some t =>
    let d := d.advanceTo t
    if d.gdrCause b then d.bridgeUp b fun x => { x with wait := some (d.now + 10 * msec * (d.get (F.GDR_RETRY_WAIT.ix b) + 1)) }
    else
      let x := d.bridge b
      ((d.bridgeRelease b).bump (F.GDR_STATUS_TRIES.ix b)).raise 0x0905 [b, x.scLegs ||| x.ocLegs ||| x.uvLegs]

/-- GDR_TRY_CLEAR: the bridge has driven for CLR_T seconds without a fault (R320). -/
def Dev.tryClear (d : Dev) (b : Nat) : Dev :=
  match (d.bridge b).driveSince with
  | some t => (d.advanceTo (t + second * d.get (F.GDR_RETRY_CLR_T.ix b))).put (F.GDR_STATUS_TRIES.ix b) 0
  | none => d

/-- A CLEAR of a latched bridge is refused with STATE (R321). -/
def Dev.bridgeClearRefused (d : Dev) (b : Nat) : Bool := (d.bridge b).latched && d.gdrCause b

/-- GDR_CTRL.CLEAR: a latched bridge is released and its tries cleared (R321). -/
def Dev.bridgeClear (d : Dev) (b : Nat) : Dev :=
  if (d.bridge b).latched && !d.gdrCause b then (d.bridgeRelease b).put (F.GDR_STATUS_TRIES.ix b) 0 else d

/-! ## Wires and registers -/

/-- BRIDGE_OFF_ASSERT: the wire that Damper drives reaches the drivers (R310). -/
def Dev.wireAssert (d : Dev) (b dt : Nat) : Dev :=
  let d := d.advance dt
  if d.dmp.drtHeld.testBit b then (d.gatesOff b).bridgeUp b fun x => { x with wire := true } else d

/-- BRIDGE_OFF_RELEASE: Damper no longer drives the wire; nothing restarts (R310). -/
def Dev.wireRelease (d : Dev) (b dt : Nat) : Dev :=
  let d := d.advance dt
  if d.dmp.drtHeld.testBit b then d else d.bridgeUp b fun x => { x with wire := false }

/-- GDR_STATUS of a bridge, and since when it drives. -/
def Dev.bridgeRegs (d : Dev) (b : Nat) : Dev :=
  let x := d.bridge b
  let st := if x.latched then 2 else if x.wait.isSome then 1 else if d.bridgeHeld b then 3 else 0
  let d := d.bridgeUp b fun x => { x with driveSince := if st = 0 then (match x.driveSince with | some t => some t | none => some d.now) else none }
  d.put (F.GDR_STATUS_STATE.ix b) st |>.put (F.GDR_STATUS_SRC.ix b) (d.hsSource b)
    |>.put (F.GDR_STATUS_WARN.ix b) x.warn |>.put (F.GDR_STATUS_UV.ix b) (d.lockedOut b)

/-- Every derived view of the gate drivers. -/
def Dev.gdrRegs (d : Dev) : Dev := (d.bridgeRegs 0).bridgeRegs 1

end Sys2Proof.Machine
end

