-- ==== Sys2Proof/Machine/Draught.lean ====
section
/-! DEFINITION. Draught (chapter 14): sensorless commutation, current limit, speed loop, channel states, tries and
holds. Speeds, duties and times are computed in binary64 from the binary32 settings. -/

namespace Sys2Proof.Machine

/-- The configuration words are taken; DIR only in IDLE (R344). -/
def Dev.drtTake (d : Dev) (c : Nat) : Dev :=
  let d := d.wordsTo c d.now
  let ws := (List.range 22).map fun i => d.word (0x0A0000 + 128 * c + 4 * i)
  let keep := d.drtState c != 0 && (d.ch c).cfg != []
  let dir := wbits ((d.ch c).cfg.getD 0 0) 2 2
  d.chUp c fun x => { x with cfg := if keep then ws.set 0 (wset (ws.getD 0 0) 2 2 dir) else ws }

/-- d_min (R329). -/
def DrtCh.dMin (x : DrtCh) : Nat := f64.ofRat (10 * x.settle : Nat) (10 * max 1 x.per)

/-- `min(max(x, d_min), 1)`. -/
def DrtCh.clampD (x : DrtCh) (v : Nat) : Nat := f64.min (f64.max v x.dMin) r1

/-- DIR of a channel. -/
def Dev.drtDir (d : Dev) (c : Nat) : Bool := d.drtCfg c F.DRT_CFG_DIR == 1

/-- The sector after a sector (R325). -/
def nextSector (dir : Bool) (s : Nat) : Nat := if dir then (s + 5) % 6 else (s + 1) % 6

/-- Sense of the expected crossing. -/
def expectRising (dir : Bool) (s : Nat) : Bool := (sectorLegs s).2.2.2 != dir

/-- The sector whose expected crossing a phase's crossing is. -/
def crossingSector (dir : Bool) (ph : Nat) (rising : Bool) : Nat :=
  ((List.range 6).find? fun s => (sectorLegs s).2.2.1 == ph && expectRising dir s == rising).getD 0

/-- A half-up rounded quotient of naturals. -/
def roundDiv (a b : Nat) : Nat := (2 * a + b) / (2 * b)

/-! ## Entering states -/

/-- Enter a state: configuration taken, entry instant noted, no duty clamped yet. -/
def Dev.drtEnter (d : Dev) (c s : Nat) : Dev :=
  let d := d.wordsTo c d.now
  (((d.put (F.DRT_STAT_STATE.ix c) s).put (F.DRT_STAT_DMIN.ix c) 0).drtTake c).chUp c fun x => { x with
    enterAt := d.now
    next := none
    seen := false
    run := 0
    obs := if s == 1 ∨ s == 6 then [] else x.obs
    known := false
    f := 0
    limAt := none }

/-- IDLE, with the motor coasting. -/
def Dev.drtIdle (d : Dev) (c : Nat) : Dev := (d.drtEnter c 0).chUp c fun x => { x with ref := 0, i := 0, d := 0, dNext := 0 }

/-- OBSERVE entered from IDLE or HELD on a start (R336). -/
def Dev.drtStartObserve (d : Dev) (c : Nat) : Dev :=
  (((d.drtIdle c).drtEnter c 1).chUp c fun x => { x with brakes := 0 }).raise 0x0A01 [c]

/-! ## Setpoint (R339) -/

/-- The setpoint in effect: 0 while disabled or stopped. -/
def Dev.drtSp (d : Dev) (c : Nat) : Nat :=
  if !d.flag (F.DRT_CFG_EN.ix c) || (d.ch c).stopped then 0 else (d.ch c).sp

/-- The setpoint in effect is nonzero. -/
def Dev.drtLive (d : Dev) (c : Nat) : Bool := f64.lt 0 (d.drtSp c)

/-- The setpoint or what gates it has changed: a start, or a stop at once (R336, R339, R344). -/
def Dev.drtJudge (d : Dev) (c : Nat) : Dev :=
  let live := d.drtLive c
  let was := (d.ch c).live
  let d := d.chUp c fun x => { x with live := live }
  let st := d.drtState c
  if !d.flag (F.DRT_CFG_EN.ix c) then (if st == 0 || 7 ≤ st then d else d.drtIdle c)
  else if live && !was && st == 0 && !(d.ch c).onlyStart then d.drtStartObserve c
  else if !live && 1 ≤ st && st ≤ 4 then d.drtIdle c
  else d

/-- A try (R341): LOST where it would exceed RETRY_N, else the event given and OBSERVE, which a setpoint of 0
ends at once (R339). -/
def Dev.drtTry (d : Dev) (c ev : Nat) : Dev :=
  if d.drtCfg c F.DRT_START_CFG_RETRY_N ≤ d.get (F.DRT_STAT_TRIES.ix c) then (d.drtEnter c 8).raise 0x0A08 [c]
  else
    let d := (d.bump (F.DRT_STAT_TRIES.ix c)).bump F.DRT_TRY_CNT
    (((d.drtEnter c 1).chUp c fun x => { x with brakes := 0 }).raise ev [c]).drtJudge c

/-- A value given as setpoint, judged (R339). -/
def Dev.drtGiven (d : Dev) (c : Nat) (w : Word) : Dev :=
  let v := widen w.toNat
  let lo := d.real (F.DRT_SPD_MIN.ix c)
  let hi := d.real (F.DRT_SPD_MAX.ix c)
  if !f64.finite v || f64.lt v 0 then
    let was := (d.ch c).invalid
    let d := d.chUp c fun x => { x with invalid := true }
    (if was then d else d.raise 0x0A09 [c]).drtJudge c
  else
    let s := if f64.eq v 0 then 0 else if f64.lt v lo then lo else if f64.lt hi v then hi else v
    (d.chUp c fun x => { x with sp := s, invalid := false }).drtJudge c

/-- At a device frame start: the ports DRT_SPDc, or SPD_DEF while no image is active. -/
def Dev.drtFrame (d : Dev) : Dev :=
  d.forAll [0, 1] fun d c =>
    if d.flag (F.DRT_CFG_SRC.ix c) then d
    else d.drtGiven c (if d.fbx.active.isSome then d.port (1 + c) else BitVec.ofNat 32 (d.get (F.DRT_SPD_DEF.ix c)))

/-- DRT_SETP written (SRC = 1). -/
def Dev.drtSetp (d : Dev) (c : Nat) (w : Word) : Dev :=
  let d := d.put (F.DRT_SETP.ix c) w.toNat
  if d.flag (F.DRT_CFG_SRC.ix c) then d.drtGiven c w else d

/-- Staged fields have come into effect: DRT_SETP judged anew under them where it is the setpoint (R339, R344). -/
def Dev.drtStaged (d : Dev) (c : Nat) : Dev :=
  if d.flag (F.DRT_CFG_SRC.ix c) then d.drtGiven c (d.word (F.DRT_SETP.ix c).addr) else d.drtJudge c

/-- START, STOP, CLEAR (R343); the answer says that the action completes with STATE. -/
def Dev.drtStart (d : Dev) (c : Nat) : Dev × Bool :=
  match d.drtState c with
  | 8 => (d, true)
  | 7 => (d.chUp c fun x => { x with startMem := true, stopped := false }, true)
  | 0 =>
    let d := d.chUp c fun x => { x with stopped := false, onlyStart := false, live := false }
    (d.drtJudge c, false)
  | _ => (d.chUp c fun x => { x with stopped := false }, false)

/-- STOP: setpoint 0 until the next START. -/
def Dev.drtStop (d : Dev) (c : Nat) : Dev := (d.chUp c fun x => { x with stopped := true, startMem := false }).drtJudge c

/-- CLEAR: LOST ends with the tries cleared (R341). -/
def Dev.drtClear (d : Dev) (c : Nat) : Dev :=
  if d.drtState c == 8 then (d.drtIdle c).put (F.DRT_STAT_TRIES.ix c) 0 else d

/-! ## Holds (R342, Table 14-4) -/

/-- Rows of Table 14-4 that hold a channel now, bit row - 1. -/
def Dev.holdRows (d : Dev) (c : Nat) : Nat :=
  let x := d.bridge c
  (if x.wire then 1 else 0) + (if d.gdr.linkHold then 2 else 0) + (if x.wait.isSome then 4 else 0)
    + (if x.latched then 8 else 0) + (if d.gdr.vdrvLow then 16 else 0)

/-- The lowest row of a set, 1 to 5; 0 for none. -/
def lowestRow (m : Nat) : Nat := ((List.range 5).find? m.testBit).elim 0 (· + 1)

/-- A channel enters or leaves HELD as its holds come and go. -/
def Dev.drtHold (d : Dev) (c : Nat) : Dev :=
  let rows := d.holdRows c
  let st := d.drtState c
  let d := if rows % 4 = 0 then d else d.chUp c fun x => { x with onlyStart := true }
  if st == 8 then d
  else if st != 7 then
    if rows == 0 then d else
    let d := (d.drtIdle c).put (F.DRT_STAT_STATE.ix c) 7
    let d := (d.chUp c fun x => { x with causes := rows, startMem := false }).put (F.DRT_STAT_HOLD.ix c) (lowestRow rows)
    d.raise 0x0A0B [c, lowestRow rows]
  else if rows != 0 then
    (d.chUp c fun x => { x with causes := x.causes ||| rows }).put (F.DRT_STAT_HOLD.ix c) (lowestRow rows)
  else
    let causes := (d.ch c).causes
    let mem := (d.ch c).startMem
    let d := (d.drtIdle c).put (F.DRT_STAT_HOLD.ix c) 0
    let live := d.drtLive c
    let d := d.chUp c fun x => { x with causes := 0, startMem := false, live := live, onlyStart := x.onlyStart && !mem }
    if !d.flag (F.DRT_CFG_EN.ix c) || (d.ch c).onlyStart then d
    else if causes % 4 != 0 then (if live then d.drtStartObserve c else d)
    else if live || causes == 4 then
      let d := d.drtStartObserve c
      if live then d else d.drtIdle c
    else d

/-- Both channels' holds; a hold's event can bring the other channel a hold. -/
def Dev.drtHolds (d : Dev) : Dev := d.forAll [0, 1, 0, 1] Dev.drtHold

/-! ## Zero crossings and commutation (R327 to R332) -/

/-- Advance a in degrees (R331). -/
def Dev.drtAdvance (d : Dev) (c : Nat) : Nat :=
  let f := f64.abs (d.ch c).f
  let a := rmul (d.drtReal c F.DRT_ADV_K) (rsub f (f64.ofInt (d.drtCfg c F.DRT_ADV_CFG_ADV_F0)))
  f64.min (f64.max a 0) (f64.ofRat (d.drtCfg c F.DRT_ADV_CFG_ADV_MAX) 2)

/-- round(T60 x (30 - a) / 60), PWM clocks. -/
def Dev.drtDelay (d : Dev) (c : Nat) : Nat :=
  let t60 := f64.ofRat (d.ch c).t2 2
  5 * (f64.round (f64.div (rmul t60 (rsub (f64.ofInt 30) (d.drtAdvance c))) (f64.ofInt 60))).toNat

/-- Speed from a mean of intervals in ANA clocks: 1 / (6 T). -/
def speedOf (ints : List Nat) : Nat := f64.ofRat (100000000 * ints.length : Nat) (6 * max 1 ints.sum)

/-- The window of the sector in force: from, to (R330). -/
def DrtCh.window (x : DrtCh) (blank : Nat) : Nat × Nat :=
  (x.commAt + 5 * ceilDiv (blank * x.t2) 200, x.commAt + 5 * (3 * x.t2 / 4))

/-- A crossing is detected at an instant (R330 to R332). -/
def Dev.drtDetect (d : Dev) (c zc : Nat) : Dev :=
  let run := d.drtState c == 5
  let d := d.chUp c fun x =>
    let ints := match x.zcAt with | some t => ((zc - t) / 5 :: x.ints).take 6 | none => x.ints
    { x with
      ints := ints
      t2 := if run && 2 ≤ ints.length then ints.getD 0 0 + ints.getD 1 0 else x.t2
      zcAt := some zc
      seen := true
      miss := 0
      run := 0
      f := if run && ints != [] then speedOf ints else x.f
      known := x.known || run }
  if run then d.chUp c fun x => { x with next := some (zc + d.drtDelay c) } else d

/-- The zero-crossing sample of a PWM period, taken at an instant with the floating phase's comparator (R328, R330). -/
def Dev.drtSample (d : Dev) (c ts : Nat) (comps : Nat) : Dev :=
  let x := d.ch c
  let s := d.get (F.DRT_STAT_SECTOR.ix c)
  let (lo, hi) := x.window (d.drtCfg c F.DRT_LIM_ZC_BLANK)
  if x.seen || ts < lo || hi < ts || !(x.next.all fun t => decide (ts < t)) then d else
  let side := comps.testBit (sectorLegs s).2.2.1 == expectRising (d.drtDir c) s
  if !side then d.chUp c fun x => { x with run := 0 }
  else
    let first := if x.run = 0 then ts else x.first
    if x.run + 1 < d.drtCfg c F.DRT_CFG_ZC_FILT + 1 then d.chUp c fun x => { x with run := x.run + 1, first := first }
    else d.drtDetect c first

/-- Bootstrap refreshes of a bridge's PWM period (R313): high sides in warning that the period's drive word commands
on. -/
def Dev.drtRefresh (d : Dev) (c : Nat) : Dev :=
  let on := d.drtGates c (d.ch c).perAt
  let ls := if d.hsSource c == 2 && !d.bridgeHeld c then (bitList 3 (d.bridge c).warn).filter fun l => on.testBit (2 * l) else []
  let d := d.bump F.GDR_REFRESH_CNT ls.length
  d.bridgeUp c fun y => { y with refresh := ls.foldl setBit 0 }

/-- The settings that take effect at a PWM period start (R344). -/
def Dev.drtPwmTake (d : Dev) (c : Nat) : Dev :=
  d.chUp c fun x => { x with pwm := d.word (F.DRT_PWM_PER.ix c).addr, gain := d.get (F.DRT_CFG_GAIN.ix c) }

/-- A PWM period begins with the next ANA clock: the settings of R344 and the new duty, not below the d_min of the period,
take effect (R326, R329, R334). -/
def Dev.drtPeriod (d : Dev) (c : Nat) : Dev :=
  let d := (d.wordsTo c d.now).drtPwmTake c
  let d := d.putB (F.DRT_STAT_ILIM.ix c) (d.ch c).limAt.isSome
  let from_ := anaClk * anaEdge d.now
  (d.chUp c fun x => { x with
    perAt := from_
    perEnd := from_ + anaClk * x.per
    d := x.clampD x.dNext
    limAt := none }).drtRefresh c

/-- What a PWM period that has just begun reads at t_settle (R328, R333): the comparators (bit l: phase l above the
neutral), the amplifier output and VMOT (f32, volts), and the ANA clocks after the high-side on edge at which the current
limit acts, where it acts before t_settle: the period then yields no sample. Nothing is read where no high side is
chopped. (DESIGN CHOICE, log entry 64.) -/
def Dev.drtReads (d : Dev) (c comps : Nat) (amp vmot : Word) (early : Option Nat) : Dev :=
  let d := d.put (F.DRT_VMOT.ix c) vmot.toNat
  let st := d.drtState c
  if st < 3 || 5 < st then d else
  let x := d.ch c
  let onEdge := if (d.bridge c).refresh.testBit (sectorLegs (d.get (F.DRT_STAT_SECTOR.ix c))).1 then 40 else 0
  match early with
  | some k =>
    if k < x.settle && onEdge + k < x.onClocks then
      (d.chUp c fun x => { x with limAt := some (x.perAt + anaClk * (onEdge + k)) }).putB (F.DRT_STAT_ILIM.ix c) true
    else d
  | none =>
    if x.onClocks < onEdge + x.settle then d else
    let d := d.put (F.DRT_CURR.ix c) amp.toNat
    if st == 3 then d else d.drtSample c (x.perAt + anaClk * (onEdge + x.settle)) comps

/-- DRT_PWM_PERIOD_START: the next PWM period of a channel begins (R326). -/
def Dev.drtPeriodStart (d : Dev) (c comps : Nat) (amp vmot : Word) (early : Option Nat) : Dev :=
  ((d.advanceTo (d.ch c).perEnd).drtPeriod c).drtReads c comps amp vmot early

/-- A commutation: the next sector, its window, and a new PWM period (R327). -/
def Dev.drtCommutate (d : Dev) (c : Nat) : Dev :=
  let d := d.wordsTo c d.now
  let d := d.put (F.DRT_STAT_SECTOR.ix c) (nextSector (d.drtDir c) (d.get (F.DRT_STAT_SECTOR.ix c)))
  (d.chUp c fun x => { x with commAt := d.now, next := none, seen := false, run := 0 }).drtPeriod c

/-- The open-loop interval 1 / (6 f) of RAMP, in ANA clocks. -/
def rampInterval (f : Nat) : Nat := (f64.round (f64.div (f64.ofInt 100000000) (rmul (f64.ofInt 6) f))).toNat

/-- RAMP's frequency at the present instant and the duty of the period that begins (R337). -/
def Dev.rampDuty (d : Dev) (c : Nat) : Dev :=
  let d := d.drtPwmTake c
  let x := d.ch c
  let t := f64.ofRat (d.now - x.enterAt : Nat) 500000000
  let f := radd (d.drtReal c F.DRT_RAMP_F0) (rmul (d.drtReal c F.DRT_RAMP_RATE) t)
  d.chUp c fun x => { x with
    f := f, dNext := x.clampD (radd (d.drtReal c F.DRT_RAMP_D0) (rmul (d.drtReal c F.DRT_RAMP_KV) f)) }

/-- RAMP's open-loop interval at its frequency, and the next commutation after it (R337). -/
def Dev.rampAhead (d : Dev) (c : Nat) : Dev :=
  let iv := rampInterval (d.ch c).f
  d.chUp c fun x => { x with t2 := 2 * iv, next := some (d.now + 5 * iv) }

/-- ALIGN ends: RAMP begins at sector 1 (R337). -/
def Dev.drtRamp (d : Dev) (c : Nat) : Dev :=
  let d := (d.drtEnter c 4).put (F.DRT_STAT_SECTOR.ix c) 1
  let d := d.chUp c fun x => { x with commAt := d.now, detRun := 0, ints := [], zcAt := none, miss := 0 }
  ((d.rampDuty c).drtPeriod c).rampAhead c

/-- ALIGN, skipped where ALIGN_T is 0 (R337). -/
def Dev.drtAlign (d : Dev) (c : Nat) : Dev :=
  let d := d.drtEnter c 3
  if d.drtCfg c F.DRT_START_CFG_ALIGN_T = 0 then d.drtRamp c
  else
    let duty := f64.ofRat (d.drtCfg c F.DRT_START_CFG_ALIGN_D) 256
    let d := d.put (F.DRT_STAT_SECTOR.ix c) 5
    (d.chUp c fun x => { x with dNext := duty }).drtPeriod c

/-- RUN entered with a reference, an integrator and a duty; the next commutation follows the last crossing by T60 and
the delay of R331. -/
def Dev.drtRun (d : Dev) (c ref i duty : Nat) : Dev :=
  let zc := (d.ch c).zcAt
  let f := (d.ch c).f
  let d := d.drtEnter c 5
  let d := d.chUp c fun x => { x with
    ref := ref, i := i, dNext := duty, miss := 0, detRun := 0, commAt := d.now, lastUpd := d.now, f := f, known := true }
  let x := d.ch c
  let d := d.chUp c fun y => { y with next := zc.map fun z => z + 5 * (x.t2 / 2) + d.drtDelay c }
  d.drtPeriod c

/-- Speed, direction and last sector found by the crossings observed (R335): rest where nothing agrees. -/
def Dev.drtObserved (d : Dev) (c : Nat) : Option (Bool × List Nat × Nat × Nat) :=
  let dir := d.drtDir c
  match (d.ch c).obs with
  | a :: b :: rest =>
    let sec (x : Crossing) : Nat := crossingSector dir x.phase x.rising
    let step (x y : Crossing) : Option Bool :=
      if sec x = nextSector dir (sec y) then some true else if sec x = nextSector (!dir) (sec y) then some false else none
    match step a b with
    | none => none
    | some fwd =>
      let pairs := (a :: b :: rest).zip (b :: rest)
      let good := pairs.takeWhile fun (x, y) => step x y == some fwd
      some (fwd, good.map fun (x, y) => (x.at_ - y.at_) / 5, sec a, a.at_)
  | _ => none

/-- A catch into RUN (R338). -/
def Dev.drtCatch (d : Dev) (c : Nat) (ints : List Nat) (sec zc : Nat) : Dev :=
  let f := speedOf ints
  let vmot := d.real (F.DRT_VMOT.ix c)
  let d := d.chUp c fun x => { x with
    ints := ints.take 6
    t2 := ints.getD 0 0 + ints.getD 1 (ints.getD 0 0)
    zcAt := some zc
    f := f }
  let d := d.drtPwmTake c
  let d0 := (d.ch c).clampD (f64.div (rmul (d.drtReal c F.DRT_KE) f) vmot)
  let d := d.put (F.DRT_STAT_SECTOR.ix c) (nextSector (d.drtDir c) sec)
  ((d.drtRun c f d0 d0).bump F.DRT_CATCH_CNT).raise 0x0A03 [c, narrow f]

/-- Loss of rotor (R340). -/
def Dev.rotorLoss (d : Dev) (c : Nat) : Dev := (d.drtEnter c 6).raise 0x0A06 [c]

/-- The commutation scheduled is due (R327, R331, R337). -/
def Dev.commutationDue (d : Dev) (c : Nat) : Dev :=
  if d.drtState c == 4 then
    let d := d.chUp c fun x => { x with detRun := if x.seen then x.detRun + 1 else 0, zcAt := if x.seen then x.zcAt else none }
    let d := (d.wordsTo c d.now).rampDuty c
    let x := d.ch c
    if 6 ≤ x.detRun && f64.le (d.drtReal c F.DRT_HANDOVER_F) x.f then
      let d := d.put (F.DRT_STAT_SECTOR.ix c) (nextSector (d.drtDir c) (d.get (F.DRT_STAT_SECTOR.ix c)))
      let d := d.chUp c fun y => { y with
        t2 := if 2 ≤ y.ints.length then y.ints.getD 0 0 + y.ints.getD 1 0 else y.t2
        f := if y.ints = [] then y.f else speedOf y.ints }
      (d.drtRun c x.f x.dNext x.dNext).raise 0x0A02 [c, narrow x.f]
    else (d.drtCommutate c).rampAhead c
  else d.drtCommutate c

/-- COMMUTATION, with what the PWM period it begins reads. -/
def Dev.commutation (d : Dev) (c comps : Nat) (amp vmot : Word) (early : Option Nat) : Dev :=
  match (d.ch c).next with
  | none => d
  | some t => ((d.advanceTo t).commutationDue c).drtReads c comps amp vmot early

/-- ZC_WINDOW_CLOSE: a window closes without a detection (R331, R340). (DEDUCED, log entry 65.) -/
def Dev.windowClose (d : Dev) (c comps : Nat) (amp vmot : Word) (early : Option Nat) : Dev :=
  let x := d.ch c
  if d.drtState c != 5 || x.seen then d else
  let d := (d.advanceTo (x.window 0).2).bump F.DRT_MISS_CNT
  let d := d.chUp c fun x => { x with miss := x.miss + 1, zcAt := none }
  if 3 ≤ (d.ch c).miss then d.rotorLoss c else (d.drtCommutate c).drtReads c comps amp vmot early

/-- DRT_CURRENT_LIMIT: the amplifier output of the low-side-on leg, microvolts, exceeds the limit (R333).
(DEDUCED, log entry 115.) -/
def Dev.drtLimit (d : Dev) (c uv dt : Nat) : Dev :=
  let d := d.advance dt
  let st := d.drtState c
  let lim := d.drtCfg c (if st == 2 then F.DRT_LIM_BRK_ILIM else F.DRT_LIM_RUN_ILIM)
  if st < 2 || 5 < st || uv ≤ 20000 * lim || (d.ch c).limAt.isSome then d else
  let d := d.wordsTo c d.now
  (d.chUp c fun x => { x with limAt := some (anaClk * anaEdge d.now) }).put (F.DRT_STAT_ILIM.ix c) 1

/-! ## Speed loop (R334) -/

/-- 250 us in binary64. -/
def loopH : Nat := f64.ofRat 1 4000

/-- SPEED_LOOP_UPDATE. -/
def Dev.speedLoop (d : Dev) (c : Nat) : Dev :=
  if d.drtState c != 5 then d else
  let d := (d.advanceTo ((d.ch c).lastUpd + 125000)).drtTake c
  let x := d.ch c
  let sp := d.drtSp c
  let dec := f64.neg (rmul (d.drtReal c F.DRT_DEC) loopH)
  let ref := radd x.ref (f64.min (f64.max (rsub sp x.ref) dec) (rmul (d.drtReal c F.DRT_ACC) loopH))
  let e := rsub ref (f64.abs x.f)
  let still := (f64.le x.dNext x.dMin && f64.lt e 0) || (f64.le r1 x.dNext && f64.lt 0 e)
  let i := if still then x.i else radd x.i (rmul (rmul (d.drtReal c F.DRT_KI) e) loopH)
  let out := radd (rmul (d.drtReal c F.DRT_KP) e) i
  let low := f64.lt out x.dMin
  let was := d.flag (F.DRT_STAT_DMIN.ix c)
  let d := d.chUp c fun x => { x with ref := ref, i := i, dNext := x.clampD out, lastUpd := d.now }
  let d := d.putB (F.DRT_STAT_DMIN.ix c) low
  let d := if low then d.bump F.DRT_DMIN_CNT else d
  let d := if low && !was then d.raise 0x0A0A [c] else d
  if d.drtState c == 5 && f64.eq sp 0 && f64.lt ref (d.drtReal c F.DRT_SPD_MIN) then d.drtIdle c else d

/-! ## Starting (R335 to R341) -/

/-- A filtered crossing of a phase counts in OBSERVE or COAST (R335, R340). -/
def Dev.observed (d : Dev) (c ph : Nat) (rising : Bool) (zc comps : Nat) (amp vmot : Word) (early : Option Nat) : Dev :=
  let st := d.drtState c
  let d := (d.chUp c fun x => { x with obs := ⟨ph, rising, zc⟩ :: x.obs }).put (F.DRT_VMOT.ix c) vmot.toNat
  match d.drtObserved c with
  | none => d.chUp c fun x => { x with known := false, f := 0 }
  | some (fwd, ints, sec, zc) =>
    let f := speedOf ints
    let d := d.chUp c fun x => { x with known := true, f := if fwd then f else f64.neg f }
    if st == 6 && fwd && f64.le (d.drtReal c F.DRT_CATCH_F) f then
      (d.drtCatch c ints sec zc).drtReads c comps amp vmot early
    else d

/-- Where the samples of OBSERVE and COAST, 1 us apart, first find a comparator changed that keeps its new side for `stay`
PWM clocks from now, and where the filter has ZC_FILT + 1 of them, if it does (R330, R335). (DEDUCED, log entry 150.) -/
def Dev.observeSamples (d : Dev) (c stay : Nat) : Option (Nat × Nat) :=
  let from_ := (d.ch c).enterAt
  let t := from_ + 500 * ceilDiv (d.now - from_) 500
  let last := t + 500 * d.drtCfg c F.DRT_CFG_ZC_FILT
  let len := if d.drtState c = 1 then 30 * msec else 20 * msec
  if last < d.now + stay && last ≤ from_ + len then some (t, last) else none

/-- OBSERVE_CROSSING: a comparator changes side in OBSERVE or COAST and keeps it for `stay` PWM clocks. A crossing that
the filter finds, and that is not of the side the phase was last found on, counts (R335); a catch in COAST as soon as
found. -/
def Dev.observeCrossing (d : Dev) (c ph : Nat) (rising : Bool) (stay comps : Nat) (amp vmot : Word) (early : Option Nat)
    (dt : Nat) : Dev :=
  let d := d.advance dt
  let st := d.drtState c
  if (st != 1 && st != 6) || ((d.ch c).obs.find? fun o => o.phase = ph).any (·.rising == rising) then d else
  match d.observeSamples c stay with
  | none => d
  | some (zc, t) => (d.advanceTo t).observed c ph rising zc comps amp vmot early

/-- BRAKE: three low sides on. -/
def Dev.drtBrake (d : Dev) (c : Nat) : Dev := (d.drtEnter c 2).drtPeriod c

/-- Table 14-3. -/
def Dev.drtDecide (d : Dev) (c : Nat) : Dev :=
  match d.drtObserved c with
  | none => d.drtAlign c
  | some (fwd, ints, sec, zc) =>
    let f := speedOf ints
    if f64.lt f (d.drtReal c F.DRT_STILL_F) then d.drtAlign c
    else if !fwd then (d.raise 0x0A04 [c]).drtBrake c
    else if f64.le (d.drtReal c F.DRT_CATCH_F) f then d.drtCatch c ints sec zc
    else d.drtBrake c

/-- OBSERVE_END: Table 14-3, with what the PWM period that may begin reads. -/
def Dev.observeEnd (d : Dev) (c comps : Nat) (amp vmot : Word) (early : Option Nat) : Dev :=
  if d.drtState c != 1 then d else
  let d := (d.advanceTo ((d.ch c).enterAt + 30 * msec)).put (F.DRT_VMOT.ix c) vmot.toNat
  (d.drtDecide c).drtReads c comps amp vmot early

/-- BRAKE_END: OBSERVE again, or the start fails after BRK_MAX periods (R337). -/
def Dev.brakeEnd (d : Dev) (c : Nat) : Dev :=
  if d.drtState c != 2 then d else
  let d := d.advanceTo ((d.ch c).enterAt + 10 * msec * d.drtCfg c F.DRT_LIM_BRK_T)
  let n := (d.ch c).brakes + 1
  if d.drtCfg c F.DRT_START_CFG_BRK_MAX ≤ n then d.drtTry c 0x0A05
  else (d.drtEnter c 1).chUp c fun x => { x with brakes := n }

/-- ALIGN_END, with what the first PWM period of RAMP reads. -/
def Dev.alignEnd (d : Dev) (c comps : Nat) (amp vmot : Word) (early : Option Nat) : Dev :=
  if d.drtState c != 3 then d else
  (d.advanceTo ((d.ch c).enterAt + 10 * msec * d.drtCfg c F.DRT_START_CFG_ALIGN_T)).drtRamp c
    |>.drtReads c comps amp vmot early

/-- RAMP_TIMEOUT: RAMP_T without handover fails the start. -/
def Dev.rampTimeout (d : Dev) (c : Nat) : Dev :=
  if d.drtState c != 4 then d else
  (d.advanceTo ((d.ch c).enterAt + 100 * msec * d.drtCfg c F.DRT_START_CFG_RAMP_T)).drtTry c 0x0A05

/-- COAST_TIMEOUT: 20 ms in COAST; restart from rest (R340). -/
def Dev.coastTimeout (d : Dev) (c : Nat) : Dev :=
  if d.drtState c != 6 then d else (d.advanceTo ((d.ch c).enterAt + 20 * msec)).drtTry c 0x0A07

/-- DRT_RETRY_CLEAR: RETRY_CLR seconds in RUN (R341). -/
def Dev.drtRetryClear (d : Dev) (c : Nat) : Dev :=
  if d.drtState c != 5 then d else
  (d.advanceTo ((d.ch c).enterAt + second * d.drtCfg c F.DRT_CLR_RETRY_CLR)).put (F.DRT_STAT_TRIES.ix c) 0

/-! ## Nodes and registers -/

/-- The measured speed delivered: 0 where none is known, in RUN, OBSERVE and COAST (R332). -/
def Dev.drtSpeed (d : Dev) (c : Nat) : Nat :=
  let x := d.ch c
  let st := d.drtState c
  if x.known && (st == 1 || st == 5 || st == 6) then narrow x.f else 0

/-- Draught's input nodes at a frame start. -/
def Dev.drtNodes (d : Dev) : List (Nat × Word) :=
  [(0x0261, BitVec.ofNat 32 (d.drtSpeed 0)), (0x0262, BitVec.ofNat 32 (d.drtSpeed 1)),
   (0x0263, BitVec.ofNat 32 (d.drtState 0 + 16 * d.drtState 1))]

/-- Derived views of a channel. -/
def Dev.drtRegs1 (d : Dev) (c : Nat) : Dev :=
  d.put (F.DRT_SPEED.ix c) (d.drtSpeed c) |>.put (F.DRT_REF.ix c) (narrow (d.ch c).ref) |>.put (F.DRT_DUTY.ix c) (narrow (d.ch c).d)

/-- Derived views of Draught. -/
def Dev.drtRegs (d : Dev) : Dev := (d.drtRegs1 0).drtRegs1 1

end Sys2Proof.Machine
end

