-- ==== Sys2Proof/Machine/Can.lean ====
section
/-! DEFINITION. CAN FD controllers and the time master (chapter 18). -/

namespace Sys2Proof.Machine

/-- A controller. -/
def Dev.canOf (d : Dev) (c : Nat) : Can := d.can.getD c {}

/-- A controller changed; a message buffer of it changed. -/
def Dev.canUp (d : Dev) (c : Nat) (f : Can → Can) : Dev := { d with can := upd d.can c f }
def Dev.cbUp (d : Dev) (c m : Nat) (f : CanBuf → CanBuf) : Dev := d.canUp c fun x => { x with mb := upd x.mb m f }

/-- A staged field of a controller as it acts on it: an adopted value waits for the end of the frame that was on the bus
(R21, R423). -/
def Dev.canCfg (d : Dev) (c : Nat) (f : Fld) : Nat :=
  match (d.canOf c).old.lookup f.addr with
  | some w => wbits w f.hi f.lo
  | none => d.get f
def Dev.canOn (d : Dev) (c : Nat) (f : Fld) : Bool := d.canCfg c f != 0

/-- A buffer's field; its data words. -/
abbrev mbF (f : Fld) (c m : Nat) : Fld := (f.ix c).ix m
def Dev.mbData (d : Dev) (c m n : Nat) : List Word := (List.range n).map fun k => BitVec.ofNat 32 (d.get ((mbF F.CAN_MB_DATA c m).ix k))
def Dev.putMbData (d : Dev) (c m : Nat) (ws : List Word) : Dev :=
  d.forAll (List.range ws.length) fun d k => d.put ((mbF F.CAN_MB_DATA c m).ix k) (ws.getD k 0).toNat

/-- State of a buffer (Table 18-5). -/
def Dev.mbState (d : Dev) (c m : Nat) : Nat := d.get (mbF F.CAN_MB_STATE c m)

/-- The controller is enabled. -/
def Dev.canEn (d : Dev) (c : Nat) : Bool := d.canOn c (F.CAN_CFG_EN.ix c)

/-- Data bytes of a DLC (ISO 11898-1). -/
def dlcLen (fdf : Bool) (dlc : Nat) : Nat :=
  if dlc ≤ 8 then dlc else if fdf then [12, 16, 20, 24, 32, 48, 64].getD (dlc - 9) 64 else 8

/-- Rank of an identifier in arbitration, the lowest winning: base identifier, then standard before extended. -/
def arbKey (id : Nat) (ide : Bool) : Nat :=
  if ide then id / 2 ^ 18 % 2 ^ 11 * 2 ^ 19 + 2 ^ 18 + id % 2 ^ 18 else id % 2 ^ 11 * 2 ^ 19

/-- A controller integrating becomes error active once it meets the bus, or passive again where its kept counters say so
(R423). -/
def Dev.canJoin (d : Dev) (c : Nat) : Dev :=
  if d.get (F.CAN_STATUS_STATE.ix c) = 0 then
    d.put (F.CAN_STATUS_STATE.ix c) (if 127 < (d.canOf c).tec || 127 < d.get (F.CAN_STATUS_REC.ix c) then 2 else 1)
  else d

/-- The PTP clock `n` PWM clocks ago, in units of 2^-32 ns. -/
def Dev.ptpBefore (d : Dev) (n : Nat) : Nat := ((d.time.ptp : Int) - 2 * n * (2 ^ 32 + d.time.ptpAdj)).toNat

/-- Adopted values whose change has a controller integrate afresh (R423): its timing words, and CAN_CFG but for EN and
AUTO_REC. -/
def Dev.canRetimed (d : Dev) (c : Nat) : Bool :=
  (d.canOf c).old.any fun (a, w) =>
    a == (F.CAN_NBT_BRP.ix c).addr || a == (F.CAN_DBT_BRP.ix c).addr ||
      (a == (F.CAN_CFG_EN.ix c).addr && (w ^^^ d.word a) &&& 0x7F06 != 0)

/-- A controller acts on its adopted values from now on (R21, R423): after a change of timing it integrates afresh; a
buffer configured anew has stored nothing (R429); with EN = 0 it is off, and stays in bus-off (R434). -/
def Dev.canApply (d : Dev) (c : Nat) : Dev :=
  let retimed := d.canRetimed c
  let anew (m : Nat) : Bool := (d.canOf c).old.any fun (a, _) => a == (mbF F.CAN_MB_CFG_DIR c m).addr
  let d := d.canUp c fun x => { x with
    old := []
    timing := none
    ref := x.ref && wbits (d.word (F.CAN_CFG_EN.ix c).addr) 0 0 == 1
    mb := (List.range 64).map fun m =>
      let b := x.mb.getD m {}
      if anew m then { b with storedAt := none, prev := none, before := none } else b }
  if d.get (F.CAN_STATUS_STATE.ix c) = 3 || (d.canEn c && !retimed) then d else d.put (F.CAN_STATUS_STATE.ix c) 0

/-- CAN_TIMING_APPLY: the frame on the bus ends, and adopted values take effect (R423); the frame that the controller
sends ends with its CAN_TX_END. -/
def Dev.canTiming (d : Dev) (c : Nat) : Dev :=
  if (d.canOf c).timing.isNone || (d.canOf c).tx.isSome then d else d.canApply c

/-! ## Transmission (R424 to R426) -/

/-- REQ on a buffer; the status is 0 OK, 1 BUSY, 0x0A STATE. -/
def Dev.canRequest (d : Dev) (c m : Nat) : Dev × Nat :=
  if d.canCfg c (mbF F.CAN_MB_CFG_DIR c m) = 0 || d.canOn c (mbF F.CAN_MB_CFG_PORT_EN c m) then (d, 0x0A)
  else if d.mbState c m = 1 || d.mbState c m = 2 then (d, 1)
  else (((d.put (mbF F.CAN_MB_STATE c m) 1).put (mbF F.CAN_MB_ATTEMPTS c m) 0).put (mbF F.CAN_MB_CANCEL_LATE c m) 0, 0)

/-- CANCEL on a buffer. -/
def Dev.canCancel (d : Dev) (c m : Nat) : Dev :=
  match d.mbState c m with
  | 1 => d.put (mbF F.CAN_MB_STATE c m) 4
  | 2 => d.put (mbF F.CAN_MB_CANCEL_LATE c m) 1
  | _ => d

/-- The pending buffer offered next: lowest identifier, then lowest index (R425). -/
def Dev.canOffer (d : Dev) (c : Nat) : Option Nat :=
  let pend := (List.range 64).filter fun m => d.mbState c m == 1
  let key (m : Nat) : Nat := arbKey (d.get (mbF F.CAN_MB_ID c m)) (d.flag (mbF F.CAN_MB_IDE c m))
  pend.foldl (fun best m => match best with
    | none => some m
    | some b => if key m < key b then some m else some b) none

/-- The frame of a transmit buffer. -/
def Dev.canFrame (d : Dev) (c m : Nat) : CanFrame :=
  let fdf := d.flag (mbF F.CAN_MB_FDF c m)
  let dlc := d.get (mbF F.CAN_MB_DLC c m)
  { id := d.get (mbF F.CAN_MB_ID c m), ide := d.flag (mbF F.CAN_MB_IDE c m), fdf := fdf
    brs := d.flag (mbF F.CAN_MB_BRS c m), dlc := dlc
    data := (bytesOf (d.mbData c m 16)).take (dlcLen fdf dlc) }

/-- The reference message (R432), its time that of its start of frame. -/
def Dev.refFrame (d : Dev) : CanFrame :=
  { id := d.canCfg 0 (F.CAN_TM_ID_TM_ID.ix 0), ide := d.canOn 0 (F.CAN_TM_CFG_IDE.ix 0), dlc := 8
    data := leBytes 1 (d.get (F.CAN_TM_STAT_CYCLE.ix 0) + (if d.ptpOk then 64 else 0)) ++ leBytes 7 (d.ptpNs / 1000) }

/-- CAN_TX_START: the bus is free `dt` clocks from now, so that no frame holds adopted values back; the reference message goes ahead of every buffer. -/
def Dev.canTxStart (d : Dev) (c dt : Nat) : Dev :=
  let d := (d.advance dt).canTiming c
  if !d.canEn c || d.get (F.CAN_STATUS_STATE.ix c) = 3 || (d.canOf c).tx.isSome then d else
  let d := d.canJoin c
  if c = 0 && (d.canOf 0).ref then d.canUp 0 fun x => { x with tx := some 64, offered := some d.refFrame }
  else match d.canOffer c with
    | none => d
    | some m =>
      let f := d.canFrame c m
      (d.put (mbF F.CAN_MB_STATE c m) 2).canUp c fun x => { x with tx := some m, offered := some f }

/-- Data held while the buffer transmitted is requested (R430). -/
def Dev.canHeld (d : Dev) (c m : Nat) : Dev :=
  match ((d.canOf c).mb.getD m {}).held with
  | none => d
  | some ws =>
    let d := ((d.putMbData c m ws).put (mbF F.CAN_MB_STATE c m) 1).put (mbF F.CAN_MB_ATTEMPTS c m) 0
    (d.put (mbF F.CAN_MB_CANCEL_LATE c m) 0).cbUp c m fun b => { b with held := none }

/-- A failed attempt of a buffer: pending again, FAILED past LIMIT, or CANCELLED (R425, R426). -/
def Dev.canFail (d : Dev) (c m : Nat) : Dev :=
  let n := d.get (mbF F.CAN_MB_ATTEMPTS c m)
  let d := d.bump (mbF F.CAN_MB_ATTEMPTS c m)
  if d.flag (mbF F.CAN_MB_CANCEL_LATE c m) then (d.put (mbF F.CAN_MB_STATE c m) 4).canHeld c m
  else if d.canOn c (mbF F.CAN_MB_CFG_UNL c m) || n + 1 ≤ d.canCfg c (mbF F.CAN_MB_CFG_LIMIT c m) then
    (d.put (mbF F.CAN_MB_STATE c m) 1).canHeld c m
  else ((d.put (mbF F.CAN_MB_STATE c m) 5).raiseCan c 0x0E04 [c, m]).canHeld c m

/-- Status state of the error counters (ISO 11898-1): error active at most 127, passive above, bus-off above 255. -/
def Dev.canErrState (d : Dev) (c : Nat) : Dev :=
  let tec := (d.canOf c).tec
  let was := d.get (F.CAN_STATUS_STATE.ix c)
  let d := d.put (F.CAN_STATUS_TEC.ix c) (min 255 tec)
  if was = 3 then d
  else if 255 < tec then
    let d := ((d.put (F.CAN_STATUS_STATE.ix c) 3).bump (F.CAN_BUSOFF_CNT.ix c)).canUp c fun x => { x with recover := false }
    let d := match (d.canOf c).tx with
      | some m => (if m < 64 then d.canFail c m else d).canUp c fun x => { x with tx := none }
      | none => d
    d.raiseCan c 0x0E02 [c]
  else if 127 < tec || 127 < d.get (F.CAN_STATUS_REC.ix c) then
    let d := d.put (F.CAN_STATUS_STATE.ix c) 2
    if was = 2 then d else d.raiseCan c 0x0E01 [c]
  else if was = 2 then d.put (F.CAN_STATUS_STATE.ix c) 1
  else d

/-- CAN_TX_END: the attempt on the bus ends, sent or failed. -/
def Dev.canTxEnd (d : Dev) (c : Nat) (ok : Bool) (dt : Nat) : Dev :=
  let d := d.advance dt
  match (d.canOf c).tx with
  | none => d
  | some m =>
    let d := d.canUp c fun x => { x with tx := none, tec := if ok then x.tec - 1 else x.tec }
    let d := d.canErrState c
    if 64 < m then d
    else if m = 64 then d.canUp c fun x => { x with ref := x.ref && !ok }
    else if ok then (d.put (mbF F.CAN_MB_STATE c m) 3).canHeld c m
    else d.canFail c m

/-- CAN_BUS_ERROR: an error of the kind `lec` (1 to 6) is detected; the counters move as ISO 11898-1 says: the
transmitter's by 8, the receiver's by 1, or by 8 where `eight` (a dominant bit after its error flag). An error-passive
transmitter that misses its acknowledgement and sees no dominant bit (`eight`) keeps its counter. (PRESUMED, log entry 71.) -/
def Dev.canError (d : Dev) (c lec : Nat) (tx eight : Bool) (dt : Nat) : Dev :=
  let d := d.advance dt
  if !d.canEn c || d.get (F.CAN_STATUS_STATE.ix c) = 3 then d else
  let d := ((d.canJoin c).bump (F.CAN_ERRFRM_CNT.ix c)).put (F.CAN_STATUS_LEC.ix c) lec
  let quiet := tx && lec = 3 && !eight && d.get (F.CAN_STATUS_STATE.ix c) = 2
  let d := if quiet then d else if tx then d.canUp c fun x => { x with tec := x.tec + 8 } else d.bump (F.CAN_STATUS_REC.ix c) (if eight then 8 else 1)
  d.canErrState c

/-- CAN_BUS_ON: 128 sequences of 11 recessive bits have been seen in bus-off (R434). -/
def Dev.canBusOn (d : Dev) (c dt : Nat) : Dev :=
  let d := d.advance dt
  if d.get (F.CAN_STATUS_STATE.ix c) != 3 || !(d.canOn c (F.CAN_CFG_AUTO_REC.ix c) || (d.canOf c).recover) then d else
  let d := d.canUp c fun x => { x with tec := 0, recover := false }
  ((d.put (F.CAN_STATUS_STATE.ix c) 1).put (F.CAN_STATUS_TEC.ix c) 0 |>.put (F.CAN_STATUS_REC.ix c) 0).raiseCan c 0x0E03 [c]

/-- RECOVER written. -/
def Dev.canRecover (d : Dev) (c : Nat) : Dev :=
  if d.get (F.CAN_STATUS_STATE.ix c) = 3 then d.canUp c fun x => { x with recover := true } else d

/-! ## Reception (R427, R431, R433) -/

/-- The ID word of a frame. -/
def canWord (f : CanFrame) : Word :=
  BitVec.ofNat 32 (f.id % 2 ^ 29 + (if f.ide then 2 ^ 29 else 0) + (if f.fdf then 2 ^ 30 else 0) + (if f.brs then 2 ^ 31 else 0))

/-- Data words of a frame: bytes beyond the DLC read zero. -/
def canWords (f : CanFrame) : List Word :=
  let bs := f.data.take (dlcLen f.fdf f.dlc)
  wordsOf (bs ++ List.replicate (64 - bs.length) 0)

/-- Header node of a snapshot without FRESH and VALID, and the data words, as the buffer holds them now. -/
def Dev.canNow (d : Dev) (c m : Nat) : Word × List Word :=
  (BitVec.ofNat 32 (d.get (mbF F.CAN_MB_ID c m) + (if d.flag (mbF F.CAN_MB_IDE c m) then 2 ^ 29 else 0)), d.mbData c m 16)

/-- A frame stored in a receive buffer (R427); `sof` is the PTP clock at its start of frame. -/
def Dev.canStore (d : Dev) (c m : Nat) (f : CanFrame) (sof : Nat) : Dev :=
  let old := d.canNow c m
  let d := d.cbUp c m fun b => { b with prev := some old, before := b.storedAt, storedAt := some d.now }
  let again := d.flag (mbF F.CAN_MB_NEWDATA c m)
  let d := (d.setWord (mbF F.CAN_MB_ID c m).addr (canWord f)).put (mbF F.CAN_MB_DLC c m) f.dlc
  let d := (d.putMbData c m (canWords f)).put (mbF F.CAN_MB_TS c m) (sof / 2 ^ 32 / 1000)
  let d := d.put (mbF F.CAN_MB_NEWDATA c m) 1
  if again then ((d.put (mbF F.CAN_MB_OVR c m) 1).bump (F.CAN_OVR_CNT.ix c)).raiseCan c 0x0E05 [c, m] else d

/-- Receive record (Table 18-1). -/
def Dev.canRecord (d : Dev) (c fifo : Nat) (f : CanFrame) (sof : Nat) (lost : Bool) : List Byte :=
  let ns := sof / 2 ^ 32
  let bs := f.data.take (dlcLen f.fdf f.dlc)
  leBytes 2 0x5E01 ++ leBytes 1 (c + 2 * fifo)
    ++ leBytes 1 (f.dlc % 16 + (if f.fdf then 16 else 0) + (if f.brs then 32 else 0) + (if lost then 64 else 0) + (if d.ptpOk then 128 else 0))
    ++ leBytes 4 (f.id % 2 ^ 29 + (if f.ide then 2 ^ 29 else 0)) ++ leBytes 4 (ns / 1000000000) ++ leBytes 4 (ns % 1000000000)
    ++ bytesOf (wordsOf bs)

/-- A frame given to a FIFO (R431): 32 frames at most. (DEDUCED, log entry 72.) -/
def Dev.canFifo (d : Dev) (c fifo : Nat) (f : CanFrame) (sof : Nat) : Dev :=
  let en := (F.CAN_FIFO_EN.ix c).ix fifo
  let cnt := (F.CAN_FIFO_COUNT.ix c).ix fifo
  if !d.canOn c en then d.bump (F.CAN_NOMATCH_CNT.ix c)
  else if 32 ≤ d.get cnt then
    ((d.bump (F.CAN_FIFO_OVF_CNT.ix c)).canUp c fun x => { x with lost := setBit x.lost fifo }).raiseCan c 0x0E06 [c, fifo]
  else
    let r := d.canRecord c fifo f sof ((d.canOf c).lost.testBit fifo)
    ((d.bump cnt).canUp c fun x => { x with lost := clrBit x.lost fifo }).ringQueue (d.canCfg c ((F.CAN_FIFO_RING.ix c).ix fifo)) ⟨.canFifo c fifo, r⟩

/-- A receive buffer takes the frame: enabled for reception, ID and IDE equal. -/
def Dev.canMatch (d : Dev) (c : Nat) (f : CanFrame) (m : Nat) : Bool :=
  d.canCfg c (mbF F.CAN_MB_CFG_DIR c m) == 0 && d.get (mbF F.CAN_MB_ID c m) == f.id && d.flag (mbF F.CAN_MB_IDE c m) == f.ide

/-- Filter k takes the frame. -/
def Dev.canFilter (d : Dev) (c : Nat) (f : CanFrame) (k : Nat) : Bool :=
  let mask := d.canCfg c (mbF F.CAN_FLT_MASK c k)
  d.canOn c (mbF F.CAN_FLT_EN c k) && (f.id &&& mask) == (d.canCfg c (mbF F.CAN_FLT_ID c k) &&& mask) && d.canOn c (mbF F.CAN_FLT_IDE c k) == f.ide

/-- The PTP clock follows an offset in ns: stepped above a bound, else by frequency within 200 ppm (R381, R433). -/
def Dev.clockOffset (d : Dev) (off bound interval : Int) : Dev :=
  if bound < (off.natAbs : Int) then
    { d with time := { d.time with ptp := ((d.time.ptp : Int) + off * 2 ^ 32).toNat } }
  else { d with time := { d.time with ptpAdj := clampI (Config.servo off interval) 858993 } }

/-- A reference message reaches the time slave (R433). -/
def Dev.refAccept (d : Dev) (f : CanFrame) (len : Nat) : Dev :=
  let per := d.canCfg 0 (F.CAN_TM_CFG_PERIOD.ix 0)
  let us := ofLE (f.data.drop 1)
  let off : Int := (us * 1000 + 2 * len : Nat) - (d.ptpNs : Int)
  let d := d.clockOffset off 100000 (per * 1000000 : Nat)
  let d := d.canUp 0 fun x => { x with accepted := min 4 (x.accepted + 1), lastRef := some d.now }
  let d := d.put (F.CAN_TM_STAT_CYCLE.ix 0) (ofLE (f.data.take 1) % 64)
  if (d.canOf 0).accepted = 4 && !d.flag (F.CAN_TM_STAT_SYNC.ix 0) then (d.put (F.CAN_TM_STAT_SYNC.ix 0) 1).raiseCan 0 0x0E08 [0] else d

/-- The frame is a reference message for the time slave. -/
def Dev.isRef (d : Dev) (f : CanFrame) : Bool :=
  d.canCfg 0 (F.CAN_TM_CFG_TM_MODE.ix 0) == 2 && f.id == d.canCfg 0 (F.CAN_TM_ID_TM_ID.ix 0) && f.ide == d.canOn 0 (F.CAN_TM_CFG_IDE.ix 0)
    && !f.fdf && f.dlc == 8 && f.data.length == 8 && ofLE (f.data.take 1) < 128

/-- A frame has been received without error: the receive error count falls by 1; above 127 it returns to a value from 119
to 127 that ISO 11898-1 leaves open. -/
def Dev.canRecDown (d : Dev) (c : Nat) : Dev :=
  let n := d.get (F.CAN_STATUS_REC.ix c)
  if n ≤ 127 then d.put (F.CAN_STATUS_REC.ix c) (n - 1)
  else
    let (v, d) := d.fresh
    d.put (F.CAN_STATUS_REC.ix c) (119 + v % 9)

/-- CAN_FRAME_RECEIVE: a frame becomes valid `dt` clocks from now; its start of frame lay `len` clocks before that. A
frame that began after an adoption finds it acted on. -/
def Dev.canReceive (d : Dev) (c : Nat) (f : CanFrame) (len dt : Nat) : Dev :=
  let d := d.advance dt
  let d := if (d.canOf c).timing.any (· + len < d.now) then d.canTiming c else d
  if !d.canEn c || d.get (F.CAN_STATUS_STATE.ix c) = 3 then d else
  let d := d.canJoin c
  if f.fdf && !d.canOn c (F.CAN_CFG_FD_EN.ix c) then
    (((d.bump (F.CAN_ERRFRM_CNT.ix c)).put (F.CAN_STATUS_LEC.ix c) 2).bump (F.CAN_STATUS_REC.ix c)).canErrState c
  else
  let d := (d.canRecDown c).canErrState c
  let sof := d.ptpBefore len
  let d := if c = 0 && d.isRef f then d.refAccept f len else d
  match (List.range 64).find? (d.canMatch c f) with
  | some m => d.canStore c m f sof
  | none => match (List.range 16).find? (d.canFilter c f) with
    | some k => d.canFifo c (d.canCfg c (mbF F.CAN_FLT_FIFO c k)) f sof
    | none => d.bump (F.CAN_NOMATCH_CNT.ix c)

/-! ## Frame start (R429, R430) -/

/-- Snapshot nodes of a buffer: the frames stored at least 200 ns before now. -/
def Dev.canSnap (d : Dev) (c m : Nat) (last : Option Nat) : List (Nat × Word) :=
  let b := (d.canOf c).mb.getD m {}
  let (at_, h, ws) : Option Nat × Word × List Word :=
    match b.storedAt with
    | none => let (h, ws) := d.canNow c m; (none, h, ws)
    | some t =>
      if t + 100 ≤ d.now then let (h, ws) := d.canNow c m; (some t, h, ws)
      else let (h, ws) := b.prev.getD (0, []); (b.before, h, ws)
  let fresh := match at_, last with
    | some t, some l => decide (l < t + 100)
    | some _, none => true
    | none, _ => false
  let hdr : Word := h ||| (if fresh then 0x40000000 else 0) ||| (if at_.isSome then 0x80000000 else 0)
  let base := 0x01A0 + 64 * c + d.canCfg c (mbF F.CAN_MB_CFG_SNAP_OFF c m)
  (base, hdr) :: (List.range (d.canCfg c (mbF F.CAN_MB_CFG_NW c m))).map fun k => (base + 1 + k, ws.getD k 0)

/-- CAN's input nodes at a frame start; `last` is the start of the frame before. A controller with EN = 0 has its clocks gated
and copies nothing (R434). (DEDUCED, log entry 158.) -/
def Dev.canNodes (d : Dev) (last : Option Nat) : List (Nat × Word) :=
  (List.range 2).flatMap fun c => (List.range 64).flatMap fun m =>
    if d.canEn c && d.canCfg c (mbF F.CAN_MB_CFG_DIR c m) = 0 && d.canOn c (mbF F.CAN_MB_CFG_SNAP_EN c m) then d.canSnap c m last else []

/-- A port-fed buffer at a frame start at which its rate is due (R430). -/
def Dev.canPortBuf (d : Dev) (c m : Nat) : Dev :=
  let p := 0x30 + d.canCfg c (mbF F.CAN_MB_CFG_PORT c m)
  let ws := (List.range (d.canCfg c (mbF F.CAN_MB_CFG_NW c m))).map fun k => d.port (p + k)
  match d.mbState c m with
  | 1 => (d.putMbData c m ws).bump (F.CAN_TX_REPLACE_CNT.ix c)
  | 2 => d.cbUp c m fun b => { b with held := some ws }
  | _ => (((d.putMbData c m ws).put (mbF F.CAN_MB_STATE c m) 1).put (mbF F.CAN_MB_ATTEMPTS c m) 0).put (mbF F.CAN_MB_CANCEL_LATE c m) 0

/-- Transmit ports at the start of frame `k`; those of a controller with EN = 0 are not sent. (DEDUCED, log entry 158.) -/
def Dev.canPorts (d : Dev) (k : Nat) : Dev :=
  d.forAll (List.range 2) fun d c => d.forAll (List.range 64) fun d m =>
    if d.canEn c && d.canCfg c (mbF F.CAN_MB_CFG_DIR c m) = 1 && d.canOn c (mbF F.CAN_MB_CFG_PORT_EN c m)
        && k % 2 ^ d.canCfg c (mbF F.CAN_MB_CFG_RATE c m) = 0 then d.canPortBuf c m
    else d

/-! ## Time master and slave (R432, R433) -/

/-- CAN_TM_CYCLE_START: the next whole multiple of PERIOD ms of PTP time. A reference message not sent by then is abandoned,
and one that is on the bus ends without a retry. -/
def Dev.tmCycle (d : Dev) : Dev :=
  if d.canCfg 0 (F.CAN_TM_CFG_TM_MODE.ix 0) != 1 || !d.canEn 0 then d else
  let per := max 1 (d.canCfg 0 (F.CAN_TM_CFG_PERIOD.ix 0)) * 1000000
  let d := d.toPtp ((d.ptpNs / per + 1) * per)
  let d := if (d.canOf 0).ref then d.bump (F.CAN_TM_SKIP_CNT.ix 0) else d
  (d.wrapInc (F.CAN_TM_STAT_CYCLE.ix 0)).canUp 0 fun x => { x with ref := true, tx := if x.tx = some 64 then some 65 else x.tx }

/-- CAN_TM_LOST: 3 PERIOD without an accepted reference message. -/
def Dev.tmLost (d : Dev) : Dev :=
  match (d.canOf 0).lastRef with
  | some t =>
    if !d.flag (F.CAN_TM_STAT_SYNC.ix 0) then d else
    let d := d.advanceTo (t + 3 * msec * d.canCfg 0 (F.CAN_TM_CFG_PERIOD.ix 0))
    ((d.put (F.CAN_TM_STAT_SYNC.ix 0) 0).canUp 0 fun x => { x with accepted := 0 }).raiseCan 0 0x0E07 [0]
  | none => d

/-- The words of a controller's staged fields: configuration, timing, time master, FIFOs, filters, buffers. -/
def canWordsAt (c : Nat) : List Nat :=
  ([0, 4, 8, 0x14, 0x18, 0x20, 0x24] ++ (List.range 32).map (fun k => 0x100 + 4 * k) ++ (List.range 64).map fun m => 0x200 + 4 * m)
    |>.map (0x0E0000 + 0x4000 * c + ·)

/-- A stage has been adopted (`was` is the device before it): each controller goes on with the words it acts on until the
frame on its bus ends; one that is off acts on the new ones at once (R21, R423). (DEDUCED, log entry 70.) -/
def Dev.canAdopt (d was : Dev) : Dev :=
  d.forAll (List.range 2) fun d c =>
    let new := (canWordsAt c).filter fun a => d.word a != was.word a && ((d.canOf c).old.lookup a).isNone
    if new = [] then d else
    let d := d.canUp c fun x => { x with old := x.old ++ new.map (fun a => (a, was.word a)), timing := some d.now }
    if d.canEn c then d else d.canApply c

end Sys2Proof.Machine
end

