-- ==== Sys2Proof/Machine/Net.lean ====
section
/-! DEFINITION. Station network (chapter 16): ports and redundancy, PTP, stream contexts, keys, layer-2 commands. -/

namespace Sys2Proof.Machine

/-- NET changed; a context; a context changed. -/
def Dev.netUp (d : Dev) (f : Net → Net) : Dev := { d with net := f d.net }
def Dev.nctx (d : Dev) (i : Nat) : NetCtx := ((d.net.ctx.find? fun x => x.1 == i).map Prod.snd).getD {}
def Dev.nctxUp (d : Dev) (i : Nat) (f : NetCtx → NetCtx) : Dev :=
  let c := f (d.nctx i)
  d.netUp fun n => { n with ctx := (n.ctx.filter fun x => x.1 != i) ++ [(i, c)] }

/-- The device's address (R374). -/
def Dev.netMac (d : Dev) : Nat := d.get F.NET_MAC_LO + d.get F.NET_MAC_HI * 2 ^ 32

/-! ## Transmission (R374, R375, R379) -/

/-- A port runs at 1000 Mb/s. -/
def Dev.giga (d : Dev) (p : Nat) : Bool := d.bitIn F.NET_STATUS_SPD p

/-- PWM clocks that a frame of `len` bytes holds a port, with preamble and gap: 12.4 us for 1,528 bytes at 1000 Mb/s. -/
def wireTime (giga : Bool) (len : Nat) : Nat := (len + 20) * (if giga then 4 else 40)

/-- The frame that a port takes next: of the highest queue that holds one, the oldest (R379). -/
def NetPort.next (x : NetPort) : Option NetTx :=
  x.waiting.foldl (fun best e => match best with
    | none => some e
    | some b => if b.queue < e.queue then some e else some b) none

/-- The PTP clock `n` PWM clocks ago, in whole ns. -/
def Dev.ptpNsBefore (d : Dev) (n : Nat) : Nat := d.ptpBefore n / 2 ^ 32

/-- Frames begin to leave a port, one after the other, as far as the present instant; none is pre-empted (R379). A
forwarded event message takes its residence time into its correction (R380). -/
def Dev.netDrain (d : Dev) (p : Nat) : Nat → Dev
  | 0 => d
  | n + 1 =>
    let x := d.net.tx.getD p {}
    match x.next with
    | none => d
    | some e =>
      let t := max x.busy e.at_
      if d.now < t then d else
      let e' : NetTx := { e with corr := e.corr.map fun c => c + 2 * ((t - e.at_ : Nat) : Int) }
      let o : NetOut := ⟨p, t, d.ptpNsBefore (d.now - t), e'⟩
      (d.netUp fun m => { m with
        tx := upd m.tx p fun _ => ⟨x.waiting.erase e, t + wireTime (d.giga p) e.len⟩
        out := m.out ++ [o] }).netDrain p n

/-- Both ports have sent what they could. -/
def Dev.netDrains (d : Dev) : Dev :=
  d.forAll [0, 1] fun d p => d.netDrain p (d.net.tx.getD p {}).waiting.length

/-- A frame enters a transmit queue of a port whose link is up. -/
def Dev.netQueue (d : Dev) (p : Nat) (e : NetTx) : Dev :=
  if !d.bitIn F.NET_STATUS_LINK p then d else
  ((d.netDrains).netUp fun m => { m with tx := upd m.tx p fun x => { x with waiting := x.waiting ++ [e] } }).netDrains

/-- Redundancy information of an own frame on a port (R375). -/
def ownTag (mode p seq : Nat) : RedOut :=
  match mode with
  | 1 => .prp p 0x88FB seq
  | 2 => .hsr 0x892F 0 seq
  | _ => .none

/-- A frame of the device's own, from NET_MAC: in independent mode on the port named, or on both; in the redundancy modes
on both with the next number of the one counter (R374, R375). Where no length is given, the frame's layout is another
standard's and its length a free value. (DEDUCED, log entry 69; DESIGN CHOICE, log entry 151.) -/
def Dev.netOwn (d : Dev) (queue : Nat) (port : Option Nat) (vlan : Option (Nat × Nat)) (len : Option Nat) (f : NetFrame) : Dev :=
  let mode := d.get F.NET_CFG_MODE
  let (l, d) := match len with
    | some n => (max 64 n, d)
    | none => let (v, d) := d.fresh; (64 + v % 1459, d)
  let e (p : Nat) : NetTx := ⟨queue, if mode = 0 then l else l + 6, d.now, d.netMac, ownTag mode p d.net.seq, vlan, none, f⟩
  let ports := match mode, port with
    | 0, some p => [p]
    | _, _ => [0, 1]
  let d := d.forAll ports fun d p => d.netQueue p (e p)
  if mode = 0 then d else d.netUp fun n => { n with seq := (n.seq + 1) % 65536 }

/-- Frames of earlier commands are gone from the output. (DESIGN CHOICE, log entry 109.) -/
def Dev.netQuiet (d : Dev) : Dev := d.netUp fun n => { n with out := [] }

/-! ## Ports (R373 to R378) -/

/-- ETH_LINK_UP and ETH_LINK_DOWN: a link comes up at the speed its port is set to (R373); the frames that wait for a link
that is lost are lost. -/
def Dev.ethUp (d : Dev) (p : Nat) (giga : Bool) (dt : Nat) : Dev :=
  let d := d.advance dt
  if !d.flag (F.NET_PORT_EN.ix p) || d.bitIn F.NET_STATUS_LINK p || giga == d.flag (F.NET_PORT_SPEED.ix p) then d else
  ((d.setIn F.NET_STATUS_LINK p).putIn F.NET_STATUS_SPD p giga).raise 0x0C02 [p, if giga then 1000 else 100]
def Dev.linkLost (d : Dev) (p : Nat) : Dev :=
  (d.clrIn F.NET_STATUS_LINK p).netUp fun n => { n with tx := upd n.tx p fun _ => {} }
def Dev.ethDown (d : Dev) (p dt : Nat) : Dev :=
  let d := d.advance dt
  if !d.bitIn F.NET_STATUS_LINK p then d else (d.linkLost p).raise 0x0C01 [p]

/-- Sequence number of a frame's redundancy tag. -/
def RedTagSeq : RedTag → Option Nat
  | .none => none
  | .hsr s _ => some s
  | .prp _ s => some s

/-- The frame is a live duplicate (R376). -/
def Dev.netDup (d : Dev) (f : EthFrame) : Bool :=
  match RedTagSeq f.red with
  | some s => d.net.dup.any fun (m, q, t) => m == f.src && q == s && decide (d.now < t)
  | none => false

/-- A frame that has passed its checks makes its entry; the oldest goes when the table is full. -/
def Dev.dupAdd (d : Dev) (f : EthFrame) : Dev :=
  match RedTagSeq f.red with
  | none => d
  | some s =>
    if d.netDup f then d else
    let e := (f.src, s, d.now + msec * d.get F.NET_RED_ENTRY_FORGET)
    d.netUp fun n => { n with dup := (n.dup.filter fun (_, _, t) => d.now < t) |>.drop (if 2048 ≤ (n.dup.filter fun (_, _, t) => d.now < t).length then 1 else 0) |> (· ++ [e]) }

/-- HSR forwarding of a frame to the other port, in queue 1 or 0 by its VLAN priority (R377, R379); `corr` is the
correction of an event message (R380). -/
def Dev.hsrForward (d : Dev) (f : EthFrame) (corr : Option Int := none) : Dev :=
  let out := 1 - f.port
  match f.red with
  | .hsr s true =>
    let done := d.net.fwd.any fun (p, m, q, t) => p == out && m == f.src && q == s && decide (d.now < t)
    if f.src = d.netMac || f.dst = d.netMac || done then d else
    let e := (out, f.src, s, d.now + msec * d.get F.NET_RED_ENTRY_FORGET)
    let d := d.netUp fun n => { n with fwd := (n.fwd.filter fun (_, _, _, t) => d.now < t) ++ [e] }
    let vlan := if f.vid = 0 && f.pcp = 0 then none else some (f.pcp, f.vid)
    (if f.fcs then d else d.bump F.NET_STOMP_CNT).netQueue out
      ⟨if 4 ≤ f.pcp then 1 else 0, f.len, d.now, f.src, .hsr 0x892F 0 s, vlan, corr, .forward f (!f.fcs)⟩
  | _ => d

/-- A node enters the node table of 128 entries; the oldest goes where it is full, and each is forgotten in time (R378). -/
def Dev.nodeSeen (d : Dev) (node : Nat) : Dev :=
  d.netUp fun n =>
    let l := n.nodes.filter fun x => x.1 != node && decide (d.now < x.2 + second * d.get F.NET_RED_NODE_FORGET)
    { n with nodes := l.drop (l.length - 127) ++ [(node, d.now)] }

/-- A frame from another node has been received on a port (R378). -/
def Dev.pathSeen (d : Dev) (f : EthFrame) : Dev :=
  if f.src = d.netMac then d else
  let d := (d.nodeSeen f.src).netUp fun n => { n with
    lastRx := n.lastRx.set f.port (some d.now)
    lostPath := clrBit n.lostPath f.port }
  d.setIn F.NET_STATUS_PATH_OK f.port

/-- The largest frame accepted: 1,522 bytes, and 6 of an HSR tag or PRP trailer (R373). -/
def longestFrame (f : EthFrame) : Nat := match f.red with | .none => 1522 | _ => 1528

/-- What the MAC does with a frame received; true where it goes on to be processed. -/
def Dev.macReceive (d : Dev) (f : EthFrame) (corr : Option Int := none) : Dev × Bool :=
  let mode := d.get F.NET_CFG_MODE
  if !d.bitIn F.NET_STATUS_LINK f.port then (d, false)
  else if !f.fcs then
    let d := d.bump (F.NET_FCS_CNT.ix f.port)
    (if mode = 2 then d.hsrForward f corr else d, false)
  else if f.len < 64 || longestFrame f < f.len then (d.bump F.NET_LEN_CNT, false)
  else if f.etype = 0x8808 then (d.bump F.NET_PAUSE_CNT, false)
  else
    let tagOk := match f.red with | .hsr _ good => good | _ => false
    if mode = 2 && !tagOk then (d.bump F.NET_HSR_TAG_CNT, false) else
    let d := match f.red with | .prp lan _ => if mode = 1 && lan != f.port then d.bump F.NET_LANID_CNT else d | _ => d
    let d := d.pathSeen f
    let d := if mode = 2 then d.hsrForward f corr else d
    if mode = 2 && f.src = d.netMac then (d, false)
    else if mode != 0 && d.netDup f then (d.bump F.NET_DUP_CNT, false)
    else (d, f.dst = d.netMac || f.dst % 2 = 1)

/-- ETH_FRAME_RECEIVE: a frame of no other row. -/
def Dev.ethReceive (d : Dev) (f : EthFrame) (dt : Nat) : Dev :=
  let (d, go) := (d.advance dt).netQuiet.macReceive f
  if go then d.dupAdd f else d

/-- SUPERVISION_FRAME_RECEIVE: the sender enters the node table (R378). -/
def Dev.superReceive (d : Dev) (f : EthFrame) (node dt : Nat) : Dev :=
  let (d, go) := (d.advance dt).netQuiet.macReceive f
  if !go then d else
  (d.dupAdd f).nodeSeen node

/-- SUPERVISION_SEND: the next LIFE_CHECK has passed. -/
def Dev.superSend (d : Dev) : Dev :=
  if d.get F.NET_CFG_MODE = 0 then d else
  let d := (d.advanceTo d.net.superAt).netQuiet
  let d := d.netOwn 0 none none none .supervision
  d.netUp fun n => { n with superAt := d.now + second * d.get F.NET_RED_LIFE_CHECK }

/-- NET_PATH_LOST: 3 LIFE_CHECK without a frame from another node on a port, while the other port receives. -/
def Dev.netPathLost (d : Dev) (p : Nat) : Dev :=
  let w := 3 * second * d.get F.NET_RED_LIFE_CHECK
  let d := match d.net.lastRx.getD p none with | some t => d.advanceTo (t + w) | none => d
  let silent := match d.net.lastRx.getD p none with | some t => decide (t + w ≤ d.now) | none => decide (w ≤ d.now)
  let other := match d.net.lastRx.getD (1 - p) none with | some t => decide (d.now < t + w) | none => false
  if silent && other && !d.net.lostPath.testBit p then
    ((d.netUp fun n => { n with lostPath := setBit n.lostPath p }).clrIn F.NET_STATUS_PATH_OK p).raise 0x0C03 [p]
  else d

/-! ## Time (R380 to R383) -/

/-- PTP validity changes (R381, R382). -/
def Dev.ptpValid (d : Dev) (ok : Bool) : Dev :=
  let was := d.ptpOk
  let d := d.putB F.NET_STATUS_PTP_VALID ok
  if ok == was then d else d.raise (if ok then 0x0C04 else 0x0C05)

/-- The servo takes an offset (R381). -/
def Dev.ptpOffset (d : Dev) (off : Int) : Dev :=
  let d := d.putI F.NET_PTP_OFFSET off
  if 10000 < off.natAbs then
    let d := (d.clockOffset (-off) 0 1).netUp fun n => { n with good := 0 }
    (d.ptpValid false).raise 0x0C06 [d.get F.NET_PTP_OFFSET]
  else
    let d := d.clockOffset (-off) 10000 1000000000
    let d := d.netUp fun n => { n with good := if off.natAbs ≤ 1000 then min 16 (n.good + 1) else 0 }
    let d := if d.get F.NET_STATUS_PTP_STATE = 2 && d.net.good = 16 then d.put F.NET_STATUS_PTP_STATE 3 else d
    if d.net.good = 16 then d.ptpValid true else d

/-- The device's clock identity: NET_MAC as an EUI-64. (PRESUMED, log entry 152.) -/
def Dev.clockId (d : Dev) : Nat :=
  let m (i : Nat) : Nat := d.netMac / 256 ^ i % 256
  [m 0, m 1, m 2, 0xFF, 0xFE, m 3, m 4, m 5].foldl (fun a b => 256 * a + b) 0

/-- The device acts as PTP master: by its role, or by the best master clock algorithm. -/
def Dev.ptpMaster (d : Dev) : Bool :=
  d.get F.NET_PTP_CFG_ROLE == 2 || (d.get F.NET_PTP_CFG_ROLE == 1 && d.get F.NET_STATUS_PTP_STATE == 4)

/-- A master's time is valid while PPS_IN is locked and NET_PTP_SET has been written since kindling (R382). -/
def Dev.ppsGood (d : Dev) : Bool := d.flag F.NET_STATUS_PPS_LOCK && d.net.wasSet

/-- The data set that the device announces (R380, R382): CLASS while PTP time is valid, else 248; the TLV in profile 2. -/
def Dev.ownData (d : Dev) : PtpAnnounce :=
  { prio1 := d.get F.NET_PTP_CFG_PRIO1, cls := if d.ptpOk then d.get F.NET_PTP_CLK_CLASS else 248
    acc := d.get F.NET_PTP_CLK_ACCURACY, var := Config.ptpVariance, prio2 := d.get F.NET_PTP_CFG_PRIO2, gm := d.clockId, steps := 0
    tlv := if d.get F.NET_PTP_CFG_PROFILE = 2 then some (d.get F.NET_PTP_CLK_GM_ID) else none, interval := 1000 }

/-- A list of numbers comes before another of its length, first difference first. -/
def lexBefore : List Nat → List Nat → Bool
  | a :: l, b :: m => decide (a < b) || (a == b && lexBefore l m)
  | _, _ => false

/-- The order of the best master clock algorithm (IEEE 1588): lower is better. (PRESUMED, log entry 152.) -/
def betterClock (a b : PtpAnnounce) : Bool :=
  lexBefore [a.prio1, a.cls, a.acc, a.var, a.prio2, a.gm, a.steps] [b.prio1, b.cls, b.acc, b.var, b.prio2, b.gm, b.steps]

/-- An Announce of a port's best master that 3 intervals have not passed since. -/
def Dev.annLive (d : Dev) (p : Nat) : Option PtpAnnounce :=
  match d.net.ann.getD p none with
  | some (t, _, a) => if d.now < t + 3 * msec * a.interval then some a else none
  | none => none

/-- MASTER: its time is valid as R382 has it. -/
def Dev.ptpBecomeMaster (d : Dev) : Dev :=
  let d := ((d.put F.NET_STATUS_PTP_PORT 3).put F.NET_STATUS_PTP_STATE 4).netUp fun n => { n with good := 0, master := d.clockId }
  d.ptpValid d.ppsGood

/-- The clock follows the best master of a port: calibrating anew where the grandmaster is another (R381). -/
def Dev.ptpFollow (d : Dev) (p : Nat) (a : PtpAnnounce) : Dev :=
  let st := d.get F.NET_STATUS_PTP_STATE
  let d := d.put F.NET_STATUS_PTP_PORT p
  if (st = 2 || st = 3) && d.net.master = a.gm then d
  else (d.put F.NET_STATUS_PTP_STATE 2).netUp fun n => { n with good := 0, master := a.gm }

/-- The port whose master is the best one heard; the slave port keeps its part among equals (R380). -/
def Dev.bestPort (d : Dev) : Option (Nat × PtpAnnounce) :=
  match d.annLive 0, d.annLive 1 with
  | some a, some b =>
    if betterClock b a || (!betterClock a b && d.get F.NET_STATUS_PTP_PORT = 1) then some (1, b) else some (0, a)
  | some a, none => some (0, a)
  | none, some b => some (1, b)
  | none, none => none

/-- The state that the role and the best master heard give (R380): a master-capable clock with a better data set is
MASTER, PASSIVE under a better one while its own class is below 128, else a slave. (PRESUMED, log entry 152.) -/
def Dev.ptpDecide (d : Dev) : Dev :=
  let own := d.ownData
  match d.get F.NET_PTP_CFG_ROLE, d.bestPort with
  | 2, _ => if d.get F.NET_STATUS_PTP_STATE = 4 then d else d.ptpBecomeMaster
  | 1, some (p, a) =>
    if betterClock own a then (if d.get F.NET_STATUS_PTP_STATE = 4 then d else d.ptpBecomeMaster)
    else if own.cls < 128 then (d.put F.NET_STATUS_PTP_PORT 3).put F.NET_STATUS_PTP_STATE 5
    else d.ptpFollow p a
  | _, some (p, a) => d.ptpFollow p a
  | _, none => d

/-- PTP comes into force under a profile and a role, or goes off (Table 16-2, R380). -/
def Dev.ptpStart (d : Dev) : Dev :=
  let d := d.netUp fun n => { n with ann := [none, none], good := 0, listenAt := d.now, ptpAt := d.now }
  if d.get F.NET_PTP_CFG_PROFILE = 0 then ((d.put F.NET_STATUS_PTP_PORT 3).put F.NET_STATUS_PTP_STATE 0).ptpValid false
  else if d.get F.NET_PTP_CFG_ROLE = 2 then d.ptpBecomeMaster
  else ((d.put F.NET_STATUS_PTP_PORT 3).put F.NET_STATUS_PTP_STATE 1).ptpValid false

/-- A PTP message of the device's own leaves in queue 3 (R379). -/
def Dev.ptpSend (d : Dev) (port : Option Nat) (m : PtpSent) : Dev := d.netOwn 3 port none none (.ptp m)

/-- The messages that the profiles send once a second: a peer delay request on each port, and a master's Announce and Sync.
(PRESUMED, log entry 152.) -/
def Dev.ptpTick (d : Dev) : Dev :=
  if d.get F.NET_PTP_CFG_PROFILE = 0 || d.now < d.net.ptpAt then d else
  let d := d.netQuiet.netUp fun n => { n with ptpAt := d.now + second }
  let dom := d.get F.NET_PTP_CFG_DOMAIN
  let d := d.ptpSend none (.pdelayReq dom)
  if d.ptpMaster then (d.ptpSend none (.announce dom d.ownData)).ptpSend none (.sync dom) else d

/-- An Announce heard on a port: the port's best master is kept, and the state decided anew. -/
def Dev.announced (d : Dev) (p sender : Nat) (a : PtpAnnounce) : Dev :=
  let keep := match d.net.ann.getD p none, d.annLive p with
    | some (_, s, _), some b => s != sender && !betterClock a b
    | _, _ => false
  if keep then d else (d.netUp fun n => { n with ann := n.ann.set p (some (d.now, sender, a)) }).ptpDecide

/-- The correction of an event message. -/
def ptpCorr : PtpMsg → Option Int
  | .sync _ _ _ c => some c
  | .pdelayReq _ => some 0
  | _ => none

/-- PTP_MESSAGE_RECEIVE: a message of another domain is not this clock's, nor an Announce without the TLV of profile 2. -/
def Dev.ptpMessage (d : Dev) (f : EthFrame) (m : PtpMsg) (dt : Nat) : Dev :=
  let (d, go) := (d.advance dt).netQuiet.macReceive f (ptpCorr m)
  if !go || d.get F.NET_PTP_CFG_PROFILE = 0 then d else
  let d := d.dupAdd f
  let dom := d.get F.NET_PTP_CFG_DOMAIN
  match m with
  | .pdelay ns => d.put (F.NET_PTP_PDELAY.ix f.port) ns
  | .pdelayReq n => if n = dom then d.ptpSend (some f.port) (.pdelayResp dom) else d
  | .announce n sender a =>
    if n != dom || (d.get F.NET_PTP_CFG_PROFILE = 2 && a.tlv.isNone) then d else d.announced f.port sender a
  | .sync n sender t1 corr =>
    let st := d.get F.NET_STATUS_PTP_STATE
    let from_ := match d.net.ann.getD f.port none with | some (_, s, _) => s == sender | none => false
    if n != dom || !from_ || d.get F.NET_STATUS_PTP_PORT != f.port || (st != 2 && st != 3) then d
    else d.ptpOffset ((d.ptpNs : Int) - t1 - corr - d.get (F.NET_PTP_PDELAY.ix f.port))

/-- The instant at which no Announce has come for 3 intervals: on the slave port, on the port of a better master while
PASSIVE, and on both since the clock began to listen. -/
def Dev.announceDue (d : Dev) : Nat :=
  let due (p : Nat) : Nat := match d.net.ann.getD p none with | some (t, _, a) => t + 3 * msec * a.interval | none => 0
  if d.get F.NET_STATUS_PTP_PORT ≤ 1 then due (d.get F.NET_STATUS_PTP_PORT)
  else max (max (due 0) (due 1)) (d.net.listenAt + 3 * second)

/-- PTP_ANNOUNCE_TIMEOUT: 3 announce intervals without Announce from the master; the other port takes over where it still
has one (R380), else PTP time is lost (R381), and a master-capable clock becomes MASTER. -/
def Dev.announceTimeout (d : Dev) : Dev :=
  let st := d.get F.NET_STATUS_PTP_STATE
  if d.get F.NET_PTP_CFG_PROFILE = 0 || st = 0 || st = 4 then d else
  let p := d.get F.NET_STATUS_PTP_PORT
  let d := (d.advanceTo d.announceDue).bump F.NET_PTP_TO_CNT
  let d := if p ≤ 1 then d.netUp fun n => { n with ann := n.ann.set p none } else d
  match d.bestPort with
  | some _ => d.ptpDecide
  | none =>
    let d := (((d.put F.NET_STATUS_PTP_PORT 3).put F.NET_STATUS_PTP_STATE 1).netUp fun n => { n with good := 0, listenAt := d.now }).ptpValid false
    if d.get F.NET_PTP_CFG_ROLE = 1 then d.ptpBecomeMaster else d

/-- NET_PTP_SET written; STATE with ROLE 0. -/
def Dev.ptpSet (d : Dev) (v : Nat) : Dev × Nat :=
  if d.get F.NET_PTP_CFG_ROLE = 0 then (d, 0x0A)
  else ((d.put F.NET_PTP_SET v).netUp fun n => { n with ptpSet := some v, wasSet := true }, 0)

/-- PPS_IN_EDGE: a rising edge `dt` clocks from now; lock, phase and seconds (R382). -/
def Dev.ppsIn (d : Dev) (dt : Nat) : Dev :=
  let d := d.advance dt
  if !d.flag F.NET_PTP_CFG_PPS_IN_EN then d else
  let near := match d.net.pps with
    | some t => decide (second ≤ d.now - t + 5000) && decide (d.now - t ≤ second + 5000)
    | none => false
  let n := if near then min 4 (d.net.ppsN + 1) else 1
  let d := (d.netUp fun x => { x with pps := some d.now, ppsN := n }).putB F.NET_STATUS_PPS_LOCK (n = 4)
  if !d.ptpMaster then d else
  let sec := match d.net.ptpSet with | some v => v | none => (d.ptpNs + 500000000) / 1000000000
  let d := { d with time := { d.time with ptp := sec * (1000000000 * 2 ^ 32) } }
  let d := d.netUp fun x => { x with ptpSet := none }
  d.ptpValid (n = 4 && d.net.wasSet)

/-- PPS_IN is not locked once an edge is missing (R382). (DEDUCED, log entry 77.) -/
def Dev.ppsTick (d : Dev) : Dev :=
  match d.net.pps with
  | some t =>
    if d.now ≤ t + second + 5000 || !d.flag F.NET_STATUS_PPS_LOCK then d else
    let d := (d.netUp fun x => { x with ppsN := 0 }).put F.NET_STATUS_PPS_LOCK 0
    if d.ptpMaster then d.ptpValid false else d
  | none => d

/-- PPS_OUT_SECOND: PPS_OUT rises at the next whole PTP second (R383). -/
def Dev.ppsSecond (d : Dev) : Dev :=
  if !d.flag F.NET_PTP_CFG_PPS_OUT_EN then d else
  let d := d.toPtp ((d.ptpSec + 1) * 1000000000)
  d.netUp fun n => { n with ppsOut := some (d.now + msec * d.get F.NET_PPS_WIDTH) }

/-- NET_TIME_NS read: PTP time, its seconds latched. -/
def Dev.timeLatch (d : Dev) : Dev :=
  (d.put F.NET_TIME_SEC_LO d.ptpSec).put F.NET_TIME_SEC_HI (d.ptpSec / 2 ^ 32)

/-! ## Subscriptions (R384 to R389, R392) -/

/-- A NUL-terminated string of the pool from an offset, and the offset after it. -/
def Dev.poolString (d : Dev) (off : Nat) : Nat → List Byte × Nat
  | 0 => ([], off)
  | n + 1 =>
    let b := BitVec.ofNat 8 (d.get (F.NET_STR.ix (off / 4)) / 256 ^ (off % 4))
    if b = 0 then ([], off + 1) else let (s, o) := d.poolString (off + 1) n; (b :: s, o)

/-- The strings of a context, in order: reference or svID, then datSet. -/
def Dev.ctxStrings (d : Dev) (i : Nat) : List Byte × List Byte :=
  let (a, o) := d.poolString (d.get (F.NET_CTX_STR.ix i)) 129
  (a, (d.poolString o 129).1)

/-- The enabled context that takes a frame: first in index order (R384). -/
def Dev.ctxMatch (d : Dev) (kind : Nat) (f : EthFrame) (appid : Nat) (ref : List Byte) : Option Nat :=
  (List.range 256).find? fun i =>
    d.flag (F.NET_CTX_EN.ix i) && d.get (F.NET_CTX_KIND.ix i) == kind && f.etype == (if kind = 1 then 0x88B8 else 0x88BA)
      && d.get (F.NET_CTX_MAC_LO.ix i) + d.get (F.NET_CTX_MAC_HI.ix i) * 2 ^ 32 == f.dst
      && d.get (F.NET_CTX_APPID.ix i) == appid && (d.ctxStrings i).1 == ref

/-- A key is within its validity. -/
def Dev.keyLive (d : Dev) (k : Option NetKey) : Bool :=
  match k with | some k => decide (k.start ≤ d.ptpSec) && decide (d.ptpSec < k.stop) | none => false

/-- The reason a frame fails authentication, 0 where it passes (R385, R393). -/
def Dev.authReason (d : Dev) (i : Nat) (a : StreamAuth) : Nat :=
  if d.get (F.NET_CTX_ALG.ix i) = 0 then 0
  else if !a.present || a.alg != d.get (F.NET_CTX_ALG.ix i) then 1
  else
    let c := d.nctx i
    match [c.cur, c.next, c.old].find? fun k => match k with | some k => k.id == a.keyId | none => false with
    | some k => if !d.keyLive k then 7 else if a.ok then 0 else 1
    | none => 7

/-- Members of a subscription context: entry words. -/
def Dev.ctxMem (d : Dev) (i m : Nat) : Nat := d.get (F.NET_MEM_TYPE.ix (d.get (F.NET_CTX_MEM.ix i) + m)).whole
def memUse (w : Nat) : Nat := w / 8 % 4
def memLine (w : Nat) : Nat := w / 32 % 8
def memTv (w : Nat) : Bool := w.testBit 8
def memFs (w : Nat) : Bool := w.testBit 9

/-- A member is true (R388). -/
def memTrue (w : Nat) (v : MemVal) : Bool :=
  if v.ty = 0 then (v.value != 0) == memTv w else v.ty == 5 && memTv w && v.value % 4 == 2

/-- Trip lines that some enabled subscription's members assert (R388). -/
def Dev.gooseLines (d : Dev) : Nat :=
  ((List.range 256).filter fun i => d.flag (F.NET_CTX_EN.ix i) && d.get (F.NET_CTX_KIND.ix i) % 2 == 1).foldl (fun acc i =>
    let vals := d.get (F.NET_CTX_STAT_VALUES.ix i)
    (List.range (d.get (F.NET_CTX_NMEM.ix i))).foldl (fun acc m =>
      let w := d.ctxMem i m
      if memUse w = 1 && vals.testBit m then setBit acc (memLine w) else acc) acc) 0

/-- The trip lines follow the members in force. -/
def Dev.linesUpdate (d : Dev) : Dev :=
  let new := d.gooseLines
  let old := d.dmp.goose
  let d := { d with dmp := { d.dmp with goose := new } }
  d.forAll (List.range 8) fun d l => d.sourceLevel (76 + l) (old.testBit l) (new.testBit l)

/-- The permissive of GSV: the context valid and its member of USE 2 true (R389, R303). -/
def Dev.netPermit (d : Dev) : Bool :=
  let i := d.get F.GSV_PERMIT_CTX
  d.flag (F.NET_CTX_STAT_VALID.ix i) &&
    (List.range (d.get (F.NET_CTX_NMEM.ix i))).any fun m =>
      memUse (d.ctxMem i m) == 2 && (d.get (F.NET_CTX_STAT_VALUES.ix i)).testBit m

/-- A frame of a context is discarded with a reason (Table 16-7). (DEDUCED, log entry 73.) -/
def Dev.streamDiscard (d : Dev) (i reason : Nat) : Dev :=
  let d := (d.put (F.NET_CTX_STAT_LAST_ERR.ix i) reason).bump (F.NET_CTX_STAT_ERR_CNT.ix i)
  match reason with
  | 1 | 7 => (d.bump F.NET_AUTH_CNT).raise 0x0C07 [i]
  | 2 => (d.bump F.NET_REPLAY_CNT).raise 0x0C08 [i]
  | 6 => d.bump F.NET_SIM_CNT
  | 3 | 4 | 5 =>
    ((d.bump F.NET_CFG_MIS_CNT).put (F.NET_CTX_STAT_VALID.ix i) 0).raise 0x0C0C [i, reason]
  | _ => d

/-- Subscription record (Table 16-4) queued where the ring allows it (R392); FLAGS[2] tells of a drop of any context's.
(DEDUCED, log entry 67.) -/
def Dev.subRecord (d : Dev) (i ty seq1 seq2 : Nat) (raw : List Byte) : Dev :=
  let c := d.nctx i
  let r := d.get F.NET_SUB_RING_RING
  let n := (d.hst.rings.map fun g => (g.waiting.filter fun x => x.prod == .subscription).length).sum
  if 64 ≤ n then (d.netUp fun x => { x with dropped := true }).raise 0x0C0F else
  let fl := (if d.ptpOk then 1 else 0) + (if c.gap then 2 else 0) + (if d.net.dropped then 4 else 0)
  let bs := leBytes 2 ty ++ leBytes 1 i ++ leBytes 1 fl ++ leBytes 2 raw.length ++ leBytes 2 0 ++ leBytes 8 d.ptpSec
    ++ leBytes 4 d.ptpSub ++ leBytes 4 seq1 ++ leBytes 4 seq2 ++ leBytes 4 0 ++ raw
  ((d.nctxUp i fun c => { c with gap := false }).netUp fun x => { x with dropped := false }).ringQueue r ⟨.subscription, bs⟩

/-- A subscription becomes valid by an accepted frame, with its members' truth (R387). -/
def Dev.streamAccept (d : Dev) (i : Nat) (mems : List MemVal) (ms : Nat) : Dev :=
  let vals := (List.range mems.length).foldl (fun acc m => putBit acc m (memTrue (d.ctxMem i m) (mems.getD m ⟨0, 0⟩))) 0
  let was := d.flag (F.NET_CTX_STAT_VALID.ix i)
  let d := ((d.put (F.NET_CTX_STAT_VALUES.ix i) vals).put (F.NET_CTX_STAT_VALID.ix i) 1).put (F.NET_CTX_STAT_SEEN.ix i) 1
  let d := (d.nctxUp i fun c => { c with expire := some (d.now + msec * ms) }).linesUpdate
  if was then d else d.raise 0x0C0B [i]

/-- The dataset check of a frame: its reason, 0 where it passes. -/
def Dev.datasetReason (d : Dev) (i : Nat) (datSet : List Byte) (confRev : Nat) (nds : Bool) (mems : List MemVal) : Nat :=
  if (d.ctxStrings i).2 != datSet then 5
  else if d.get (F.NET_CTX_CONFREV.ix i) != confRev then 3
  else if mems.length != d.get (F.NET_CTX_NMEM.ix i) then 5
  else if nds then 4
  else if (List.range mems.length).any fun m => (mems.getD m ⟨0, 0⟩).ty != d.ctxMem i m % 8 then 5
  else 0

/-- The sequence rules of R386: 0 replay, 1 accepted, 2 accepted with a gap within the state, 3 accepted after
missed states. -/
def Dev.gooseSequence (d : Dev) (i : Nat) (g : Goose) : Nat :=
  if !d.flag (F.NET_CTX_STAT_SEEN.ix i) then 1 else
  let s := d.get (F.NET_CTX_STAT_STNUM.ix i)
  let q := d.get (F.NET_CTX_STAT_SQNUM.ix i)
  let next := if s + 1 < 2 ^ 32 then s + 1 else 1
  if g.stNum = s then (if q < g.sqNum then (if g.sqNum = q + 1 then 1 else 2) else 0)
  else if g.stNum = next then 1
  else if 2 ≤ (g.stNum + 2 ^ 32 - s) % 2 ^ 32 && (g.stNum + 2 ^ 32 - s) % 2 ^ 32 ≤ 2 ^ 31 then 3
  else if (d.nctx i).t < g.t then 1
  else 0

/-- GOOSE_FRAME_RECEIVE. -/
def Dev.gooseReceive (d : Dev) (g : Goose) (dt : Nat) : Dev :=
  let (d, go) := (d.advance dt).netQuiet.macReceive g.eth
  if !go then d else
  match d.ctxMatch 1 g.eth g.appid g.gocbRef with
  | none => d.dupAdd g.eth
  | some i =>
    let a := d.authReason i g.auth
    if a != 0 then d.streamDiscard i a else
    let d := d.dupAdd g.eth
    let d := if g.sim then d.put (F.NET_CTX_STAT_SIM_SEEN.ix i) 1 else d
    if g.sim && !d.flag (F.NET_CTX_SIM.ix i) then d.streamDiscard i 6 else
    let c := d.datasetReason i g.datSet g.confRev g.nds g.mems
    if c != 0 then d.streamDiscard i c else
    let s := d.gooseSequence i g
    if s = 0 then d.streamDiscard i 2 else
    let new := !d.flag (F.NET_CTX_STAT_SEEN.ix i) || d.get (F.NET_CTX_STAT_STNUM.ix i) != g.stNum
    let d := if s = 3 then ((d.bump F.NET_GAP_CNT).nctxUp i fun c => { c with gap := true }).raise 0x0C09 [i]
      else if s = 2 then (d.bump F.NET_GAP_CNT).nctxUp i fun c => { c with gap := true } else d
    let d := ((d.put (F.NET_CTX_STAT_STNUM.ix i) g.stNum).put (F.NET_CTX_STAT_SQNUM.ix i) g.sqNum).nctxUp i fun c => { c with t := g.t }
    let d := d.streamAccept i g.mems g.ttl
    if new && d.flag (F.NET_CTX_REPORT.ix i) then d.subRecord i 0x5C01 g.stNum g.sqNum g.raw else d

/-- One ASDU of an accepted frame. (DEDUCED, log entry 68.) -/
def Dev.svAsdu (d : Dev) (i : Nat) (a : SvAsdu) : Dev :=
  let d := (d.put (F.NET_CTX_STAT_SQNUM.ix i) a.smpCnt).streamAccept i a.mems (d.get (F.NET_CTX_LOSS.ix i))
  if d.flag (F.NET_CTX_REPORT.ix i) then d.subRecord i 0x5C02 a.smpCnt a.confRev a.raw else d

/-- SV_FRAME_RECEIVE. -/
def Dev.svReceive (d : Dev) (v : Sv) (dt : Nat) : Dev :=
  let (d, go) := (d.advance dt).netQuiet.macReceive v.eth
  if !go then d else
  match d.ctxMatch 3 v.eth v.appid v.svID with
  | none => d.dupAdd v.eth
  | some i =>
    let a := d.authReason i v.auth
    if a != 0 then d.streamDiscard i a else
    let d := d.dupAdd v.eth
    let d := if v.sim then d.put (F.NET_CTX_STAT_SIM_SEEN.ix i) 1 else d
    if v.sim && !d.flag (F.NET_CTX_SIM.ix i) then d.streamDiscard i 6 else
    match (v.asdus.map fun a => d.datasetReason i v.datSet a.confRev false a.mems).find? (· != 0) with
    | some c => d.streamDiscard i c
    | none => d.forAll v.asdus fun d a => d.svAsdu i a

/-- STREAM_EXPIRY: a subscription's TAL timer or LOSS time runs out (R387). -/
def Dev.streamExpiry (d : Dev) (i : Nat) : Dev :=
  match (d.nctx i).expire with
  | none => d
  | some t =>
    let d := (d.advanceTo t).nctxUp i fun c => { c with expire := none }
    let d := ((d.put (F.NET_CTX_STAT_VALID.ix i) 0).put (F.NET_CTX_STAT_LAST_ERR.ix i) 8).bump F.NET_TAL_CNT
    let vals := d.get (F.NET_CTX_STAT_VALUES.ix i)
    let fs := (List.range (d.get (F.NET_CTX_NMEM.ix i))).foldl (fun acc m =>
      let w := d.ctxMem i m
      if memUse w = 1 || memUse w = 2 then putBit acc m (memFs w) else acc) vals
    let d := if d.flag (F.NET_CTX_ACT.ix i) then d.put (F.NET_CTX_STAT_VALUES.ix i) fs else d
    d.linesUpdate.raise 0x0C0A [i]

/-! ## Publications (R390, R391) -/

/-- The value of a publication's member now. -/
def Dev.memberValue (d : Dev) (w : Nat) : Nat :=
  let arg := w / 128 % 2 ^ 23
  let v := match w / 8 % 16 with
    | 0 => arg
    | 1 => if d.latched.testBit arg then 1 else 0
    | 2 => if d.ctlFb (arg % 8) then 1 else 0
    | 3 => d.gsv
    | 4 => (Mem.rd d.fbx.nodes arg).toNat
    | 5 => (d.word (4 * arg)).toNat
    | _ => 0
  match w % 8 with
  | 0 => if v = 0 then 0 else 1
  | 5 => if w / 8 % 16 = 1 || w / 8 % 16 = 2 then (if v = 0 then 1 else 2) else v % 4
  | _ => v

/-- The members of a publication as evaluated now: all of them at a device frame start, and between those the trip groups
and contactor feedbacks (R390). -/
def Dev.memberVals (d : Dev) (i : Nat) : List Nat :=
  let frame := d.time.frames != 0 && d.now == d.fbx.frameAt
  (List.range (d.get (F.NET_CTX_NMEM.ix i))).map fun m =>
    let w := d.ctxMem i m
    match (d.nctx i).vals with
    | some old => if frame || w / 8 % 16 == 1 || w / 8 % 16 == 2 then d.memberValue w else old.getD m 0
    | none => d.memberValue w

/-- A publication may send: without authentication, or under a current key within validity. -/
def Dev.mayPublish (d : Dev) (i : Nat) : Bool := d.get (F.NET_CTX_ALG.ix i) == 0 || d.keyLive (d.nctx i).cur

/-- A frame of a publication enters its queue, on the context's ports and with its VLAN tag (Table 16-11). -/
def Dev.publish (d : Dev) (i queue : Nat) (f : NetFrame) : Dev :=
  let port := d.get (F.NET_CTX_PORT.ix i)
  d.netOwn queue (if port < 2 then some port else none)
    (if d.flag (F.NET_CTX_TAG.ix i) then some (d.get (F.NET_CTX_PCP.ix i), d.get (F.NET_CTX_VID.ix i)) else none) none f

/-- A GOOSE frame of a publication leaves; the next is due `ms` after it. -/
def Dev.gooseSend (d : Dev) (i ms : Nat) : Dev :=
  let c := d.nctx i
  let d := d.nctxUp i fun c => { c with sendAt := some (d.now + msec * ms) }
  if !d.mayPublish i then d else
  d.publish i 3 (.goose i (d.get (F.NET_CTX_STAT_STNUM.ix i)) (d.get (F.NET_CTX_STAT_SQNUM.ix i)) c.t (2 * ms) (!d.ptpOk) (c.vals.getD []))

/-- GOOSE_MEMBER_CHANGE: a publication's members are evaluated; a change sends a new state. -/
def Dev.gooseChange (d : Dev) (i : Nat) : Dev :=
  let d := d.netQuiet
  if !d.flag (F.NET_CTX_EN.ix i) || d.get (F.NET_CTX_KIND.ix i) != 0 then d else
  let vals := d.memberVals i
  if (d.nctx i).vals == some vals then d else
  let s := d.get (F.NET_CTX_STAT_STNUM.ix i)
  let d := (d.put (F.NET_CTX_STAT_STNUM.ix i) (if s + 1 < 2 ^ 32 then s + 1 else 1)).put (F.NET_CTX_STAT_SQNUM.ix i) 0
  let d := d.nctxUp i fun c => { c with vals := some vals, t := d.ptpNs, offset := d.get (F.NET_CTX_T1.ix i) }
  d.gooseSend i (d.get (F.NET_CTX_T1.ix i))

/-- The instant after the change, in ms, of the retransmission that follows the one at `o` ms: twice as late up to T0,
then T0 later each time (R390). (DEDUCED, log entry 127.) -/
def nextOffset (o t0 : Nat) : Nat := if o < t0 then min (2 * o) t0 else o + t0

/-- GOOSE_RETRANSMIT: at T1, 2 T1, 4 T1 up to T0, and every T0 after that (R390). -/
def Dev.gooseRetransmit (d : Dev) (i : Nat) : Dev :=
  match (d.nctx i).sendAt with
  | none => d
  | some t =>
    let d := (d.advanceTo t).netQuiet
    let q := d.get (F.NET_CTX_STAT_SQNUM.ix i)
    let d := d.put (F.NET_CTX_STAT_SQNUM.ix i) (if q + 1 < 2 ^ 32 then q + 1 else 1)
    let o := (d.nctx i).offset
    let n := nextOffset o (d.get (F.NET_CTX_T0.ix i))
    (d.nctxUp i fun c => { c with offset := n }).gooseSend i (n - o)

/-- Four-point Lagrange interpolation in binary64 of values at instants (ns) to an instant. -/
def lagrange4 (pts : List (Int × Nat)) (t : Int) : Nat :=
  f64.sum (pts.map fun (ti, y) =>
    pts.foldl (fun acc (tj, _) => if tj = ti then acc else f64.mul acc (f64.ofRat ((t - tj) * (if ti < tj then -1 else 1)) (ti - tj).natAbs)) y)

/-- INT32 saturation. -/
def satInt32 (i : Int) : Int := max (-2147483648) (min 2147483647 i)

/-- A common-angle sample as SV publications take it, at the phase `p48` of its instant (R187, R391). -/
def Dev.svTake (d : Dev) (p48 : Nat) : Dev :=
  let chan (x : Nat × Bool) : Nat × Bool := (widen x.1, x.2)
  let vs := [F.MET_CHAN_V_VA, F.MET_CHAN_V_VB, F.MET_CHAN_V_VC].map fun f => chan (d.f2 (d.mget f))
  let is := [F.MET_CHAN_I_IA, F.MET_CHAN_I_IB, F.MET_CHAN_I_IC, F.MET_CHAN_I_IN].map fun f => chan (d.metF2 (d.mget f))
  let s : SvTaken := ⟨vs ++ is, d.stampPtp p48, d.holdover⟩
  d.netUp fun n => { n with taken := (s :: n.taken).take 16 }

/-- The eight channels of an SV sample at an instant from four common-angle samples around it: value, quality (0 good,
bit 0 validity invalid and failure, bit 1 questionable and inaccurate, bit 2 derived). -/
def Dev.svChannels (d : Dev) (four : List (SvTaken × Int)) (t : Int) : List (Int × Nat) :=
  let val (s : SvTaken) (x : Nat) : Nat × Bool := s.vals.getD x (0, false)
  let q (x : Nat) : Nat := if four.all fun (s, _) => (val s x).2 then (if four.any fun (s, _) => s.hold then 2 else 0) else 1
  let at_ (x : Nat) : Nat := lagrange4 (four.map fun (s, ti) => (ti, (val s x).1)) t
  let ri := widen (d.mget F.MET_RATIO_I)
  let rv := widen (d.mget F.MET_RATIO_V)
  let cur (x : Nat) : Int := satInt32 (f64.round (f64.mul (f64.mul (at_ (3 + x)) ri) (f64.ofInt 1000)))
  let vol (x : Nat) : Nat := f64.mul (f64.mul (at_ x) rv) (f64.ofInt 100)
  let inEn := d.mget F.MET_CHAN_I_IN_EN = 1
  let vn := f64.add (f64.add (vol 0) (vol 1)) (vol 2)
  let worst := if [0, 1, 2].any fun x => q x = 1 then 1 else q 0
  [(cur 0, q 3), (cur 1, q 4), (cur 2, q 5), if inEn then (cur 3, q 6) else (0, 1),
   (satInt32 (f64.round (vol 0)), q 0), (satInt32 (f64.round (vol 1)), q 1), (satInt32 (f64.round (vol 2)), q 2),
   (satInt32 (f64.round vn), 4 + worst)]

/-- Samples per second of a published SV stream (R391). -/
def Dev.svRate (d : Dev) (i : Nat) : Nat := if d.flag (F.NET_CTX_RATE.ix i) then 14400 else 4800

/-- Sample m of a published SV stream, numbered from the PTP epoch, and its channels, where two common-angle samples on
either side of its instant are there. Instants are in units of 2^-32 ns over the rate. -/
def Dev.svAt (d : Dev) (rate m : Nat) : Option (Nat × List (Int × Nat)) :=
  let hist := d.net.taken.map fun s => (s, ((s.ptp * rate : Nat) : Int))
  let t : Int := (m * 1000000000 * 2 ^ 32 : Nat)
  match hist.findIdx? fun (_, ti) => decide (ti ≤ t) with
  | none => none
  | some k => if k < 2 ∨ hist.length < k + 2 then none else some (m, d.svChannels ((hist.drop (k - 2)).take 4) t)

/-- The sample of a published SV stream that comes next: the one after the last, or, at the start and after a step of PTP
time, the latest whose samples are there (R391). (DEDUCED, log entry 156.) -/
def Dev.svDue (d : Dev) (i : Nat) : Option (Nat × List (Int × Nat)) :=
  let rate := d.svRate i
  let first := (d.net.taken.getD 1 ⟨[], 0, false⟩).ptp * rate / (1000000000 * 2 ^ 32)
  match (d.nctx i).sample with
  | some m =>
    if first ≤ m + 96 ∧ m ≤ first + 96 then d.svAt rate (m + 1) else d.svAt rate first
  | none => d.svAt rate first

/-- SV_SAMPLE_INSTANT: the publication's next sample whose instant has samples on both sides; a frame leaves with its
2 or 6 ASDUs (R391). -/
def Dev.svSample (d : Dev) (i : Nat) : Dev :=
  let d := d.netQuiet
  if !d.flag (F.NET_CTX_EN.ix i) || d.get (F.NET_CTX_KIND.ix i) != 2 then d else
  match d.svDue i with
  | none => d
  | some (m, chans) =>
    let k := m % d.svRate i
    let n := if d.svRate i = 4800 then 2 else 6
    let d := (d.nctxUp i fun c => { c with sample := some m, asdus := c.asdus ++ [(k, chans)] }).put (F.NET_CTX_STAT_SQNUM.ix i) k
    let a := (d.nctx i).asdus
    if a.length < n then d else
    let d := d.nctxUp i fun c => { c with asdus := [] }
    if d.mayPublish i then d.publish i 2 (.sv i (if d.ptpOk then 2 else 0) a) else d

/-! ## Keys (R393) -/

/-- The key registers of a context. -/
def Dev.keyRegs (d : Dev) (i : Nat) : Dev :=
  let c := d.nctx i
  let n (k : Option NetKey) : Nat := (k.map NetKey.id).getD 0
  d.put (F.NET_KEY_CUR.ix i) (n c.cur) |>.put (F.NET_KEY_NEXT.ix i) (n c.next)
    |>.put (F.NET_KEY_START.ix i) ((c.next.map NetKey.start).getD 0)
    |>.put (F.NET_KEY_FLAGS.ix i) ((if d.keyLive c.cur then 1 else 0) + (if c.next.isSome then 2 else 0)
        + (if c.cur.isSome && !d.keyLive c.cur then 4 else 0))

/-- KEY_DELIVER for a context: the next-key slot. -/
def Dev.keyDeliver (d : Dev) (i : Nat) (k : NetKey) : Dev := (d.nctxUp i fun c => { c with next := some k }).keyRegs i

/-- NET_KEY_CHANGE: the next key's start time comes. -/
def Dev.keyChange (d : Dev) (i : Nat) : Dev :=
  match (d.nctx i).next with
  | none => d
  | some k =>
    let d := d.toPtp (k.start * 1000000000)
    ((d.nctxUp i fun c => { c with cur := some k, next := none, old := c.cur }).keyRegs i).raise 0x0C0D [k.id]

/-- NET_KEY_EXPIRED: the current key's validity ends without a next key in force. -/
def Dev.keyExpired (d : Dev) (i : Nat) : Dev :=
  match (d.nctx i).cur with
  | none => d
  | some k =>
    let d := (d.toPtp (k.stop * 1000000000)).keyRegs i
    if d.keyLive (some k) then d else d.raise 0x0C0E [k.id]

/-! ## Commands over layer 2 (R394) -/

/-- A response frame of layer 2: on the request's port in independent mode, on both otherwise. (DEDUCED, log entry 94.) -/
def Dev.l2Respond (d : Dev) (c : L2Cmd) (mbx : Nat) (frame : List Byte) : Dev :=
  let bytes := leBytes 1 mbx ++ leBytes 1 0 ++ leBytes 2 frame.length ++ frame
  d.netOwn 0 (some c.port) none (some (18 + bytes.length)) (.response c.src mbx bytes)

/-- A response header (Table 20-1). -/
def respHeader (op status len uid sid seq : Nat) : List Byte :=
  leBytes 1 op ++ leBytes 1 status ++ leBytes 2 len ++ leBytes 2 uid ++ leBytes 2 sid ++ leBytes 8 seq

/-- An untagged refusal of a request frame (R458): opcode and sequence echoed, LEN 0. -/
def Dev.refusal (d : Dev) (frame : List Byte) (status : Nat) : List Byte :=
  respHeader (leAt frame 0 1) status 0 (d.get F.FLU_UID_SELF_UID) 0 (leAt frame 8 8)

/-- A request frame is the one asked: opcode, session, sequence number. -/
def Asked.isIn (a : Asked) (frame : List Byte) : Bool := leAt frame 0 1 == a.opcode && leAt frame 6 2 == a.sid && leAt frame 8 8 == a.seq

/-- L2_COMMAND_FRAME: a command enters a network mailbox. -/
def Dev.l2Command (d : Dev) (f : EthFrame) (dt : Nat) : Dev :=
  let (d, go) := (d.advance dt).netQuiet.macReceive f
  if !go then d else
  let d := d.dupAdd f
  let ety := f.etype = 0x88B5 || (d.flag F.NET_CFG_ALT_EN && f.etype = d.get F.NET_CFG_ALT_ETYPE)
  if !d.flag F.NET_CFG_L2CMD_EN || !ety || f.dst != d.netMac || f.vid != d.get F.NET_CMD_VID_VID then d else
  let mbx := leAt f.payload 0 1
  let len := leAt f.payload 2 2
  let frame := f.payload.drop 4
  if f.payload.length < 4 || 3 < mbx || leAt f.payload 1 1 != 0 then d.bump F.NET_CMD_REJ_CNT else
  let c : L2Cmd := ⟨f.src, f.port, frame⟩
  if len != frame.length || len < 16 || 1496 < len then ((d.bump F.NET_CMD_REJ_CNT).bump F.HRT_CMD_LEN_CNT).l2Respond c mbx (d.refusal frame 3)
  else if 4 ≤ (d.net.l2.getD mbx []).length then d.l2Respond c mbx (d.refusal frame 1)
  else d.netUp fun n => { n with l2 := upd n.l2 mbx (· ++ [c]) }

/-! ## Packages -/

/-- PPS_IN no longer used: it is not locked, and a master's time is not valid (R382). -/
def Dev.ppsOff (d : Dev) : Dev :=
  let d := (d.netUp fun x => { x with pps := none, ppsN := 0 }).put F.NET_STATUS_PPS_LOCK 0
  if d.ptpMaster then d.ptpValid false else d

/-- A package has come into force (`old` is the device before it): changed contexts start afresh, keeping their keys;
a port disabled or set anew loses its link; the mode in force is shown; PPS_IN may be used no longer; a clock whose profile,
role or domain changed starts anew. -/
def Dev.netPackage (d old : Dev) : Dev :=
  let d := d.put F.NET_STATUS_MODE (d.get F.NET_CFG_MODE)
  let d := if old.flag F.NET_PTP_CFG_PPS_IN_EN && !d.flag F.NET_PTP_CFG_PPS_IN_EN then d.ppsOff else d
  let moved (a m : Nat) : Bool := ((d.word a ^^^ old.word a).toNat &&& m) != 0
  let d := d.forAll (List.range 2) fun d p =>
    if d.flag (F.NET_PORT_EN.ix p) && !moved (F.NET_PORT_EN.ix p).addr 7 then d else d.linkLost p
  let d := if moved F.NET_PTP_CFG_PROFILE.addr 0xFF0F then d.ptpStart else d
  let d := d.forAll (List.range 256) fun d i =>
    let words (x : Dev) : List Word := (List.range 8).map fun k => x.word (0x0C1000 + 32 * i + 4 * k)
    if words d == words old then d else
    let d := d.forAll (List.range 4) fun d k => d.setWord (0x0C8000 + 16 * i + 4 * k) 0
    let c := d.nctx i
    if d.net.ctx.any fun x => x.1 == i then d.nctxUp i fun _ => { cur := c.cur, next := c.next, old := c.old } else d
  d.linesUpdate

end Sys2Proof.Machine
end

