-- ==== Sys2Proof/Machine/Flue.lean ====
section
/-! DEFINITION. Flue (chapter 17): links and time, group frames, joining, shares and migration, failover, epochs,
relayed and group commands. -/

namespace Sys2Proof.Machine

/-- Flue changed; frames of earlier commands gone from the output. (DESIGN CHOICE, log entry 109.) -/
def Dev.fluUp (d : Dev) (f : Flu → Flu) : Dev := { d with flu := f d.flu }
def Dev.flueQuiet (d : Dev) : Dev := d.fluUp fun x => { x with out := [] }

/-- Role (Table 17-10): 0 standalone, 1 member, 2 crown, 3 standby; own position. -/
def Dev.fluRole (d : Dev) : Nat := d.get F.FLU_STATUS_ROLE
def Dev.fluPos (d : Dev) : Nat := d.get F.FLU_STATUS_POS
def Dev.fluAdmitted (d : Dev) : Bool := d.flag F.FLU_STATUS_ADMITTED

/-- The device may join a group: its strap is member-only or crown-capable (R405). -/
def Dev.fluCapable (d : Dev) : Bool := d.get F.FLU_ROLE_HOST_MODE == 1 || d.get F.FLU_ROLE_HOST_MODE == 2

/-! ## Unit table (R406, R410) -/

/-- An entry of the unit table (Table 17-5). -/
structure UnitEntry where
  uid : Nat
  parent : Nat
  kind : Nat
  pos : Nat
  flags : Nat
  addr : Nat
  rating : Nat
  deriving DecidableEq, Repr

/-- Entry i of a unit table. -/
def unitEntry (m : Mem) (i : Nat) : UnitEntry where
  uid := Mem.num m (16 * i) 2
  parent := Mem.num m (16 * i + 2) 2
  kind := Mem.num m (16 * i + 4) 1
  pos := Mem.num m (16 * i + 5) 1
  flags := Mem.num m (16 * i + 6) 1
  addr := Mem.num m (16 * i + 8) 6
  rating := Mem.num m (16 * i + 14) 2

/-- The entries that are not empty, in table order. -/
def unitEntries (m : Mem) : List UnitEntry :=
  ((m.map fun (k, _) => k / 4).eraseDups.map fun i => unitEntry m i).filter fun e => e.kind != 0

/-- The kind 1 entries: the devices of the ring, in table order. -/
def Dev.ringDevs (d : Dev) : List UnitEntry := (unitEntries d.flu.unit).filter fun e => e.kind == 1

/-- The entry of a position; of this device, by DEV_ID. -/
def Dev.unitAt (d : Dev) (p : Nat) : Option UnitEntry := d.ringDevs.find? fun e => e.pos == p
def Dev.ownUnit (d : Dev) : Option UnitEntry := d.ringDevs.find? fun e => e.addr == ofLE (d.devId.take 6)

/-- Rating of a position in VA (0.1 MVA units), binary64. (DEDUCED, log entry 117.) -/
def Dev.rating (d : Dev) (p : Nat) : Nat := f64.ofInt ((d.unitAt p).elim 0 UnitEntry.rating * 100000)

/-- What a UID names (R410). -/
inductive Target where
  | here
  | device (pos : Nat)
  | group (mask : Nat)
  | child (addr : Nat)
  | unreachable
  deriving DecidableEq, Repr

/-- Live devices of the ring (LIVE_MASK). What has been accepted of a source is forgotten when it is live no longer: its
next kindling starts its SEQ at 1 again (R398). (DEDUCED, log entry 128.) -/
def Dev.liveMask (d : Dev) : Nat := d.get F.FLU_LIVE_LO + d.get F.FLU_LIVE_HI * 2 ^ 32
def Dev.setLive (d : Dev) (m : Nat) : Dev :=
  let was := d.liveMask
  let d := d.fluUp fun x => { x with seen := x.seen.filter fun y => !(was.testBit y.1 && !m.testBit y.1) }
  ((d.put F.FLU_LIVE_LO m).put F.FLU_LIVE_HI (m / 2 ^ 32)).put F.FLU_STATUS_LIVE (popCount 64 m)

/-- An entry lies below a group of the table: following PARENT, at most as many times as there are entries. -/
def below (es : List UnitEntry) (gid : Nat) : Nat → Nat → Bool
  | 0, _ => false
  | n + 1, p => p == gid || (match es.find? fun e => e.uid == p with | some e => below es gid n e.parent | none => false)

/-- Resolution of a UID at this device (R410, R465). -/
def Dev.resolveUid (d : Dev) (uid : Nat) : Target :=
  let r := d.fluRole
  let self := d.get F.FLU_UID_SELF_UID
  if r = 0 then (if uid = 0 then .here else .unreachable)
  else if r = 1 then (if uid = 0 || uid = self then .here else .unreachable)
  else if uid = 0 || uid = d.get F.FLU_UID_GROUP_UID then .group d.liveMask
  else
    let es := unitEntries d.flu.unit
    match es.find? fun e => e.uid == uid with
    | none => .unreachable
    | some e =>
      match e.kind with
      | 1 => if e.pos = d.fluPos then .here else if d.liveMask.testBit e.pos then .device e.pos else .unreachable
      | 2 => .group ((es.filter fun x => x.kind == 1 && below es e.uid es.length x.parent).foldl (fun m x => setBit m x.pos) 0 &&& d.liveMask)
      | 3 => .child e.addr
      | _ => .unreachable

/-! ## Links and time (R397, R400, R402) -/

/-- FLUE_LINK_UP, FLUE_LINK_DOWN: link 0 E, 1 W; a standalone device holds both down (R405). The frames that wait for a
link that is lost are lost. -/
def linkFld (l : Nat) : Fld := if l = 0 then F.FLU_STATUS_LINK_E else F.FLU_STATUS_LINK_W
def Dev.flueUp (d : Dev) (l dt : Nat) : Dev :=
  let d := d.advance dt
  if !d.fluCapable || d.flag (linkFld l) then d else (d.put (linkFld l) 1).raise 0x0D02 [l]
def Dev.flueDown (d : Dev) (l dt : Nat) : Dev :=
  let d := d.advance dt
  if !d.flag (linkFld l) then d else
  ((d.put (linkFld l) 0).fluUp fun x => { x with ports := upd x.ports l fun _ => {} }).raise 0x0D01 [l]

/-! ## Transmission (R397, R398, R401) -/

/-- The queue of a frame: 2 group, time and join frames, 1 shadow frames, 0 bulk frames. -/
def FlueFrame.queue : FlueFrame → Nat
  | .crown _ => 2
  | .member _ => 2
  | .time => 2
  | .join _ _ => 2
  | .shadow _ => 1
  | .bulk _ => 0
  | .other => 0

/-- Payload bytes of a frame: Tables 17-2 and 17-3; where the spec gives no layout, a free value up to 1,024 (of a crown
frame, its command records). (DESIGN CHOICE, log entry 151.) -/
def Dev.flueLen (d : Dev) (f : FlueFrame) : Nat × Dev :=
  match f with
  | .member _ => (176, d)
  | .crown c => if c.cmds.isEmpty then (944, d) else let (v, d) := d.fresh; (944 + v % 1025, d)
  | _ => let (v, d) := d.fresh; (v % 1025, d)

/-- PWM clocks that a frame holds a link at 4 ns per byte: start, header, payload, tag, CRC and close. -/
def flueWire (len : Nat) : Nat := 2 * (1 + 24 + len + 16 + 4 + 1)

/-- The frame that a link takes next: of the highest queue that holds one, the oldest. -/
def FluePort.next (x : FluePort) : Option FlueTx :=
  x.waiting.foldl (fun best e => match best with
    | none => some e
    | some b => if b.frame.queue < e.frame.queue then some e else some b) none

/-- The instant at or after `t` at which a bulk frame may start, none before the next group-frame boundary: not between 5 us
before a boundary and 100 us after it. -/
def Dev.bulkStart (d : Dev) (t : Nat) : Option Nat :=
  let t := match d.flu.lastB with | some b => max t (b + 50000) | none => t
  let unit := 2 ^ 48 / d.G
  let left := ceilDiv (d.flu.nextG * unit - d.time.phase) (max 1 (d.get F.ANG_INC))
  if t + 2500 ≤ d.now + left then some t else none

/-- Frames begin to leave a link, one after the other, as far as the present instant; none is pre-empted. -/
def Dev.flueDrain (d : Dev) (l : Nat) : Nat → Dev
  | 0 => d
  | n + 1 =>
    let x := d.flu.ports.getD l {}
    match x.next with
    | none => d
    | some e =>
      let t := max x.busy e.at_
      match if e.frame.queue = 0 then d.bulkStart t else some t with
      | none => d
      | some t =>
        if d.now < t then d else
        let till := t + flueWire e.len
        let crown := match e.frame with | .crown _ => if e.hops = 63 then till else x.crown | _ => x.crown
        (d.fluUp fun m => { m with
          ports := upd m.ports l fun _ => ⟨x.waiting.erase e, till, crown⟩
          out := m.out ++ [⟨l, t, e⟩] }).flueDrain l n

/-- Both links have sent what they could. -/
def Dev.flueDrains (d : Dev) : Dev :=
  d.forAll [0, 1] fun d l => d.flueDrain l (d.flu.ports.getD l {}).waiting.length

/-- A frame enters a transmit queue of a link that is up; a bulk frame that finds its queue of 64 full is dropped. -/
def Dev.flueQueue (d : Dev) (l : Nat) (e : FlueTx) : Dev :=
  if !d.flag (linkFld l) then d else
  let d := d.flueDrains
  if e.frame.queue = 0 && decide (64 ≤ ((d.flu.ports.getD l {}).waiting.filter fun x => x.frame.queue == 0).length) then
    d.bump F.FLU_BULK_DROP_CNT
  else (d.fluUp fun m => { m with ports := upd m.ports l fun x => { x with waiting := x.waiting ++ [e] } }).flueDrains

/-- The keys under which a device tags its frames: its transmit key, and the join key (R399). -/
def Dev.flueKey (d : Dev) : List Byte :=
  hkdf384 ((d.flu.keyCur.map NetKey.key).getD []) (beBytes 16 (d.flu.nonce.getD 0)) (d.devId ++ ascii "FLUE") 32
def Dev.joinKey (d : Dev) : List Byte :=
  hkdf384 ((d.flu.keyCur.map NetKey.key).getD []) (List.replicate 16 0) (ascii "JOIN") 32

/-- A frame of the device's own, on both links with the next SEQ (R398, R400); epoch 0 before admission. -/
def Dev.flueSend (d : Dev) (dst : Nat) (f : FlueFrame) : Dev :=
  let (n, d) := d.flueLen f
  let e : FlueTx := { len := n, at_ := d.now, src := d.fluPos, epoch := if d.fluAdmitted then d.get F.FLU_EPOCH else 0
                      seq := d.flu.seq, gfi := d.get F.FLU_GFI, dst := dst, hops := 63, frame := f
                      key := match f with | .join _ _ => d.joinKey | _ => d.flueKey }
  (d.forAll [0, 1] fun d l => d.flueQueue l e).fluUp fun x => { x with seq := x.seq + 1 }

/-! ## Reception and time (R400, R402) -/

/-- Flue time, ns: PTP time at a crown while it is valid, else the free-running count. -/
def Dev.flueTime (d : Dev) : Nat :=
  if d.fluRole = 2 && d.ptpOk then d.ptpNs else (d.flu.base + 2 * d.now).toNat

/-- A crown's Flue time follows PTP without a step when validity changes. -/
def Dev.flueBase (d : Dev) : Dev :=
  if d.fluRole = 2 && d.ptpOk then d.fluUp fun x => { x with base := (d.ptpNs : Int) - 2 * d.now } else d

/-- A frame is forwarded to the other link (R400), at once where that is idle. -/
def Dev.flueForward (d : Dev) (h : FlueHdr) (f : FlueFrame) (bad : Bool) : Dev :=
  if h.src = d.fluPos && d.fluAdmitted then d
  else if h.hops = 0 then d.bump F.FLU_HOP_CNT
  else
    let (n, d) := d.flueLen f
    d.flueQueue (1 - h.link) { len := n, at_ := d.now, src := h.src, epoch := h.epoch, seq := h.seq, gfi := h.gfi
                               dst := h.dst, hops := h.hops - 1, frame := f, bad := bad }

/-- SEQ has not been accepted and lies within the window of 256 (R400). -/
def Dev.flueNew (d : Dev) (h : FlueHdr) : Bool :=
  match d.flu.seen.find? fun x => x.1 == h.src with
  | none => true
  | some (_, hi, got) => hi < h.seq || (hi < h.seq + 256 && !got.contains h.seq)

/-- SEQ accepted. -/
def Dev.flueSeen (d : Dev) (h : FlueHdr) : Dev :=
  d.fluUp fun x =>
    let e := match x.seen.find? fun y => y.1 == h.src with
      | none => (h.src, h.seq, [h.seq])
      | some (_, hi, got) => (h.src, max hi h.seq, (h.seq :: got).filter fun q => decide (max hi h.seq < q + 256))
    { x with seen := (x.seen.filter fun y => y.1 != h.src) ++ [e] }

/-- A frame fails a check: CRC, tag, or duplicate (R400). -/
def Dev.flueBad (d : Dev) (h : FlueHdr) : Bool := !(h.crc && h.tag && d.flueNew h)

/-- The frame is addressed to this device. -/
def Dev.flueMine (d : Dev) (h : FlueHdr) : Bool := h.dst == 0xFF || (h.dst == d.fluPos && d.fluAdmitted)

/-- A frame that fails a check is counted (Table 17-9). -/
def Dev.flueDiscard (d : Dev) (h : FlueHdr) : Dev :=
  if !h.crc then d.bump (F.FLU_CRC_CNT.ix h.link)
  else if !h.tag then (d.bump F.FLU_GMAC_CNT).raise 0x0D0B [h.src]
  else d.bump F.FLU_DUP_CNT

/-- What every frame received undergoes: forwarding, whatever the checks find, then CRC, tag, duplicate check and address
(R398 to R400); `act` is what the frame does where the device accepts it. -/
def Dev.flueTake (d : Dev) (h : FlueHdr) (f : FlueFrame) (dt : Nat) (act : Dev → Dev) : Dev :=
  let d := (d.advance dt).flueQuiet
  if !d.flag (linkFld h.link) then d else
  let bad := d.flueBad h
  let d := d.flueForward h f bad
  if bad then d.flueDiscard h
  else if d.flueMine h then act (d.flueSeen h) else d

/-- FLUE_FRAME_RECEIVE: a frame of no other row. -/
def Dev.flueReceive (d : Dev) (h : FlueHdr) (dt : Nat) : Dev := d.flueTake h .other dt id

/-- FLUE_TIME_EXCHANGE: the next millisecond's time frames to both neighbours. -/
def Dev.flueExchange (d : Dev) : Dev :=
  if !d.fluCapable then d else
  let d := (d.advanceTo d.flu.exchange).flueQuiet
  (d.flueSend 0xFF .time).fluUp fun x => { x with exchange := d.now + msec }

/-- The link whose neighbour is nearer to the crown, E on a tie (R402). -/
def Dev.timeLink (d : Dev) : Nat :=
  let n := max 1 d.ringDevs.length
  let east := (d.get F.FLU_ROLE_CROWN_POS + n - d.fluPos) % n
  let west := (d.fluPos + n - d.get F.FLU_ROLE_CROWN_POS) % n
  if east ≤ west then 0 else 1

/-- A time frame accepted: a neighbour's Flue time, already brought to this instant by the link's delay (ps). A forwarded
time frame is no neighbour's. (DEDUCED, log entry 154.) -/
def Dev.timeTaken (d : Dev) (h : FlueHdr) (ns ps : Nat) : Dev :=
  if h.hops != 63 then d else
  let d := ((d.put (F.FLU_LINK_DLY.ix h.link) ps).fluUp fun x => { x with lastTime := some d.now }).put F.FLU_STATUS_TIME_OK 1
  if d.fluRole = 2 || h.link != d.timeLink then d else d.fluUp fun x => { x with base := (ns : Int) - 2 * d.now }

/-- TIME_FRAME_RECEIVE. -/
def Dev.timeFrame (d : Dev) (h : FlueHdr) (ns ps dt : Nat) : Dev := d.flueTake h .time dt fun d => d.timeTaken h ns ps

/-- FLU_TIME_LOST: 10 ms without a valid time frame. -/
def Dev.flueTimeLost (d : Dev) : Dev :=
  match d.flu.lastTime with
  | some t =>
    let d := (d.advanceTo (t + 10 * msec)).fluUp fun x => { x with lastTime := none }
    (d.put F.FLU_STATUS_TIME_OK 0).raise 0x0D0D
  | none => d

/-! ## Roles and joining (R405 to R409) -/

/-- The crown role is taken with an epoch (R409, R417). -/
def Dev.takeCrown (d : Dev) (epoch : Nat) : Dev :=
  let d := ((d.put F.FLU_STATUS_ROLE 2).put F.FLU_STATUS_ADMITTED 1).put F.FLU_EPOCH epoch
  let d := (d.put F.FLU_ROLE_CROWN_POS d.fluPos).put F.FLU_STATUS_QUORUM 1
  let d := if d.get F.FLU_ROLE_STANDBY_POS = d.fluPos then d.put F.FLU_ROLE_STANDBY_EN 0 else d
  (d.setLive (setBit d.liveMask d.fluPos)).fluUp fun x => { x with missing := 0, orphan := false, joining := none, metQuorum := false, noQuorum := false }

/-- Interleave offset of a rank (R408). -/
def Dev.offsetOf (d : Dev) (e : UnitEntry) : Nat :=
  if d.flag F.FLU_CFG_IL_MODE then
    let es := d.ringDevs
    es.findIdx (fun x => x.pos == e.pos) * 2 ^ 32 / (d.C * max 1 es.length)
  else 0


/-- BOOT_NONCE: 16 bytes that the TRNG draws at each kindling (R399). -/
def Dev.drawNonce (d : Dev) : Dev :=
  let (v, d) := d.fresh
  d.fluUp fun x => { x with nonce := some (v % 2 ^ 128) }

/-- The crown role is taken at kindling, or by a standby that no crown has admitted: with epoch 1, in the place that the unit
table gives this device (R409). -/
def Dev.crownAtKindling (d : Dev) (e : UnitEntry) : Dev :=
  (((d.put F.FLU_STATUS_POS e.pos).put F.FLU_UID_SELF_UID e.uid).setPhi (d.offsetOf e)).takeCrown 1

/-- Hearth's kindling step is complete: a device flagged crown takes the role with epoch 1; others begin to join. -/
def Dev.flueKindle (d : Dev) : Dev :=
  if !d.fluCapable then d else
  let crowns := d.ringDevs.filter fun e => e.flags.testBit 0
  let d := d.put F.FLU_ROLE_CROWN_POS ((crowns.map UnitEntry.pos).headD 0)
  let d := match d.ringDevs.find? fun e => e.flags.testBit 1 with
    | some e => (d.put F.FLU_ROLE_STANDBY_POS e.pos).put F.FLU_ROLE_STANDBY_EN 1
    | none => d
  match d.ownUnit with
  | none => (d.put F.FLU_STATUS_ROLE 1).fluUp fun x => { x with joining := some d.now }
  | some e =>
    if e.flags.testBit 0 && d.get F.FLU_ROLE_HOST_MODE = 2 then
      d.crownAtKindling e
    else (d.put F.FLU_STATUS_ROLE (if e.flags.testBit 1 && d.get F.FLU_ROLE_HOST_MODE = 2 then 3 else 1)).fluUp
      fun x => { x with joining := some d.now }

/-- JOIN_FRAME_SEND: the next millisecond's join frame, until admitted. -/
def Dev.joinSend (d : Dev) : Dev :=
  match d.flu.joining with
  | some t =>
    let d := (d.advanceTo t).flueQuiet
    if d.fluAdmitted || !(d.flag F.FLU_STATUS_LINK_E || d.flag F.FLU_STATUS_LINK_W) then d
    else (d.flueSend 0xFF (.join d.flu.nonce d.devId)).fluUp fun x => { x with joining := some (d.now + msec) }
  | none => d

/-- The reason a join is refused, 0 where it is not (R407): 1 DEV_ID, 2 place, 3 strap, 4 S or C. (DEDUCED, log entry 76.) -/
def Dev.joinReason (d : Dev) (h : FlueHdr) (devId : List Byte) (strap s c : Nat) : Nat × Option UnitEntry :=
  match d.ringDevs.find? fun e => e.addr == ofLE (devId.take 6) with
  | none => (1, none)
  | some e =>
    let n := max 1 d.ringDevs.length
    let dist := if h.link = 0 then (e.pos + n - d.fluPos) % n else (d.fluPos + n - e.pos) % n
    if 63 - h.hops != dist then (2, some e)
    else if e.flags.testBit 2 != (strap == 2) then (3, some e)
    else if s != d.S || c != d.C then (4, some e)
    else (0, some e)

/-- A crown-capable device that rejoins becomes standby where no live device holds that role (R409). -/
def Dev.joinStandby (d : Dev) (strap pos : Nat) : Dev :=
  let held := d.flag F.FLU_ROLE_STANDBY_EN && d.liveMask.testBit (d.get F.FLU_ROLE_STANDBY_POS)
  if strap != 2 || held || pos = d.fluPos || (d.flu.mem.getD pos {}).frame.isNone then d
  else ((d.put F.FLU_ROLE_STANDBY_POS pos).put F.FLU_ROLE_STANDBY_EN 1).fluUp fun x => { x with cmds := x.cmds ++ [.standby pos] }

/-- A join frame accepted: a crown admits or refuses the device (R407). -/
def Dev.joinTaken (d : Dev) (h : FlueHdr) (devId : List Byte) (strap s c : Nat) : Dev :=
  if d.fluRole != 2 then d else
  match d.joinReason h devId strap s c with
  | (0, some e) =>
    let phi := d.offsetOf e
    let d := (d.fluUp fun x => { x with cmds := x.cmds ++ [.admission devId e.pos e.uid phi] }).joinStandby strap e.pos
    let d := d.fluUp fun x => { x with mem := x.mem.set e.pos {} }
    if d.liveMask.testBit e.pos then d else (d.setLive (setBit d.liveMask e.pos)).raise 0x0D05 [e.pos]
  | (r, _) => d.raise 0x0D0E [leAt devId 0 4, r]

/-- JOIN_FRAME_RECEIVE. -/
def Dev.joinReceive (d : Dev) (h : FlueHdr) (devId : List Byte) (strap s c dt : Nat) : Dev :=
  d.flueTake h (.join none devId) dt fun d => d.joinTaken h devId strap s c

/-! ## Shares and migration (R412, R414) -/

/-- Position p's latest state as its member frames report it; a crown's own from GSV. -/
def Dev.memberState (d : Dev) (p : Nat) : Nat :=
  if p = d.fluPos then d.gsv else ((d.flu.mem.getD p {}).frame.map fun f => f.state % 16).getD 0

/-- The live positions; those in RUN or RIDE. -/
def Dev.livePos (d : Dev) : List Nat := bitList 64 d.liveMask
def Dev.actingPos (d : Dev) : List Nat := d.livePos.filter fun p => d.memberState p == 4 || d.memberState p == 5

/-- Own share of a quantity (0 P, 1 Q, 2 P_CURT), and a position's, in force (R414). -/
def Dev.shareOf (d : Dev) (k p : Nat) : Nat :=
  let s := d.flu.share.getD k {}
  let b := s.base.getD p 0
  match d.flu.ramp with
  | some j =>
    let n := d.get F.FLU_CFG_RAMP_GF
    f64.add b (f64.div (f64.mul (s.delta.getD p 0) (f64.ofInt (min (j + 1) n))) (f64.ofInt (max 1 n)))
  | none => b

/-- The share of a position that the latest crown frame carried: the one in force when a new ramp starts (R414). -/
def Dev.shareSent (d : Dev) (k p : Nat) : Nat :=
  let s := d.flu.share.getD k {}
  let b := s.base.getD p 0
  match d.flu.ramp with
  | some j =>
    let n := d.get F.FLU_CFG_RAMP_GF
    f64.add b (f64.div (f64.mul (s.delta.getD p 0) (f64.ofInt (min j n))) (f64.ofInt (max 1 n)))
  | none => b

/-- Own headroom: max(0, P_LIMIT x rating - P share in force). -/
def Dev.ownHead (d : Dev) : Nat :=
  let p := match d.flu.elig with | some (_, _, f) => widen (f.shares.getD d.fluPos (0, 0, 0)).1.toNat | none => 0
  f64.max 0 (f64.sub (f64.mul d.sup.plim (d.rating d.fluPos)) p)

/-- Headroom of a position from its latest member frame. -/
def Dev.headOf (d : Dev) (p : Nat) : Nat :=
  if p = d.fluPos then d.ownHead else ((d.flu.mem.getD p {}).frame.map fun f => widen f.head.toNat).getD 0

/-- The base division (R412): each live member in RUN or RIDE takes its part by rating. -/
def Dev.baseDivision (d : Dev) : Dev :=
  let ps := d.actingPos
  let tot := f64.sum (ps.map d.rating)
  let one (x p : Nat) : Nat := if ps.contains p then f64.div (f64.mul x (d.rating p)) tot else 0
  let div (x : Nat) : Share := { base := (List.range 64).map (one x) }
  d.fluUp fun f => { f with share := [div f.spP, div f.spQ, div f.spC], ramp := none, divide := false, short := false }

/-- One quantity of the departed positions migrates to the survivors (R414); answers the shortfall. The headroom is that of
HEAD for each quantity. (DEDUCED, log entry 153.) -/
def Dev.migrateOne (d : Dev) (k : Nat) (gone : List Nat) : Share × Nat :=
  let now := (List.range 64).map (d.shareSent k)
  let sl := f64.sum (gone.map fun p => now.getD p 0)
  let ps := d.actingPos.filter fun p => !gone.contains p
  let tot := f64.sum (ps.map d.headOf)
  let dOf (p : Nat) : Nat :=
    if !ps.contains p || f64.eq tot 0 then 0 else f64.min (f64.div (f64.mul sl (d.headOf p)) tot) (d.headOf p)
  let base := (List.range 64).map fun p => if gone.contains p then 0 else now.getD p 0
  let delta := (List.range 64).map dOf
  ({ base := base, delta := delta }, if f64.lt tot sl then f64.sub sl (f64.sum (ps.map dOf)) else 0)

/-- A new epoch at the boundary now: the departed shares migrate over RAMP_GF group frames. -/
def Dev.migrate (d : Dev) (gone : List Nat) (cause : Nat) : Dev :=
  let (p, sp) := d.migrateOne 0 gone
  let (q, _) := d.migrateOne 1 gone
  let (c, _) := d.migrateOne 2 gone
  let short := f64.lt 0 sp
  let d := d.wrapInc F.FLU_EPOCH
  let d := (d.put F.FLU_SHORT (narrow sp)).fluUp fun f => { f with
    share := [p, q, c], ramp := some 0, hGfi := d.get F.FLU_GFI, short := short }
  let d := d.raise 0x0D06 [d.get F.FLU_EPOCH, cause]
  if short then d.raise 0x0D08 [(f64.round (f64.div sp (f64.ofInt 1000))).toNat] else d

/-- A group setpoint arrives at the crown (R411): a tag of Table 3-8 and its value; tag 5 is the curtailment. -/
def Dev.groupSetpoint (d : Dev) (tag : Nat) (w : Word) : Dev :=
  let v := widen w.toNat
  match tag with
  | 1 => d.fluUp fun f => { f with spP := v, divide := true }
  | 2 => d.fluUp fun f => { f with spQ := v, divide := true }
  | 3 => d.fluUp fun f => { f with spV := w }
  | 4 => d.fluUp fun f => { f with spF := w }
  | _ => d.fluUp fun f => { f with spC := v, divide := true }

/-! ## Member frames (R403, R418) -/

/-- This device's member frame of the boundary now (Table 17-3). -/
def Dev.memberFrame (d : Dev) : MemberFrame where
  mgfi := d.get F.FLU_GFI
  state := d.gsv + 16 * wbits (d.word F.ANG_STATUS_LOCK.addr) 3 0 + 256 * d.latched
  head := BitVec.ofNat 32 (narrow d.ownHead)
  p := Mem.rd d.fbx.nodes 0x0040
  q := Mem.rd d.fbx.nodes 0x0041
  v1 := BitVec.ofNat 32 (d.get F.ANG_V1)
  f := BitVec.ofNat 32 (narrow d.fMeas)
  rpt := (List.range 32).map fun k => d.port (0x10 + k)
  verdict := d.flu.verdict
  alarm := d.flu.alarm

/-- A member frame of a position is taken up, its own by the crown among them (R403, R412, R414): a departure migrates at
the second boundary after the frame's. -/
def Dev.memberNote (d : Dev) (p gfi : Nat) (f : MemberFrame) : Dev :=
  let old := d.flu.mem.getD p {}
  let st := f.state % 16
  let acting := st == 4 || st == 5
  let left := old.acting && !acting
  let m : Member := { old with
    frame := some f, at_ := gfi, prev := old.frame.map fun g => (old.at_, g), miss := 0, acting := acting
    leaving := if left then 1 else old.leaving
    leaveAt := if left then gfi + 2 else old.leaveAt
    entered := old.entered || (st == 4 && (old.frame.map fun g => g.state % 16) != some 4) }
  d.fluUp fun x => { x with mem := x.mem.set p m, divide := x.divide || m.entered }

/-- A member frame accepted at the crown, or at the standby (R403, R413 to R415). -/
def Dev.memberTaken (d : Dev) (h : FlueHdr) (f : MemberFrame) : Dev :=
  if d.fluRole != 2 && d.fluRole != 3 then d else
  let stale := h.epoch < d.get F.FLU_EPOCH
  let d := if stale then (d.bump F.FLU_STALE_CNT).raise 0x0D0C else d
  let old := d.flu.mem.getD h.src {}
  let f := if stale then { f with head := (old.frame.map MemberFrame.head).getD 0, verdict := 0 } else f
  d.memberNote h.src h.gfi f

/-- MEMBER_FRAME_RECEIVE. -/
def Dev.memberReceive (d : Dev) (h : FlueHdr) (f : MemberFrame) (dt : Nat) : Dev :=
  d.flueTake h (.member f) dt fun d => d.memberTaken h f

/-- Devices counted for the quorum at a boundary: this one, and those whose frames came at both boundaries before it.
(DEDUCED, log entry 74.) -/
def Dev.quorumCount (d : Dev) : Nat :=
  let b := d.get F.FLU_GFI
  1 + ((List.range 64).filter fun p =>
    let m := d.flu.mem.getD p {}
    p != d.fluPos && (match m.frame, m.prev with | some _, some (a, _) => m.at_ + 1 == b && a + 2 == b | _, _ => false)).length
def Dev.quorum (d : Dev) : Bool := d.ringDevs.length ≤ 2 * d.quorumCount

/-- MEMBER_FRAME_DEADLINE: 5 us before the next boundary, frames not arrived are missing (R403, R414, R418). -/
def Dev.memberDeadline (d : Dev) : Dev :=
  let unit := 2 ^ 48 / d.G
  let inc := max 1 (d.get F.ANG_INC)
  let target := d.flu.nextG * unit
  let left := if target ≤ d.time.phase then 0 else ceilDiv (target - d.time.phase) inc
  let d := (d.advance (left - 2500)).flueQuiet
  let d := if d.fluRole = 2 then
      d.forAll (d.livePos.filter fun p => p != d.fluPos) fun d p =>
        let m := d.flu.mem.getD p {}
        if m.frame.isSome && m.at_ = d.get F.FLU_GFI then d else
        let d := (d.bump F.FLU_MISS_CNT).fluUp fun x => { x with mem := upd x.mem p fun m => { m with miss := m.miss + 1 } }
        if m.miss = 1 then (d.fluUp fun x => { x with mem := upd x.mem p fun m => { m with leaving := 2, leaveAt := 0 } }).raise 0x0D04 [p] else d
    else d
  if (d.fluRole = 1 || d.fluRole = 3) && d.fluAdmitted && !d.flu.fresh then
    let d := d.fluUp fun x => { x with missing := x.missing + 1 }
    if d.flu.missing = d.get F.FLU_CFG_ORPHAN_GF then (d.fluUp fun x => { x with orphan := true }).raise 0x0D09 else d
  else d

/-! ## The boundary (R403, R413, R414, R417) -/

/-- Sums, maxima and aggregates of the window b - 1 over the live members (Table 17-2, Table 17-6). -/
def Dev.window (d : Dev) (b : Nat) : List MemberFrame :=
  d.livePos.filterMap fun p =>
    let m := d.flu.mem.getD p {}
    match m.frame, m.prev with
    | some f, _ => if f.mgfi + 1 == b then some f else (match m.prev with | some (_, g) => if g.mgfi + 1 == b then some g else none | none => none)
    | none, _ => none

/-- The f32 greater of two words. -/
def maxWord (x y : Word) : Word := if f32.lt x.toNat y.toNat then y else x

/-- The crown frame of the boundary now. -/
def Dev.crownFrame (d : Dev) (snapN : Int) : CrownFrame :=
  let b := d.get F.FLU_GFI
  let w := d.window b
  let col (k : Nat) : List Word := w.map fun f => f.rpt.getD k 0
  { inc := d.get F.ANG_INC, theta := d.theta, ftime := d.flueTime
    beta := clampI d.ang.bias (d.get F.ANG_BIAS_MAX_BMAX)
    snapN := snapN
    flags := (if snapN = 0 then 0 else 1) + (if d.ptpOk then 2 else 0) + (if d.flu.short then 4 else 0) + (if d.flu.ramp.isSome then 8 else 0)
    live := popCount 64 d.liveMask, liveMask := d.liveMask, hGfi := d.flu.hGfi
    sums := (List.range 24).map fun k => BitVec.ofNat 32 (f32.sum ((col k).map BitVec.toNat))
    maxs := (List.range 8).map fun k => match col (24 + k) with | [] => 0 | x :: xs => xs.foldl maxWord x
    vSp := d.flu.spV, fSp := d.flu.spF
    shares := (List.range 64).map fun p =>
      (BitVec.ofNat 32 (narrow (d.shareOf 0 p)), BitVec.ofNat 32 (narrow (d.shareOf 1 p)), BitVec.ofNat 32 (narrow (d.shareOf 2 p)))
    cmds := d.flu.cmds ++ d.flu.owed.map fun o => .reply o.ask.sid o.ask.seq o.status (o.payload.take 16) }

/-- The group aggregates of the window b - 1 in registers. -/
def Dev.aggregate (d : Dev) : Dev :=
  let b := d.get F.FLU_GFI
  let w := d.window b
  let sum (get : MemberFrame → Word) : Nat := f32.sum (w.map fun f => (get f).toNat)
  d.put F.FLU_AGG_P (sum MemberFrame.p) |>.put F.FLU_AGG_Q (sum MemberFrame.q) |>.put F.FLU_AGG_HEAD (sum MemberFrame.head)
    |>.put F.FLU_AGG_GFI (b - 1) |>.put F.FLU_AGG_N w.length

/-- Departures and entries judged since the last boundary. -/
def Dev.crownDepartures (d : Dev) : Dev :=
  let b := d.get F.FLU_GFI
  let gone := (List.range 64).filter fun p => (d.flu.mem.getD p {}).leaving != 0 && decide ((d.flu.mem.getD p {}).leaveAt ≤ b)
  let lost := gone.filter fun p => (d.flu.mem.getD p {}).leaving == 2
  let d := if gone.isEmpty then d else
    let d := d.migrate gone (if lost.isEmpty then 1 else 2)
    d.setLive (lost.foldl clrBit d.liveMask)
  let d := d.fluUp fun x => { x with mem := x.mem.map fun m => { m with leaving := if m.leaveAt ≤ b then 0 else m.leaving, entered := false } }
  if d.flu.divide then d.baseDivision else d

/-- A snap pending at the crown is announced (R62). -/
def Dev.crownSnap (d : Dev) : Dev × Int :=
  match d.ang.snap with
  | some .now =>
    if d.angSrc != 0 || 1 < d.angLock then (d, 0) else
    let n := rneDiv d.followError (d.snapUnit * 65536)
    (d.setSnap (some (.announced n)), n)
  | _ => (d, 0)

/-- The group transaction at the crown moves on (R413); `verdicts`: the statuses reported for it. -/
def Dev.txStep (d : Dev) : Dev × Option (GroupTx × Nat × Nat) :=
  match d.flu.tx with
  | none => (d, none)
  | some t =>
    let b := d.get F.FLU_GFI
    match t.sent with
    | none =>
      (d.fluUp fun x => { x with tx := some { t with sent := some b }, cmds := x.cmds ++ [.prepare t.ident t.act] }, none)
    | some s =>
      if b < s + 2 then (d, none) else
      let verdict (p : Nat) : Nat := if p = d.fluPos then t.own else match (d.flu.mem.getD p {}).frame with
        | some f => if f.verdict % 65536 = t.ident then f.verdict / 65536 % 256 else 0x0C
        | none => 0x0C
      match d.livePos.find? fun p => verdict p != 0 with
      | some p => (d.fluUp fun x => { x with tx := none, cmds := x.cmds ++ [.abort t.ident] }, some (t, verdict p, p))
      | none =>
        let atB := d.flu.nextG * (2 ^ 32 / d.G) % 2 ^ 32
        let ang := match t.angle with | some a => if (a + 2 ^ 32 - atB) % 2 ^ 32 < 2 ^ 31 then a else atB | none => atB
        (d.fluUp fun x => { x with tx := none, cmds := x.cmds ++ [.go t.ident ang] }, some ({ t with angle := some ang }, 0, d.fluPos))

/-- The member's correction at a boundary (R53): the crown's increment and the error at the same Flue time. -/
def Dev.groupError (d : Dev) : Option (Nat × Int) :=
  if !d.flu.fresh then none else
  match d.flu.pend with
  | some (_, _, f) =>
    let clocks := (d.flueTime - f.ftime) / 2
    let local_ := d.phaseAt (d.now - clocks) / 65536
    some (f.inc, sext 32 (wrap 32 ((f.theta : Int) - local_)))
  | none => none

/-- After a crown frame the ramp moves on; the frame that carried its full shares ends it (R414). -/
def Dev.rampNext (d : Dev) : Dev :=
  match d.flu.ramp with
  | none => d
  | some j =>
    if j + 1 < d.get F.FLU_CFG_RAMP_GF then d.fluUp fun x => { x with ramp := some (j + 1) }
    else
      let fix (k : Nat) : Share := { base := (List.range 64).map (d.shareOf k) }
      d.fluUp fun x => { x with share := [fix 0, fix 1, fix 2], ramp := none }

/-- A standby, or a device flagged so at kindling, takes the crown role (R409, R417, R418). -/
def Dev.standbyTake (d : Dev) : Dev :=
  if d.fluRole != 3 || !d.quorum then d
  else if d.fluAdmitted && 2 ≤ d.flu.missing then
    let old := d.get F.FLU_ROLE_CROWN_POS
    let d := (d.takeCrown (d.get F.FLU_EPOCH)).raise 0x0D07
    let d := match d.flu.elig with
      | some (_, _, f) => d.fluUp fun x => { x with
          share := [{ base := f.shares.map fun (s : Word × Word × Word) => widen s.1.toNat }, { base := f.shares.map fun (s : Word × Word × Word) => widen s.2.1.toNat },
                    { base := f.shares.map fun (s : Word × Word × Word) => widen s.2.2.toNat }]
          spV := f.vSp, spF := f.fSp }
      | none => d
    (d.setLive (clrBit d.liveMask old)).migrate [old] 3
  else if !d.fluAdmitted && 2 * d.G ≤ d.flu.bounds then
    match d.ownUnit with
    | some e => d.crownAtKindling e
    | none => d
  else d

/-- GROUP_FRAME_BOUNDARY: the next multiple of 2^32 / G of the common angle. Answers the transaction decided, with its
status and the member that decided it. -/
def Dev.flueBoundary (d : Dev) : Dev × Option (GroupTx × Nat × Nat) :=
  let unit := 2 ^ 48 / d.G
  let g := d.seriesIndex unit 0 d.flu.nextG
  let d := (d.toPhase (g * unit)).flueQuiet.flueDrains
  let err := d.groupError
  let d := d.fluUp fun x => { x with nextG := g + 1, bounds := x.bounds + 1, lastB := some d.now }
  let d := if d.fluRole = 0 then d else d.wrapInc F.FLU_GFI
  let d := d.groupBoundary err
  let b := d.get F.FLU_GFI
  let d := match d.flu.pend with
    | some (k, e, f) => if k < b then d.fluUp fun x => { x with elig := some (k, e, f) } else d
    | none => d
  let d := d.fluUp fun x => { x with fresh := false }
  let d := d.standbyTake
  let (d, done) :=
    if d.fluRole = 2 then
      let met := d.quorum
      let ok := !d.flu.metQuorum || met
      let d := (d.putB F.FLU_STATUS_QUORUM met).fluUp fun x => { x with metQuorum := x.metQuorum || met }
      if !ok then
        (if d.flu.noQuorum then d else (d.fluUp fun x => { x with noQuorum := true }).raise 0x0D0A, none)
      else
        let d := d.fluUp fun x => { x with noQuorum := false }
        let d := d.crownDepartures
        let (d, n) := d.crownSnap
        let (d, done) := d.txStep
        let f := d.crownFrame n
        let d := d.aggregate.flueSend 0xFF (.crown f)
        ((d.fluUp fun x => { x with
          cmds := [], owed := [], bound := x.bound ++ x.owed, pend := some (b, d.get F.FLU_EPOCH, f) }).rampNext, done)
    else (d, none)
  let d := if d.fluAdmitted then
      let f := d.memberFrame
      let d := (d.flueSend 0xFF (.member f)).fluUp fun x => { x with alarm := [], verdict := 0 }
      if d.fluRole = 2 then d.memberNote d.fluPos b f else d
    else d
  (d, done)

/-! ## Crown frames at a member (R404, R407, R415, R418) -/

/-- A command record of a crown frame acts, but for the GO of R413, which the command layer carries out. -/
def Dev.crownRecord (d : Dev) (c : CrownCmd) : Dev :=
  match c with
  | .admission id pos uid phi =>
    if id != d.devId then d else
    let d := ((d.put F.FLU_STATUS_POS pos).put F.FLU_UID_SELF_UID uid).put F.FLU_STATUS_ADMITTED 1
    let d := (d.setPhi phi).pwmUp fun p => { p with meas := true }
    (d.fluUp fun x => { x with joining := none }).raise 0x0D03 [pos, phi]
  | .standby pos =>
    let d := (d.put F.FLU_ROLE_STANDBY_POS pos).put F.FLU_ROLE_STANDBY_EN 1
    if pos = d.fluPos && d.fluAdmitted && d.get F.FLU_ROLE_HOST_MODE = 2 then d.put F.FLU_STATUS_ROLE 3
    else if d.fluRole = 3 then d.put F.FLU_STATUS_ROLE 1 else d
  | .handover pos =>
    if pos = d.fluPos && d.fluRole = 3 then
      ((d.takeCrown (d.get F.FLU_EPOCH + 1)).raise 0x0D06 [d.get F.FLU_EPOCH + 1, 4])
    else d
  | _ => d

/-- A crown that meets a crown of a higher claim becomes a member again, and joins it (R407, R418). (DEDUCED, log entry 75.) -/
def Dev.crownYields (d : Dev) (h : FlueHdr) : Dev :=
  let d := ((d.put F.FLU_STATUS_ROLE 1).put F.FLU_STATUS_ADMITTED 0).put F.FLU_EPOCH h.epoch
  ((d.put F.FLU_ROLE_CROWN_POS h.src).fluUp fun x => { x with joining := some d.now, bounds := 0 }).raise 0x0D06 [h.epoch, 5]

/-- A crown frame accepted; `act` is what a command record does. -/
def Dev.crownTaken (act : Dev → CrownCmd → Dev) (d : Dev) (h : FlueHdr) (f : CrownFrame) : Dev :=
  if d.fluRole = 0 then d else
  let mine := d.get F.FLU_EPOCH
  let posOf (p : Nat) : Nat := d.ringDevs.findIdx fun e => e.pos == p
  if d.fluRole = 2 then
    let yields := mine < h.epoch || (mine = h.epoch && posOf h.src < posOf d.fluPos)
    if yields then d.crownYields h else d
  else
    let stale := h.epoch < mine
    let d := if stale then (d.bump F.FLU_STALE_CNT).raise 0x0D0C else d
    if stale then d else
    let d := ((d.put F.FLU_EPOCH h.epoch).put F.FLU_GFI h.gfi).put F.FLU_ROLE_CROWN_POS h.src
    let d := d.setLive f.liveMask
    let d := d.fluUp fun x => { x with pend := some (h.gfi, h.epoch, f), fresh := true, missing := 0, bounds := 0, orphan := false }
    let d := { d with sup := { d.sup with rxBias := f.beta } }
    let d := if f.snapN != 0 && d.angSrc = 2 then d.setSnap (some (.announced f.snapN)) else d
    d.forAll f.cmds act

/-- Nodes 0x0220 to 0x025F at a frame start (Table 17-4): zeros at a standalone device and before the first crown frame. A
device that has no position yet has no share. (DEDUCED, log entry 155.) -/
def Dev.flueNodes (d : Dev) : List (Nat × Word) :=
  let vals : List Word := match if d.fluRole = 0 then none else d.flu.elig with
    | none => []
    | some (b, e, f) =>
      let s := if d.get F.FLU_UID_SELF_UID = 0 then (0, 0, 0) else f.shares.getD d.fluPos (0, 0, 0)
      let flags := (if d.fluAdmitted then 1 else 0) + (if d.flu.orphan then 2 else 0) + (if f.flags.testBit 3 then 4 else 0)
      [s.1, s.2.1, s.2.2, f.vSp, f.fSp, BitVec.ofNat 32 e, BitVec.ofNat 32 b, BitVec.ofNat 32 flags]
        ++ (List.range 24).map (f.sums.getD · 0) ++ (List.range 8).map (f.maxs.getD · 0) ++ [BitVec.ofNat 32 f.live]
  (List.range 64).map fun k => (0x0220 + k, vals.getD k 0)

/-! ## Relayed and group commands (R410, R411, R415 to R417, R466) -/

/-- A command is sent in bulk frames to positions (R410). -/
def Dev.relaySend (d : Dev) (r : Relay) (role : Nat) (payload : List Byte) : Dev :=
  let d := d.forAll (bitList 64 r.waiting) fun d p => d.flueSend p (.bulk (.command r.ask.opcode 0 role r.ask.sid r.ask.seq payload))
  d.fluUp fun x => { x with relays := x.relays ++ [{ r with sentAt := d.now }] }

/-- A member's answer to a relayed command; answers the relay once every member has answered. -/
def Dev.relayAnswer (d : Dev) (pos sid seq status : Nat) (payload : List Byte) : Dev × Option Relay :=
  match d.flu.relays.find? fun r => r.ask.sid == sid && r.ask.seq == seq && r.waiting.testBit pos with
  | none => (d, none)
  | some r =>
    let r' := { r with
      waiting := clrBit r.waiting pos
      reply := if r.fail.isNone && (r.reply.isEmpty || status != 0) then payload else r.reply
      fail := match r.fail with | some f => some f | none => if status = 0 then none else some (pos, status) }
    let rest := d.flu.relays.filter fun x => !(x == r)
    if r'.waiting = 0 then (d.fluUp fun x => { x with relays := rest }, some r')
    else (d.fluUp fun x => { x with relays := rest ++ [r'] }, none)

/-- A bulk frame accepted: a relayed command waits to be executed here, or a member's answer arrives. -/
def Dev.bulkTaken (d : Dev) (h : FlueHdr) (b : BulkBody) : Dev × Option Relay :=
  match b with
  | .command .. =>
    if h.epoch < d.get F.FLU_EPOCH then ((d.bump F.FLU_STALE_CNT).raise 0x0D0C, none)
    else (d.fluUp fun x => { x with inbox := x.inbox ++ [(h.src, b)] }, none)
  | .response sid seq status payload => d.relayAnswer h.src sid seq status payload

/-- RELAY_TIMEOUT: the oldest relayed command has no answer 100 ms after its bulk frame (R466). -/
def Dev.relayTimeout (d : Dev) : Dev × Option Relay :=
  match d.flu.relays with
  | [] => (d, none)
  | r :: rest =>
    let d := (d.advanceTo (r.sentAt + 100 * msec)).flueQuiet
    let p := ((bitList 64 r.waiting).headD 0)
    (d.fluUp fun x => { x with relays := rest }, some { r with waiting := 0, fail := match r.fail with | some f => some f | none => some (p, 0x0C) })

/-- A crown sends a shadow frame to the standby it has (R417). -/
def Dev.shadowSend (d : Dev) (b : ShadowBody) : Dev :=
  if d.fluRole = 2 && d.flag F.FLU_ROLE_STANDBY_EN then d.flueSend (d.get F.FLU_ROLE_STANDBY_POS) (.shadow b) else d

/-- The group's setpoints and shares as the crown shadows them (R417). -/
def Dev.shadowShares (d : Dev) (sp : List Word) (sh : List (Word × Word × Word)) : Dev :=
  d.fluUp fun x => { x with
      spP := widen (sp.getD 0 0).toNat, spQ := widen (sp.getD 1 0).toNat, spC := widen (sp.getD 4 0).toNat
      spV := sp.getD 2 0, spF := sp.getD 3 0
      share := [{ base := sh.map fun (s : Word × Word × Word) => widen s.1.toNat }, { base := sh.map fun (s : Word × Word × Word) => widen s.2.1.toNat }, { base := sh.map fun (s : Word × Word × Word) => widen s.2.2.toNat }] }

/-- The least advanced state among live members, in the order of Table 17-6, and the count in each state. -/
def Dev.groupState (d : Dev) : Nat × List Nat :=
  let sts := d.livePos.map d.memberState
  let least := [8, 7, 0, 1, 2, 3, 6, 5, 4].find? fun s => sts.contains s
  (least.getD 0, (List.range 9).map fun s => (sts.filter (· == s)).length)

end Sys2Proof.Machine
end

