-- ==== Sys2Proof/Machine/Cpr.lean ====
section
/-! DEFINITION. Clocks, supplies, reset and kindling (chapter 15), with the tamper responses (R508, R509) and what a
life-cycle transition erases and writes (R511 to R513). -/

namespace Sys2Proof.Machine

/-- CPR's state changed; that of the sessions and the root of trust. -/
def Dev.cprUp (d : Dev) (f : Cpr → Cpr) : Dev := { d with cpr := f d.cpr }
def Dev.secUp (d : Dev) (f : Sec → Sec) : Dev := { d with sec := f d.sec }
def Dev.hrtUp (d : Dev) (f : Hrt → Hrt) : Dev := { d with hrt := f d.hrt }

/-! ## Life-cycle state and the views of MRAM and OTP -/

/-- A fuse word counts as written (R513). -/
def fuseWritten (w : Nat) : Bool := decide (24 ≤ popCount 32 w)

/-- The life-cycle state (R513, R512): 0 TEST, 1 VENDOR, 2 OWNED, 3 SERVICE, 4 SCRAPPED. -/
def Sec.lc (s : Sec) : Nat :=
  let wr (i : Nat) : Bool := fuseWritten (s.otp.lcf.getD i 0)
  if wr 2 then 4 else if wr 1 then (if s.store.service then 3 else 2) else if wr 0 then 1 else 0

/-- Present life-cycle state. -/
def Dev.lc (d : Dev) : Nat := d.get F.HRT_LC_STATE

/-- Fields derived from OTP and from the log regions (Table 15-8, R487, R513). -/
def Dev.mramRegs (d : Dev) : Dev :=
  let d := d.put F.HRT_LC_STATE d.sec.lc |>.putB F.HRT_LC_OWNER_SET d.sec.otp.owner.isSome
  let d := d.forAll (List.range 4) fun d i => d.put (F.HRT_DEV_ID.ix i) (leAt d.sec.otp.devId (4 * i) 4)
  let d := (d.put (F.HRT_FLOOR.ix 0) (d.hrt.floorImg.headD 0)).put (F.HRT_FLOOR.ix 1) (d.hrt.floorPkg.headD 0)
  let next (base : Nat) (l : List LogEntry) : Nat := match l.getLast? with | some e => e.num + 1 | none => base
  (d.put F.HRT_LOG_NEXT (next d.log.normalBase d.log.normal)).put F.HRT_STICKY_NEXT (next d.log.stickyBase d.log.sticky)

/-! ## Resets -/

/-- What a stream context keeps in MRAM: its keys. -/
def NetCtx.keys (c : NetCtx) : NetCtx := { ({} : NetCtx) with cur := c.cur, next := c.next, old := c.old }

/-- The log after a reset: its regions, the exports made of them, and the drop already reported (R480). -/
def Log.kept (l : Log) : Log :=
  { ({} : Log) with
    normal := l.normal, sticky := l.sticky, normalBase := l.normalBase, stickyBase := l.stickyBase
    exported := l.exported, fullRaised := l.fullRaised }

/-- What MET keeps in MRAM. -/
def Met.kept (m : Met) : Met := { ({} : Met) with ring := m.ring, ember := m.ember }

/-- What Hearth keeps in MRAM and OTP. -/
def Hrt.kept (h : Hrt) : Hrt :=
  { ({} : Hrt) with img := h.img, pkg := h.pkg, floorImg := h.floorImg, floorPkg := h.floorPkg, fullImg := h.fullImg, fullPkg := h.fullPkg }

/-- What trust keeps: OTP, configuration store, certificates. -/
def Sec.kept (s : Sec) : Sec := { ({} : Sec) with store := s.store, otp := s.otp, certs := s.certs, out := s.out, jtag := s.jtag }

/-- A gate-driver bridge after a reset: its supplies are as they were. -/
def Bridge.kept (x : Bridge) : Bridge := { ({} : Bridge) with warn := x.warn, low := x.low, extLow := x.extLow, wire := x.wire }

/-- Comparators that the AON copy keeps judging through reset: those it enables, where its SRC is AON (R258). -/
def Dmp.aonJudged (x : Dmp) : Nat :=
  match x.aonCopy with
  | some (w, l) => if w.getLsbD 0 then l.foldl (fun m (j, _) => setBit m j) 0 else 0
  | none => 0

/-- Every register and SRAM word at its reset value (R13, R39): MRAM, OTP and the levels on balls stay. -/
def Dev.blank (d : Dev) : Dev :=
  let e : Dev := {}
  Dev.mramRegs { e with
    time := { e.time with now := d.time.now, tickAt := d.time.tickAt, free := d.time.free }
    log := d.log.kept
    hst := { e.hst with out := d.hst.out }
    met := d.met.kept
    hrt := d.hrt.kept
    sec := d.sec.kept
    net := { e.net with ctx := d.net.ctx.filterMap fun (i, c) => if c.keys = {} then none else some (i, c.keys) }
    flu := { e.flu with keyCur := d.flu.keyCur, keyNext := d.flu.keyNext }
    gdr := { e.gdr with br := d.gdr.br.map Bridge.kept, vdrvLow := d.gdr.vdrvLow }
    dmp := { e.dmp with asserted := d.dmp.asserted &&& (0xFFF0000 ||| d.dmp.aonJudged), cmpOut := d.dmp.cmpOut &&& d.dmp.aonJudged, fbPin := d.dmp.fbPin, aonCopy := d.dmp.aonCopy, aonOrigin := d.dmp.aonOrigin }
    cpr := { e.cpr with resetN := d.cpr.resetN, mesh := d.cpr.mesh, freeRun := d.cpr.freeRun } }

/-- Tamper resets of the last hour, in ticks (R509). -/
def Dev.tamperWindow (d : Dev) : List Nat := d.cpr.tampers.filter fun t => d.time.tick < t + 3600000

/-- Erases both image and both package slots, wrapped keys, the energy region and both log regions (Table 22-9).
(DEDUCED, log entry 81.) -/
def Dev.eraseMram (d : Dev) : Dev :=
  { d with
    hrt := { d.hrt with img := [{}, {}], pkg := [{}, {}] }
    net := { d.net with ctx := [] }
    flu := { d.flu with keyCur := none, keyNext := none }
    met := { d.met with ring := List.replicate 32 none, ember := [none, none] }
    log := { d.log with
      normal := [], sticky := [], exported := 0, fullRaised := false
      normalBase := d.get F.HRT_LOG_NEXT, stickyBase := d.get F.HRT_STICKY_NEXT } }

/-- Steps 3 to 5 of R511 for the target pending: regions erased, the state committed, the marker cleared; the transition
is the first entry of the new state. -/
def Dev.lcEnter (d : Dev) : Dev :=
  match d.sec.store.pend with
  | none => d
  | some t =>
    let old := d.sec.lc
    let fuse (i : Nat) (o : Otp) : Otp := { o with lcf := o.lcf.set i 0xFFFFFFFF }
    let d := if t = 1 then d.eraseMram.secUp fun s => { s with store := {}, otp := fuse 0 s.otp }
      else if t = 2 && old = 1 then d.eraseMram.secUp fun s => { s with store := { valid := true }, otp := fuse 1 s.otp }
      else if t = 4 then
        d.eraseMram.secUp fun s => { s with store := {}, certs := [], otp := { fuse 2 s.otp with seed := some (2 ^ 384 - 1) } }
      else d.secUp fun s => { s with store := { s.store with valid := true, service := t == 3 } }
    let d := d.secUp fun s => { s with store := { s.store with pend := none } }
    d.mramRegs.raise 0x1010 [old, t]

/-- A power failure (R358), of a rail by its number or 255 for PFI: the power-fail sequence starts, or the failure joins
what is in progress. (DEDUCED, log entry 50.) -/
def Dev.powerFail (d : Dev) (src : Nat) : Dev :=
  if d.cpr.por || d.cpr.warm || d.cpr.waiting then d.cprUp fun c => { c with joined := some src }
  else if d.flag F.CPR_STATUS_PFAIL then d.cprUp fun c => { c with failAt := d.now }
  else
    let d := d.put F.CPR_STATUS_PFAIL 1
    let d := ({ d with hrt := { d.hrt with act := none } }).holdUpdate.metEmber
    let d := d.cprUp fun c => { c with failAt := d.now, emberAt := d.now, asked := none }
    (d.bump F.CPR_PFAIL_CNT).raise 0x0B05 [src]

/-- Rails above their rising thresholds: the bank at 1.8 V has a row of its own (Table 15-3). -/
def Dev.railsGood (d : Dev) : Dev := d.put F.CPR_RAIL_GOOD (if d.cpr.sdm18 then 0x7F else 0x6F)

/-- Kindling restarts, once no reset holds: a power failure that joined the reset and is still present (`still`) starts its
sequence now (R358, R369). -/
def Dev.kindleAgain (d : Dev) (still : Bool) : Dev :=
  if d.cpr.waiting then d else
  match d.cpr.joined with
  | none => d
  | some src =>
    let d := d.cprUp fun c => { c with joined := none }
    if still then d.powerFail src else d.railsGood

/-- Steps 3 and 4 of R360: outputs at their power-on state, SRAM wiped, kindling to begin again from MDLL lock.
(DEDUCED, log entry 82; DESIGN CHOICE, log entry 118.) -/
def Dev.warmWipe (d : Dev) : Dev :=
  let legs := d.dmp.legs.foldl (fun m l => match l with | .seq t => max m t | _ => m) 0
  let d := d.advanceTo legs
  let e := d.blank
  let keep (f : Fld) (e : Dev) : Dev := e.put f (d.get f)
  let e := keep F.CPR_RST_CAUSE_CAUSE <| keep F.CPR_WARM_CNT <| keep F.CPR_PFAIL_CNT <| keep F.CPR_STATUS_REF_MODE <|
    keep F.FLU_ROLE_HOST_MODE <| keep F.SDM_STATUS_BANK <| keep F.CPR_RAIL_GOOD e
  let e := (e.bump F.CPR_WARM_CNT).putB F.CPR_STATUS_REF_OK (!d.cpr.freeRun)
  let e := { e with time := { e.time with ptp := d.time.ptp, ptpAdj := d.time.ptpAdj, tick := d.time.tick } }
  let e := e.cprUp fun c => { c with
    por := false, rows := 6, start := d.cpr.start, waiting := d.cpr.resetN, tampers := d.tamperWindow, sdm18 := d.cpr.sdm18
    joined := d.cpr.joined }
  (e.put F.HRT_TAMPER_CNT_CNT (min 15 d.tamperWindow.length)).lcEnter

/-- A warm reset of a cause of Table 15-4 (bit number) begins or joins the one in progress (R360): safe sequences and
ember sequence first. It acts on nothing while power-on reset holds. -/
def Dev.warmReset (d : Dev) (cause : Nat) : Dev :=
  if d.cpr.por then d else
  let d := d.setIn F.CPR_RST_CAUSE_CAUSE cause
  if d.cpr.warm || d.cpr.waiting then d else
  let d := d.cprUp fun c => { c with warm := true, start := d.now, asked := none }
  let d := ({ d with hrt := { d.hrt with act := none } }).holdUpdate.metEmber
  if d.met.embering.isSome then d else d.warmWipe

/-- The warm reset a command asked for: it begins once the response is written, which a mailbox's waits for (R362, R511);
a transition's target is pending from then on. -/
def Dev.resetBegin (d : Dev) (r : ResetAsk) : Dev :=
  (d.secUp fun s => { s with store := { s.store with pend := r.goal.orElse fun _ => s.store.pend } }).warmReset r.cause

/-- A warm reset by a command that came on a path. -/
def Dev.resetAfter (d : Dev) (path : Path) (cause : Nat) (goal : Option Nat) : Dev :=
  match path with
  | .mbx m => d.cprUp fun c => { c with asked := some ⟨cause, m, goal⟩ }
  | _ => d.resetBegin ⟨cause, 0, goal⟩

/-- EMBER_WRITE_COMPLETE: the ember sequence ends; a warm reset that waits for it goes on (R205, R360). -/
def Dev.emberComplete (d : Dev) (still : Bool) (dt : Nat) : Dev :=
  let d := (d.advance dt).metEmberDone
  let d := d.cprUp fun c => { c with emberAt := d.now }
  if d.cpr.warm && d.met.embering.isNone then d.warmWipe.kindleAgain still else d

/-! ## Power-on, power failure and brownout -/

/-- The SDM bank's supply is compared with 2.50 V from power-on to the release of power-on reset (R151). -/
def Dev.bankSense (d : Dev) (bank18 : Bool) : Dev := if d.cpr.por then d.cprUp fun c => { c with sdm18 := bank18 } else d

/-- AON_POWER_PRESENT: VDD_AON and VDDA become present (R258); the SDM bank is sensed until release (R151). -/
def Dev.aonPower (d : Dev) (bank18 : Bool) (dt : Nat) : Dev :=
  let d := d.advance dt
  ({ d with dmp := { d.dmp with aonCopy := none, aonOrigin := d.now } }).bankSense bank18

/-- POR_RELEASE (R355): straps sampled and the bank's comparison as it stands (R151), cause POR alone, row 1 complete; a
power failure that joined may still be present (R358). -/
def Dev.porRelease (d : Dev) (refMode : Bool) (hostMode : Nat) (bank18 still : Bool) (dt : Nat) : Dev :=
  let d := d.advance dt
  if !d.cpr.por then d else
  let d := d.bankSense bank18
  let d := d.putB F.CPR_STATUS_REF_MODE refMode |>.put F.FLU_ROLE_HOST_MODE hostMode |>.put F.CPR_RST_CAUSE_CAUSE 1
    |>.put F.CPR_WARM_CNT 0 |>.putB F.SDM_STATUS_BANK (!d.cpr.sdm18)
  (d.railsGood.cprUp fun c => { c with por := false, rows := setBit c.rows 1, start := d.now }).kindleAgain still

/-- VDD_AON_FAIL: power-on reset follows (R359); nothing of the analog die's copy remains (R258). -/
def Dev.aonFail (d : Dev) (dt : Nat) : Dev :=
  let d := d.advance dt
  ({ d with dmp := { d.dmp with aonCopy := none } }).blank

/-- A rail is monitored: the bank at 1.8 V has its row only where the bank sense selects it (R151, R356). -/
def Dev.railWatched (d : Dev) (rail : Nat) : Bool := rail != 4 || d.cpr.sdm18

/-- RAIL_FAILURE: a rail has been below its falling threshold for 500 ns (R356): VDD_AON brings power-on reset (R359).
(DEDUCED, log entry 84.) -/
def Dev.railFailure (d : Dev) (rail dt : Nat) : Dev :=
  if rail = 6 then d.aonFail dt else
  let d := d.advance dt
  if !d.railWatched rail then d else
  let d := d.clrIn F.CPR_RAIL_GOOD rail
  let d := if rail = 5 then { d with dmp := { d.dmp with aonCopy := none } } else d
  if d.cpr.por then d else (d.setIn F.CPR_RAIL_UV rail).powerFail rail

/-- RAIL_OVERVOLTAGE (R356). -/
def Dev.railOver (d : Dev) (rail dt : Nat) : Dev :=
  let d := d.advance dt
  if d.cpr.por || !d.railWatched rail then d else (d.setIn F.CPR_RAIL_OV rail).raise 0x0B04 [rail]

/-- PFI_QUALIFIED: PFI stays below its threshold for `low` PWM clocks; it is qualified once PFI_FILT x 250 ns of it have
passed (R357). -/
def Dev.pfiQualified (d : Dev) (low dt : Nat) : Dev :=
  let filt := 125 * d.get F.CPR_PFI_PFI_FILT
  let d := d.advance dt
  if low < filt then d else (d.advance filt).powerFail 255

/-- BROWNOUT_RESET: power has been back for 10 ms with the ember sequence complete (R359).
(DEDUCED, log entry 40; DEDUCED, log entry 42.) -/
def Dev.brownout (d : Dev) : Dev :=
  if !d.flag F.CPR_STATUS_PFAIL || d.met.embering.isSome then d else
  (((d.advanceTo (max d.cpr.failAt d.cpr.emberAt + 10 * msec)).railsGood).raise 0x0B0B).warmReset 4

/-- RESET_N_ASSERT, RESET_N_RELEASE (R360). -/
def Dev.resetAssert (d : Dev) (dt : Nat) : Dev := ((d.advance dt).cprUp fun c => { c with resetN := true }).warmReset 1
def Dev.resetRelease (d : Dev) (still : Bool) (dt : Nat) : Dev :=
  let d := d.advance dt
  let e := d.cprUp fun c => { c with resetN := false, waiting := false }
  if d.cpr.waiting then e.kindleAgain still else e

/-- HEARTH_WATCHDOG: 16 ticks in a row without a heartbeat (R364). -/
def Dev.hearthWatchdog (d : Dev) : Dev := if 16 ≤ d.cpr.beats then d.warmReset 3 else d

/-- A warm reset by command is refused with STATE (R362). -/
def Dev.resetRefused (d : Dev) : Bool := !(d.gsv ≤ 1 || d.gsv == 8)

/-! ## Host watchdog (R365) -/

/-- A write of CPR_HWDT_KICK. -/
def Dev.hwdtKick (d : Dev) : Dev :=
  (d.put F.CPR_STATUS_HWDT 0).cprUp fun c => { c with hwdt := 0, hwdtOn := d.flag F.CPR_HWDT_EN }

/-- An adopted set brings EN to 1, which starts a count, or to 0, which ends it. (DEDUCED, log entry 131.) -/
def Dev.hwdtAdopt (d old : Dev) : Dev :=
  if d.flag F.CPR_HWDT_EN = old.flag F.CPR_HWDT_EN then d
  else d.cprUp fun c => { c with hwdt := 0, hwdtOn := d.flag F.CPR_HWDT_EN }

/-- A tick of the host watchdog. (DEDUCED, log entry 32.) -/
def Dev.hwdtTick (d : Dev) : Dev :=
  if d.cpr.hwdtOn then d.cprUp fun c => { c with hwdt := min (c.hwdt + 1) (d.get F.CPR_HWDT_TIMEOUT) } else d

/-- CPR_HOST_WDT: the count has expired; it stops. -/
def Dev.hostWdt (d : Dev) : Dev :=
  if d.cpr.hwdtOn && d.get F.CPR_HWDT_TIMEOUT ≤ d.cpr.hwdt then
    ((d.cprUp fun c => { c with hwdtOn := false }).put F.CPR_STATUS_HWDT 1).raise 0x0B08
  else d

/-! ## Clock monitors (R351, R353, R354) and spread spectrum (R350) -/

/-- Domains that derive from REF: all but PCIE (6) and AON (10). -/
def fromRef (dom : Nat) : Bool := dom != 6 && dom != 10

/-- MOD leaves or regains lock (R351): SDM takes the loss as clock loss of the channels of CLKOUT (Table 6-5). -/
def Dev.modLock (d : Dev) (ok : Bool) : Dev :=
  let d := d.putB F.SDM_STATUS_MOD_LOCK ok
  let chans := (List.range 24).filter fun n => d.schMode n == 1
  if ok then d.forAll chans Dev.sdmClockBack else d.forAll chans Dev.sdmClockLoss

/-- CLOCK_MONITOR_WINDOW: a window of a domain (in the order of Table 1-5) ends inside or outside its limits; REF_OK follows
REF's own monitor. (DEDUCED, log entry 132.) -/
def Dev.clockWindow (d : Dev) (dom : Nat) (ok : Bool) (dt : Nat) : Dev :=
  let d := d.advance dt
  if d.cpr.por then d else
  let bad := d.cpr.clkBad.testBit dom
  if ok then
    let n := d.cpr.clkGood.getD dom 0 + 1
    let d := if dom = 2 && !d.flag F.SDM_STATUS_MOD_LOCK && d.cpr.rows.testBit 7 then d.modLock true else d
    let d := if dom = 11 && 16 ≤ n && !d.cpr.freeRun && d.cpr.rows.testBit 2 then d.put F.CPR_STATUS_REF_OK 1 else d
    d.cprUp fun c => { c with
      clkGood := c.clkGood.set dom (min n 16), clkBad := if 16 ≤ n then clrBit c.clkBad dom else c.clkBad }
  else
    let d := d.cprUp fun c => { c with clkGood := c.clkGood.set dom 0, clkBad := setBit c.clkBad dom }
    let d := if dom = 2 && d.flag F.SDM_STATUS_MOD_LOCK then d.modLock false else d
    let d := if dom = 11 then d.put F.CPR_STATUS_REF_OK 0 else d
    if bad || (d.cpr.freeRun && fromRef dom) then d else (d.setIn F.CPR_CLK_FAIL_DOM dom).raise 0x0B02 [dom]

/-- Both MDLLs gain or lose lock (Table 15-6). -/
def Dev.mdllLocked (d : Dev) (b : Bool) : Dev := (d.putB F.CPR_STATUS_CORE_LOCK b).putB F.CPR_STATUS_PWM_LOCK b

/-- CPR_REF_LOSS: no REF edge for 200 ns; both MDLLs go to free-run (R354). (DESIGN CHOICE, log entry 22.) -/
def Dev.refLoss (d : Dev) (dt : Nat) : Dev :=
  let d := d.advance dt
  if d.cpr.por || d.cpr.freeRun then d else
  let d := ((d.put F.CPR_STATUS_REF_LOSS 1).put F.CPR_STATUS_REF_OK 0).mdllLocked false
  (d.cprUp fun c => { c with freeRun := true }).raise 0x0B03

/-- REF_RETURN: the MDLLs relock; the loss stays latched (R354). -/
def Dev.refReturn (d : Dev) (dt : Nat) : Dev :=
  let d := d.advance dt
  if !d.cpr.freeRun then d
  else ((d.put F.CPR_STATUS_REF_OK 1).mdllLocked (d.cpr.rows.testBit 3)).cprUp fun c => { c with freeRun := false }

/-- A spread profile adopted (R350). -/
def Dev.sscAdopt (d : Dev) : Dev :=
  let s := d.get F.CPR_SSC_SSC
  d.cprUp fun c => { c with sscNext := if s = c.ssc then none else some s }

/-- A spread profile begins: CORE clocks so far are counted on the one before. -/
def Dev.profileBegin (d : Dev) (s : Nat) : Dev :=
  d.cprUp fun c => { c with ssc := s, sscNext := none, sscAt := d.now, coreAt := d.coreNow d.now }

/-- CPR_SSC_CHANGE: the adopted profile begins at a modulation-period start. -/
def Dev.sscBegin (d : Dev) (dt : Nat) : Dev :=
  let d := d.advance dt
  match d.cpr.sscNext with
  | some s =>
    let d := if d.fbx.running then d.landUpTo (d.frameClocks d.now) else d
    (d.profileBegin s).raise 0x0B0A [d.cpr.ssc, s]
  | none => d

/-! ## Die-to-die link (R32, R33) -/

/-- CPR_D2D_LOST: the data link is lost. -/
def Dev.d2dLost (d : Dev) : Dev :=
  if d.cpr.d2dLost || d.cpr.por then d else (d.cprUp fun c => { c with d2dLost := true, resend := 0 }).raise 0x0B01

/-- D2D_WORD_RECEIVE: a word of one direction with a good CRC, or one that is sent again; a second failure loses the link. -/
def Dev.d2dWord (d : Dev) (dir : Nat) (crc : Bool) (dt : Nat) : Dev :=
  let d := d.advance dt
  if crc then d.cprUp fun c => { c with resend := clrBit c.resend dir }
  else if d.cpr.resend.testBit dir then d.d2dLost
  else (d.bump F.CPR_D2D_RETRY_CNT).cprUp fun c => { c with resend := setBit c.resend dir }

/-- ANALOG_LINK_LOSS: the analog die has received nothing valid for 1 us; both Draught bridges are held off (R33).
(DEDUCED, log entry 111.) -/
def Dev.analogLoss (d : Dev) (dt : Nat) : Dev :=
  let d := d.advance dt
  ({ d with gdr := { d.gdr with linkHold := true } }.gatesOff 0).gatesOff 1

/-- D2D_LINK_RESTORED: the link has been valid for 1 ms. -/
def Dev.d2dRestored (d : Dev) (dt : Nat) : Dev :=
  let d := d.advance dt
  { d with gdr := { d.gdr with linkHold := false }, cpr := { d.cpr with d2dLost := false, resend := 0 } }

/-! ## Tamper (R476, R508, R509) -/

/-- A tamper sensor sets its bit and raises HRT_TAMPER. -/
def Dev.tamper (d : Dev) (bit : Nat) : Dev := (d.setIn F.HRT_TAMPER bit).raise 0x1003 [bit]

/-- A tamper reset: counted in the window of one hour. -/
def Dev.tamperReset (d : Dev) (bit : Nat) : Dev :=
  if d.cpr.por then d else
  let d := d.tamper bit
  let d := if d.cpr.warm || d.cpr.waiting then d else d.cprUp fun c => { c with tampers := d.tamperWindow ++ [d.time.tick] }
  (d.put F.HRT_TAMPER_CNT_CNT (min 15 d.tamperWindow.length)).warmReset 6

/-- SUPPLY_GLITCH, CLOCK_GLITCH, DIE_SHIELD_CHECK. -/
def Dev.supplyGlitch (d : Dev) (dt : Nat) : Dev := (d.advance dt).tamperReset 0
def Dev.clockGlitch (d : Dev) (dt : Nat) : Dev := (d.advance dt).tamperReset 1
def Dev.shieldCheck (d : Dev) (ok : Bool) (dt : Nat) : Dev :=
  let d := (d.advance dt).cprUp fun c => { c with mesh := !ok }
  if ok then d else d.tamperReset 3

/-! ## Kindling (Table 15-5, R366 to R369) -/

/-- Kindling goes on: no reset, no power-fail hold, not stopped, and the row named is complete. -/
def Dev.kindling (d : Dev) (row : Nat) : Bool :=
  !d.cpr.por && !d.cpr.warm && !d.cpr.waiting && !d.cpr.stopped && !d.flag F.CPR_STATUS_PFAIL && d.cpr.rows.testBit row

/-- A row completes. -/
def Dev.rowDone (d : Dev) (row : Nat) : Dev := d.cprUp fun c => { c with rows := setBit c.rows row }

/-- REF_OK: 256 edges within the window against AON. -/
def Dev.refOk (d : Dev) (dt : Nat) : Dev :=
  let d := d.advance dt
  if d.kindling 1 then (d.put F.CPR_STATUS_REF_OK 1).rowDone 2 else d

/-- MDLL_LOCK: both MDLLs lock; the SLOW strobe's origin (R258). -/
def Dev.mdllLock (d : Dev) (dt : Nat) : Dev :=
  let d := d.advance dt
  if d.kindling 2 && !d.cpr.freeRun then
    let d := (d.mdllLocked true).rowDone 3
    { d with dmp := { d.dmp with slowOrigin := d.now } }
  else d

/-- SRAM_WIPE_DONE. -/
def Dev.wipeDone (d : Dev) (dt : Nat) : Dev := let d := d.advance dt; if d.kindling 3 then d.rowDone 4 else d

/-- BIST_DONE: passed, or failed in a block; the tamper hold of R509 stops kindling after it. -/
def Dev.bistDone (d : Dev) (fail : Option Nat) (dt : Nat) : Dev :=
  let d := d.advance dt
  if !d.kindling 4 then d else
  match fail with
  | some b => (d.cprUp fun c => { c with stopped := true }).raise 0x0B06 [b]
  | none =>
    let d := d.rowDone 5
    if 8 ≤ d.tamperWindow.length then (d.cprUp fun c => { c with stopped := true }).raise 0x1015 else d

/-- The bits of a register whose Reset entry is "cfg", which the configuration store keeps (R13): of ANG_SRC, MET, PQ, GSV,
CPR_SSC, NET, FLU_UID, HST_SUBSYS. -/
def cfgMask (a : Nat) : Nat :=
  if a = 0x020004 ∨ a = 0x0B000C ∨ a = 0x0C0004 then 7
  else if a = 0x060004 ∨ a = 0x062000 then 1
  else if a = 0x060008 then 0x1F1F1F
  else if a = 0x06000C then 0x9F1F1F1F
  else if a = 0x030004 then 0xFF01
  else if a = 0x03000C then 0xFFF
  else if a = 0x030010 then 0xFF
  else if a = 0x030080 then 0x1F
  else if a = 0x0C0008 ∨ a = 0x0C000C ∨ a = 0x0C0040 then 3
  else if a = 0x0C0014 ∨ a = 0x0D0008 then 0xFFFF
  else if a = 0x062004 ∨ a = 0x030008 ∨ a = 0x030018 ∨ a = 0x0C0010 ∨ a = 0x0F0008 ∨ (0x030060 ≤ a ∧ a < 0x030070)
    ∨ (0x030400 ≤ a ∧ a < 0x030600) then 0xFFFFFFFF
  else 0

/-- The configuration store records the cfg fields in force and the slots. (DEDUCED, log entry 80.) -/
def Dev.storeWrite (d : Dev) : Dev :=
  let ws := (d.regs.filter fun (a, _) => cfgMask a != 0).map fun (a, w) => (a, w &&& BitVec.ofNat 32 (cfgMask a))
  let (i, p) := (d.hrt.imgForce, d.hrt.pkgForce)
  d.secUp fun s => { s with store := { s.store with valid := true, words := ws, img := i, pkg := p } }

/-- What the cfg fields in force bring with them: the angle source and nominal increment, the network's mode. -/
def Dev.cfgInForce (d : Dev) : Dev :=
  let d := d.put F.ANG_STATUS_SRC (d.get F.ANG_SRC_SEL)
  let d := (d.setInc (incOf d.fNom64)).put F.ANG_F_MEAS (narrow d.fNom64)
  d.put F.NET_STATUS_MODE (d.get F.NET_CFG_MODE)

/-- A recorded field has an encoding that its map refuses (R368). -/
def cfgRefused (ws : Mem) : Bool :=
  cfgGet ws F.ANG_SRC_SEL == 3 || decide (5 < cfgGet ws F.CPR_SSC_SSC) || cfgGet ws F.GSV_VDC_SRC_KIND == 3
    || cfgGet ws F.NET_CFG_MODE == 3 || cfgGet ws F.NET_PTP_CFG_PROFILE == 3
    || (List.range 64).any fun i => decide (5 < wbits (Mem.rd ws (0x030404 + 8 * i)) 26 24)

/-- CONFIG_STORE_LOADED: the record checks (`ok`), the service word's tag checks (`svc`). A pending transition is
completed first (R511); without a valid record the values of R368 apply, and SERVICE in a state of 2 or above (R512). -/
def Dev.storeLoaded (d : Dev) (ok svc : Bool) (dt : Nat) : Dev :=
  let d := d.advance dt
  if !d.kindling 5 then d else
  let d := if d.sec.store.pend.isSome then d.lcEnter.put F.HRT_LC_PENDING 1 else d
  let valid := ok && d.sec.store.valid && !cfgRefused d.sec.store.words
  let d := if valid then d.forAll d.sec.store.words fun d (a, w) =>
      let m := BitVec.ofNat 32 (cfgMask a)
      d.setWord a ((d.word a &&& ~~~m) ||| (w &&& m))
    else (d.secUp fun s => { s with store := { s.store with valid := false, words := [], img := none, pkg := none, owner := 0, floor := 0 } }).raise 0x0B07
  let d := (d.put F.HRT_OWNER_CTR d.sec.store.owner).put F.HRT_TIME_FLOOR d.sec.store.floor
  let d := if !(valid && svc) && (d.sec.lc = 2 || d.sec.lc = 3) then
      ((d.secUp fun s => { s with store := { s.store with service := true } }).put F.HRT_LC_STATE 3).raise 0x1017
    else d
  (d.cfgInForce.ptpStart.pwmStart.profileBegin (d.get F.CPR_SSC_SSC)).rowDone 6

/-- MOD_SYNTH_LOCK: SDM clocks start (R351). -/
def Dev.modSynth (d : Dev) (dt : Nat) : Dev :=
  let d := d.advance dt
  if !d.kindling 6 then d else
  let d := ((d.modLock true).rowDone 7).clkOutputs
  { d with sdm := { d.sdm with ch := d.sdm.ch.mapIdx fun n c => { c with next := d.bitIndex n d.time.phase } } }

/-- MET_RESTORE (R207, R208). -/
def Dev.metKindle (d : Dev) (dt : Nat) : Dev :=
  let d := d.advance dt
  if d.kindling 6 && !d.cpr.rows.testBit 10 then d.metRestore.rowDone 10 else d

/-- Rows 8, 9 and 12 as they come about: F2 valid, ANG LOCKED, the group joined or its step skipped (R366). -/
def Dev.kindleRows (d : Dev) : Dev :=
  let row (n : Nat) (b : Bool) (d : Dev) : Dev := if b then d.rowDone n else d
  row 8 (d.kindling 7 && d.get F.SDM_VALID != 0) d
  |> row 9 (d.kindling 7 && d.angLock == 0)
  |> row 12 (d.kindling 11 && (!d.fluCapable || d.fluAdmitted || d.fluRole == 2))

/-- CPR_STATUS.STEP: the highest row n such that rows 1 to n are complete; 15 stopped (Table 15-6).
(DESIGN CHOICE, log entry 1; DEDUCED, log entry 43.) -/
def Dev.step (d : Dev) : Nat :=
  if d.cpr.stopped then 15 else ((List.range 13).takeWhile fun i => d.cpr.rows.testBit (i + 1)).length

/-- CPR_KINDLED: GSV has reached READY with every row before complete. -/
def Dev.kindleEnd (d : Dev) : Dev :=
  let d := d.kindleRows
  if d.kindling 9 && d.kindling 11 && d.kindling 12 && d.gsv = 1 && !d.cpr.rows.testBit 13 then
    let t := sat32 ((d.now - d.cpr.start) / usec)
    ((d.rowDone 13).put F.CPR_KINDLE_T t).raise 0x0B09 [t, d.get F.CPR_RST_CAUSE_CAUSE]
  else d

/-- Every derived view of CPR. -/
def Dev.cprRegs (d : Dev) : Dev := let d := d.kindleRows; d.put F.CPR_STATUS_STEP d.step

end Sys2Proof.Machine
end

