-- ==== Sys2Proof/Machine/HostPort.lean ====
section
/-! DEFINITION. The PCIe endpoint (chapter 19): mailboxes, MSI-X, DMA rings, resets and errors. -/

namespace Sys2Proof.Machine

/-- The host interface's state changed; a mailbox; a ring. -/
def Dev.hstUp (d : Dev) (f : Hst → Hst) : Dev := { d with hst := f d.hst }
def Dev.mbx (d : Dev) (m : Nat) : Mbx := d.hst.mbx.getD m {}
def Dev.mbxUp (d : Dev) (m : Nat) (f : Mbx → Mbx) : Dev := d.hstUp fun h => { h with mbx := upd h.mbx m f }
def Dev.ring (d : Dev) (r : Nat) : Ring := d.hst.rings.getD r {}
def Dev.ringUp (d : Dev) (r : Nat) (f : Ring → Ring) : Dev := d.hstUp fun h => { h with rings := upd h.rings r f }

/-- The device may issue requests: Bus Master Enable is 1 and the function is in D0 (R439). -/
def Dev.mayIssue (d : Dev) : Bool := d.flag F.HST_STATUS_BME && !d.flag F.HST_STATUS_D3

/-! ## MSI-X (R447) -/

/-- A vector's message can be sent now. -/
def Dev.vectorOpen (d : Dev) (v : Nat) : Bool :=
  d.mayIssue && d.hst.msixEn && !d.hst.msixFmask && !d.hst.msixMask.testBit v

/-- A vector's condition arises: the message is sent, or the pending bit kept. -/
def Dev.signal (d : Dev) (v : Nat) : Dev :=
  if d.vectorOpen v then d.hstUp fun h => { h with out := .msix v :: h.out }
  else d.hstUp fun h => { h with msixPend := setBit h.msixPend v }

/-- MSIX_MESSAGE: a pending vector that is open sends its message. -/
def Dev.msixSend (d : Dev) (v : Nat) : Dev :=
  if d.hst.msixPend.testBit v && d.vectorOpen v then (d.hstUp fun h => { h with msixPend := clrBit h.msixPend v }).signal v else d

/-- A write to the MSI-X table (BAR2): word 4v + 3 is the vector control, whose bit 0 masks vector v. -/
def Dev.msixWrite (d : Dev) (word : Nat) (v : Word) : Dev :=
  if 128 ≤ word then d
  else if word % 4 = 3 then (d.hstUp fun h => { h with msixMask := putBit h.msixMask (word / 4) (v.getLsbD 0) }).msixSend (word / 4)
  else d.hstUp fun h => { h with msixTab := Mem.wr h.msixTab word v }

/-! ## Mailboxes (R443 to R446) -/

/-- REQ_FREE and INFLIGHT follow the commands of a mailbox (R444). -/
def Dev.mbxFree (d : Dev) (m n : Nat) : Dev :=
  (d.put (F.MBX_STAT_INFLIGHT.ix m) n).putB (F.MBX_STAT_REQ_FREE.ix m) ((d.mbx m).copying.isNone && n < 4)

/-- MBX_DB_GO: a request is submitted, or the GO ignored while REQ_FREE is 0 (R444). -/
def Dev.mbxGo (d : Dev) (m len tag dt : Nat) : Dev :=
  let d := d.advance dt
  if d.flag (F.MBX_STAT_REQ_FREE.ix m) then
    (d.mbxUp m fun x => { x with copying := some (len, tag) }).put (F.MBX_STAT_REQ_FREE.ix m) 0
  else ((d.put (F.MBX_STAT_DB_REJ.ix m) 1).bump F.HST_MBX_REJ_CNT).raise 0x0F09 [m]

/-- Opcodes of Table 20-6. -/
def opcodes : List Nat :=
  [0x01, 0x02, 0x03, 0x04, 0x05, 0x10, 0x11, 0x12, 0x13, 0x14, 0x15, 0x16, 0x20, 0x21, 0x22, 0x23, 0x24, 0x25,
   0x30, 0x31, 0x32, 0x33, 0x34, 0x40, 0x41, 0x42, 0x43, 0x50, 0x51, 0x52, 0x53, 0x54, 0x55, 0x56, 0x57, 0x58, 0x59,
   0x60, 0x61, 0x62, 0x63, 0x70, 0x71, 0x72, 0x78, 0x79, 0x80, 0x81, 0x82, 0x90, 0x91, 0x92, 0x98]

/-- The refusal of a frame by steps 1 and 2 of R459, from its bytes alone: status, if any. -/
def frameStatus (frame : List Byte) (limit : Nat) : Option Nat :=
  let len := frame.length
  let body := leAt frame 2 2 + (if leAt frame 6 2 = 0 then 0 else 16)
  if len < 16 || len % 4 != 0 || limit < len || len != 16 + body then some 3
  else if leAt frame 1 1 != 1 || !opcodes.contains (leAt frame 0 1) then some 2
  else none

/-- A refusal by steps 1 and 2 is counted (Table 20-8). -/
def Dev.countRefusal (d : Dev) (st : Option Nat) : Dev :=
  match st with
  | some 3 => d.bump F.HRT_CMD_LEN_CNT
  | some 2 => d.bump F.HRT_CMD_OPC_CNT
  | _ => d

/-- MBX_COPY_DONE: the request is in Hearth; what steps 1 and 2 refuse is answered in its turn (R443). -/
def Dev.mbxCopied (d : Dev) (m dt : Nat) : Dev :=
  let d := d.advance dt
  match (d.mbx m).copying with
  | none => d
  | some (len, tag) =>
    let frame := Mem.bytes (d.mbx m).req 0 (min len 2048)
    let st := if 2048 < len then some 3 else frameStatus frame 2048
    let d := d.countRefusal st
    let d := d.mbxUp m fun x => { x with copying := none, inflight := x.inflight ++ [⟨tag, frame, st.map (d.refusal frame)⟩] }
    d.mbxFree m (d.get (F.MBX_STAT_INFLIGHT.ix m) + 1)

/-- MBX_RESPONSE_POST: the oldest request's response, finished, enters a free response area (R445). -/
def Dev.mbxPost (d : Dev) (m : Nat) : Dev :=
  if d.flag (F.MBX_RSP_VALID.ix m) then d else
  match (d.mbx m).inflight with
  | ⟨tag, _, some r⟩ :: rest =>
    let d := d.mbxUp m fun x => { x with inflight := rest, area := r }
    let d := ((d.put (F.MBX_RSP_LEN.ix m) r.length).put (F.MBX_RSP_TAG.ix m) tag).put (F.MBX_RSP_VALID.ix m) 1
    if d.flag (F.MBX_IRQ_EN.ix m) then d.signal m else d
  | _ => d

/-- MBX_ACK: the response area is released (R445). -/
def Dev.mbxAck (d : Dev) (m : Nat) : Dev :=
  if d.flag (F.MBX_RSP_VALID.ix m) then
    let d := d.put (F.MBX_RSP_VALID.ix m) 0
    d.mbxFree m (d.get (F.MBX_STAT_INFLIGHT.ix m) - 1)
  else d

/-- A response for the oldest command of a mailbox that asked for it and has none; none waits after an HST reset (R440). -/
def giveResp (a : Asked) (r : List Byte) : List MbxCmd → List MbxCmd
  | [] => []
  | c :: cs => if c.resp.isNone && a.isIn c.frame then { c with resp := some r } :: cs else c :: giveResp a r cs

/-- REQUEST_AREA_WRITE: bytes and their enables at an offset; discarded while REQ_FREE is 0 (R444). (DEDUCED, log entry 122.) -/
def Dev.reqWrite (d : Dev) (m off : Nat) (bytes : List (Option Byte)) : Dev :=
  if !d.flag (F.MBX_STAT_REQ_FREE.ix m) || 2048 < off + bytes.length then d.bump F.HST_BAR_REJ_CNT else
  let wr (q : Mem) (i : Nat) (b : Byte) : Mem :=
    let w := (Mem.rd q (i / 4)).toNat
    let k := 256 ^ (i % 4)
    Mem.wr q (i / 4) (BitVec.ofNat 32 (w - w / k % 256 * k + b.toNat * k))
  let go := ((List.range bytes.length).zip bytes).foldl (fun q (i, b) => match b with | some b => wr q (off + i) b | none => q)
  d.mbxUp m fun x => { x with req := go x.req }

/-! ## DMA rings (R448 to R453) -/

/-- A ring signals its vector, and both counts start over (R452). -/
def Dev.ringSignal (d : Dev) (r : Nat) (always : Bool) : Dev :=
  if always || d.flag (F.RING_IRQ_EN.ix r) then
    (d.ringUp r fun g => { g with unsig := 0, firstUnsig := none }).signal (16 + r)
  else d

/-- A ring enters ERROR with a reason of Table 19-6. -/
def Dev.ringError (d : Dev) (r reason : Nat) : Dev :=
  let d := (d.put (F.RING_STAT_STATE.ix r) 3).put (F.RING_STAT_ERR.ix r) reason
  let d := if reason = 2 then (d.bump F.HST_CPL_TO_CNT).raise 0x0F04 [r]
    else (d.bump F.HST_RING_ERR_CNT).raise 0x0F07 [r, reason]
  d.ringSignal r true

/-- HEAD and TAIL at 0 and nothing read, in the state given. -/
def Dev.ringRestart (d : Dev) (r st : Nat) : Dev :=
  let d := ((d.put (F.RING_HEAD_HEAD.ix r) 0).put (F.RING_TAIL_TAIL.ix r) 0).put (F.RING_STAT_STATE.ix r) st
  (d.put (F.RING_STAT_ERR.ix r) 0).ringUp r fun g => { g with fetched := [], unsig := 0, firstUnsig := none }

/-- RING_TAIL_WRITE (R450, R451). -/
def Dev.ringTail (d : Dev) (r v : Nat) : Dev :=
  let n := d.ringSize r
  if n ≤ v then d.bump F.HST_BAR_REJ_CNT
  else if (v + n - d.get (F.RING_HEAD_HEAD.ix r)) % n < d.ringOwned r then d
  else
    let d := d.put (F.RING_TAIL_TAIL.ix r) v
    if d.flag (F.HST_RING_EN.ix r) && d.get (F.RING_STAT_STATE.ix r) = 0 then d.put (F.RING_STAT_STATE.ix r) 1 else d

/-- RING_CTRL_RESET (R453). -/
def Dev.ringReset (d : Dev) (r : Nat) : Dev := d.ringRestart r (d.get (F.HST_RING_EN.ix r))

/-- What is wrong with a descriptor (Table 19-6): 0 nothing, 3 OWN, 4 LEN, 5 ADDR. -/
def descBad (x : DescIn) : Nat :=
  if !x.own then 3
  else if x.len < 64 || 65536 < x.len || x.len % 64 != 0 then 4
  else if x.addr % 64 != 0 then 5 else 0

/-- DESCRIPTOR_FETCH_DONE: a block of up to 16 owned descriptors has been read (R450). (DEDUCED, log entry 110.) -/
def Dev.descFetch (d : Dev) (r : Nat) (xs : List DescIn) (dt : Nat) : Dev :=
  let d := d.advance dt
  if !d.mayIssue || d.get (F.RING_STAT_STATE.ix r) = 3 || d.get (F.RING_STAT_STATE.ix r) = 0 then d else
  let xs := xs.take (min 16 (d.ringOwned r - (d.ring r).fetched.length))
  match xs.find? fun x => descBad x != 0 with
  | some x => d.ringError r (descBad x)
  | none => d.ringUp r fun g => { g with fetched := g.fetched ++ xs.map fun x => ⟨x.addr, x.len⟩ }

/-- COMPLETION_TIMEOUT, and a poisoned completion: of a descriptor read (Table 19-6). -/
def Dev.ringFault (d : Dev) (r reason dt : Nat) : Dev :=
  let d := d.advance dt
  if d.get (F.RING_STAT_STATE.ix r) = 3 then d else d.ringError r reason

/-- Host writes of a payload, at most Max_Payload_Size and 256 bytes each (R439), newest first. -/
def chunks (k addr : Nat) : Nat → List Byte → List HostOut
  | 0, _ => []
  | n + 1, bs => if bs.isEmpty then [] else chunks k (addr + k) n (bs.drop k) ++ [.write addr (bs.take k)]

/-- The writes of a record into buffers, each followed by its descriptor's writeback (R449), newest first; the
descriptors left. -/
def recordWrites (k base size rseq : Nat) : Nat → Nat → Bool → List Desc → List Byte → List HostOut × Nat × List Desc
  | 0, head, _, ds, _ => ([], head, ds)
  | _ + 1, head, _, [], _ => ([], head, [])
  | n + 1, head, sop, x :: ds, bs =>
    let part := bs.take x.len
    let rest := bs.drop x.len
    let eop := rest.isEmpty
    let ctrl := rseq % 65536 + (if sop then 65536 else 0) + (if eop then 131072 else 0)
    let wb : HostOut := .write (base + 16 * head + 8) (leBytes 4 part.length ++ leBytes 4 ctrl)
    let ws := wb :: chunks k x.addr (part.length / k + 1) part
    let head := (head + 1) % size
    if eop then (ws, head, ds) else
    let (more, head, ds) := recordWrites k base size rseq n head false ds rest
    (more ++ ws, head, ds)

/-- What the producer of a record does when it has been written. -/
def Dev.recordDone (d : Dev) (p : Producer) : Dev :=
  match p with
  | .trace _ true => d.trcDone
  | .capture _ true => d.capDone
  | .canFifo c f => let cnt := (F.CAN_FIFO_COUNT.ix c).ix f; d.put cnt (d.get cnt - 1)
  | .exportRec 1 upto => { d with log := { d.log with exported := max d.log.exported upto } }
  | _ => d

/-- RING_RECORD_WRITE: the oldest waiting record is written where it finds room; else the ring waits, or the record is
too long for it (R449, R451, R452). Nothing is decided while owned descriptors are still to be read. (DEDUCED, log entry 79.) -/
def Dev.recordWrite (d : Dev) (r dt : Nat) : Dev :=
  let d := d.advance dt
  let st := d.get (F.RING_STAT_STATE.ix r)
  if !d.mayIssue || st = 3 || !d.flag (F.HST_RING_EN.ix r) then d else
  match (d.ring r).waiting with
  | [] => d
  | x :: rest =>
    let fetched := (d.ring r).fetched
    if (takeBuffers (fetched.map Desc.len) x.bytes.length).isSome then
      let base := d.get (F.HST_RING_BASE_LO.ix r) + d.get (F.HST_RING_BASE_HI.ix r) * 2 ^ 32
      let n := d.get (F.HST_RING_RECORDS.ix r)
      let k := min d.hst.maxPayload 256
      let (ws, head, left) := recordWrites k base (d.ringSize r) n (fetched.length + 1) (d.get (F.RING_HEAD_HEAD.ix r)) true fetched x.bytes
      let d := d.hstUp fun h => { h with out := ws ++ h.out }
      let now := d.now
      let d := (((d.put (F.RING_HEAD_HEAD.ix r) head).wrapInc (F.HST_RING_RECORDS.ix r)).put (F.RING_STAT_STATE.ix r) 1).ringUp r fun g =>
        { g with fetched := left, waiting := rest, unsig := g.unsig + 1, firstUnsig := g.firstUnsig.orElse fun _ => some now }
      let cnt := d.get (F.RING_IRQ_CNT.ix r)
      let d := if cnt != 0 && cnt ≤ (d.ring r).unsig then d.ringSignal r false else d
      d.recordDone x.prod
    else if fetched.length + 1 = d.ringSize r then d.ringError r 6
    else if fetched.length < d.ringOwned r then d
    else if st = 2 then d
    else
      let d := (d.put (F.RING_STAT_STATE.ix r) 2).raise 0x0F08 [r]
      if d.flag (F.RING_IRQ_STARVE.ix r) then d.ringSignal r false else d

/-- RING_IRQ_TIMEOUT: TIME us after the first record not yet signalled (R452). -/
def Dev.ringTimeout (d : Dev) (r : Nat) : Dev :=
  match (d.ring r).firstUnsig with
  | some t =>
    let k := d.get (F.RING_IRQ_TIME.ix r)
    if k = 0 then d else (d.advanceTo (t + k * usec)).ringSignal r false
  | none => d

/-- An adoption of block 0x0F: EN that rises sets HEAD and TAIL to 0, EN that falls stops the ring, and ERROR
stays (R453); `old` is the device before it. -/
def Dev.hstAdopt (d old : Dev) : Dev :=
  d.forAll (List.range 16) fun d r =>
    match old.flag (F.HST_RING_EN.ix r), d.flag (F.HST_RING_EN.ix r) with
    | false, true =>
      let st := d.get (F.RING_STAT_STATE.ix r)
      let err := d.get (F.RING_STAT_ERR.ix r)
      if st = 3 then (d.ringRestart r 3).put (F.RING_STAT_ERR.ix r) err else d.ringRestart r 1
    | true, false => if d.get (F.RING_STAT_STATE.ix r) = 3 then d else d.put (F.RING_STAT_STATE.ix r) 0
    | _, _ => d

/-! ## Control words (R441, R442) -/

/-- A four-byte write to a control word of page m (an offset within the page), as the access codes of Table 19-3 give it;
the words that act have commands of their own. (DEDUCED, log entry 83.) -/
def Dev.barWrite (d : Dev) (m off : Nat) (v : Word) : Dev :=
  let a := 0x1000000 + 4096 * m + off
  match rowAt a with
  | some (r, _) =>
    let w := d.word a
    let rw := BitVec.ofNat 32 (andNot r.rw r.act)
    let w1c := BitVec.ofNat 32 r.w1c
    if r.rw = 0 && r.w1c = 0 then d.bump F.HST_BAR_REJ_CNT
    else d.setWord a (((w &&& ~~~rw) ||| (v &&& rw)) &&& ~~~(v &&& w1c))
  | none => d.bump F.HST_BAR_REJ_CNT

/-- CONTROL_WORD_BAD_ENABLES: a write is discarded, a read completes with Unsupported Request. -/
def Dev.badEnables (d : Dev) (write : Bool) : Dev := d.bump (if write then F.HST_BAR_REJ_CNT else F.HST_UR_CNT)

/-! ## Link, configuration space and resets (R438 to R440) -/

/-- PCIE_LINK_UP: width 1 or 2, speed 1 to 3. -/
def Dev.pcieUp (d : Dev) (width speed dt : Nat) : Dev :=
  let d := d.advance dt
  (((d.put F.HST_STATUS_LINK 1).put F.HST_STATUS_WIDTH width).put F.HST_STATUS_SPEED speed).raise 0x0F01 [width, speed]

/-- HST_RESET by a cause: 1 PERST_N, 2 hot reset, 3 link down, 4 function level reset (R440); the numbers are the model's.
(DESIGN CHOICE, log entry 39.) -/
def Dev.hstReset (d : Dev) (cause dt : Nat) : Dev :=
  let d := d.advance dt
  let d := if cause = 3 && d.flag F.HST_STATUS_LINK then
      (((d.put F.HST_STATUS_LINK 0).put F.HST_STATUS_WIDTH 0).put F.HST_STATUS_SPEED 0).raise 0x0F02
    else d
  let d := { d with regs := d.regs.filter fun (a, _) => a < 0x1000000 }
  let d := ((d.put F.HST_STATUS_BME 0).put F.HST_STATUS_D3 0).put F.HST_STATUS_MSIX 0
  let d := d.hstUp fun h => { h with
    mbx := List.replicate 16 {}, msixMask := 0xFFFFFFFF, msixPend := 0, msixEn := false, msixFmask := false, msixTab := []
    maxPayload := 128, rings := h.rings.map fun g => { g with fetched := [], unsig := 0, firstUnsig := none } }
  d.raise 0x0F03 [cause]

/-- PCIE_CONFIG_WRITE: Bus Master Enable, D3hot, Max_Payload_Size in bytes, MSI-X enable and function mask as the write
leaves them; vectors that open send what is pending (R439, R447). (PRESUMED, log entry 106.) -/
def Dev.pcieConfig (d : Dev) (bme d3 : Bool) (maxPayload : Nat) (en fmask : Bool) : Dev :=
  let d := ((d.putB F.HST_STATUS_BME bme).putB F.HST_STATUS_D3 d3).putB F.HST_STATUS_MSIX (en && !fmask)
  let d := d.hstUp fun h => { h with maxPayload := max 1 maxPayload, msixEn := en, msixFmask := fmask }
  d.forAll (bitList 32 d.hst.msixPend) Dev.msixSend

/-- MALFORMED_TLP, POISONED_TLP (a write, or the completion of a ring's descriptor read), UNEXPECTED_COMPLETION,
UNSUPPORTED_REQUEST (Table 19-6). -/
def Dev.tlpMalformed (d : Dev) (dt : Nat) : Dev := ((d.advance dt).bump F.HST_MALF_CNT).raise 0x0F05
def Dev.tlpPoisoned (d : Dev) (ring : Option Nat) (dt : Nat) : Dev :=
  match ring with
  | none => ((d.advance dt).bump F.HST_POISON_CNT).raise 0x0F06
  | some r => d.ringFault r 1 dt
def Dev.tlpUnexpected (d : Dev) (dt : Nat) : Dev := (d.advance dt).bump F.HST_UNEXP_CNT
def Dev.tlpUnsupported (d : Dev) (dt : Nat) : Dev := (d.advance dt).bump F.HST_UR_CNT

/-- HST_DEVSTAT, the same in every page (Table 19-3). -/
def Dev.devstat (d : Dev) : Dev :=
  let v := d.gsv + d.get F.CPR_STATUS_STEP * 256 + (if d.latched = 0 then 0 else 4096) + (if d.ptpOk then 8192 else 0)
    + d.get F.FLU_STATUS_ROLE * 16384 + d.time.tick % 65536 * 65536
  d.forAll (List.range 16) fun d m => d.put (F.HST_DEVSTAT.ix m) v

end Sys2Proof.Machine
end

