-- ==== Sys2Proof/Machine/RegOps.lean ====
section
/-! DEFINITION. Register reads and masked writes (R9 to R12, R468, R469), the staged set (R16 to R25), and the rules
checked at COMMIT (R18, R22, R470). -/

namespace Sys2Proof.Machine

/-! ## Status codes (Table 20-2) -/

abbrev St.ok : Nat := 0x00
abbrev St.busy : Nat := 0x01
abbrev St.badOpcode : Nat := 0x02
abbrev St.badLength : Nat := 0x03
abbrev St.authFail : Nat := 0x04
abbrev St.replay : Nat := 0x05
abbrev St.notPermitted : Nat := 0x06
abbrev St.lifecycle : Nat := 0x07
abbrev St.badAddress : Nat := 0x08
abbrev St.badValue : Nat := 0x09
abbrev St.state : Nat := 0x0A
abbrev St.unreachable : Nat := 0x0B
abbrev St.timeout : Nat := 0x0C
abbrev St.imageInvalid : Nat := 0x0D
abbrev St.stageConflict : Nat := 0x0E
abbrev St.duplicate : Nat := 0x0F

/-! ## The staged set (R16, R17) -/

/-- The certificate window's bytes (R496): the count, then each entry padded to a multiple of 4. -/
def Sec.window (s : Sec) : List Byte :=
  leBytes 4 s.certs.length ++ s.certs.flatMap fun (k, b) =>
    leBytes 2 k ++ leBytes 2 b.length ++ b ++ List.replicate ((4 - b.length % 4) % 4) 0

/-- The word in effect of a register: one that follows time, PTP time (R381) or Flue time (R402), one of the certificate
window (R496), or one the file holds. -/
def Dev.liveWord (d : Dev) (a : Nat) : Word :=
  if a = F.NET_TIME_NS_NS.addr then BitVec.ofNat 32 d.ptpSub
  else if a = F.FLU_TIME_LO.addr then BitVec.ofNat 32 d.flueTime
  else if 0x108000 ≤ a ∧ a < 0x110000 then BitVec.ofNat 32 (leAt d.sec.window (a - 0x108000) 4)
  else d.word a

/-- A register's staged value, or the value in effect where it is not staged. -/
def Dev.stagedWord (d : Dev) (a : Nat) : Word :=
  match d.stage.regs.find? fun x => x.1 == a with
  | some (_, v, m) => (d.liveWord a &&& ~~~m) ||| (v &&& m)
  | none => d.liveWord a

/-- A staged register put in the set, addresses rising. -/
def stagePut (a : Nat) (v m : Word) : List (Nat × Word × Word) → List (Nat × Word × Word)
  | [] => [(a, v, m)]
  | (b, w, k) :: l => if a < b then (a, v, m) :: (b, w, k) :: l else if a = b then (a, v, k ||| m) :: l else (b, w, k) :: stagePut a v m l

/-- The staged set changed. -/
def Dev.stageUp (d : Dev) (f : Stage → Stage) : Dev := { d with stage := f d.stage }

/-- The device as it would stand with every staged field in effect. -/
def Dev.withStaged (d : Dev) : Dev := d.forAll d.stage.regs fun d (a, v, m) => d.setWord a ((d.word a &&& ~~~m) ||| (v &&& m))

/-- The set becomes empty (R16); host parameters buffered under R25 are no part of it. -/
def Dev.stageEmpty (d : Dev) : Dev := d.stageUp fun s => { ({} : Stage) with host := s.host, adopted := s.adopted }

/-! ## Entries of REG_WRITE and REG_STAGE (R468) -/

/-- One entry: address, mask, value. -/
structure RegEntry where
  addr : Nat
  mask : Word
  value : Word
  deriving DecidableEq, Repr

/-- Addresses an OPERATOR may write (R469). -/
def operatorMay (a : Nat) : Bool :=
  (0x010400 ≤ a && a ≤ 0x0106FF) || a == 0x050010 || a == 0x050018 ||
  a == 0x0A0078 || a == 0x0A00F8 || a == 0x0A007C || a == 0x0A00FC || a == 0x0B0020

/-- Bits of a trace or capture register that are configuration (R137). -/
def traceCfg (a : Nat) : Nat :=
  if a = 0x010400 then 0x10
  else if (0x010408 ≤ a ∧ a ≤ 0x010414) ∨ (0x010440 ≤ a ∧ a < 0x0104C0) then 0xFFFFFFFF else 0
def captureCfg (a : Nat) : Nat := if 0x010608 ≤ a ∧ a < 0x010650 then 0xFFFFFFFF else 0

/-- A message buffer's controller, index and word offset. -/
def canBufOf (a : Nat) : Option (Nat × Nat × Nat) :=
  let c := (a - 0x0E0000) / 0x4000
  let o := (a - 0x0E0000) % 0x4000
  if a < 0x0E1000 ∨ 0x0E8000 ≤ a ∨ o < 0x1000 ∨ 0x1000 + 64 * 80 ≤ o then none else some (c, (o - 0x1000) / 80, (o - 0x1000) % 80)

/-- A field value the map refuses with BAD_VALUE: `w` is the register as the entry would leave it. (DEDUCED, log entry 87.) -/
def badField (a : Nat) (w : Word) (act : Word) : Bool :=
  if a = 0x010408 then 6 ≤ wbits w 2 0 || wbits w 5 4 == 3 || 100 < wbits w 14 8
  else if 0x010440 ≤ a ∧ a < 0x0104C0 then 10 < wbits w 19 16 || 2 ^ wbits w 19 16 ≤ wbits w 29 20
  else if a = 0x010608 then 100 < wbits w 6 0
  else if a = 0x050010 ∨ a = 0x050018 then act.getLsbD 8 && sarReserved (wbits w 4 0)
  else if a = 0x070400 then wbits w 19 16 == 0
  else if a = 0x090000 ∨ a = 0x090020 then wbits w 1 0 == 3
  else if a = 0x0A002C ∨ a = 0x0A00AC then 200 < wbits w 7 0
  else if a = 0x0E0014 then wbits w 1 0 == 3
  else false

/-- The block's own state rules against a write of an entry (step 5 of R468). -/
def Dev.stateRule (d : Dev) (a : Nat) (changed act : Nat) : Nat :=
  if (changed &&& traceCfg a) != 0 && d.trcSt != 0 then St.state
  else if (changed &&& captureCfg a) != 0 && d.capSt != 0 then St.state
  else if a = 0x050010 ∨ a = 0x050018 then
    let x := (a - 0x050010) / 8
    if !act.testBit 8 then 0
    else if !d.sarEn x then St.state else if d.flag (F.SAR_REG_PEND.ix x) then St.busy else 0
  else if a = 0x070404 then (if act.testBit 0 && !d.stopped then St.state else 0)
  else if a = 0x090014 ∨ a = 0x090034 then (if act.testBit 0 && d.bridgeClearRefused ((a - 0x090014) / 32) then St.state else 0)
  else if a = 0x0A0078 ∨ a = 0x0A00F8 then
    (if act.testBit 0 && !act.testBit 1 && (d.drtState ((a - 0x0A0078) / 128) == 7 || d.drtState ((a - 0x0A0078) / 128) == 8) then St.state else 0)
  else if a = 0x0B0024 then (if act.testBit 0 && d.resetRefused then St.state else 0)
  else if a = F.NET_PTP_SET.addr then (if d.get F.NET_PTP_CFG_ROLE = 0 then St.state else 0)
  else match canBufOf a with
    | some (c, m, o) =>
      let busy := d.mbState c m == 1 || d.mbState c m == 2
      if 16 ≤ o && changed != 0 && d.canCfg c (mbF F.CAN_MB_CFG_DIR c m) = 0 then St.state
      else if busy && ((o = 4 && changed % 16 != 0) || (o != 4 && changed != 0)) then St.busy
      else if o = 4 && act.testBit 8 then (d.canRequest c m).2 else 0
    | none => 0

/-- What a write does beside storing: `act` holds the bits written 1 that act, `w` the register after the write. -/
def Dev.regAct (d : Dev) (a : Nat) (act : Nat) (w : Word) : Dev :=
  if a = 0x010400 then d.trcUp fun t => { t with
    arm := t.arm || act.testBit 0, stop := t.stop || act.testBit 1, force := t.force || act.testBit 2 }
  else if a = 0x010600 then d.capUp fun t => { t with
    arm := t.arm || act.testBit 0, stop := t.stop || act.testBit 1, force := t.force || act.testBit 2 }
  else if a = 0x050010 ∨ a = 0x050018 then (if act.testBit 8 then (d.sarRegStart ((a - 0x050010) / 8) (wbits w 4 0) (w.getLsbD 5)).1 else d)
  else if a = 0x070404 then (if act.testBit 0 then d.pwmUp fun p => { p with meas := true } else d)
  else if a = 0x090014 ∨ a = 0x090034 then (if act.testBit 0 then d.bridgeClear ((a - 0x090014) / 32) else d)
  else if a = 0x0A0078 ∨ a = 0x0A00F8 then
    let c := (a - 0x0A0078) / 128
    let d := if act.testBit 2 then d.drtClear c else d
    if act.testBit 1 then d.drtStop c else if act.testBit 0 then (d.drtStart c).1 else d
  else if a = 0x0A007C ∨ a = 0x0A00FC then d.drtSetp ((a - 0x0A007C) / 128) w
  else if a = 0x0B0020 then d.hwdtKick
  else if a = F.NET_PTP_SET.addr then (d.ptpSet w.toNat).1
  else if a = 0x0E0010 ∨ a = 0x0E4010 then (if act.testBit 0 then d.canRecover ((a - 0x0E0010) / 0x4000) else d)
  else match canBufOf a with
    | some (c, m, 4) =>
      let d := if act.testBit 8 then (d.canRequest c m).1 else d
      if act.testBit 9 then d.canCancel c m else d
    | _ => d

/-- One entry of REG_WRITE judged and applied: the status, the device, and whether a warm reset was requested (R468).
(DEDUCED, log entry 33.) -/
def Dev.writeEntry (d : Dev) (operator : Bool) (e : RegEntry) : Nat × Dev × Bool :=
  match if e.addr < 0x1000000 then rowAt e.addr else none with
  | none => (St.badAddress, d, false)
  | some (r, ix) =>
    let old := d.liveWord e.addr
    let new := (old &&& ~~~e.mask) ||| (e.value &&& e.mask)
    let changed := (old ^^^ new).toNat
    if operator && !operatorMay e.addr || (changed &&& (r.ro ||| r.st ||| r.oa)) != 0 then (St.notPermitted, d, false)
    else if (changed &&& r.lc) != 0 && 1 < d.lc then (St.lifecycle, d, false)
    else
      let act := (e.mask &&& e.value).toNat &&& r.act
      let keep := BitVec.ofNat 32 (andNot (r.rw ||| r.lc) r.act)
      let w := (d.word e.addr &&& ~~~keep) ||| (new &&& keep)
      let w := w &&& ~~~(BitVec.ofNat 32 r.w1c &&& e.mask &&& e.value)
      let w := if r.clr && e.mask != 0 then r.reset ix else w
      if badField e.addr w (BitVec.ofNat 32 act) then (St.badValue, d, false)
      else
        let st := d.stateRule e.addr (changed &&& (r.rw ||| r.lc)) act
        if st != 0 then (st, d, false) else
        let d' := d.setWord e.addr w
        let d' := if r.lc != 0 then d'.storeWrite else d'
        (0, d'.regAct e.addr act w, e.addr == 0x0B0024 && act.testBit 0)

/-- What a refused entry leaves: a START refused in HELD is remembered (R343). -/
def Dev.refusedEntry (d : Dev) (e : RegEntry) : Dev :=
  let c := (e.addr - 0x0A0078) / 128
  if (e.addr = 0x0A0078 ∨ e.addr = 0x0A00F8) ∧ e.mask.getLsbD 0 ∧ e.value.getLsbD 0 ∧ d.drtState c = 7 then (d.drtStart c).1 else d

/-- Entries applied in order; the first refused one decides status and index, and then nothing takes effect (R10). -/
def writeEntries (operator : Bool) : List RegEntry → Nat → Dev → Bool → Nat × Nat × Dev × Bool
  | [], _, d, warm => (0, 0xFFFF, d, warm)
  | e :: es, i, d, warm =>
    let (st, d', w) := d.writeEntry operator e
    if st = 0 then writeEntries operator es (i + 1) d' (warm || w) else (st, i, d, false)

/-- REG_WRITE of a list of entries: status, index of the first refused entry, and the device; a warm reset requested comes
after the response (R362). -/
def Dev.regWrite (d : Dev) (operator : Bool) (es : List RegEntry) : Nat × Nat × Dev × Bool :=
  let (st, i, d', warm) := writeEntries operator es 0 d false
  if st = 0 then (st, i, d', warm)
  else (st, i, if st = St.state then match es[i]? with | some e => d.refusedEntry e | none => d else d, false)

/-- One entry of REG_STAGE judged and staged. -/
def Dev.stageEntry (d : Dev) (busy : Bool) (e : RegEntry) : Nat × Dev :=
  match if e.addr < 0x1000000 then rowAt e.addr else none with
  | none => (St.badAddress, d)
  | some (r, _) =>
    let old := d.stagedWord e.addr
    let new := (old &&& ~~~e.mask) ||| (e.value &&& e.mask)
    let changed := (old ^^^ new).toNat
    let w1c := (e.mask &&& e.value).toNat &&& r.w1c
    if (changed &&& (r.rw ||| r.ro ||| r.w1c ||| r.oa ||| r.lc)) != 0 || w1c != 0 then (St.notPermitted, d)
    else if badField e.addr new 0 && (changed &&& r.st) != 0 then (St.badValue, d)
    else if busy then (St.busy, d)
    else
      let m := BitVec.ofNat 32 r.st &&& e.mask
      if m = 0 then (0, d) else (0, d.stageUp fun s => { s with regs := stagePut e.addr new m s.regs })

/-- Entries staged in order. -/
def stageEntries (busy : Bool) : List RegEntry → Nat → Dev → Nat × Nat × Dev
  | [], _, d => (0, 0xFFFF, d)
  | e :: es, i, d => let (st, d') := d.stageEntry busy e; if st = 0 then stageEntries busy es (i + 1) d' else (st, i, d)

/-- The staged set is held against a session (R16), or pending (R20). -/
def Dev.stageHeld (d : Dev) (sid : Nat) : Bool := d.stage.owner != none && d.stage.owner != some sid

/-- REG_STAGE of a list of entries: entries that stage no bit still give the session the empty set.
(DEDUCED, log entry 133.) -/
def Dev.regStage (d : Dev) (sid : Nat) (es : List RegEntry) : Nat × Nat × Dev :=
  let busy := d.stageHeld sid || d.stage.pending.isSome
  let (st, i, d') := stageEntries busy es 0 d
  if st != 0 then (st, i, d)
  else if busy then (St.busy, i, d)
  else (st, i, d'.stageUp fun s => { s with owner := some sid })

/-! ## Cross-field rules at COMMIT (R18, R470) -/

/-- A rule names the register of the first field it names where it fails. -/
abbrev Rule : Type := Dev → Option Nat

/-- A rule over the whole device. -/
def ruleOf (f : Fld) (ok : Dev → Bool) : Rule := fun d => if ok d then none else some f.addr

/-- A rule over the instances 0 to n - 1 of an array. -/
def ruleEach (n : Nat) (f : Fld) (ok : Dev → Nat → Bool) : Rule := fun d =>
  ((List.range n).find? fun i => !ok d i).map fun i => (f.ix i).addr

/-- f32 comparisons of two fields. -/
def Dev.flt (d : Dev) (x y : Fld) : Bool := f32.lt (d.get x) (d.get y)
def Dev.fle (d : Dev) (x y : Fld) : Bool := f32.le (d.get x) (d.get y)
def Dev.fpos (d : Dev) (x : Fld) : Bool := f32.lt 0 (d.get x)
def Dev.fge0 (d : Dev) (x : Fld) : Bool := f32.le 0 (d.get x)
def Dev.ffin (d : Dev) (x : Fld) : Bool := f32.finite (d.get x)
/-- Finite and positive. -/
def Dev.fposfin (d : Dev) (x : Fld) : Bool := d.ffin x && d.fpos x

/-- A ring serves a use: enabled for it (Table 19-4). (DEDUCED, log entry 85.) -/
def Dev.ringServes (d : Dev) (r use : Nat) : Bool := d.get (F.HST_RING_USE.ix r) == use
/-- Ring r serves a producer that a change of USE or EN leaves naming it (R454). -/
def Dev.ringServing (d : Dev) (r use : Nat) : Bool := d.flag (F.HST_RING_EN.ix r) && d.ringServes r use

/-- Fields of an MPPT channel that are f32, in the order of Table 4-9. -/
def mpptFloats : List Fld :=
  [F.MPT_V_MIN, F.MPT_V_MAX, F.MPT_STEP_MIN, F.MPT_STEP_MAX, F.MPT_K_STEP, F.MPT_EPS, F.MPT_K_CURT, F.MPT_BAND,
   F.MPT_SCAN_HI, F.MPT_SCAN_LO, F.MPT_SCAN_STEP]

/-- A rule over fields of channels: every one passes. -/
def ruleFields (n : Nat) (fs : List Fld) (ok : Dev → Nat → Fld → Bool) : Rule := fun d =>
  (List.range n).findSome? fun i => (fs.find? fun f => !ok d i f).map fun f => (f.ix i).addr

/-- R133, each MPPT channel. -/
def rulesMppt : List Rule :=
  [ruleEach 4 F.MPT_V_MIN fun d c => d.flt (F.MPT_V_MIN.ix c) (F.MPT_V_MAX.ix c),
   ruleEach 4 F.MPT_STEP_MIN fun d c => d.fpos (F.MPT_STEP_MIN.ix c) && d.fle (F.MPT_STEP_MIN.ix c) (F.MPT_STEP_MAX.ix c),
   ruleEach 4 F.MPT_V_MIN fun d c => d.fle (F.MPT_V_MIN.ix c) (F.MPT_SCAN_LO.ix c)
     && d.flt (F.MPT_SCAN_LO.ix c) (F.MPT_SCAN_HI.ix c) && d.fle (F.MPT_SCAN_HI.ix c) (F.MPT_V_MAX.ix c),
   ruleEach 4 F.MPT_SCAN_STEP fun d c => d.fpos (F.MPT_SCAN_STEP.ix c),
   ruleEach 4 F.MPT_BAND fun d c => d.fge0 (F.MPT_BAND.ix c) && f32.le (d.get (F.MPT_BAND.ix c)) 0x3F000000,
   ruleFields 4 mpptFloats fun d c f => d.ffin (f.ix c)]

/-- R71; the last one takes the ring for free use. -/
def rulesAng : List Rule :=
  [ruleOf F.ANG_FLIM_LO_FLO fun d => d.flt F.ANG_FLIM_LO_FLO F.ANG_FLIM_HI_FHI,
   ruleOf F.ANG_SRC_F_NOM fun d => f64.le d.fLo d.fNom64 && f64.le d.fNom64 d.fHi,
   ruleOf F.ANG_PLL_BW fun d => 5 ≤ d.get F.ANG_PLL_BW && d.get F.ANG_PLL_BW ≤ 50,
   ruleOf F.ANG_LOCK_N_FRAMES fun d => 1 ≤ d.get F.ANG_LOCK_N_FRAMES,
   ruleOf F.ANG_LOCK_GRP_MISS fun d => 3 ≤ d.get F.ANG_LOCK_GRP_MISS,
   ruleOf F.ANG_PHR_CFG_EN fun d => !d.flag F.ANG_PHR_CFG_EN || d.ringServes (d.get F.ANG_PHR_CFG_RING) 7]

/-- Channels of the metering assignment (R187). -/
def Dev.metChans (d : Dev) : List Nat :=
  [d.get F.MET_CHAN_V_VA, d.get F.MET_CHAN_V_VB, d.get F.MET_CHAN_V_VC, d.get F.MET_CHAN_I_IA, d.get F.MET_CHAN_I_IB, d.get F.MET_CHAN_I_IC]
  ++ if d.flag F.MET_CHAN_I_IN_EN then [d.get F.MET_CHAN_I_IN] else []

/-- Enabled dual-range pairs: index, H, L. -/
def Dev.drPairs (d : Dev) : List (Nat × Nat × Nat) :=
  ((List.range 4).filter fun j => d.flag (F.SDM_DR_CFG_EN.ix j)).map fun j => (j, d.get (F.SDM_DR_CFG_HI.ix j), d.get (F.SDM_DR_CFG_LO.ix j))

/-- Allowed pairs of S and OSR (Table 6-2). (DEDUCED, log entry 27; DEDUCED, log entry 78.) -/
def Dev.sOsrOk (d : Dev) : Bool :=
  [(256, 512), (512, 256), (512, 512), (1024, 128), (1024, 256)].contains (d.S, 128 <<< d.get F.SDM_CFG_OSR_SEL)

/-- The first pair with H = L or a channel of an earlier pair. -/
def pairClash : List Nat → List (Nat × Nat × Nat) → Option Nat
  | _, [] => none
  | seen, (j, h, l) :: ps => if h = l || seen.contains h || seen.contains l then some j else pairClash (h :: l :: seen) ps

/-- R170. (DEDUCED, log entry 26.) -/
def rulesSdm : List Rule :=
  [ruleOf F.SDM_CFG_S_SEL Dev.sOsrOk,
   ruleOf F.SDM_CFG_S_SEL fun d => d.get F.SDM_CFG_S_SEL == d.get F.PWM_CFG_S_SEL,
   ruleEach 6 F.SDM_GRP_DLY fun d g => d.get (F.SDM_GRP_MODE.ix g) != 1 ||
     decide ((d.get (F.SDM_GRP_DLY.ix g) * 2 + 5) * (d.S * (128 <<< d.get F.SDM_CFG_OSR_SEL) * 70) ≤ 1000000000),
   ruleEach 24 F.SDM_CH_OSR3 fun d n => !d.flag (F.SDM_CH_EN.ix n) || decide (8 ≤ d.get (F.SDM_CH_OSR3.ix n) ∧ d.get (F.SDM_CH_OSR3.ix n) ≤ 32),
   ruleEach 6 F.SDM_GRP_MBR fun d g => d.get (F.SDM_GRP_MODE.ix g) != 3 || decide (500 ≤ d.get (F.SDM_GRP_MBR.ix g) ∧ d.get (F.SDM_GRP_MBR.ix g) ≤ 2000),
   ruleEach 24 F.SDM_F3_THR_THR_LO fun d n => !(d.flag (F.SDM_CH_F3H_EN.ix n) && d.flag (F.SDM_CH_F3L_EN.ix n)) ||
     decide (thr15 (d.get (F.SDM_F3_THR_THR_LO.ix n)) < thr15 (d.get (F.SDM_F3_THR_THR_HI.ix n))),
   fun d => match (List.range 24).find? fun n => !List.all [F.SDM_CGAIN, F.SDM_COFFS, F.SDM_MGAIN, F.SDM_MOFFS] fun f => d.ffin (f.ix n) with
     | some n => some (F.SDM_CGAIN.ix n).addr
     | none => (List.range 4).findSome? fun j => if d.ffin (F.SDM_DR_G0.ix j) && d.ffin (F.SDM_DR_O0.ix j) then none else some (F.SDM_DR_G0.ix j).addr,
   fun d => ((d.metChans ++ d.drPairs.flatMap fun (p : Nat × Nat × Nat) => [p.2.1, p.2.2]).find? fun n =>
       23 < n || !d.flag (F.SDM_CH_EN.ix n) || d.get (F.SDM_GRP_MODE.ix (n / 4)) != 1).map fun n => (F.SDM_CH_EN.ix n).addr,
   fun d => (pairClash [] d.drPairs).map fun j => (F.SDM_DR_CFG_HI.ix j).addr]

/-- A converter's table entries below its LEN. -/
def Dev.sarEntries (d : Dev) (x : Nat) : List Nat := List.range (d.sarLen x)

/-- The first table entry of either converter that fails a test. -/
def sarFirst (bad : Dev → Nat → Nat → Bool) : Rule := fun d =>
  [0, 1].findSome? fun x => ((d.sarEntries x).find? (bad d x)).map fun i => (sarTab F.SAR_TAB_A_CH F.SAR_TAB_B_CH x i).addr

/-- R185. -/
def rulesSar : List Rule :=
  [ruleOf F.SAR_CFG_LEN_A fun d => d.sarLen 0 ≤ 64 && d.sarLen 1 ≤ 64,
   sarFirst fun d x i => sarReserved (d.sarCh x i),
   sarFirst fun d x i => (List.range i).any fun k => d.sarDest x k == d.sarDest x i,
   ruleOf F.SAR_CFG_LEN_A fun d =>
     let p := FV.ofInt (((10 * max (d.sarPass 0) (d.sarPass 1) + 700) * d.S : Nat) : Int)
     let c := (p.mul (f64.unpack d.fHi)).cmp (FV.ofInt 1000000000)
     c == some .lt || c == some .eq,
   ruleOf F.SAR_PLAUS_N fun d => d.get F.SAR_PLAUS_N == 0 || (1 ≤ d.get F.SAR_PLAUS_K && d.sarEn 0 && d.sarEn 1)]

/-- P_f at f_hi, in taps (R233, R254). -/
def Dev.periodAtHi (d : Dev) : Nat := (rneDiv (2 ^ 55 : Nat) (max 1 (d.C * incOf d.fHi))).toNat

/-- R254, but for its last item (R94). -/
def rulesPwm : List Rule :=
  [ruleOf F.PWM_CFG_S_SEL fun d => d.get F.PWM_CFG_S_SEL == d.get F.SDM_CFG_S_SEL && d.get F.PWM_CFG_S_SEL != 3,
   ruleOf F.PWM_CFG_C_SEL fun d => d.C ≤ 8 * (256 <<< d.get F.PWM_CFG_S_SEL),
   ruleEach 12 F.PWM_LEG_CFG_MODE fun d n => d.get (F.PWM_LEG_CFG_MODE.ix n) != 3 && d.get (F.PWM_LEG_CFG_MPP.ix n) != 3,
   ruleEach 12 F.PWM_LEG_CFG_TOPO fun d n =>
     let t := d.get (F.PWM_LEG_CFG_TOPO.ix n)
     let m := d.get (F.PWM_LEG_CFG_MODE.ix n)
     !((t == 1 || t == 2) && m != 1) && !(t == 3 && m != 2),
   ruleEach 12 F.PWM_LEG_CFG_ADAPT fun d n => !d.flag (F.PWM_LEG_CFG_ADAPT.ix n) || d.get (F.PWM_LEG_CFG_MODE.ix n) == 1,
   ruleEach 12 F.PWM_DTMIN_DT_MIN fun d n => d.get (F.PWM_DTMIN_DT_MIN.ix n) ≤ d.get (F.PWM_DTMAX_DT_MAX.ix n),
   ruleEach 12 F.PWM_DTMAX_DT_MAX fun d n => 2 * (d.get (F.PWM_DTMAX_DT_MAX.ix n) + d.get (F.PWM_LEG_CFG_TMIN.ix n) * 128) ≤ d.periodAtHi,
   ruleEach 12 F.PWM_DTADP_STEP fun d n => 1 ≤ d.get (F.PWM_DTADP_STEP.ix n),
   ruleEach 12 F.PWM_TRIM_TRIM_A fun d n =>
     (sext 9 (d.get (F.PWM_TRIM_TRIM_A.ix n))).natAbs ≤ 128 && (sext 9 (d.get (F.PWM_TRIM_TRIM_B.ix n))).natAbs ≤ 128]

/-- R323. -/
def rulesGdr : List Rule :=
  [ruleEach 2 F.GDR_RETRY_N fun d b => 1 ≤ d.get (F.GDR_RETRY_N.ix b),
   ruleEach 2 F.GDR_RETRY_CLR_T fun d b => 1 ≤ d.get (F.GDR_RETRY_CLR_T.ix b)]

/-- A rule over the enabled Draught channels. -/
def ruleDrt (f : Fld) (ok : Dev → Nat → Bool) : Rule := ruleEach 2 f fun d c => !d.flag (F.DRT_CFG_EN.ix c) || ok d c

/-- A binary32 literal from an integer. -/
def f32i (n : Nat) : Nat := f32.ofInt n

/-- f32 fields of a channel; rates and gains among them. -/
def drtRates : List Fld := [F.DRT_ACC, F.DRT_DEC, F.DRT_KP, F.DRT_KI, F.DRT_KE, F.DRT_ADV_K, F.DRT_RAMP_RATE, F.DRT_RAMP_KV]
def drtFloats : List Fld :=
  drtRates ++ [F.DRT_SPD_MAX, F.DRT_SPD_MIN, F.DRT_SPD_DEF, F.DRT_STILL_F, F.DRT_CATCH_F, F.DRT_RAMP_F0, F.DRT_HANDOVER_F, F.DRT_RAMP_D0]

/-- R345. -/
def rulesDrt : List Rule :=
  [ruleDrt F.DRT_PWM_PER fun d c => 2000 ≤ d.get (F.DRT_PWM_PER.ix c) && d.get (F.DRT_PWM_PER.ix c) ≤ 6250,
   ruleDrt F.DRT_PWM_DT fun d c => 5 ≤ d.get (F.DRT_PWM_DT.ix c),
   ruleDrt F.DRT_PWM_TSETTLE fun d c => (d.get (F.DRT_PWM_TSETTLE.ix c) + d.get (F.DRT_PWM_DT.ix c)) * 2 < d.get (F.DRT_PWM_PER.ix c),
   ruleDrt F.DRT_SPD_MIN fun d c => d.fpos (F.DRT_SPD_MIN.ix c) && d.flt (F.DRT_SPD_MIN.ix c) (F.DRT_SPD_MAX.ix c)
     && f32.le (d.get (F.DRT_SPD_MAX.ix c)) (f32i 2000),
   ruleDrt F.DRT_SPD_MAX fun d c =>
     let p := (f32.unpack (d.get (F.DRT_SPD_MAX.ix c))).mul (FV.ofInt ((24 * d.get (F.DRT_PWM_PER.ix c) : Nat) : Int))
     let k := p.cmp (FV.ofInt 100000000)
     k == some .lt || k == some .eq,
   ruleDrt F.DRT_STILL_F fun d c => d.fpos (F.DRT_STILL_F.ix c) && d.flt (F.DRT_STILL_F.ix c) (F.DRT_CATCH_F.ix c),
   ruleDrt F.DRT_RAMP_F0 fun d c => d.fpos (F.DRT_RAMP_F0.ix c) && d.flt (F.DRT_RAMP_F0.ix c) (F.DRT_HANDOVER_F.ix c)
     && d.fle (F.DRT_HANDOVER_F.ix c) (F.DRT_SPD_MAX.ix c),
   ruleDrt F.DRT_SPD_DEF fun d c => d.fge0 (F.DRT_SPD_DEF.ix c) && d.fle (F.DRT_SPD_DEF.ix c) (F.DRT_SPD_MAX.ix c),
   ruleDrt F.DRT_START_CFG_RETRY_N fun d c => 1 ≤ d.get (F.DRT_START_CFG_RETRY_N.ix c) && 1 ≤ d.get (F.DRT_START_CFG_BRK_MAX.ix c),
   ruleDrt F.DRT_LIM_ZC_BLANK fun d c => d.get (F.DRT_LIM_ZC_BLANK.ix c) ≤ 50,
   ruleFields 2 drtFloats fun d c f => !d.flag (F.DRT_CFG_EN.ix c) || (d.ffin (f.ix c) && (!drtRates.contains f || d.fpos (f.ix c)))]

/-- R370. -/
def rulesCpr : List Rule :=
  [ruleOf F.CPR_SSC_SSC fun d => d.get F.CPR_SSC_SSC ≤ 5,
   ruleOf F.CPR_HWDT_TIMEOUT fun d => !d.flag F.CPR_HWDT_EN || 10 ≤ d.get F.CPR_HWDT_TIMEOUT]

/-- Bit rate of a timing word is at most `rate` bit/s of the 80 MHz clock. -/
def rateOk (brp ts1 ts2 rate : Nat) : Bool := 80000000 ≤ rate * ((brp + 1) * (3 + ts1 + ts2))

/-- The snapshot nodes of a receive buffer (R429) and the ports of a transmit buffer (R430): first and number. -/
def Dev.snapRange (d : Dev) (c m : Nat) : Option (Nat × Nat) :=
  if d.get (mbF F.CAN_MB_CFG_DIR c m) = 0 && d.flag (mbF F.CAN_MB_CFG_SNAP_EN c m) then
    some (d.get (mbF F.CAN_MB_CFG_SNAP_OFF c m), d.get (mbF F.CAN_MB_CFG_NW c m) + 1) else none
def Dev.portRange (d : Dev) (c m : Nat) : Option (Nat × Nat) :=
  if d.get (mbF F.CAN_MB_CFG_DIR c m) = 1 && d.flag (mbF F.CAN_MB_CFG_PORT_EN c m) then
    some (d.get (mbF F.CAN_MB_CFG_PORT c m), d.get (mbF F.CAN_MB_CFG_NW c m)) else none

/-- The first of the buffers whose range passes `top` or overlaps an earlier one. -/
def rangeClash (top : Nat) : List (Nat × Nat) → List ((Nat × Nat) × Option (Nat × Nat)) → Option (Nat × Nat)
  | _, [] => none
  | seen, (_, none) :: l => rangeClash top seen l
  | seen, (k, some (o, n)) :: l =>
    if top < o + n || seen.any fun (a, b) => o < a + b && a < o + n then some k else rangeClash top ((o, n) :: seen) l

/-- The buffers of a controller with the range each has. -/
def Dev.bufRanges (f : Nat → Nat → Option (Nat × Nat)) (c : Nat) : List ((Nat × Nat) × Option (Nat × Nat)) :=
  (List.range 64).map fun m => ((c, m), f c m)

/-- R435. Each controller has snapshot nodes of its own; the transmit ports serve both (Table 3-5). -/
def rulesCan : List Rule :=
  [ruleEach 2 F.CAN_NBT_BRP fun d c =>
     rateOk (d.get (F.CAN_NBT_BRP.ix c)) (d.get (F.CAN_NBT_TSEG1.ix c)) (d.get (F.CAN_NBT_TSEG2.ix c)) 1000000
     && rateOk (d.get (F.CAN_DBT_BRP.ix c)) (d.get (F.CAN_DBT_TSEG1.ix c)) (d.get (F.CAN_DBT_TSEG2.ix c)) 8000000,
   ruleEach 2 F.CAN_NBT_BRP fun d c =>
     1 ≤ d.get (F.CAN_NBT_TSEG1.ix c) && d.get (F.CAN_NBT_SJW.ix c) ≤ d.get (F.CAN_NBT_TSEG2.ix c)
     && 1 ≤ d.get (F.CAN_DBT_TSEG1.ix c) && d.get (F.CAN_DBT_SJW.ix c) ≤ d.get (F.CAN_DBT_TSEG2.ix c),
   fun d => [0, 1].findSome? fun c => (rangeClash 64 [] (Dev.bufRanges d.snapRange c)).map fun (p : Nat × Nat) => (mbF F.CAN_MB_CFG_DIR p.1 p.2).addr,
   fun d => (rangeClash 16 [] (Dev.bufRanges d.portRange 0 ++ Dev.bufRanges d.portRange 1)).map fun (p : Nat × Nat) => (mbF F.CAN_MB_CFG_DIR p.1 p.2).addr,
   fun d => [0, 1].findSome? fun c => ((List.range 64).find? fun m => 10 < d.get (mbF F.CAN_MB_CFG_RATE c m)).map fun m => (mbF F.CAN_MB_CFG_DIR c m).addr,
   fun d => [0, 1].findSome? fun c => ([0, 1].find? fun f =>
     d.flag ((F.CAN_FIFO_EN.ix c).ix f) && !d.ringServes (d.get ((F.CAN_FIFO_RING.ix c).ix f)) 5).map fun f => ((F.CAN_FIFO_EN.ix c).ix f).addr,
   ruleOf F.CAN_TM_CFG_TM_MODE fun d => d.get F.CAN_TM_CFG_TM_MODE == 0 || decide (1 ≤ d.get F.CAN_TM_CFG_PERIOD ∧ d.get F.CAN_TM_CFG_PERIOD ≤ 1000),
   ruleOf F.CAN_TM_CFG_TM_MODE fun d => d.get F.CAN_TM_CFG_TM_MODE != 2 || d.get F.NET_PTP_CFG_PROFILE == 0]

/-- An enabled subscription context with REPORT = 1 (R392). -/
def Dev.subReports (d : Dev) (i : Nat) : Bool :=
  d.flag (F.NET_CTX_EN.ix i) && d.get (F.NET_CTX_KIND.ix i) % 2 == 1 && d.flag (F.NET_CTX_REPORT.ix i)

/-- Producers enabled under their own chapters, with the ring each names and the use it needs (R454). -/
def Dev.ringProducers (d : Dev) : List (Nat × Nat) :=
  (if d.flag F.ANG_PHR_CFG_EN then [(d.get F.ANG_PHR_CFG_RING, 7)] else [])
  ++ (if d.get F.MET_PROF_CFG_N != 0 then [(d.get F.MET_PROF_CFG_RING, 7)] else [])
  ++ (if d.flag F.PQ_CFG_EN then [(d.get F.PQ_CFG_RING, 7)] else [])
  ++ (if (List.range 256).any fun i => d.subReports i
      then [(d.get F.NET_SUB_RING_RING, 7)] else [])
  ++ [0, 1].flatMap fun c => [0, 1].flatMap fun f =>
      if d.flag ((F.CAN_FIFO_EN.ix c).ix f) then [(d.get ((F.CAN_FIFO_RING.ix c).ix f), 5)] else []

/-- R454; `old` is the device before the set. -/
def rulesHst (old : Dev) : List Rule :=
  [ruleEach 16 F.HST_RING_BASE_LO fun d r => d.get (F.HST_RING_BASE_LO.ix r) % 4096 == 0,
   ruleEach 16 F.HST_RING_SIZE_SEL fun d r => d.get (F.HST_RING_SIZE_SEL.ix r) ≤ 4,
   ruleEach 16 F.HST_RING_USE fun d r =>
     let u := d.get (F.HST_RING_USE.ix r)
     !(d.flag (F.HST_RING_EN.ix r) && [1, 2, 3, 4, 6].contains u) ||
     (List.range r).all fun k => !(d.flag (F.HST_RING_EN.ix k) && d.get (F.HST_RING_USE.ix k) == u),
   ruleEach 16 F.HST_RING_USE fun d r =>
     (d.get (F.HST_RING_USE.ix r) == old.get (F.HST_RING_USE.ix r) && d.get (F.HST_RING_EN.ix r) == old.get (F.HST_RING_EN.ix r))
     || d.ringProducers.all fun (p : Nat × Nat) => p.1 != r || d.ringServing r p.2]

/-- First rule of a list that fails, counted from 1: register address and rule number. -/
def firstRule (d : Dev) : List Rule → Nat → Option (Nat × Nat)
  | [], _ => none
  | r :: rs, n => match r d with | some a => some (a, n) | none => firstRule d rs (n + 1)

/-- The rule of R94: the configuration against the image in force; its RULE is the reason of Table 3-9. -/
def Dev.ruleImage (d : Dev) : Option (Nat × Nat) :=
  match d.fbx.active with
  | some img => (d.configCause img).map fun (p : Nat × Nat) => (F.FBX_STATUS_RUN.addr, p.1)
  | none => none

/-- The first cross-field rule that a set breaks: register address and RULE (R18, R470); `old` is the device before it.
(DEDUCED, log entry 24.) -/
def Dev.commitRules (d old : Dev) : Option (Nat × Nat) :=
  d.ruleImage.orElse fun _ => (firstRule d rulesMppt 1).orElse fun _ => (firstRule d rulesAng 1).orElse fun _ =>
  (firstRule d rulesSdm 1).orElse fun _ => (firstRule d rulesSar 1).orElse fun _ => (firstRule d rulesPwm 1).orElse fun _ =>
  (firstRule d rulesGdr 1).orElse fun _ => (firstRule d rulesDrt 1).orElse fun _ => (firstRule d rulesCpr 1).orElse fun _ =>
  (firstRule d rulesCan 1).orElse fun _ => firstRule d (rulesHst old) 1

/-! ## COMMIT (R18 to R22, R96, R470) -/

/-- The set changes a stopped-only field (R22). -/
def Dev.stagesStopped (d : Dev) : Bool :=
  d.stage.regs.any fun (a, v, m) => match rowAt a with
    | some (r, _) => (((d.word a ^^^ v) &&& m).toNat &&& r.stop) != 0
    | none => false

/-- ceil(k x / q) of a positive number. -/
def FV.ceilDiv (x : FV) (k q : Nat) : Nat :=
  match x with
  | .fin false m e => if 0 ≤ e then Machine.ceilDiv (k * m * 2 ^ e.toNat) q else Machine.ceilDiv (k * m) (q * 2 ^ (-e).toNat)
  | _ => 0

/-- The adoption frame fixed at acceptance (R19): ANG_FCNT value and predicted line-cycle count. (DEDUCED, log entry 25.) -/
def Dev.adoptionFrame (d : Dev) (angle : Option Nat) : Nat × Nat :=
  let unit := 2 ^ 48 / d.S
  let first := d.time.nextFrame * unit + d.phi48
  let m := (f64.unpack d.fHi).ceilDiv d.S 10000
  let j := match angle with
    | some a =>
      let target := d.time.phase + (a * 65536 + 2 ^ 48 - d.time.phase % 2 ^ 48) % 2 ^ 48
      if target ≤ first then 1 else ceilDiv (target - first) unit + 1
    | none => 1
  let k := max (max m 1) j
  let start := first + (k - 1) * unit
  ((d.get F.ANG_FCNT + k) % 2 ^ 32, (d.get F.ANG_CYCLE + (start / 2 ^ 48 + 1 - d.time.nextTurn)) % 2 ^ 32)

/-- COMMIT of the staged set by a session: status, response payload, device. (DEDUCED, log entry 35.) -/
def Dev.commit (d : Dev) (sid : Nat) (angle : Option Nat) : Nat × List Byte × Dev :=
  if d.stageHeld sid || d.stage.pending.isSome || d.hrt.act.isSome then (St.busy, [], d)
  else if !d.stopped && d.stagesStopped then (St.state, [], d)
  else match d.withStaged.commitRules d with
    | some (a, rule) => (St.stageConflict, leBytes 1 (a / 65536) ++ leBytes 1 0 ++ leBytes 2 (a % 65536) ++ leBytes 2 rule ++ leBytes 2 0, d)
    | none =>
      let (k, c) := d.adoptionFrame angle
      (St.ok, leBytes 4 c ++ leBytes 4 k, d.stageUp fun s => { s with owner := some (s.owner.getD sid), pending := some (k, c) })

/-- The adoption frame of a set that a session owned is the frame in progress (R20). -/
def Dev.adoptedNow (d : Dev) (sid : Nat) : Bool :=
  match d.stage.adopted with
  | some (o, k) => o == sid && (d.get F.ANG_FCNT == k || (d.get F.ANG_FCNT + 1) % 2 ^ 32 == k)
  | none => false

/-- DISCARD_STAGE by a session (R20, R471): of a set whose adoption frame has begun, STATE. -/
def Dev.discardStage (d : Dev) (sid : Nat) : Nat × Dev :=
  if d.stageHeld sid then (St.busy, d)
  else if d.stage.owner = none && d.adoptedNow sid then (St.state, d)
  else if d.stage.owner = none && d.hrt.act.isSome then (St.state, d)
  else (St.ok, d.stageEmpty)

/-! ## Adoption (R21) -/

/-- The index of the device frame that starts next. -/
def Dev.frameIndex (d : Dev) : Nat := d.seriesIndex (2 ^ 48 / d.S) d.phi48 d.time.nextFrame

/-- The start of the next device frame: time passes to it and the frame in progress ends. -/
def Dev.toFrameStart (d : Dev) : Dev :=
  let d := (d.toPhase (d.frameIndex * (2 ^ 48 / d.S) + d.phi48)).frameEnd
  (d.fbxUp fun x => { x with running := false }).traceFrame

/-- Series of boundaries whose spacing a change of S or C alters go on from where they stand. -/
def Dev.respace (d old : Dev) : Dev :=
  let go (n u v : Nat) : Nat := if u = v then n else (n - 1) * u / v + 1
  let s := fun (x : Dev) => 2 ^ 48 / x.S
  let c := fun (x : Dev) => 2 ^ 48 / x.C
  let grid := d.time.phase / c d
  { d with pwm := { d.pwm with grid := grid }, time := { d.time with
      nextSample := go d.time.nextSample (s old) (s d), nextFrame := go d.time.nextFrame (s old) (s d)
      nextCarrier := go d.time.nextCarrier (c old) (c d), nextHalf := go d.time.nextHalf (c old) (c d) } }

/-- What the blocks do when staged fields come into effect; `old` is the device before. -/
def Dev.stageHooks (d old : Dev) : Dev :=
  let d := (Dev.sdmRefill old (d.respace old).rephase).hstAdopt old
  let d := ((d.canAdopt old).sscAdopt).hwdtAdopt old
  (d.drtStaged 0).drtStaged 1

/-- STAGED_SET_ADOPT: the pending set comes into effect at the start of its adoption frame and at no other. -/
def Dev.stageAdopt (d : Dev) : Dev :=
  match d.stage.pending with
  | none => d
  | some (k, _) =>
    if (d.get F.ANG_FCNT + 1) % 2 ^ 32 != k then d else
    let old := d.toFrameStart
    let owner := d.stage.owner.getD 0
    let d := old.withStaged
    let d := d.fbxUp fun x => { x with
      coef := old.stage.coef.foldl (fun m (a, w) => Mem.wr m a w) x.coef
      lut := old.stage.lut.foldl (fun m (a, w) => Mem.wr m a w) x.lut }
    ((d.stageEmpty.stageUp fun s => { s with adopted := some (owner, k) }).stageHooks old).storeWrite

/-! ## Reads (R17, R26, R72) -/

/-- The word a register command reads: in effect, or staged on request (R17). -/
def Dev.readWord (d : Dev) (staged : Bool) (a : Nat) : Option Word :=
  if a < 0x1000000 then (rowAt a).map fun _ => if staged then d.stagedWord a else d.liveWord a else none

/-- A read's own effect: a stamp is removed (R72), PTP seconds and Flue time are latched (Tables 16-9, 17-10). -/
def Dev.readEffect (d : Dev) (a : Nat) : Dev :=
  if a = F.ANG_STAMP_CYC_CYC.addr then d.popStamp
  else if a = F.NET_TIME_NS_NS.addr then d.timeLatch
  else if a = F.FLU_TIME_LO.addr then d.put F.FLU_TIME_HI (d.flueTime / 2 ^ 32)
  else d

/-- `n` registers read in order from an address on: none where one is unassigned. -/
def Dev.readRun (d : Dev) (staged : Bool) (a : Nat) : Nat → Option (List Word × Dev)
  | 0 => some ([], d)
  | n + 1 => match d.readRun staged a n with
    | none => none
    | some (ws, e) => (e.readWord staged (a + 4 * n)).map fun w => (ws ++ [w], e.readEffect (a + 4 * n))

end Sys2Proof.Machine
end

