-- ==== Sys2Proof/Machine/Hearth.lean ====
section
/-! DEFINITION. Hearth: sensors (R475, R476), the log commands (R477, R481, R482), image and package slots, their
verification (R484 to R486), activation (R488, R489), the anti-rollback floors (R487) and verification at kindling (R490). -/

namespace Sys2Proof.Machine

/-! ## Sensors -/

/-- The latest reading of a die sensor, as the f32 word of HRT_TEMP. -/
def Dev.temp (d : Dev) (i : Nat) : Nat := d.get (F.HRT_TEMP.ix i)

/-- The first sensor above a threshold in °C. -/
def Dev.hotSensor (d : Dev) (t : Nat) : Option Nat := (List.range 6).find? fun i => f32.lt (f32.ofInt t) (d.temp i)

/-- Every sensor is 5 °C below a threshold. -/
def Dev.coolBelow (d : Dev) (t : Nat) : Bool := (List.range 6).all fun i => f32.le (d.temp i) (f32.ofInt ((t : Int) - 5))

/-- One condition of R475: raised when it comes, gone when every sensor is 5 °C below. -/
def Dev.tempCondition (d : Dev) (held : Bool) (t code : Nat) : Dev × Bool :=
  if held then (d, !d.coolBelow t)
  else match d.hotSensor t with
    | some i => (d.raise code [i, d.temp i], true)
    | none => (d, false)

/-- A sensor is outside the limits of Table 21-1. -/
def Dev.tempTamper (d : Dev) : Bool :=
  (List.range 6).any fun i => f32.lt (d.temp i) (f32.ofInt (-50)) || f32.lt (f32.ofInt 165) (d.temp i)

/-- The sensors are read at a tick (R475, R476). -/
def Dev.sensorTick (d : Dev) (temps : List Word) : Dev :=
  let d := d.forAll (List.range 6) fun d i => d.put (F.HRT_TEMP.ix i) (temps.getD i 0).toNat
  let (d, w) := d.tempCondition d.hrt.warn (d.get F.HRT_TEMP_CFG_WARN) 0x1001
  let (d, t) := d.tempCondition d.hrt.trip (d.get F.HRT_TEMP_CFG_TRIP) 0x1002
  let n := if d.tempTamper then min 2 (d.hrt.hotTicks + 1) else 0
  let d := if n = 2 && d.hrt.hotTicks = 1 then d.tamper 2 else d
  d.hrtUp fun h => { h with warn := w, trip := t, hotTicks := n }

/-! ## Log -/

/-- The entries of a region. -/
def Dev.logRegion (d : Dev) (region : Nat) : List LogEntry := if region = 0 then d.log.normal else d.log.sticky

/-- The entries of a region from a number on, at most `n` numbers: those overwritten are left out. (DEDUCED, log entry 41.) -/
def Dev.logFrom (d : Dev) (region from_ n : Nat) : List LogEntry :=
  (d.logRegion region).filter fun e => from_ ≤ e.num && e.num < from_ + n

/-- The tag before an entry number (R482): that of the entry before it, or the genesis tag. An entry overwritten has left
no tag behind. (DEDUCED, log entry 91.) -/
def Dev.tagBefore (d : Dev) (region num : Nat) : List Byte × Dev :=
  if num ≤ (if region = 0 then d.log.normalBase else d.log.stickyBase) then (d.genesis region, d)
  else match (d.logRegion region).find? fun e => e.num + 1 == num with
    | some e => (e.tag, d)
    | none => let (v, d) := d.fresh; (leBytes 8 v, d)

/-- The newest entry of a region replaced by HRT_LOG_TORN under its number (R481), chained from the entry before it.
(DEDUCED, log entry 89.) -/
def Dev.repairRegion (d : Dev) (region : Nat) (torn : Bool) : Dev :=
  match torn, (d.logRegion region).getLast? with
  | true, some e =>
    let (prev, d) := d.tagBefore region e.num
    let l := (d.logRegion region).dropLast ++ [chainEntry prev { e with code := 0x100A, data := [e.code] }]
    let d := { d with log := if region = 0 then { d.log with normal := l } else { d.log with sticky := l } }
    d.setIn F.HRT_EVT_EVT 9
  | _, _ => d

/-! ## Slots (R472, R484) -/

/-- Slot of a type: 0 schedule image, 1 owner setting package. -/
def Dev.slot (d : Dev) (type s : Nat) : MramSlot := (if type = 0 then d.hrt.img else d.hrt.pkg).getD s {}
def Dev.slotUp (d : Dev) (type s : Nat) (f : MramSlot → MramSlot) : Dev :=
  d.hrtUp fun h => if type = 0 then { h with img := upd h.img s f } else { h with pkg := upd h.pkg s f }

/-- Slot sizes in bytes. -/
def slotSize (type : Nat) : Nat := if type = 0 then 0x30000 else 0x10000

/-- The slot in force of a type. -/
def Dev.inForce (d : Dev) (type : Nat) : Option Nat := if type = 0 then d.hrt.imgForce else d.hrt.pkgForce

/-- The slot that a pending activation names (R472). -/
def Dev.slotPending (d : Dev) (type s : Nat) : Bool :=
  match d.hrt.act with | some a => a.pkg == (type == 1) && a.slot == s | none => false

/-- A slot that may be neither written nor erased: in force, or named by a pending activation. -/
def Dev.slotHeld (d : Dev) (type s : Nat) : Bool := d.inForce type == some s || d.slotPending type s

/-- A word number noted as written, numbers rising. -/
def noteWord (k : Nat) : List Nat → List Nat
  | [] => [k]
  | x :: xs => if k < x then k :: x :: xs else if k = x then x :: xs else x :: noteWord k xs

/-- Words of a slot written from a word offset on. -/
def MramSlot.write (m : MramSlot) (k : Nat) : List Word → MramSlot
  | [] => m
  | w :: ws => ({ m with data := Mem.wr m.data k w, written := noteWord k m.written } : MramSlot).write (k + 1) ws

/-- IMG_WRITE into a slot: status, device. -/
def Dev.imgWrite (d : Dev) (type s off : Nat) (data : List Byte) : Nat × Dev :=
  if off % 4 != 0 || slotSize type < off + data.length then (St.badAddress, d)
  else if d.slotHeld type s then (St.state, d)
  else (St.ok, d.slotUp type s fun m =>
    let m := m.write (off / 4) (wordsOf data)
    { m with st := if m.written.isEmpty then 0 else 1, version := Mem.num m.data 0x0C 4 })

/-- IMG_ERASE. (DEDUCED, log entry 37.) -/
def Dev.imgErase (d : Dev) (type s : Nat) : Nat × Dev := if d.slotHeld type s then (St.state, d) else (St.ok, d.slotUp type s fun _ => {})

/-- The state of a slot as IMG_STATUS codes it (Table 20-6). -/
def Dev.slotState (d : Dev) (type s : Nat) : Nat :=
  if d.inForce type == some s then 3 else (d.slot type s).st

/-- The first `n` bytes of a slot are written. -/
def MramSlot.complete (m : MramSlot) (n : Nat) : Bool := (m.written.filter fun k => k < (n + 3) / 4).length == (n + 3) / 4

/-! ## Owner setting packages (R485) -/

/-- A record of a package (Table 21-5). -/
inductive PkgRec where
  | reg (addr : Nat) (value : Word)
  | mem (id off len at_ : Nat)
  deriving DecidableEq, Repr

/-- The records from a byte offset to the end; none where their layout is broken. -/
def pkgRecords (m : Mem) (stop : Nat) : Nat → Nat → Option (List PkgRec)
  | 0, off => if off = stop then some [] else none
  | n + 1, off =>
    if off = stop then some []
    else if stop < off + 8 then none
    else
      let h := Mem.num m off 4
      if h % 256 = 1 then (pkgRecords m stop n (off + 8)).map (.reg (h / 256) (Mem.rd m (off / 4 + 1)) :: ·)
      else if h % 256 = 2 && h / 2 ^ 16 = 0 then
        let len := Mem.num m (off + 8) 4
        if len % 4 != 0 || stop < off + 12 + len then none
        else (pkgRecords m stop n (off + 12 + len)).map (.mem (h / 256 % 256) (Mem.num m (off + 4) 4) len (off + 12) :: ·)
      else none

def pkgLen (m : Mem) : Nat := Mem.num m 8 4
def pkgRecs (m : Mem) : Option (List PkgRec) :=
  if pkgLen m % 4 = 0 && 32 ≤ pkgLen m && pkgLen m + 96 ≤ 0x10000 then pkgRecords m (pkgLen m) (pkgLen m) 32 else none

/-- A record that names no OA field, an unassigned address, or a memory other than 0x06 or beyond its end. -/
def PkgRec.bad : PkgRec → Bool
  | .reg a _ => match rowAt a with | some (r, _) => r.oa == 0 | none => true
  | .mem id off len _ => id != 6 || off % 4 != 0 || 0x10000 < off + len

/-- Every OA field at its reset value, "cfg" ones at 0, and the unit table empty (R485). -/
def Dev.oaReset (d : Dev) : Dev :=
  let d := d.forAll d.regs fun d (a, w) => match rowAt a with
    | some (r, ix) => d.setWord a ((w &&& ~~~(BitVec.ofNat 32 r.oa)) ||| (r.reset ix &&& BitVec.ofNat 32 r.oa))
    | none => d
  { d with flu := { d.flu with unit := [] } }

/-- One record applied. -/
def Dev.pkgApply (d : Dev) (m : Mem) : PkgRec → Dev
  | .reg a v => match rowAt a with
    | some (r, _) => d.setWord a ((d.word a &&& ~~~(BitVec.ofNat 32 r.oa)) ||| (v &&& BitVec.ofNat 32 r.oa))
    | none => d
  | .mem _ off len at_ => { d with flu := { d.flu with unit := Mem.wrs d.flu.unit (off / 4) (Mem.rds m (at_ / 4) (len / 4)) } }

/-- The set that a package states: every OA field, named or not. -/
def Dev.withPackage (d : Dev) (m : Mem) : Dev := ((pkgRecs m).getD []).foldl (fun d r => d.pkgApply m r) d.oaReset

/-! ### Cross-field rules at package verify -/

/-- R71 without the fields COMMIT alone could change is R71 itself; a refused source and a window outside 1 to 50 are
refused. -/
def rulesAngPkg : List Rule :=
  rulesAng ++ [ruleOf F.ANG_SRC_SEL fun d => d.get F.ANG_SRC_SEL != 3,
    ruleOf F.ANG_ROCOF_CFG_WIN fun d => 1 ≤ d.get F.ANG_ROCOF_CFG_WIN && d.get F.ANG_ROCOF_CFG_WIN ≤ 50]

/-- R357. -/
def rulesCprPkg : List Rule := [ruleOf F.CPR_PFI_PFI_FILT fun d => 1 ≤ d.get F.CPR_PFI_PFI_FILT && d.get F.CPR_PFI_PFI_FILT ≤ 6]

/-- R305. -/
def rulesGsv : List Rule :=
  let pos := [F.GSV_VNOM, F.GSV_STOP_RAMP, F.GSV_RESTORE_RAMP, F.GSV_RTS_RAMP, F.GSV_ISL_DF, F.GSV_ISL_ROCOF, F.GSV_ISL_THD]
  let nonneg := [F.GSV_DRC_DB, F.GSV_DRC_K, F.GSV_DRC_IQMAX, F.GSV_DRC_K2, F.GSV_DRC_I2MAX]
  let roles (d : Dev) : List Nat := ([d.rolePre, d.roleDc, d.roleAc].filterMap id)
  [fun d => (pos.find? fun f => !d.fposfin f).map Fld.addr,
   ruleOf F.GSV_ISL_VS fun d => d.get F.GSV_ISL_VS != 0,
   ruleOf F.GSV_RTS_VLO fun d => d.flt F.GSV_RTS_VLO F.GSV_RTS_VHI && d.fge0 F.GSV_RTS_DFLO && d.fge0 F.GSV_RTS_DFHI,
   fun d => (nonneg.find? fun f => !(d.ffin f && d.fge0 f)).map Fld.addr,
   ruleEach 64 F.GSV_RT_LEVEL.whole fun d k =>
     let (t, i) := (k / 16, k % 16)
     d.get (rtFld F.GSV_RT_REGION t i) ≤ 5 && (!d.flag (rtFld F.GSV_RT_EN t i) || d.fposfin (rtFld F.GSV_RT_LEVEL t i)),
   ruleEach 4 F.GSV_RT_HYS fun d t => d.fge0 (F.GSV_RT_HYS.ix t),
   ruleOf F.GSV_CTL_MAP_PRE fun d => (roles d).eraseDups.length == (roles d).length && (roles d).all fun k => d.flag (F.DMP_CTL_EN.ix k),
   ruleOf F.GSV_CTL_MAP_PRE fun d => !d.flag F.GSV_CTL_MAP_PRE_EN || d.flag F.GSV_CTL_MAP_DC_EN,
   ruleOf F.GSV_VDC_SRC_IDX fun d => d.get F.GSV_VDC_SRC_KIND != 3 && (d.get F.GSV_VDC_SRC_KIND != 0 || d.get F.GSV_VDC_SRC_IDX < 24),
   ruleOf F.GSV_CFG_EN fun d => !d.flag F.GSV_CFG_EN || d.get F.GSV_CFG_CEASE_GRP != 0,
   ruleOf F.GSV_ISL_CFG_RC_N fun d => d.flag F.GSV_ISL_CFG_RC_N && d.flag F.GSV_ISL_CFG_VS_N && d.flag F.GSV_ISL_CFG_THD_N,
   ruleOf F.GSV_PERMIT_CTX fun d => !d.flag F.GSV_PERMIT_EN || d.get (F.NET_CTX_KIND.ix (d.get F.GSV_PERMIT_CTX)) == 1]

/-- R210, then R226. (DEDUCED, log entry 86.) -/
def rulesMet : List Rule :=
  let rising (d : Dev) (c : Nat) : Bool :=
    let bp (k : Nat) : Fld := (F.MET_CORR_I_BP.ix c).ix k
    (List.range 8).all fun k => d.fposfin (bp k) && (k == 7 || d.flt (bp k) (bp (k + 1)))
  let pq := [F.PQ_UDIN, F.PQ_SAG, F.PQ_SWELL, F.PQ_INTR, F.PQ_HYST]
  let r (d : Dev) (f : Fld) : Nat := widen (d.get f)
  [ruleOf F.MET_CHAN_V_VA fun d => d.metChans.all (· < 24) && d.metChans.eraseDups.length == d.metChans.length,
   fun d => ([F.MET_RATIO_V, F.MET_RATIO_I, F.MET_INOM].find? fun f => !d.fposfin f).map Fld.addr,
   ruleOf F.MET_CFG_SAVE_INT fun d => 1 ≤ d.get F.MET_CFG_SAVE_INT && d.get F.MET_CFG_SAVE_INT ≤ 40,
   ruleEach 4 F.MET_CORR_I_BP rising,
   ruleEach 4 F.MET_CORR_GAIN fun d c => (List.range 8).all fun k =>
     let g := d.get ((F.MET_CORR_GAIN.ix c).ix k); f32.le 0x3F666666 g && f32.le g 0x3F8CCCCD,
   ruleEach 4 F.MET_CORR_PHASE fun d c => (List.range 8).all fun k =>
     decide ((sext 16 (d.get ((F.MET_CORR_PHASE.ix c).ix k))).natAbs * d.S ≤ 360000),
   ruleEach 4 F.MET_PROF_SEL fun d k => (List.range 4).all fun e =>
     let b := d.get (F.MET_PROF_SEL.ix k) / 256 ^ e % 256; !b.testBit 7 || b % 64 < 52,
   ruleOf F.MET_PROF_CFG_N fun d => d.get F.MET_PROF_CFG_N == 0 || d.ringServes (d.get F.MET_PROF_CFG_RING) 7,
   fun d => (pq.find? fun f => !d.ffin f).map Fld.addr,
   ruleOf F.PQ_UDIN fun d => d.fpos F.PQ_UDIN,
   ruleOf F.PQ_HYST fun d => d.fge0 F.PQ_HYST,
   ruleOf F.PQ_INTR fun d => d.fpos F.PQ_INTR,
   ruleOf F.PQ_INTR fun d => f64.lt (radd (r d F.PQ_INTR) (r d F.PQ_HYST)) (r d F.PQ_SAG),
   ruleOf F.PQ_SAG fun d => f64.lt (radd (r d F.PQ_SAG) (r d F.PQ_HYST)) r1 && f64.lt r1 (rsub (r d F.PQ_SWELL) (r d F.PQ_HYST)),
   ruleOf F.PQ_CFG_EN fun d => !d.flag F.PQ_CFG_EN || d.ringServes (d.get F.PQ_CFG_RING) 7]

/-- Enabled override entries: code, class. -/
def Dev.overrides (d : Dev) : List (Nat × Nat) :=
  ((List.range 64).filter fun k => d.flag (F.DMP_EVT_OVR_EN.ix k)).map fun k => (d.get (F.DMP_EVT_OVR_CODE.ix k), d.get (F.DMP_EVT_OVR_CLASS.ix k))

/-- R264. -/
def Dev.overridesOk (d : Dev) : Bool :=
  let cs := d.overrides.map Prod.fst
  (d.overrides.all fun (c, k) => !fixedEvents.contains c && k != 2 && eventDefined c
    && (!((0x0120 ≤ c && c ≤ 0x012F) || (0x0620 ≤ c && c ≤ 0x062F)) || k == 3))
  && cs.eraseDups.length == cs.length

/-- R278. -/
def rulesDmp : List Rule :=
  [ruleEach 12 F.DMP_LEG_SEQ_T_SEQ fun d n => 50 ≤ d.get (F.DMP_LEG_SEQ_T_SEQ.ix n) && d.get (F.DMP_LEG_SEQ_T_SEQ.ix n) ≤ 1000,
   ruleOf F.DMP_STROBE_PER fun d => d.get F.DMP_STROBE_PER ≤ 8,
   ruleEach 8 F.DMP_GRP_RB_WAIT fun d g => 1 ≤ d.get (F.DMP_GRP_RB_WAIT.ix g),
   ruleEach 8 F.DMP_CTL_FB_TIME fun d k => !d.flag (F.DMP_CTL_FB_EN.ix k) || 1 ≤ d.get (F.DMP_CTL_FB_TIME.ix k),
   ruleOf F.DMP_LOCKOUT_CFG_LOCK_N fun d => 1 ≤ d.get F.DMP_LOCKOUT_CFG_LOCK_N,
   ruleEach 16 F.DMP_CMP_BLANK_LEG fun d j => d.get (F.DMP_CMP_BLANK_LEG.ix j) ≤ 11,
   ruleOf F.DMP_EVT_OVR_CODE Dev.overridesOk]

/-- The NUL-terminated strings a context takes from the pool: three for GOOSE, two for SV; each at most 129 bytes. -/
def Dev.stringsOk (d : Dev) (i : Nat) : Bool :=
  let one (off : Nat) : Option Nat :=
    ((List.range 130).find? fun k => off + k < 16384 && d.get (F.NET_STR.ix ((off + k) / 4)) / 256 ^ ((off + k) % 4) % 256 == 0).map (off + · + 1)
  let two := (one (d.get (F.NET_CTX_STR.ix i))).bind one
  (if d.get (F.NET_CTX_KIND.ix i) < 2 then two.bind one else two).isSome

/-- Enabled contexts. -/
def Dev.ctxOn (d : Dev) : List Nat := (List.range 256).filter fun i => d.flag (F.NET_CTX_EN.ix i)

/-- A subscription's trip and permissive members are BOOLEAN or Dbpos, and every member has an assigned type. -/
def Dev.membersOk (d : Dev) (i : Nat) : Bool :=
  (List.range (d.get (F.NET_CTX_NMEM.ix i))).all fun m =>
    let w := d.ctxMem i m
    w % 8 ≤ 5 && (d.get (F.NET_CTX_KIND.ix i) % 2 == 0 || memUse w == 0 || (memUse w != 3 && (w % 8 == 0 || w % 8 == 5)))

/-- Permissive members of a context (R389). -/
def Dev.permissives (d : Dev) (i : Nat) : Nat := ((List.range (d.get (F.NET_CTX_NMEM.ix i))).filter fun m => memUse (d.ctxMem i m) == 2).length

/-- R395; refused encodings of MODE, ROLE, KIND and PORT are refused with it. -/
def rulesNet : List Rule :=
  let ctx (ok : Dev → Nat → Bool) : Rule := fun d => (d.ctxOn.find? fun i => !ok d i).map fun i => (F.NET_CTX_EN.ix i).addr
  let same (d : Dev) (f : Fld) : Bool := d.get (f.ix 0) == d.get (f.ix 1)
  [ruleOf F.NET_CFG_MODE fun d => d.get F.NET_CFG_MODE != 3,
   ruleOf F.NET_PTP_CFG_ROLE fun d => d.get F.NET_PTP_CFG_ROLE != 3,
   ctx fun d i => d.get (F.NET_CTX_KIND.ix i) ≤ 3 && d.get (F.NET_CTX_PORT.ix i) != 3,
   ruleEach 256 F.NET_CTX_EN fun d i => d.get F.NET_CFG_MODE == 0 || d.get (F.NET_CTX_PORT.ix i) == 2,
   ruleOf F.NET_CFG_MODE fun d => d.get F.NET_CFG_MODE != 2 ||
     (d.flag (F.NET_PORT_EN.ix 0) && d.flag (F.NET_PORT_EN.ix 1) && same d F.NET_PORT_IF && same d F.NET_PORT_SPEED),
   ruleEach 2 F.NET_PORT_SPEED fun d p => !d.flag (F.NET_PORT_SPEED.ix p) || d.flag (F.NET_PORT_IF.ix p),
   ctx fun d i => d.get (F.NET_CTX_MEM.ix i) + d.get (F.NET_CTX_NMEM.ix i) ≤ 4096 && d.stringsOk i,
   ctx Dev.membersOk,
   ruleOf F.NET_CTX_KIND fun d =>
     let sv := d.ctxOn.filter fun i => d.get (F.NET_CTX_KIND.ix i) == 2
     sv.length ≤ 4 && (512 ≤ d.S || sv.all fun i => d.get (F.NET_CTX_RATE.ix i) == 0),
   ctx fun d i => 1 ≤ d.get (F.NET_CTX_T1.ix i) && d.get (F.NET_CTX_T1.ix i) ≤ d.get (F.NET_CTX_T0.ix i)
     && 100 ≤ d.get (F.NET_CTX_T0.ix i) && d.get (F.NET_CTX_T0.ix i) ≤ 60000,
   ruleOf F.NET_RED_LIFE_CHECK fun d => 1 ≤ d.get F.NET_RED_LIFE_CHECK,
   ruleOf F.NET_RED_ENTRY_FORGET fun d => 10 ≤ d.get F.NET_RED_ENTRY_FORGET,
   ruleOf F.GSV_PERMIT_CTX fun d => !d.flag F.GSV_PERMIT_EN || d.permissives (d.get F.GSV_PERMIT_CTX) == 1,
   ruleOf F.NET_PTP_CFG_PROFILE fun d => d.get F.NET_PTP_CFG_PROFILE == 0 || d.get F.CAN_TM_CFG_TM_MODE != 2,
   ruleOf F.NET_SUB_RING_RING fun d => !((List.range 256).any d.subReports) || d.ringServes (d.get F.NET_SUB_RING_RING) 7]

/-- Every PARENT names a kind 2 entry or 0x0000, and following PARENT ends (R420). -/
def parentsOk (es : List UnitEntry) : Bool :=
  let root (n : Nat) (p : Nat) : Bool := (List.range n).foldl (fun q _ => (es.find? fun e => e.uid == q && e.kind == 2).elim 0 UnitEntry.parent) p == 0
  es.all fun e => (e.parent == 0 || es.any fun g => g.uid == e.parent && g.kind == 2) && root es.length e.parent

/-- R420, for a device of a group. -/
def rulesFlu : List Rule :=
  let grp (f : Fld) (ok : Dev → Bool) : Rule := ruleOf f fun d => d.get F.FLU_ROLE_HOST_MODE % 3 = 0 || ok d
  let flagged (d : Dev) (b : Nat) : List UnitEntry := d.ringDevs.filter fun e => e.flags.testBit b
  [ruleOf F.FLU_CFG_RAMP_GF fun d => d.G ≤ d.get F.FLU_CFG_RAMP_GF && d.get F.FLU_CFG_RAMP_GF + 4 ≤ 2 * d.G,
   ruleOf F.FLU_CFG_ORPHAN_GF fun d => 4 ≤ d.get F.FLU_CFG_ORPHAN_GF,
   grp F.FLU_CFG_G_SEL fun d => (unitEntries d.flu.unit).all fun e => e.uid != 0 && e.uid != 0xFFFF,
   grp F.FLU_CFG_G_SEL fun d =>
     let n := d.ringDevs.length
     2 ≤ n && n ≤ 64 && (List.range n).all fun p => d.ringDevs.any fun e => e.pos == p,
   grp F.FLU_CFG_G_SEL fun d => (flagged d 0).length == 1 && (flagged d 1).length ≤ 1 && (flagged d 0 ++ flagged d 1).all fun e => e.flags.testBit 2,
   grp F.FLU_CFG_G_SEL fun d => parentsOk (unitEntries d.flu.unit)]

/-- R491. -/
def rulesHrt : List Rule := [ruleOf F.HRT_TEMP_CFG_WARN fun d => d.get F.HRT_TEMP_CFG_WARN < d.get F.HRT_TEMP_CFG_TRIP && d.get F.HRT_TEMP_CFG_TRIP ≤ 165]

/-- The block whose rule fails first, in ascending order. -/
def Dev.pkgRuleBlock (d : Dev) : Option Nat :=
  [(2, rulesAngPkg), (3, rulesGsv), (4, rulesSdm), (6, rulesMet), (7, rulesPwm), (8, rulesDmp), (0xB, rulesCprPkg), (0xC, rulesNet), (0xD, rulesFlu), (0x10, rulesHrt)].findSome?
    fun (b, rs) => (firstRule d rs 1).map fun _ => b

/-! ## Verification (R486, Table 21-6) -/

/-- A DEV_ID field of sixteen bytes names this device, or every device of the owner. -/
def Dev.idOk (d : Dev) (id : List Byte) : Bool := id == d.devId || id == List.replicate 16 0

/-- The outcome of a verification: reason, source (0 Table 3-9, 1 Hearth), index; none where it passes. -/
abbrev Verdict : Type := Option (Nat × Nat × Nat)

/-- A schedule image against Hearth's checks, then Table 3-9. -/
def Dev.verifyImageSlot (d : Dev) (s : MramSlot) (endSig imgSig : Bool) : Verdict :=
  let m := s.data
  let n := hImgLen m
  if s.written.isEmpty || !s.complete (min (n + 312) 0x30000) then some (0x01, 1, 0)
  else if 0x30000 < n + 312 || n % 4 != 0 || Mem.num m n 4 != 0x475A4C50 || Mem.num m (n + 4) 4 != 312 then some (0x02, 1, 0)
  else if !endSig || d.sec.otp.owner.isNone || !d.idOk (Mem.bytes m (n + 104) 16) then some (0x03, 1, 0)
  else if !imgSig then some (0x04, 1, 0)
  else if hVersion m < d.get (F.HRT_FLOOR.ix 0) then some (0x05, 1, 0)
  else (d.verifyImage m).map fun (r, i) => (r, 0, i)

/-- An owner setting package against Hearth's checks, in the order of Table 21-6. -/
def Dev.verifyPkgSlot (d : Dev) (s : MramSlot) (sig : Bool) : Verdict :=
  let m := s.data
  if s.written.isEmpty || !s.complete (min (pkgLen m + 96) 0x10000) then some (0x01, 1, 0)
  else if Mem.num m 0 4 != 0x505A4C50 || Mem.num m 4 2 != 1 || Mem.num m 6 2 != 32 then some (0x02, 1, 0)
  else match pkgRecs m with
  | none => some (0x02, 1, 0)
  | some rs =>
    if hVersion m < d.get (F.HRT_FLOOR.ix 1) then some (0x05, 1, 0)
    else if !d.idOk (Mem.bytes m 16 16) then some (0x06, 1, 0)
    else if !sig || d.sec.otp.owner.isNone then some (0x07, 1, 0)
    else match firstBad rs fun _ r => r.bad with
    | some i => some (0x08, 1, i)
    | none =>
      let e := d.withPackage m
      match e.pkgRuleBlock with
      | some b => some (0x09, 1, b)
      | none => match d.fbx.active.bind e.configCause with
        | some _ => some (0x0A, 1, 0)
        | none => none

/-- A slot verified: its state, HRT_VERIFY with Hearth's own result, FBX_VERIFY with the result of Table 3-9 where Hearth's
checks pass, and the event (FBX_VERIFY_FAIL or HRT_VERIFY_FAIL); a blank slot and the one in force keep their states. -/
def Dev.slotVerify (d : Dev) (type s : Nat) (sig sig2 : Bool) : Verdict × Dev :=
  let v := if type = 0 then d.verifyImageSlot (d.slot 0 s) sig sig2 else d.verifyPkgSlot (d.slot 1 s) sig
  let (r, src, i) := v.getD (0, 0, 0)
  let own := if src = 1 then (r, i) else (0, 0)
  let d := d.put F.HRT_VERIFY_REASON own.1 |>.put F.HRT_VERIFY_TYPE type |>.put F.HRT_VERIFY_SLOT s |>.put F.HRT_VERIFY_INDEX own.2
  let d := if type = 0 && src = 0 then d.put F.FBX_VERIFY_REASON r |>.put F.FBX_VERIFY_IMG_SLOT s |>.put F.FBX_VERIFY_INDEX i else d
  let d := if (d.slot type s).st = 0 || d.inForce type == some s then d
    else d.slotUp type s fun m => { m with st := if v.isSome then 4 else 2 }
  let d := match v with
    | none => d
    | some _ => if src = 0 then d.raise 0x0104 [r, i] else d.raise 0x1007 [type, s, r]
  (v, d)

/-! ## Activation (R488, R489) -/

/-- Addresses whose words differ between two devices. -/
def regsDiffer (x y : Dev) : List Nat :=
  (((x.regs ++ y.regs).map Prod.fst).eraseDups).filter fun a => x.word a != y.word a

/-- A package changes a stopped-only field, or one of R372. -/
def Dev.pkgStopped (d : Dev) (m : Mem) : Bool :=
  let e := d.withPackage m
  (regsDiffer d e).any fun a =>
    let x := (d.word a ^^^ e.word a).toNat
    (match rowAt a with | some (r, _) => (x &&& r.stop) != 0 | none => false)
    || (a == 0x0C0004 && (x &&& 3) != 0) || ((a == 0x0C0008 || a == 0x0C000C) && (x &&& 7) != 0)

/-- A live image keeps the node map, S, C, the legs and the spread bound of the image in force. -/
def Dev.liveImageOk (d : Dev) (m : Mem) : Bool :=
  match d.fbx.active with
  | none => false
  | some a =>
    let b := imageOf 0 m
    a.hash == b.hash && a.s == b.s && a.c == b.c && a.legMask == b.legMask && a.legMode == b.legMode && a.ssc == b.ssc

/-- What an activation requires of the state (R488, R372): GSV in OFF or READY where it is stopped, up to RUN for a live
image; whether a slot of this type meets it. (DEDUCED, log entry 53.) -/
def Dev.actAllowed (d : Dev) (type slot : Nat) (live : Bool) : Bool :=
  let m := (d.slot type slot).data
  if !live then d.stopped
  else if type = 0 then d.gsv ≤ 4 && d.liveImageOk m
  else !d.pkgStopped m

/-- The verified slot is there to be activated (R472). -/
def Dev.actVerified (d : Dev) (type slot : Nat) : Bool := (d.slot type slot).st == 2

/-- The status IMG_ACTIVATE is answered with before it is accepted. -/
def Dev.actStatus (d : Dev) (type slot : Nat) (live : Bool) : Nat :=
  if !d.actVerified type slot then St.imageInvalid
  else if d.hrt.act.isSome || d.stage.pending.isSome then St.busy
  else if !d.actAllowed type slot live then St.state else St.ok

/-- IMG_ACTIVATE of a slot: status, response payload, device. -/
def Dev.imgActivate (d : Dev) (type slot : Nat) (live : Bool) (angle : Option Nat) : Nat × List Byte × Dev :=
  let st := d.actStatus type slot live
  if st != St.ok then (st, [], d) else
  let (k, c) := d.adoptionFrame angle
  (St.ok, leBytes 4 c ++ leBytes 4 k, d.hrtUp fun h => { h with act := some ⟨type == 1, slot, live, k, c⟩ })

/-- A slot is recorded in force: its ticks begin. -/
def Dev.forceSlot (d : Dev) (type slot : Nat) : Dev :=
  if type = 0 then (d.hrtUp fun h => { h with imgForce := some slot, imgTicks := 0 }).put F.HRT_STATUS_IMG_SLOT slot
  else (d.hrtUp fun h => { h with pkgForce := some slot, pkgTicks := 0 }).put F.HRT_STATUS_PKG_SLOT slot

/-- A schedule image comes into force. (DEDUCED, log entry 51.) -/
def Dev.imageForce (d : Dev) (slot : Nat) (live : Bool) : Dev :=
  let d := d.activateImage slot (d.slot 0 slot).data live
  let d := if live then d else d.pwmImage.traceAbort
  (d.forceSlot 0 slot).storeWrite

/-- The settings of a package in place of those in force: each block acts on them as its chapter says. Block 0x03 keeps
its fields until GSV adopts (R299); MET adopts at its opening boundary (R202), ANG's source at a line-cycle boundary (R63).
(DEDUCED, log entry 92.) -/
def Dev.pkgSettings (old : Dev) (m : Mem) : Dev :=
  let new := old.withPackage m
  let gsv := (regsDiffer old new).filter fun a => 0x030000 ≤ a && a < 0x040000
  let d := gsv.foldl (fun d a => d.setWord a (old.word a)) new
  let pend := gsv.map fun a => (a, new.word a)
  let d := d.supUp fun g => { g with pend := some pend }
  let d := d.metUp fun x => { x with cfgPend := true }
  (Dev.sdmRefill old (Dev.drRestart old d)).netPackage old

/-- An owner setting package comes into force. -/
def Dev.pkgForce (d : Dev) (slot : Nat) : Dev :=
  let m := (d.slot 1 slot).data
  (((d.pkgSettings m).dmpPackage d).forceSlot 1 slot).storeWrite.raise 0x1008 [slot, hVersion m]

/-- A pending activation of a type is due at the frame that starts next. -/
def Dev.actDue (d : Dev) (pkg : Bool) : Option ActPend :=
  d.hrt.act.filter fun a => a.pkg == pkg && (d.get F.ANG_FCNT + 1) % 2 ^ 32 == a.frame

/-- IMAGE_ACTIVATION_ADOPT, PACKAGE_ACTIVATION_ADOPT: at the start of its adoption frame and at no other. -/
def Dev.imageAdopt (d : Dev) : Dev :=
  match d.actDue false with
  | some a => (d.toFrameStart.hrtUp fun h => { h with act := none }).imageForce a.slot a.live
  | none => d
def Dev.packageAdopt (d : Dev) : Dev :=
  match d.actDue true with
  | some a => (d.toFrameStart.hrtUp fun h => { h with act := none }).pkgForce a.slot
  | none => d

/-! ## Anti-rollback (R487) -/

/-- Seven days of ticks. -/
def weekTicks : Nat := 604800000

/-- A tick in force. -/
def Dev.forceTick (d : Dev) : Dev :=
  d.hrtUp fun h => { h with
    imgTicks := if h.imgForce.isSome then h.imgTicks + 1 else 0, pkgTicks := if h.pkgForce.isSome then h.pkgTicks + 1 else 0 }

/-- HRT_ROLLBACK_RAISED for a type: seven days in force with a VERSION above the floor; the floor is written while words
remain. (DEDUCED, log entry 113.) -/
def Dev.rollbackRaise (d : Dev) (type : Nat) : Dev :=
  let words := if type = 0 then d.hrt.floorImg else d.hrt.floorPkg
  let ticks := if type = 0 then d.hrt.imgTicks else d.hrt.pkgTicks
  match d.inForce type with
  | none => d
  | some s =>
    let v := hVersion (d.slot type s).data
    if ticks < weekTicks || v ≤ d.get (F.HRT_FLOOR.ix type) || 128 ≤ words.length then d else
    let full := words.length = 127
    let d := d.hrtUp fun h => if type = 0 then { h with floorImg := v :: h.floorImg, fullImg := full } else { h with floorPkg := v :: h.floorPkg, fullPkg := full }
    let d := (d.put (F.HRT_FLOOR.ix type) v).raise 0x100C [type, v]
    if full then d.raise 0x100D [type] else d

/-! ## Kindling (R490, R493 to R495) -/

/-- The public key of the identity key of a seed, X then Y, and the DEV_ID it gives (R494). -/
def identityKey (seed : Nat) : List Byte := beBytes 96 (Config.publicKey (seedKey seed "PLZ ID"))
def identityId (seed : Nat) : List Byte := (sha384 (identityKey seed)).take 16

/-- During TEST a seed is drawn and written with its DEV_ID (R493). (DEDUCED, log entry 90.) -/
def Dev.drawSeed (d : Dev) (health : Bool) : Dev :=
  if d.sec.lc != 0 || d.sec.otp.seed.isSome then d
  else if !health then d.raise 0x1011
  else
    let (v, d) := d.fresh
    let seed := v % 2 ^ 384
    (d.secUp fun s => { s with otp := { s.otp with seed := some seed, devId := identityId seed } }).mramRegs

/-- The three agree (R495): the seed's DEV_ID, OTP's, and the identity certificate's key. -/
def Dev.identityOk (d : Dev) (cert : Bool) : Bool :=
  match d.sec.otp.seed with
  | some seed => identityId seed == d.sec.otp.devId && cert && d.sec.certs.any fun c => c.1 == 1
  | none => false

/-- A type's slot chosen at kindling: that of the store, else the other; slot A then B where the store has no valid
record. The slot and whether the other one was put in force in its place. -/
def Dev.kindleSlot (d : Dev) (type : Nat) (pass : Dev → Nat → Bool × Dev) : Option (Nat × Bool) × Dev :=
  let store := d.sec.store
  let rec_ := if type = 0 then store.img else store.pkg
  match (if store.valid then rec_ else some 0) with
  | none => (none, d)
  | some s =>
    let (ok, d) := pass d s
    if ok then (some (s, false), d)
    else
      let (ok, d) := pass d (1 - s)
      if ok then (some (1 - s, store.valid), d) else (none, d)

/-- Verification of a type at kindling with the fallback of R490: the slot to put in force. -/
def Dev.kindleVerify (d : Dev) (type : Nat) (sigs : List (Bool × Bool)) : Option Nat × Dev :=
  let pass (d : Dev) (s : Nat) : Bool × Dev :=
    let (a, b) := sigs.getD (2 * type + s) (false, false)
    let (v, d) := d.slotVerify type s a b
    (v.isNone, d)
  match d.kindleSlot type pass with
  | (some (s, fell), d) => (some s, if fell then (d.put F.HRT_STATUS_FALLBACK 1).raise 0x1009 [type] else d)
  | (none, d) => (none, d)

/-- HEARTH_KINDLE_VERIFY: identity, log repair, mesh, then the package and the image, the image activated stopped.
(DEDUCED, log entry 38.) -/
def Dev.hearthKindle (d : Dev) (k : KindleChecks) (dt : Nat) : Dev :=
  let d := d.advance dt
  if !d.kindling 6 || d.cpr.rows.testBit 11 then d else
  let d := (d.repairRegion 0 k.tornNormal).repairRegion 1 k.tornSticky
  let d := d.drawSeed k.health
  let ok := d.identityOk k.cert
  let d := d.putB F.HRT_LC_IDENT_OK ok
  let d := if ok || d.sec.otp.seed.isNone then d else d.raise 0x1011
  let d := if d.cpr.mesh then
      ({ d with net := { d.net with ctx := [] }, flu := { d.flu with keyCur := none, keyNext := none } }).raise 0x1016
    else d
  let (p, d) := d.kindleVerify 1 k.sigs
  let d := match p with
    | some s => d.pkgForce s
    | none => d.pkgSettings []
  let (i, d) := d.kindleVerify 0 k.sigs
  let d := match i with
    | some s => d.imageForce s false
    | none => d
  let d := d.drawNonce.flueKindle
  d.rowDone 11

end Sys2Proof.Machine
end

