-- ==== Sys2Proof/Machine/Command.lean ====
section
/-! DEFINITION. The command processor: frames and responses (R456 to R458), the checks in their order (R459), sequence
numbers and the replay cache (R460 to R462), owner authorisation (R464), units, relays and groups (R405, R410 to R416,
R465, R466), life-cycle permission (R467). -/

namespace Sys2Proof.Machine

/-! ## Table 20-6 -/

/-- Opcodes that need no session, those that need OPERATOR, those that need ENGINEER, those the owner authorises. -/
def freeOps : List Nat := [0x01, 0x02, 0x03, 0x91, 0x92]
def operatorOps : List Nat :=
  [0x20, 0x21, 0x22, 0x23, 0x24, 0x25, 0x42, 0x50, 0x51, 0x52, 0x54, 0x55, 0x56, 0x70, 0x78, 0x98]
def engineerOps : List Nat := [0x11, 0x12, 0x13, 0x14, 0x16, 0x30, 0x31, 0x32, 0x34, 0x59, 0x62]
def ownerOps : List Nat := [0x25, 0x70, 0x90]

/-- Opcodes of unit L and of unit G; the others are of unit D. -/
def localOps : List Nat := [0x01, 0x02, 0x03, 0x04, 0x05, 0x62, 0x63, 0x91, 0x92]
def groupOps : List Nat := [0x12, 0x13, 0x14, 0x20, 0x21, 0x22, 0x23, 0x24, 0x25, 0x32, 0x56, 0x60, 0x61, 0x70]

/-- The role an opcode needs: 1 OBSERVER, 2 OPERATOR, 3 ENGINEER. MEM_WRITE to node memory and REG_WRITE need OPERATOR. -/
def leastRole (op : Nat) (p : List Byte) : Nat :=
  if op = 0x11 then 2
  else if op = 0x16 then (if leAt p 0 1 = 1 then 2 else 3)
  else if operatorOps.contains op then 2
  else if engineerOps.contains op then 3 else 1

/-- The payload layout of an opcode, its owner authorisation block taken off (step 8 of R459). -/
def layoutOk (op : Nat) (p : List Byte) : Bool :=
  let n := p.length
  let arr (k : Nat) : Bool := 4 ≤ n && n == 4 + k * leAt p 0 4
  match op with
  | 0x01 => true
  | 0x03 => 100 ≤ n && n == 100 + (leAt p 96 4 + 3) / 4 * 4
  | 0x05 => n == 96
  | 0x10 => n == 8
  | 0x11 => arr 12
  | 0x12 => arr 12
  | 0x13 => n == 8
  | 0x15 => n == 16
  | 0x16 => 12 ≤ n && n == 12 + leAt p 8 4
  | 0x20 => n == 4
  | 0x21 => arr 8
  | 0x22 => n == 4
  | 0x23 => n == 4
  | 0x24 => n == 4
  | 0x30 => 8 ≤ n
  | 0x31 => n == 4
  | 0x32 => n == 12
  | 0x34 => n == 4
  | 0x40 => n == 16
  | 0x50 => n == 4
  | 0x54 => n == 4
  | 0x58 => n == 4
  | 0x59 => n == 8
  | 0x62 => n == 8
  | 0x63 => n == 4
  | 0x70 => n == 96
  | 0x71 => n == 4
  | 0x78 => 12 ≤ n && n == 12 + (dlcLen ((leAt p 4 4).testBit 30) (leAt p 8 4 % 16) + 3) / 4 * 4
  | 0x79 => n == 4
  | 0x80 => n == 12
  | 0x81 => n == 12
  | 0x90 => n == 4
  | 0x91 => n == 192
  | 0x92 => n == 16
  | 0x98 => n == 8
  | _ => n == 0

/-- Reserved bytes of a request that are to be 0: offset and count. -/
def reservedBytes (op : Nat) : List (Nat × Nat) :=
  match op with
  | 0x15 => [(1, 3)]
  | 0x16 => [(1, 3)]
  | 0x23 => [(2, 2)]
  | 0x24 => [(1, 3)]
  | 0x30 => [(2, 2)]
  | 0x31 => [(2, 2)]
  | 0x32 => [(3, 1)]
  | 0x34 => [(2, 2)]
  | 0x59 => [(1, 3)]
  | 0x63 => [(2, 2)]
  | 0x70 => [(37, 3)]
  | 0x78 => [(2, 2)]
  | 0x79 => [(2, 2)]
  | 0x80 => [(1, 3)]
  | 0x81 => [(1, 3)]
  | 0x90 => [(1, 3)]
  | 0x98 => [(2, 2)]
  | _ => []

/-- Bytes of the response payload as far as the request decides them and they could pass the limits (R457). -/
def respSize (op : Nat) (p : List Byte) : Nat :=
  match op with
  | 0x01 => p.length
  | 0x10 => 4 * leAt p 4 2
  | 0x15 => leAt p 8 4
  | 0x40 => 816
  | 0x41 => 640
  | 0x80 => 32 * leAt p 8 4
  | _ => 0

/-! ## Paths -/

/-- The request limit of a path and its response payload limit (R457): header and tag of a layer-2 response count. -/
def requestLimit : Path → Nat
  | .l2 _ => 1496
  | _ => 2048
def responseLimit : Path → Nat
  | .l2 _ => 1464
  | _ => 1948
def isRelay : Path → Bool
  | .relay _ => true
  | _ => false

/-- Number of this unit (UID of a response). -/
def Dev.selfUid (d : Dev) : Nat := d.get F.FLU_UID_SELF_UID

/-- A session by its number, and a change of it. -/
def Dev.session (d : Dev) (sid : Nat) : Option Session := d.sec.sessions.find? fun s => s.sid == sid
def Dev.sessUp (d : Dev) (sid : Nat) (f : Session → Session) : Dev :=
  d.secUp fun x => { x with sessions := x.sessions.map fun s => if s.sid == sid then f s else s }

/-- The key that tags a sequence number of a session (R463). -/
def Session.keyOf (s : Session) (seq : Nat) : Nat := if s.since < seq then s.key else s.oldKey

/-- A response frame handed to the path it takes. (DEDUCED, log entry 12.) -/
def Dev.deliver (d : Dev) (a : Asked) (frame : List Byte) : Dev :=
  match a.path with
  | .mbx m => d.mbxUp m fun x => { x with inflight := giveResp a frame x.inflight }
  | .l2 m =>
    match (d.net.l2.getD m []).find? fun c => a.isIn c.frame with
    | some c => (d.netUp fun n => { n with l2 := upd n.l2 m fun q => q.erase c }).l2Respond c m frame
    | none => d
  | .relay _ => d

/-- An untagged refusal of steps 1 to 4 (R458). -/
def Dev.refuse (d : Dev) (a : Asked) (status : Nat) : Dev :=
  let d := d.secUp fun s => { s with out := some (status, []) }
  match a.path with
  | .relay p => d.flueSend p (.bulk (.response a.sid a.seq status []))
  | _ => d.deliver a (respHeader a.opcode status 0 d.selfUid 0 a.seq)

/-- A response frame with its payload, encrypted and tagged where the request had a session; `form` is D of R458. -/
def Dev.respFrame (d : Dev) (a : Asked) (status uid form : Nat) (payload : List Byte) : List Byte :=
  let h := respHeader a.opcode status payload.length uid a.sid a.seq
  if a.sid = 0 then h ++ payload
  else
    let key := match d.session a.sid with | some s => s.keyOf a.seq | none => 0
    h ++ Config.gcm a.sid key a.seq form h payload

/-- A DUPLICATE response from the cache (R461). -/
def Dev.answerDuplicate (d : Dev) (a : Asked) (status : Nat) (payload : List Byte) : Dev :=
  let body := leBytes 1 status ++ leBytes 3 0 ++ payload
  (d.secUp fun s => { s with out := some (St.duplicate, body) }).deliver a (d.respFrame a St.duplicate d.selfUid 3 body)

/-- The response of a command from step 4 on: written on its path, kept in the replay cache, shadowed to the standby
(R417); duplicates that waited for it are answered (R462). (DEDUCED, log entry 119.) -/
def Dev.answer (d : Dev) (a : Asked) (status uid : Nat) (payload : List Byte) : Dev :=
  let d := d.secUp fun s => { s with out := some (status, payload) }
  match a.path with
  | .relay p => d.flueSend p (.bulk (.response a.sid a.seq status payload))
  | _ =>
    let d := d.sessUp a.sid fun s => { s with cache := s.cache.map fun c => if c.1 == a.seq then (c.1, some (status, payload)) else c }
    let d := if a.sid != 0 then d.shadowSend (.response a.sid a.seq status payload) else d
    let d := d.deliver a (d.respFrame a status uid 2 payload)
    let mine (h : Asked) : Bool := a.sid != 0 && h.sid == a.sid && h.seq == a.seq
    let hs := d.sec.held.filter mine
    let d := d.secUp fun s => { s with held := s.held.filter fun h => !mine h }
    d.forAll hs fun d h => d.answerDuplicate h status payload

/-! ## Steps 3 and 4 -/

/-- A session ends (R463): the staged set it owns is discarded. -/
def Dev.closeSession (d : Dev) (sid : Nat) : Dev :=
  let d := d.secUp fun x => { x with sessions := x.sessions.filter fun s => s.sid != sid, held := x.held.filter fun h => h.sid != sid }
  if d.stage.owner = some sid then d.stageEmpty else d

/-- Step 3 fails: SID 0 with an opcode that needs a session, an unknown session, a failed tag, a key that has tagged 2^32
requests (R463), a credential run out (R501). (DEDUCED, log entry 52.) -/
def Dev.authBad (d : Dev) (op : Nat) (h : CmdHdr) : Bool :=
  if h.sid = 0 then !freeOps.contains op
  else match d.session h.sid with
    | none => true
    | some s =>
      !h.tag || decide (2 ^ 32 ≤ if s.since < h.seq then s.used else s.oldUsed) || (d.ptpOk && decide (s.notAfter < d.ptpSec))

/-- A failed step 3: counted, raised; a session whose credential has run out closes. -/
def Dev.authFail (d : Dev) (h : CmdHdr) : Dev :=
  let d := match d.session h.sid with
    | some s => if d.ptpOk && s.notAfter < d.ptpSec then d.closeSession h.sid else d
    | none => d
  (d.bump F.HRT_CMD_AUTH_CNT).raise 0x1004 [h.sid]

/-- What the sequence rule makes of a request (R460): accepted, seen before, outside the window. -/
inductive SeqRule where
  | accept | duplicate | replay
  deriving DecidableEq, Repr

/-- The sequence rule. -/
def Session.judge (s : Session) (seq : Nat) : SeqRule :=
  if seq = 0 || seq + 64 ≤ s.top then .replay
  else if s.cache.any fun c => c.1 == seq then .duplicate else .accept

/-- A sequence number accepted: the window moves and the cache with it. -/
def Session.take (s : Session) (seq : Nat) : Session :=
  let top := max s.top seq
  { s with top := top, cache := (s.cache.filter fun c => top < c.1 + 64) ++ [(seq, none)] }

/-- The request counts on its key. -/
def Session.count (s : Session) (seq : Nat) : Session :=
  if s.since < seq then { s with used := s.used + 1 } else { s with oldUsed := s.oldUsed + 1 }

/-! ## Steps 5 and 6 -/

/-- Life-cycle permission (R467). -/
def lifecycleOk (lc op : Nat) (p : List Byte) : Bool :=
  if lc = 2 then true
  else if lc = 3 then !([0x21, 0x22, 0x24].contains op || (op == 0x20 && leAt p 0 4 == 1))
  else if lc < 2 then [0x01, 0x02, 0x03, 0x04, 0x05, 0x80, 0x81, 0x82, 0x90, 0x91, 0x92].contains op
  else [0x01, 0x02, 0x92].contains op

/-- The owner authorisation block that ends a payload (Table 20-5). (DEDUCED, log entry 48.) -/
def ownerBlock (p : List Byte) : List Byte := p.drop (p.length - 168)

/-- The block authorises the opcode (R464); before OWNED under the factory key (R510). -/
def Dev.ownerOk (d : Dev) (op : Nat) (h : CmdHdr) (p : List Byte) : Bool :=
  let b := ownerBlock p
  168 ≤ p.length && h.sig && (d.sec.lc < 2 || d.sec.otp.owner.isSome) && d.idOk (b.take 16) && leAt b 16 1 == op
    && (b.drop 24).take 48 == sha384 (p.take (p.length - 168)) && d.get F.HRT_OWNER_CTR < leAt b 20 4

/-- The owner counter becomes the block's, before execution and whatever its outcome (R464). -/
def Dev.ownerCount (d : Dev) (p : List Byte) : Dev :=
  let c := leAt (ownerBlock p) 20 4
  (d.put F.HRT_OWNER_CTR c).secUp fun s => { s with store := { s.store with owner := c } }

/-- The role of a request: its session's, or that of the opcodes that need none; a relayed one has been granted it. -/
def Dev.roleOf (d : Dev) (h : CmdHdr) : Nat :=
  if isRelay h.path then h.role else match d.session h.sid with | some s => s.role | none => 0

/-- A member-only device serves session commands and OBSERVER reads on its own attachments (R405). (DEDUCED, log entry 93.) -/
def Dev.memberRefuses (d : Dev) (op : Nat) (h : CmdHdr) (p : List Byte) : Bool :=
  d.get F.FLU_ROLE_HOST_MODE == 1 && !(isRelay h.path) && (leastRole op p != 1 || op == 0x90)

/-- Step 6 but for the owner's block: role, memories no command may write, R405. -/
def Dev.roleBad (d : Dev) (op : Nat) (h : CmdHdr) (p : List Byte) : Bool :=
  (h.sid != 0 || isRelay h.path) && d.roleOf h < leastRole op p
    || (op == 0x16 && [4, 5, 6].contains (leAt p 0 1)) || d.memberRefuses op h p

/-! ## Step 7 -/

/-- What a request's UID resolves to (R410, R465); a standby hands what does not end at itself to the crown (R416).
(DEDUCED, log entry 96.) -/
def Dev.resolve7 (d : Dev) (op : Nat) (h : CmdHdr) : Target :=
  if localOps.contains op then (if h.uid = 0 || h.uid = d.selfUid then .here else .unreachable)
  else if isRelay h.path && d.fluRole != 2 then .here
  else
    let t := d.resolveUid h.uid
    if d.fluRole != 3 || t = .here then t
    else if d.flu.missing < 2 then .device (d.get F.FLU_ROLE_CROWN_POS) else .unreachable

/-! ## Execution -/

/-- What a command's own part gives: status, payload, the device; what follows the response (a warm reset, a session's
end); whether the response is bound to the next crown frame (R416). -/
structure Ans where
  status : Nat
  payload : List Byte := []
  dev : Dev
  after : Dev → Dev := id
  bound : Bool := false

/-- A status alone, with no effect. -/
def Dev.deny (d : Dev) (status : Nat) : Ans := { status := status, dev := d }
/-- OK with a payload and no effect. -/
def Dev.reply (d : Dev) (payload : List Byte) : Ans := { status := St.ok, payload := payload, dev := d }
/-- OK with an effect. -/
def Dev.done (d : Dev) : Ans := { status := St.ok, dev := d }

/-- A command's own part: the request's header and its payload without the owner's block. -/
abbrev Body : Type := CmdHdr → List Byte → Dev → Ans

/-- A payload without the owner's block. -/
def ownPart (op : Nat) (p : List Byte) : List Byte := if ownerOps.contains op then p.take (p.length - 168) else p

/-- Step 8, and the reserved bytes. (DEDUCED, log entry 36.) -/
def Dev.layoutRefusal (d : Dev) (op : Nat) (h : CmdHdr) (q : List Byte) : Option Ans :=
  if !layoutOk op q || responseLimit h.path < respSize op q then some ((d.bump F.HRT_CMD_LEN_CNT).deny St.badLength)
  else if (reservedBytes op).any fun (o, n) => leAt q o n != 0 then some (d.deny St.badValue)
  else none

/-- Steps 8 to 11 on this device. -/
def Dev.runBody (d : Dev) (op : Nat) (h : CmdHdr) (p : List Byte) (body : Body) : Ans :=
  let q := ownPart op p
  (d.layoutRefusal op h q).getD (body h q d)

/-- The response of a command's own part, and what follows it. -/
def conclude (a : Asked) (x : Ans) : Dev :=
  if x.bound then x.after (x.dev.fluUp fun f => { f with owed := f.owed ++ [⟨a, x.status, x.dev.selfUid, x.payload⟩] })
  else x.after (x.dev.answer a x.status x.dev.selfUid x.payload)

/-- A relay that has all its answers is answered: OK, or the first failing status and its unit (R411, R466). -/
def Dev.relayDone (d : Dev) (r : Relay) : Dev :=
  match r.fail with
  | none => d.answer r.ask St.ok r.unit r.reply
  | some (p, st) => d.answer r.ask st ((d.unitAt p).elim 0 UnitEntry.uid) (if st = St.timeout then [] else r.reply)

/-- A command for another device is sent in a bulk frame (R410, R466). -/
def Dev.relayTo (d : Dev) (a : Asked) (uid role pos : Nat) (p : List Byte) : Dev :=
  let d := d.flueSend pos (.bulk (.command a.opcode uid role a.sid a.seq p))
  d.fluUp fun x => { x with relays := x.relays ++ [{ ask := a, unit := (d.unitAt pos).elim 0 UnitEntry.uid, waiting := 2 ^ pos, sentAt := d.now }] }

/-- A command for every live member of a group (R411): this device's own part first, then the others by bulk frames. -/
def Dev.groupRun (d : Dev) (op : Nat) (h : CmdHdr) (a : Asked) (mask : Nat) (p : List Byte) (body : Body) : Dev :=
  let me := d.fluPos
  let others := clrBit mask me
  let x : Ans := if mask.testBit me then d.runBody op h p body else d.done
  if others = 0 then conclude a x
  else x.after (x.dev.relaySend {
    ask := a, unit := d.get F.FLU_UID_GROUP_UID, waiting := others, sentAt := d.now
    fail := if x.status = St.ok then none else some (me, x.status), reply := x.payload } (d.roleOf h) p)

/-- What a command does when its UID names a group. -/
abbrev GroupBody : Type := CmdHdr → Asked → Nat → List Byte → Dev → Dev

/-- A SETPOINT or CURTAIL that resolves to one device of a group (R412). -/
def Dev.memberSetpoint (d : Dev) (op : Nat) (t : Target) : Bool :=
  (op == 0x21 || op == 0x22) && (match t with
    | .here => d.fluAdmitted || d.fluRole == 2
    | .device _ => d.fluRole == 2
    | _ => false)

/-- Step 6 for an opcode the owner authorises, where the command ends at this device or at the group (R464). -/
def Dev.ownerStep (d : Dev) (op : Nat) (h : CmdHdr) (p : List Byte) (t : Target) : Bool × Dev :=
  match t with
  | .device _ => (true, d)
  | _ =>
    if !ownerOps.contains op then (true, d)
    else if d.ownerOk op h p then (true, d.ownerCount p)
    else (false, (d.bump F.HRT_OWNER_AUTH_CNT).raise 0x1006 [op])

/-- Steps 5 to 11 of R459. -/
def Dev.execute (d : Dev) (op : Nat) (h : CmdHdr) (a : Asked) (p : List Byte) (body : Body) (grp : GroupBody) : Dev :=
  let say (d : Dev) (st : Nat) : Dev := d.answer a st d.selfUid []
  if d.cpr.stopped && !(([0x02, 0x80, 0x81] : List Nat).contains op) then say d St.state
  else if !lifecycleOk d.lc op p then say d St.lifecycle
  else if d.roleBad op h p then say d St.notPermitted
  else
    let t := d.resolve7 op h
    let (ok, d) := d.ownerStep op h p t
    if !ok || d.memberSetpoint op t then say d St.notPermitted else
    match t with
    | .here => conclude a (d.runBody op h p body)
    | .device pos =>
      if responseLimit h.path < respSize op p then say (d.bump F.HRT_CMD_LEN_CNT) St.badLength
      else d.relayTo a (if d.fluRole = 3 then h.uid else 0) (d.roleOf h) pos p
    | .group mask => if groupOps.contains op then grp h a mask p d else say d St.notPermitted
    | _ => say d St.unreachable

/-- Hearth takes commands: no reset holds or is in progress, no power failure, and kindling has loaded the configuration
store or has stopped (R367, R514). (DEDUCED, log entry 123.) -/
def Dev.hearthUp (d : Dev) : Bool :=
  !d.cpr.por && !d.cpr.warm && !d.cpr.waiting && !d.flag F.CPR_STATUS_PFAIL && (d.cpr.rows.testBit 6 || d.cpr.stopped)

/-- A relayed command leaves the queue it waits in, with the role it was granted; none where it does not wait.
(DEDUCED, log entry 102.) -/
def Dev.inboxTake (d : Dev) (src : Nat) (a : Asked) (uid : Nat) (p : List Byte) : Option (Nat × Dev) :=
  (d.flu.inbox.findSome? fun x => match x with
    | (s, .command op u role sid seq q) =>
      if s = src && op == a.opcode && u == uid && sid == a.sid && seq == a.seq && q == p then some (role, x) else none
    | _ => none).map fun (role, x) => (role, d.fluUp fun f => { f with inbox := f.inbox.erase x })

/-- Step 1 of R459, from the header and the doorbell or frame length. -/
def lengthBad (h : CmdHdr) (p : List Byte) : Bool :=
  h.len != p.length || h.len % 4 != 0 || h.frame != 16 + h.len + (if h.sid = 0 then 0 else 16) || requestLimit h.path < h.frame

/-- A host command: every check of R459 in order, then its own part. (DEDUCED, log entry 95.) -/
def Dev.hostCommand (op : Nat) (h : CmdHdr) (p : List Byte) (body : Body) (grp : GroupBody) (d : Dev) : Dev :=
  if !d.hearthUp then d else
  let d := d.netQuiet.flueQuiet
  let a : Asked := ⟨h.path, op, h.sid, h.seq⟩
  match h.path with
  | .relay src => match d.inboxTake src a h.uid p with
    | some (role, d) => d.execute op { h with role := role } a p body grp
    | none => d
  | _ =>
    if lengthBad h p then (d.bump F.HRT_CMD_LEN_CNT).refuse a St.badLength
    else if h.ver != 1 then (d.bump F.HRT_CMD_OPC_CNT).refuse a St.badOpcode
    else if d.authBad op h then (d.authFail h).refuse a St.authFail
    else match d.session h.sid with
    | none => d.execute op h a p body grp
    | some s =>
      let d := d.sessUp h.sid fun s => s.count h.seq
      match s.judge h.seq with
      | .replay => ((d.bump F.HRT_CMD_REPLAY_CNT).raise 0x1005 [h.sid]).refuse a St.replay
      | .duplicate =>
        let d := d.bump F.HRT_CMD_DUP_CNT
        match s.cache.find? fun c => c.1 == h.seq with
        | some (_, some (st, q)) => d.answerDuplicate a st q
        | _ => d.secUp fun x => { x with held := x.held ++ [a] }
      | .accept => (d.sessUp h.sid fun s => s.take h.seq).execute op h a p body grp

end Sys2Proof.Machine
end

