-- ==== Sys2Proof/Machine/Commands.lean ====
section
/-! DEFINITION. What each opcode of Table 20-6 does once every check before its values has passed (steps 9 to 11 of
R459): one body for each opcode, and what the opcodes of unit G do at the crown of a group. -/

namespace Sys2Proof.Machine

/-- A word of a payload; zero bytes; a word as bytes. -/
def wordAt (p : List Byte) (o : Nat) : Word := BitVec.ofNat 32 (leAt p o 4)
def zeros (n : Nat) : List Byte := List.replicate n 0
def Dev.wordBytes (d : Dev) (a : Nat) : List Byte := leBytes 4 (d.word a).toNat

/-- The entries of a COUNT × (ADDR, MASK, VALUE) payload (R468). -/
def entriesOf (p : List Byte) : List RegEntry :=
  (List.range (leAt p 0 4)).map fun i => ⟨leAt p (4 + 12 * i) 4, wordAt p (8 + 12 * i), wordAt p (12 + 12 * i)⟩

/-- The payload that names the first refused entry. -/
def indexPayload (i : Nat) : List Byte := leBytes 2 i ++ zeros 2

/-- A request that names the same thing as a write of one register (Table 20-6). -/
def Dev.writeAs (d : Dev) (e : RegEntry) : Ans :=
  let (st, _, d, _) := d.regWrite false [e]
  { status := st, dev := d }

/-- A status with the device it leaves. -/
def ansOf (x : Nat × Dev) : Ans := { status := x.1, dev := x.2 }
/-- A status and a payload with the device they leave. -/
def ansPay (x : Nat × List Byte × Dev) : Ans := { status := x.1, payload := x.2.1, dev := x.2.2 }

/-! ## Local: ECHO to SESSION_REKEY -/

/-- ECHO. -/
def bodyEcho : Body := fun _ p d => d.reply p

/-- Version of the image in force. -/
def Dev.imgVersion (d : Dev) : Nat := d.fbx.active.elim 0 Image.version

/-- IDENTIFY. -/
def bodyIdentify : Body := fun _ _ d =>
  d.reply (d.devId ++ leBytes 2 0x9164 ++ leBytes 1 0xB1 ++ leBytes 1 d.lc ++ leBytes 1 d.fluRole ++ zeros 3
    ++ leBytes 2 d.selfUid ++ zeros 2 ++ leBytes 4 d.imgVersion ++ leBytes 4 d.pkgVersion)

/-- A signature by the identity key, r then s. -/
def Dev.sign (d : Dev) (msg : List Byte) : List Byte :=
  beBytes 96 (Config.signature (seedKey (d.sec.otp.seed.getD 0) "PLZ ID") msg)

/-- The reason a credential is refused for, 0 where it is not (Table 22-4); `c` is the credential. (DEDUCED, log entry 46.) -/
def Dev.credReason (d : Dev) (h : CmdHdr) (len : Nat) (c : List Byte) : Nat :=
  let role := leAt c 6 1
  let notBefore := leAt c 24 8
  let notAfter := leAt c 32 8
  if len != 332 || leAt c 0 4 != 0x435A4C50 || leAt c 4 2 != 1 || role = 0 || 3 < role || leAt c 7 1 != 0 then 1
  else if !h.sig || (1 < d.lc && d.sec.otp.owner.isNone) then 2
  else if !h.sig2 then 3
  else if !d.idOk ((c.drop 8).take 16) then 4
  else if d.ptpOk && (d.ptpSec < notBefore || notAfter < d.ptpSec) then 5
  else if notAfter < d.sec.store.floor then 6
  else if leAt c 40 4 < d.get F.HRT_CRED_MIN then 7
  else if !d.flag F.HRT_LC_IDENT_OK then 8 else 0

/-- The lowest session number free. -/
def Dev.freeSid (d : Dev) : Nat := ((List.range 17).find? fun i => (d.session (i + 1)).isNone).elim 1 (· + 1)

/-- A fresh device ephemeral key against a host ephemeral public key: the device's public key, and the command key
HKDF gives under an info text (R501). -/
def Dev.freshKey (d : Dev) (host : List Byte) (info : String) : List Byte × Nat × Dev :=
  let (e, d) := d.fresh
  let q := beBytes 96 (Config.publicKey e)
  (q, ofBE (hkdf384 (beBytes 48 (Config.ecdh e host)) d.devId (ascii info ++ host ++ q) 32), d)

/-- The crown shadows a session to its standby (R417). -/
def Dev.shadowSession (d : Dev) (s : Session) : Dev :=
  d.shadowSend (.session s.sid s.role s.serial s.notAfter s.key s.since)

/-- SESSION_OPEN (R500, R501, R508). -/
def bodySessionOpen : Body := fun h p d =>
  let c := p.drop 100
  if !h.good then d.deny St.badValue
  else if 2 ≤ d.hrt.hotTicks then d.deny St.state
  else
    let r := d.credReason h (leAt p 96 4) c
    if r != 0 then ((d.bump F.HRT_CMD_AUTH_CNT).raise 0x1013 [r]).deny St.authFail
    else if 16 ≤ d.sec.sessions.length then d.deny St.busy
    else
      let sid := d.freeSid
      let role := if d.lc < 2 then 1 else leAt c 6 1
      let (q, k, d) := d.freshKey (p.take 96) "PLZ CMD"
      let s : Session := { sid := sid, role := role, serial := leAt c 40 4, notAfter := leAt c 32 8, key := k }
      let d := (d.secUp fun x => { x with sessions := x.sessions ++ [s] }).raise 0x1012 [sid, role, s.serial]
      let d := d.shadowSession s
      let r := leBytes 2 sid ++ leBytes 2 role ++ q ++ d.devId
      d.reply (r ++ d.sign (r ++ p.take 96))

/-- SESSION_CLOSE. -/
def bodySessionClose : Body := fun h _ d => { status := St.ok, dev := d, after := fun d => d.closeSession h.sid }

/-- SESSION_REKEY (R463). -/
def bodySessionRekey : Body := fun h p d =>
  if !h.good then d.deny St.badValue else
  let (q, k, d) := d.freshKey (p.take 96) "PLZ REKEY"
  let d := d.sessUp h.sid fun s => { s with oldKey := s.key, oldUsed := s.used, key := k, used := 0, since := h.seq }
  let d := match d.session h.sid with | some s => d.shadowSession s | none => d
  d.reply (q ++ d.sign (q ++ p.take 96))

/-! ## Registers, staging, memories (R16 to R25, R40, R468 to R471) -/

/-- REG_READ. -/
def bodyRegRead : Body := fun _ p d =>
  let a := leAt p 0 4
  let n := leAt p 4 2
  if 2 ^ 24 ≤ a then d.deny St.badAddress
  else if n = 0 || 480 < n then d.deny St.badValue
  else match d.readRun ((leAt p 6 2).testBit 0) a n with
    | none => d.deny St.badAddress
    | some (ws, d) => d.reply (bytesOf ws)

/-- COUNT of a REG_WRITE or REG_STAGE is out of range. (DEDUCED, log entry 47.) -/
def countBad (p : List Byte) : Bool := leAt p 0 4 = 0 || 160 < leAt p 0 4

/-- REG_WRITE; a warm reset that it requests follows the response (R362). -/
def bodyRegWrite : Body := fun h p d =>
  if countBad p then d.deny St.badValue else
  let (st, i, d', warm) := d.regWrite (d.roleOf h == 2) (entriesOf p)
  { status := st, payload := indexPayload i, dev := d', after := fun d => if warm then d.resetAfter h.path 2 none else d }

/-- REG_STAGE. -/
def bodyRegStage : Body := fun h p d =>
  if countBad p then d.deny St.badValue else
  let (st, i, d) := d.regStage h.sid (entriesOf p)
  { status := st, payload := indexPayload i, dev := d }

/-- MODE and ANGLE of a COMMIT or an activation: none where MODE is unassigned. -/
def modeAngle (p : List Byte) (o : Nat) : Option (Option Nat) :=
  match leAt p o 4 with
  | 0 => some none
  | 1 => some (some (leAt p (o + 4) 4))
  | _ => none

/-- COMMIT. -/
def bodyCommit : Body := fun h p d =>
  match modeAngle p 0 with
  | none => d.deny St.badValue
  | some ang => ansPay (d.commit h.sid ang)

/-- DISCARD_STAGE. -/
def bodyDiscardStage : Body := fun h _ d => ansOf (d.discardStage h.sid)

/-- Size of a memory of Table 1-7. -/
def memSize (id : Nat) : Nat := [0, 0x10000, 0x10000, 0x4400, 0x200000, 0x100000, 0x10000].getD id 0

/-- A memory's words in effect, and its staged copy's. -/
def Dev.memWords (d : Dev) (id : Nat) (staged : Bool) : Mem :=
  let overlay (m : Mem) (l : List (Nat × Word)) : Mem := if staged then l.foldl (fun m (a, w) => Mem.wr m a w) m else m
  match id with
  | 1 => d.fbx.nodes
  | 2 => overlay d.fbx.coef d.stage.coef
  | 3 => overlay d.fbx.lut d.stage.lut
  | 4 => d.trc.buf
  | 5 => d.cap.buf
  | _ => d.flu.unit

/-- Words put into a memory from a word on. -/
def Dev.memPut (d : Dev) (id k : Nat) (ws : List Word) : Dev :=
  match id with
  | 1 => { d with fbx := { d.fbx with nodes := Mem.wrs d.fbx.nodes k ws } }
  | 2 => { d with fbx := { d.fbx with coef := Mem.wrs d.fbx.coef k ws } }
  | 3 => { d with fbx := { d.fbx with lut := Mem.wrs d.fbx.lut k ws } }
  | 4 => { d with trc := { d.trc with buf := Mem.wrs d.trc.buf k ws } }
  | 5 => { d with cap := { d.cap with buf := Mem.wrs d.cap.buf k ws } }
  | _ => { d with flu := { d.flu with unit := Mem.wrs d.flu.unit k ws } }

/-- A range of a memory is refused (R40). -/
def memBad (id off len : Nat) : Bool := memSize id = 0 || off % 4 != 0 || len % 4 != 0 || memSize id < off + len

/-- MEM_READ. -/
def bodyMemRead : Body := fun _ p d =>
  let id := leAt p 0 1
  let off := leAt p 4 4
  let len := leAt p 8 4
  if memBad id off len then d.deny St.badAddress
  else if 1920 < len then d.deny St.badValue
  else d.reply (bytesOf (Mem.rds (d.memWords id ((leAt p 12 4).testBit 0)) (off / 4) (len / 4)))

/-- A node is bound as a host parameter of the image in force (R25). -/
def Dev.hostBound (d : Dev) (n : Nat) : Bool := d.fbx.active.any fun i => i.hostpars.any fun h => h.node == n

/-- Words buffered for host-parameter nodes (R25). -/
def Dev.hostWrite (d : Dev) (ws : List (Nat × Word)) : Dev := d.stageUp fun s => { s with host := s.host ++ ws }

/-- MEM_WRITE (R25, R40). (DEDUCED, log entry 49.) -/
def bodyMemWrite : Body := fun h p d =>
  let id := leAt p 0 1
  let off := leAt p 4 4
  let len := leAt p 8 4
  let ws := runOf (off / 4) (wordsOf (p.drop 12))
  if memBad id off len then d.deny St.badAddress
  else if 1984 < len then d.deny St.badValue
  else if id = 1 then
    if ws.all fun (a, _) => d.hostBound a then (d.hostWrite ws).done else d.deny St.badAddress
  else if d.stageHeld h.sid || d.stage.pending.isSome then d.deny St.busy
  else
    let put (l : List (Nat × Word)) : List (Nat × Word) := (l.filter fun (a, _) => !ws.any fun (b, _) => a == b) ++ ws
    (d.stageUp fun s => if id = 2 then { s with owner := some h.sid, coef := put s.coef }
      else { s with owner := some h.sid, lut := put s.lut }).done

/-! ## Operation: STATE_REQUEST to LOCKOUT_RESET -/

/-- STATE_REQUEST (R285): START 1, STOP 2. -/
def bodyStateRequest : Body := fun _ p d =>
  match leAt p 0 4 with
  | 1 => if d.startRefused then d.deny St.state else (d.supUp fun g => { g with cmd := 1 }).done
  | 2 =>
    if d.gsv ≤ 1 then d.done
    else if 7 ≤ d.gsv then d.deny St.state else (d.supUp fun g => { g with cmd := 2 }).done
  | _ => d.deny St.badValue

/-- The node bound with a tag (Table 3-8). -/
def Dev.tagNode (d : Dev) (tag : Nat) : Option Nat := d.fbx.active.bind fun i => (i.hostpars.find? fun h => h.tag == tag).map HostPar.node

/-- TAG and VALUE pairs of a SETPOINT; those of a CURTAIL. -/
def setpoints (p : List Byte) : List (Nat × Word) :=
  (List.range (leAt p 0 4)).map fun i => (leAt p (4 + 8 * i) 4, wordAt p (8 + 8 * i))

/-- A SETPOINT's count, tags and values are within range (Table 20-6, R473). -/
def setpointBad (p : List Byte) : Bool :=
  leAt p 0 4 = 0 || 4 < leAt p 0 4 || (setpoints p).any fun (t, w) => t = 0 || 4 < t || !f32.finite w.toNat

/-- Values written to the nodes bound with their tags (R473). -/
def Dev.setTags (d : Dev) (l : List (Nat × Word)) : Ans :=
  if l.any fun (t, _) => (d.tagNode t).isNone then d.deny St.badValue
  else (d.hostWrite (l.map fun (t, w) => ((d.tagNode t).getD 0, w))).done

/-- SETPOINT. -/
def bodySetpoint : Body := fun _ p d => if setpointBad p then d.deny St.badValue else d.setTags (setpoints p)

/-- CURTAIL. -/
def bodyCurtail : Body := fun _ p d => if !f32.finite (leAt p 0 4) then d.deny St.badValue else d.setTags [(5, wordAt p 0)]

/-- TRIP (R265). (DEDUCED, log entry 99.) -/
def bodyTrip : Body := fun _ p d =>
  if 1 < leAt p 1 1 then d.deny St.badValue
  else ((d.trip .manual (if leAt p 1 1 = 0 then .a else .b) (leAt p 0 1)).raise 0x080A [leAt p 0 1, leAt p 1 1]).done

/-- CLEAR_TRIP (R272). -/
def bodyClearTrip : Body := fun _ p d =>
  let g := leAt p 0 1
  if d.clearRefused g then d.deny St.state else
  let (d, rel) := d.clearTrip g
  d.reply (leBytes 1 rel ++ zeros 3)

/-- LOCKOUT_RESET (R290). -/
def bodyLockoutReset : Body := fun _ _ d => if d.gsv = 8 then d.lockoutReset.done else d.deny St.state

/-! ## Images and packages -/

/-- TYPE or SLOT out of range. -/
def slotBad (p : List Byte) : Bool := 1 < leAt p 0 1 || 1 < leAt p 1 1

/-- IMG_WRITE. -/
def bodyImgWrite : Body := fun _ p d =>
  if slotBad p || 1984 + 8 < p.length then d.deny St.badValue
  else ansOf (d.imgWrite (leAt p 0 1) (leAt p 1 1) (leAt p 4 4) (p.drop 8))

/-- IMG_VERIFY. -/
def bodyImgVerify : Body := fun h p d =>
  if slotBad p then d.deny St.badValue else
  let (v, d) := d.slotVerify (leAt p 0 1) (leAt p 1 1) h.sig h.sig2
  let (r, src, i) := v.getD (0, 0, 0)
  { status := if v.isSome then St.imageInvalid else St.ok, dev := d
    payload := leBytes 1 r ++ leBytes 1 src ++ leBytes 2 i ++ leBytes 4 (d.slot (leAt p 0 1) (leAt p 1 1)).version }

/-- TYPE, SLOT, KIND or MODE of an activation out of range. -/
def actBad (p : List Byte) : Bool := slotBad p || 1 < leAt p 2 1 || (modeAngle p 4).isNone

/-- IMG_ACTIVATE. -/
def bodyImgActivate : Body := fun _ p d =>
  if actBad p then d.deny St.badValue
  else ansPay (d.imgActivate (leAt p 0 1) (leAt p 1 1) (leAt p 2 1 == 1) ((modeAngle p 4).getD none))

/-- IMG_STATUS. -/
def bodyImgStatus : Body := fun _ _ d =>
  d.reply ([(0, 0), (0, 1), (1, 0), (1, 1)].flatMap fun ((t, s) : Nat × Nat) =>
    leBytes 1 (d.slotState t s) ++ zeros 3 ++ leBytes 4 (d.slot t s).version)

/-- IMG_ERASE. -/
def bodyImgErase : Body := fun _ p d => if slotBad p then d.deny St.badValue else ansOf (d.imgErase (leAt p 0 1) (leAt p 1 1))

/-! ## Metering -/

/-- METER_RECORD (R209, Table 8-9): no identity key signs without IDENT_OK. -/
def bodyMeterRecord : Body := fun _ p d =>
  if !d.flag F.HRT_LC_IDENT_OK then d.deny St.state else
  let r := leBytes 4 0x4D5A4C50 ++ leBytes 2 1 ++ leBytes 2 816 ++ d.devId ++ p.take 16
    ++ leBytes 4 (d.get F.MET_SEQ_LO) ++ leBytes 4 (d.get F.MET_SEQ_HI) ++ leBytes 8 d.snapCyc
    ++ leBytes 8 d.met.snapSec ++ leBytes 4 d.met.snapNs ++ leBytes 4 (d.get F.MET_SNAP_FLAGS)
    ++ (List.range 52).flatMap (fun i => leBytes 12 (d.snapReg i))
    ++ leBytes 4 (d.mget F.MET_RATIO_V) ++ leBytes 4 (d.mget F.MET_RATIO_I) ++ leBytes 4 d.pkgVersion
    ++ leBytes 4 (d.get F.MET_MISSED_CNT) ++ leBytes 4 (d.get F.MET_MISSED_MS_LO) ++ leBytes 4 (d.get F.MET_MISSED_MS_HI)
  d.reply (r ++ d.sign r)

/-- METER_READ. -/
def bodyMeterRead : Body := fun _ _ d =>
  d.reply (leBytes 8 d.snapCyc ++ leBytes 4 (d.get F.MET_SNAP_FLAGS) ++ leBytes 4 (d.get F.MET_SNAP_DUR)
    ++ (List.range 52).flatMap fun i => leBytes 12 (d.snapReg i))

/-- METER_SAVE: a save now (R204). (DEDUCED, log entry 98.) -/
def bodyMeterSave : Body := fun _ _ d =>
  if !d.met.run then d.deny St.state
  else if d.met.saving.isSome then d.deny St.busy
  else
    let seq := d.met.seq
    (d.metWrite (d.metRecord false)).reply (leBytes 8 seq)

/-- PQ_READ. -/
def bodyPqRead : Body := fun _ _ d =>
  d.reply ([F.PQ_STATUS_SAG_PH.addr, F.PQ_URMS.addr, F.PQ_URMS.addr + 4, F.PQ_URMS.addr + 8, F.PQ_SAG_CNT.addr, F.PQ_SWL_CNT.addr,
    F.PQ_INT_CNT.addr, F.PQ_DROP_CNT.addr].flatMap d.wordBytes)

/-! ## Trace, capture, rings -/

/-- TRACE_ARM: REARM and MODE as its flags say. -/
def bodyTraceArm : Body := fun _ p d =>
  d.writeAs ⟨F.TRC_CTRL_ARM.addr, 0x19, BitVec.ofNat 32 (1 + 8 * (leAt p 0 4 % 2) + 16 * (leAt p 0 4 / 2 % 2))⟩
def bodyTraceStop : Body := fun _ _ d => d.writeAs ⟨F.TRC_CTRL_ARM.addr, 2, 2⟩
def bodyTraceForce : Body := fun _ _ d => d.writeAs ⟨F.TRC_CTRL_ARM.addr, 4, 4⟩

/-- TRACE_STATUS. -/
def bodyTraceStatus : Body := fun _ _ d =>
  d.reply ([F.TRC_STATUS_STATE.addr, F.TRC_TRIG_FCNT.addr, F.TRC_MISSED.addr, F.TRC_DROP.addr].flatMap d.wordBytes)

/-- CAPTURE_ARM: REARM as its flag says. -/
def bodyCaptureArm : Body := fun _ p d =>
  d.writeAs ⟨F.CAP_CTRL_ARM.addr, 9, BitVec.ofNat 32 (1 + 8 * (leAt p 0 4 % 2))⟩
def bodyCaptureStop : Body := fun _ _ d => d.writeAs ⟨F.CAP_CTRL_ARM.addr, 2, 2⟩
def bodyCaptureTrigger : Body := fun _ _ d => d.writeAs ⟨F.CAP_CTRL_ARM.addr, 4, 4⟩

/-- CAPTURE_STATUS. -/
def bodyCaptureStatus : Body := fun _ _ d =>
  d.reply ([F.CAP_STATUS_STATE.addr, F.CAP_CAUSE.addr, F.CAP_RETRIG.addr, F.CAP_MISSED.addr].flatMap d.wordBytes)

/-- RING_STATUS. -/
def bodyRingStatus : Body := fun _ p d =>
  let r := leAt p 0 4
  if 15 < r then d.deny St.badValue else
  d.reply ([F.RING_HEAD_HEAD.ix r, F.RING_TAIL_TAIL.ix r, F.RING_STAT_STATE.ix r, F.HST_RING_RECORDS.ix r].flatMap fun f => d.wordBytes f.addr)

/-- EVENT_FILTER (R483). -/
def bodyEventFilter : Body := fun _ p d =>
  if 3 < leAt p 0 1 then d.deny St.badValue
  else ({ d with log := { d.log with filterClass := leAt p 0 1, filterBlocks := leAt p 4 4 } }).done

/-! ## Groups and units -/

/-- GROUP_STATUS of this device alone, or of the group: state and counts, live devices. -/
def Dev.statusPayload (d : Dev) (st : Nat) (counts : List Nat) (live : Nat) : List Byte :=
  leBytes 4 st ++ counts.flatMap (leBytes 1) ++ zeros 3 ++ leBytes 4 live ++ leBytes 4 (d.get F.FLU_EPOCH) ++ leBytes 4 (d.get F.FLU_GFI)

def bodyGroupStatus : Body := fun _ _ d =>
  d.reply (d.statusPayload d.gsv ((List.range 9).map fun s => if s = d.gsv then 1 else 0) 1)

/-- GROUP_MEASURE of this device alone. (DEDUCED, log entry 14.) -/
def bodyGroupMeasure : Body := fun _ _ d =>
  let f := d.memberFrame
  d.reply (bytesOf [f.p, f.q, f.v1, f.f] ++ leBytes 4 1 ++ leBytes 4 f.mgfi)

/-- A mean by rating of words of member frames: positions and values (Table 17-6). -/
def Dev.meanByRating (d : Dev) (l : List (Nat × Word)) : Nat :=
  let ws := l.map fun (p, w) => rmul (d.rating p) (widen w.toNat)
  narrow (f64.div (f64.sum ws) (f64.sum (l.map fun (p, _) => d.rating p)))

/-- The member frames of the window that closed before boundary b, with their positions. -/
def Dev.windowAt (d : Dev) (b : Nat) : List (Nat × MemberFrame) :=
  d.livePos.filterMap fun p =>
    let m := d.flu.mem.getD p {}
    match m.frame, m.prev with
    | some f, some (_, g) => if f.mgfi + 1 == b then some (p, f) else if g.mgfi + 1 == b then some (p, g) else none
    | some f, none => if f.mgfi + 1 == b then some (p, f) else none
    | none, _ => none

/-- GROUP_MEASURE of the group: the latest complete window. -/
def Dev.measurePayload (d : Dev) : List Byte :=
  let w := d.windowAt (d.get F.FLU_AGG_GFI + 1)
  leBytes 4 (d.get F.FLU_AGG_P) ++ leBytes 4 (d.get F.FLU_AGG_Q) ++ leBytes 4 (d.meanByRating (w.map fun (p, f) => (p, f.v1)))
    ++ leBytes 4 (d.meanByRating (w.map fun (p, f) => (p, f.f))) ++ leBytes 4 (d.get F.FLU_AGG_N) ++ leBytes 4 (d.get F.FLU_AGG_GFI)

/-- ROLE_SET, at the crown (R409, R416): its record goes with the next crown frame, and its response after it.
(DEDUCED, log entry 104.) -/
def bodyRoleSet : Body := fun _ p d =>
  let pos := leAt p 4 4
  if d.fluRole != 2 then d.deny St.notPermitted else
  match leAt p 0 4 with
  | 1 =>
    if !d.flag F.FLU_ROLE_STANDBY_EN then d.deny St.state else
    { status := St.ok, bound := true, dev := d.fluUp fun f => { f with cmds := f.cmds ++ [.handover (d.get F.FLU_ROLE_STANDBY_POS)] } }
  | 2 =>
    if !d.liveMask.testBit pos || pos = d.fluPos || !(d.unitAt pos).any (fun e => e.flags.testBit 2) then d.deny St.badValue else
    { status := St.ok, bound := true, dev := d.fluUp fun f => { f with cmds := f.cmds ++ [.standby pos] } }
  | _ => d.deny St.badValue

/-- A unit is live: a device of the ring by its position, a group by one of its devices. -/
def Dev.unitLive (d : Dev) (e : UnitEntry) : Bool :=
  match e.kind with
  | 1 => d.liveMask.testBit e.pos
  | 2 => d.ringDevs.any fun x => d.liveMask.testBit x.pos && below (unitEntries d.flu.unit) e.uid 4096 x.parent
  | _ => false

/-- UNIT_READ, at the crown. -/
def bodyUnitRead : Body := fun _ p d =>
  let uid := leAt p 0 2
  if d.fluRole != 2 then d.deny St.notPermitted else
  match (List.range 4096).find? fun i => (unitEntry d.flu.unit i).kind != 0 && (unitEntry d.flu.unit i).uid == uid with
  | none => d.deny St.unreachable
  | some i => d.reply (Mem.bytes d.flu.unit (16 * i) 16 ++ leBytes 1 (if d.unitLive (unitEntry d.flu.unit i) then 1 else 0) ++ zeros 3)

/-! ## Network and time -/

/-- The key-encryption key of the owner (R504). -/
def Dev.ownerKek (d : Dev) : List Byte :=
  let owner := ((d.sec.certs.find? fun c => c.1 == 4).map Prod.snd).getD []
  hkdf384 (beBytes 48 (Config.ecdh (seedKey (d.sec.otp.seed.getD 0) "PLZ KA") owner)) d.devId (ascii "PLZ KEK") 32

/-- The key that a wrapped key holds, of 16 bytes for ALG 2 (R503). -/
def Dev.unwrapped (d : Dev) (alg : Nat) (wrapped : List Byte) : List Byte :=
  (beBytes 32 (Config.unwrap d.ownerKek wrapped)).take (if alg = 2 then 16 else 32)

/-- KEY_DELIVER (R393, R503 to R505). -/
def bodyKeyDeliver : Body := fun h p d =>
  let mask := leAt p 0 32
  let alg := leAt p 36 1
  let k : NetKey := { id := leAt p 32 4, alg := alg, start := leAt p 40 8, stop := leAt p 48 8, key := d.unwrapped alg ((p.drop 56).take 40) }
  if alg = 0 || 3 < alg || (mask = 0 && alg != 3) || !h.good then d.deny St.badValue else
  let d := if mask = 0 then d.fluUp fun f => { f with keyNext := some k } else d.forAll (bitList 256 mask) fun d i => d.keyDeliver i k
  (d.raise 0x1014 [k.id]).done

/-- CTX_STATUS. -/
def bodyCtxStatus : Body := fun _ p d =>
  let i := leAt p 0 4
  if 255 < i then d.deny St.badValue else
  d.reply ([0, 4, 8, 12].flatMap (fun o => d.wordBytes ((F.NET_CTX_STAT_VALID.ix i).addr + o))
    ++ [0, 4, 8, 12].flatMap fun o => d.wordBytes ((F.NET_KEY_CUR.ix i).addr + o))

/-- TIME_READ. -/
def bodyTimeRead : Body := fun _ _ d =>
  d.reply (leBytes 8 d.ptpSec ++ leBytes 4 d.ptpSub ++ leBytes 8 d.flueTime
    ++ leBytes 4 ((if d.ptpOk then 1 else 0) + (if d.flag F.FLU_STATUS_TIME_OK then 2 else 0)))

/-! ## CAN -/

/-- CAN_SEND: buffer and REQ in one step (R424 to R426). -/
def bodyCanSend : Body := fun _ p d =>
  let c := leAt p 0 1
  let m := leAt p 1 1
  if 1 < c || 63 < m then d.deny St.badValue else
  let (e, st) := d.canRequest c m
  if st != 0 then d.deny st else
  let e := (e.setWord (mbF F.CAN_MB_ID c m).addr (wordAt p 4)).put (mbF F.CAN_MB_DLC c m) (leAt p 8 4 % 16)
  (e.putMbData c m (wordsOf (p.drop 12))).done

/-- CAN_READ: a copy taken under R428, which clears NEWDATA first. (DEDUCED, log entry 13.) -/
def bodyCanRead : Body := fun _ p d =>
  let c := leAt p 0 1
  let m := leAt p 1 1
  if 1 < c || 63 < m then d.deny St.badValue else
  let d := d.put (mbF F.CAN_MB_NEWDATA c m) 0
  let a := (mbF F.CAN_MB_ID c m).addr
  d.reply ([0, 4, 8].flatMap (fun o => d.wordBytes (a + o)) ++ bytesOf (d.mbData c m 16))

/-! ## Log and sensors (R477 to R483) -/

/-- LOG_READ. -/
def bodyLogRead : Body := fun _ p d =>
  if 1 < leAt p 0 1 || 60 < leAt p 8 4 then d.deny St.badValue
  else d.reply ((d.logFrom (leAt p 0 1) (leAt p 4 4) (leAt p 8 4)).flatMap LogEntry.bytes)

/-- LOG_EXPORT (R482, Table 21-3). -/
def bodyLogExport : Body := fun _ p d =>
  let region := leAt p 0 1
  let n := leAt p 8 4
  if 1 < region || n = 0 || 1024 < n then d.deny St.badValue else
  match d.flag F.HRT_LC_IDENT_OK, d.ringOfUse 4 with
  | true, some r =>
    let es := d.logFrom region (leAt p 4 4) n
    let first := es.head?.elim (leAt p 4 4) LogEntry.num
    let (tag, d) := d.tagBefore region first
    let (nonce, d) := d.fresh
    let x := leBytes 2 0x5801 ++ leBytes 1 region ++ zeros 1 ++ leBytes 4 first ++ leBytes 4 es.length ++ zeros 4 ++ d.devId
      ++ tag ++ leBytes 8 d.ptpSec ++ leBytes 16 nonce ++ es.flatMap LogEntry.bytes
    (d.ringQueue r ⟨.exportRec region (first + es.length), x ++ d.sign x⟩).done
  | _, _ => d.deny St.state

/-- SENSOR_READ. -/
def bodySensorRead : Body := fun _ _ d =>
  d.reply ((List.range 6).flatMap (fun i => leBytes 4 (d.temp i)) ++ d.wordBytes F.CPR_RAIL_GOOD.addr ++ leBytes 4 (d.get F.HRT_TAMPER))

/-! ## Life cycle and trust -/

/-- Table 22-8's rows that LC_TRANSITION takes; true where the GSV condition applies. -/
def lcRow (here goal : Nat) : Option Bool :=
  match here, goal with
  | 1, 4 => some false
  | 2, 3 => some true
  | 3, 2 => some false
  | 2, 4 => some true
  | 3, 4 => some true
  | _, _ => none

/-- An accepted transition: the response, then the warm reset with the target pending (R511). -/
def Dev.lcAccept (d : Dev) (path : Path) (goal : Nat) : Ans :=
  { status := St.ok, dev := d, after := fun d => d.resetAfter path 5 (some goal) }

/-- LC_TRANSITION (R510, R511). -/
def bodyLcTransition : Body := fun h p d =>
  let t := leAt p 0 1
  if 4 < t then d.deny St.badValue else
  match lcRow d.lc t with
  | none => d.deny St.state
  | some gsv => if gsv && !(d.gsv ≤ 1 || 7 ≤ d.gsv) then d.deny St.state else d.lcAccept h.path t

/-- PROVISION (R497). -/
def bodyProvision : Body := fun h p d =>
  if !h.good then d.deny St.badValue
  else if d.lc != 1 then d.deny St.state
  else if !h.sig then d.deny St.authFail
  else
    let key := p.take 96
    let d := (d.put F.HRT_OWNER_CTR 0).secUp fun s => { s with
      otp := { s.otp with owner := some (sha384 key) }
      store := { s.store with owner := 0 }
      certs := (s.certs.filter fun c => c.1 != 4) ++ [(4, key)] }
    d.lcAccept h.path 2

/-- ATTEST (R507, Table 20-7): without IDENT_OK no key signs; in SCRAPPED the signature is zeros. (DEDUCED, log entry 103.) -/
def bodyAttest : Body := fun _ p d =>
  if d.lc != 4 && !d.flag F.HRT_LC_IDENT_OK then d.deny St.state else
  let r := leBytes 4 0x415A4C50 ++ leBytes 4 d.lc ++ d.devId ++ p.take 16 ++ d.fbx.active.elim (zeros 32) Image.hash
    ++ leBytes 4 d.imgVersion ++ leBytes 4 d.pkgVersion ++ d.sec.otp.owner.getD (zeros 48)
  d.reply (r ++ if d.lc = 4 then zeros 96 else d.sign r)

/-! ## Draught -/

/-- DRAUGHT (R343): a START in HELD or LOST completes with STATE, remembered in HELD. -/
def bodyDraught : Body := fun _ p d =>
  let c := leAt p 0 1
  if 1 < c then d.deny St.badValue else
  match leAt p 1 1 with
  | 1 => let (d, bad) := d.drtStart c; { status := if bad then St.state else St.ok, dev := d }
  | 2 => (d.drtStop c).done
  | 3 => (d.drtClear c).done
  | 4 => (d.drtSetp c (wordAt p 4)).done
  | _ => d.deny St.badValue

/-! ## At the crown of a group -/

/-- What an opcode of unit G does by default in a group: every live member executes it (R411). -/
def grpAll (op : Nat) (body : Body) : GroupBody := fun h a mask p d => d.groupRun op h a mask p body

/-- An opcode of no group. -/
def grpNone : GroupBody := fun _ a _ _ d => d.answer a St.notPermitted d.selfUid []

/-- Steps 8 to 11 of a command that the crown answers for its group. -/
def Dev.groupOwn (d : Dev) (op : Nat) (h : CmdHdr) (a : Asked) (p : List Byte) (k : List Byte → Dev → Ans) : Dev :=
  let q := ownPart op p
  conclude a ((d.layoutRefusal op h q).getD (k q d))

/-- The group's setpoints and shares go to the standby (R417). -/
def Dev.shadowGroup (d : Dev) : Dev :=
  let f := d.flu
  let w (x : Nat) : Word := BitVec.ofNat 32 (narrow x)
  d.shadowSend (.group [w f.spP, w f.spQ, f.spV, f.spF, w f.spC]
    ((List.range 64).map fun p => (w (d.shareOf 0 p), w (d.shareOf 1 p), w (d.shareOf 2 p))))

/-- SETPOINT to the group (R411, R412, R416). -/
def grpSetpoint : GroupBody := fun h a _ p d => d.groupOwn 0x21 h a p fun q d =>
  if setpointBad q then d.deny St.badValue
  else { status := St.ok, bound := true, dev := (d.forAll (setpoints q) fun d (t, w) => d.groupSetpoint t w).shadowGroup }

/-- CURTAIL to the group. -/
def grpCurtail : GroupBody := fun h a _ p d => d.groupOwn 0x22 h a p fun q d =>
  if !f32.finite (leAt q 0 4) then d.deny St.badValue
  else { status := St.ok, bound := true, dev := (d.groupSetpoint 5 (wordAt q 0)).shadowGroup }

/-- GROUP_STATUS and GROUP_MEASURE of the group (Table 17-6). -/
def grpStatus : GroupBody := fun h a _ p d => d.groupOwn 0x60 h a p fun _ d =>
  let (st, counts) := d.groupState
  d.reply (d.statusPayload st counts (popCount 64 d.liveMask))
def grpMeasure : GroupBody := fun h a _ p d => d.groupOwn 0x61 h a p fun _ d => d.reply d.measurePayload

/-- A group transaction begins (R413): its PREPARE goes with the next crown frame; a second one finds the crown busy. -/
def Dev.groupBegin (d : Dev) (a : Asked) (act : Option (Nat × Nat × Bool)) (angle : Option Nat) (own : Nat) : Dev :=
  if d.flu.tx.isSome then d.answer a St.busy d.selfUid [] else
  let i := (d.flu.ident + 1) % 65536
  d.fluUp fun f => { f with ident := i, tx := some { ident := i, act := act, angle := angle, own := own, ask := a } }

/-- COMMIT to the group. (DEDUCED, log entry 97.) -/
def grpCommit : GroupBody := fun h a _ p d =>
  match d.layoutRefusal 0x13 h p, modeAngle p 0 with
  | some x, _ => conclude a x
  | none, none => d.answer a St.badValue d.selfUid []
  | none, some ang => d.groupBegin a none ang (d.commit h.sid ang).1

/-- IMG_ACTIVATE to the group. -/
def grpImgActivate : GroupBody := fun h a _ p d =>
  match d.layoutRefusal 0x32 h p with
  | some x => conclude a x
  | none =>
    if actBad p then d.answer a St.badValue d.selfUid [] else
    let act := (leAt p 0 1, leAt p 1 1, leAt p 2 1 == 1)
    d.groupBegin a (some act) ((modeAngle p 4).getD none) (d.actStatus act.1 act.2.1 act.2.2)

/-! ## Group frames and commands together (R413, R416, R417, R466) -/

/-- The status of a COMMIT, or an activation, on this device, whoever owns the staged set. -/
def Dev.prepareStatus (d : Dev) (act : Option (Nat × Nat × Bool)) : Nat :=
  match act with
  | none => (d.commit (d.stage.owner.getD 0) none).1
  | some (t, s, live) => d.actStatus t s live

/-- A transaction comes to pass on this device at an angle: its status, payload, device. -/
def Dev.goOn (d : Dev) (act : Option (Nat × Nat × Bool)) (angle : Nat) : Nat × List Byte × Dev :=
  match act with
  | none => d.commit (d.stage.owner.getD 0) (some angle)
  | some (t, s, live) => d.imgActivate t s live (some angle)

/-- A response that the crown gave is in the standby's replay cache (R417). -/
def Dev.replyKept (d : Dev) (sid seq st : Nat) (payload : List Byte) : Dev :=
  d.sessUp sid fun s =>
    let s := s.take seq
    { s with cache := s.cache.map fun c => if c.1 == seq then (seq, some (st, payload)) else c }

/-- A record of R413 at a member, or of R416 at the standby. -/
def Dev.txRecord (d : Dev) (c : CrownCmd) : Dev :=
  match c with
  | .reply sid seq st payload => if d.fluRole = 3 then d.replyKept sid seq st payload else d
  | .prepare ident act =>
    d.fluUp fun f => { f with verdict := ident + d.prepareStatus act * 65536, prepared := some (ident, act) }
  | .go ident angle =>
    match d.flu.prepared with
    | some (i, act) => if i = ident then (d.goOn act angle).2.2.fluUp fun f => { f with prepared := none } else d
    | none => d
  | .abort ident => d.fluUp fun f => { f with prepared := f.prepared.filter fun x => x.1 != ident }
  | _ => d

/-- CROWN_FRAME_RECEIVE, with what its records do. -/
def Dev.crownFrameIn (d : Dev) (h : FlueHdr) (f : CrownFrame) (dt : Nat) : Dev :=
  d.flueTake h (.crown f) dt fun d => Dev.crownTaken (fun d c => (d.crownRecord c).txRecord c) d h f

/-- A link still has a crown frame of this device to send, or to end. -/
def FluePort.crownBusy (x : FluePort) (now : Nat) : Bool :=
  decide (now < x.crown) || x.waiting.any fun e => match e.frame with | .crown _ => e.hops == 63 | _ => false

/-- The responses bound to a crown frame are written once it has been sent (R416), with the next posting of a response or
management tick. (DESIGN CHOICE, log entry 151.) -/
def Dev.payBound (d : Dev) : Dev :=
  let l := d.flu.bound
  if l.isEmpty || d.flu.ports.any (fun x => x.crownBusy d.now) then d else
  (d.fluUp fun f => { f with bound := [] }).forAll l fun d o => d.answer o.ask o.status o.uid o.payload

/-- GROUP_FRAME_BOUNDARY: the boundary, and a transaction decided at it (R413), whose response is bound to the crown frame
that carries it. -/
def Dev.groupFrame (d : Dev) : Dev :=
  let (d, done) := d.flueBoundary
  let bind (d : Dev) (o : Owed) : Dev := d.fluUp fun f => { f with bound := f.bound ++ [o] }
  match done with
  | none => d
  | some (t, status, pos) =>
    if status != 0 then bind d ⟨t.ask, status, (d.unitAt pos).elim 0 UnitEntry.uid, []⟩ else
    let (st, payload, d) := d.goOn t.act (t.angle.getD 0)
    bind d ⟨t.ask, st, d.selfUid, payload⟩

/-- BULK_FRAME_RECEIVE: a relayed command waits, or an answer completes its relay. -/
def Dev.bulkIn (d : Dev) (h : FlueHdr) (b : BulkBody) (dt : Nat) : Dev :=
  d.flueTake h (.bulk b) dt fun d =>
    let (d, r) := d.bulkTaken h b
    match r with | some r => d.relayDone r | none => d

/-- RELAY_TIMEOUT (R466). -/
def Dev.relayLate (d : Dev) : Dev :=
  let (d, r) := d.relayTimeout
  match r with | some r => d.relayDone r | none => d

/-- A session shadowed to the standby, or a session's new key (R417). -/
def Dev.shadowed (d : Dev) (s : Session) : Dev :=
  match d.session s.sid with
  | some _ => d.sessUp s.sid fun o => if o.key = s.key then o else
      { o with oldKey := o.key, oldUsed := o.used, key := s.key, used := 0, since := s.since }
  | none => d.secUp fun x => { x with sessions := x.sessions ++ [s] }

/-- A shadow frame accepted: the standby keeps sessions, responses and shares as the crown has them (R417). -/
def Dev.shadowTaken (d : Dev) (b : ShadowBody) : Dev :=
  if d.fluRole != 3 then d else
  match b with
  | .session sid role serial notAfter key since =>
    d.shadowed { sid := sid, role := role, serial := serial, notAfter := notAfter, key := key, since := since }
  | .response sid seq st payload => d.replyKept sid seq st payload
  | .group sp sh => d.shadowShares sp sh

/-- SHADOW_FRAME_RECEIVE. -/
def Dev.shadowIn (d : Dev) (h : FlueHdr) (b : ShadowBody) (dt : Nat) : Dev :=
  d.flueTake h (.shadow b) dt fun d => d.shadowTaken b

end Sys2Proof.Machine
end

