-- ==== Sys2Proof/Machine/System.lean ====
section
/-! DEFINITION. What several blocks do at one instant: the common-angle sample, the line-cycle boundary, the device frame
start, the management tick; JTAG; and the views of the state that every command leaves consistent. -/

namespace Sys2Proof.Machine

/-! ## When a command can act -/

/-- No reset holds and none is in progress. (DEDUCED, log entry 4.) -/
def Dev.awake (d : Dev) : Bool := !d.cpr.por && !d.cpr.warm && !d.cpr.waiting

/-- A change that a device held in reset does not undergo. (DESIGN CHOICE, log entry 3.) -/
def whenAwake (f : Dev → Dev) (d : Dev) : Dev := if d.awake then f d else d

/-- A change that a device undergoes at any time outside power-on reset: a response on its way is still posted while a
warm reset waits for the ember sequence. -/
def whenPowered (f : Dev → Dev) (d : Dev) : Dev := if d.cpr.por then d else f d

/-- A change that needs the configuration store loaded and no power-fail hold: whatever the angle paces. -/
def whenPaced (f : Dev → Dev) (d : Dev) : Dev := if d.kindling 6 then f d else d

/-! ## Angle-paced instants -/

/-- COMMON_ANGLE_SAMPLE (R46): the bits of each modulator channel since the instant before; every consumer of F2. -/
def Dev.commonSample (bits : List (List Bool)) (d : Dev) : Dev :=
  let u := 2 ^ 48 / d.S
  let n := d.seriesIndex u 0 d.time.nextSample
  let d := d.toPhase (n * u)
  let d := { d with time := { d.time with nextSample := n + 1, samples := d.time.samples + 1 } }
  let d := ((d.sdmBits (n * u) bits).f3Adopt.sdmSample).gsvAdopt
  let d := d.angSample (n * (2 ^ 32 / d.S))
  let d := (d.gsvSample d.netPermit).pqSample (n % d.S) (n * u)
  (d.metSample.svTake (n * u)).captureSample

/-- LINE_CYCLE_BOUNDARY (R61): the crossing, and what a counted one closes and opens. -/
def Dev.lineCycle (d : Dev) : Dev :=
  let (d, counted) := d.angCrossing
  if !counted then d else d.drBoundary.metBoundary.metSettingsAdopt.npCycle.srcChange.gsvBoundary

/-- The adoptions due at the frame start now; one at most is pending (R96). -/
def Dev.dueAdoptions (d : Dev) : Dev := d.stageAdopt.imageAdopt.packageAdopt

/-- The input region of the frame that starts (R82). -/
def Dev.inputNodes (d : Dev) (angle : Nat) (f : Word) (last : Option Nat) : List (Nat × Word) :=
  let f1 := (List.range 24).map fun n => (0x0100 + n, (d.sch n).f1)
  d.angNodes angle f ++ d.gsvNodes ++ d.metNodes ++ d.pqNodes ++ f1 ++ d.sarNodes ++ d.canNodes last ++ d.flueNodes
    ++ [(0x0260, BitVec.ofNat 32 d.latched)] ++ d.drtNodes ++ d.stage.host

/-- The input region is written where an image is active: with none, node memory holds zeros (R74, R82). Host words that an
activation at this frame start finds buffered are applied over the new image's values. (DESIGN CHOICE, log entry 139.) -/
def Dev.latchInputs (d : Dev) (angle : Nat) (f : Word) (last : Option Nat) : Dev :=
  if d.fbx.active.isSome then d.putNodes (d.inputNodes angle f last) else d

/-- DEVICE_FRAME_START (R82): the frame before ends, what is due is adopted, ports and input nodes are latched.
Buffered host words outlive an adoption here. (DESIGN CHOICE, log entry 139.) -/
def Dev.deviceFrame (bits : List (List Bool)) (d : Dev) : Dev :=
  let last := if d.time.frames = 0 then none else some d.fbx.frameAt
  let e := d.toFrameStart
  let d := (e.sdmBits (e.frameIndex * (2 ^ 48 / e.S) + e.phi48) bits).dueAdoptions
  let k := d.frameIndex
  let d := d.toPhase (k * (2 ^ 48 / d.S) + d.phi48)
  let d := { d with time := { d.time with nextFrame := k + 1, frames := d.time.frames + 1 } }
  let angle := k * (2 ^ 32 / d.S) + d.get F.ANG_PHI
  let f := d.word F.ANG_F.addr
  let d := (d.wrapInc F.ANG_FCNT).copyPorts
  let d := (d.traceFrameInfo (angle % 2 ^ 32)).formFrame.gsvFrame
  let fcnt := d.get F.ANG_FCNT
  let d := (d.canPorts fcnt).drtFrame.sdmF1.sarIdle
  let d := d.put F.ANG_THETA d.ang.theta
  let d := (d.latchInputs angle f last).stageUp fun s => { s with host := [] }
  (d.frameBegin fcnt d.gsvBank).sarFrame fcnt (!d.cpr.d2dLost)

/-! ## The management tick (R474) -/

/-- The time floor follows the PTP second while PTP time is valid (R500). -/
def Dev.floorTick (d : Dev) : Dev :=
  if !d.ptpOk || d.ptpSec ≤ d.sec.store.floor then d else
  let t := d.ptpSec
  (d.secUp fun s => { s with store := { s.store with floor := t } }).put F.HRT_TIME_FLOOR t

/-- MANAGEMENT_TICK: the next whole millisecond that has not had its tick; the die temperatures read, and whether the heartbeat came. -/
def Dev.managementTick (temps : List Word) (heartbeat : Bool) (d : Dev) : Dev :=
  let d := d.advanceTo (d.time.tickAt + msec)
  let d := { d with time := { d.time with tick := d.time.tick + 1, tickAt := d.now / msec * msec }, log := { d.log with tickCodes := [] } }
  let d := d.secUp fun s => { s with blocked := false }
  let d := d.hwdtTick.cprUp fun c => { c with beats := if heartbeat then 0 else c.beats + 1 }
  let d := (d.sensorTick temps).mpptTick.metTick.forceTick.ppsTick.ptpTick
  (d.put F.HRT_TAMPER_CNT_CNT (min 15 d.tamperWindow.length)).floorTick.payBound

/-! ## JTAG (R517) -/

/-- Table 22-10. -/
def jtagPermits (lc : Nat) (j : Jtag) : Bool :=
  match j with
  | .bypass => true
  | .idcode => true
  | .sample => true
  | .extest _ => lc == 0 || lc == 3 || lc == 4
  | .clamp _ => lc == 0 || lc == 3 || lc == 4
  | .highz => lc == 0 || lc == 3 || lc == 4
  | _ => lc == 0

/-- The number of a pin-driving instruction in the event's data. (DEDUCED, log entry 100.) -/
def jtagPins : Jtag → Option Nat
  | .extest _ => some 3
  | .clamp _ => some 4
  | .highz => some 5
  | _ => none

/-- The first 0x80 bytes of OTP (Table 22-2), and OTP with them. -/
def Otp.head (o : Otp) : List Byte :=
  beBytes 48 (o.seed.getD 0) ++ o.devId ++ o.owner.getD (zeros 48) ++ o.lcf.flatMap (leBytes 4)
def Otp.withHead (o : Otp) (b : List Byte) : Otp :=
  let seed := ofBE (b.take 48)
  let owner := (b.drop 64).take 48
  { o with
    seed := if seed = 0 then none else some seed
    devId := (b.drop 48).take 16
    owner := if owner == zeros 48 then none else some owner
    lcf := (List.range 4).map fun i => leAt b (112 + 4 * i) 4 }

/-- The floor words of a type from OTP, newest first, with bytes programmed at an offset among them. -/
def floorsWith (l : List Nat) (off : Nat) (bytes : List (Nat × Byte)) : List Nat :=
  let old := l.reverse.flatMap (leBytes 4) ++ zeros (512 - 4 * l.length)
  let new := bytes.foldl (fun m (a, b) => if off ≤ a ∧ a < off + 512 then m.modify (a - off) (· ||| b) else m) old
  ((wordsOf new).map BitVec.toNat |>.filter (· != 0)).reverse

/-- OTP programming sets bits and clears none (R513). (DEDUCED, log entry 101.) -/
def Dev.otpProgram (d : Dev) (off : Nat) (bytes : List Byte) : Dev :=
  let bs := (List.range bytes.length).map fun i => (off + i, bytes.getD i 0)
  let head := bs.foldl (fun m (a, b) => if a < 0x80 then m.modify a (· ||| b) else m) d.sec.otp.head
  let rest := bs.foldl (fun m (a, b) =>
    if 0x480 ≤ a ∧ a < 0x2000 then
      Mem.wr m (a - 0x480) (Mem.rd m (a - 0x480) ||| b.zeroExtend 32) else m)
    (d.sec.otp.rest.map fun (a, v) => (a, BitVec.ofNat 32 v))
  let d := d.secUp fun s => { s with otp := { s.otp.withHead head with rest := rest.map fun (a, w) => (a, w.toNat) } }
  (d.hrtUp fun h => { h with floorImg := floorsWith h.floorImg 0x80 bs, floorPkg := floorsWith h.floorPkg 0x280 bs }).mramRegs

/-- JTAG_INSTRUCTION: what is not permitted acts as BYPASS, and a blocked pin-driving one is an event once per tick. Of a
register and memory access, a write has an effect here, at once and in any memory of Table 1-7. (DEDUCED, log entry 159.) -/
def Dev.jtagRun (j : Jtag) (d : Dev) : Dev :=
  if !jtagPermits d.lc j then
    let d := d.secUp fun s => { s with jtag := .bypass }
    match jtagPins j with
    | some n => if d.sec.blocked then d else (d.secUp fun s => { s with blocked := true }).raise 0x1018 [n]
    | none => d
  else
    let d := d.secUp fun s => { s with jtag := j }
    match j with
    | .register a v => match rowAt a with
      | some (r, _) => (d.writeEntry false ⟨a, BitVec.ofNat 32 (r.rw ||| r.lc ||| r.w1c ||| r.act), v⟩).2.1
      | none => d
    | .memory id off ws => if memBad id off (4 * ws.length) then d else d.memPut id (off / 4) ws
    | .otp off bytes => d.otpProgram off bytes
    | .certs l => d.secUp fun s => { s with certs := l }
    | _ => d

/-- JTAG_LC_COMMIT (Table 22-8): seed written, KINDs 1 to 3 present and matching; TEST to VENDOR. -/
def Dev.lcCommit (cert : Bool) (d : Dev) : Dev :=
  if d.lc != 0 then d.secUp fun s => { s with jtag := .bypass }
  else if ([1, 2, 3].all fun k => d.sec.certs.any fun c => c.1 == k) && d.identityOk cert then
    (d.secUp fun s => { s with store := { s.store with pend := some 1 } }).warmReset 5
  else d

/-! ## Derived views -/

/-- Fields that show other parts of the state. -/
def Dev.views (d : Dev) : Dev :=
  let d := (d.dmpRegs.put F.SDM_STATUS_CLK_OK d.sdmClkOk).putB F.ANG_STATUS_PTP_VALID d.ptpOk
  let d := (d.put F.PWM_STATUS_SYNC_ROLE d.syncRole).putB F.HRT_STATUS_ACT_PEND d.hrt.act.isSome
  let d := if d.syncRole = 2 then d else d.put F.PWM_STATUS_SYNC_SUBST 0
  let d := d.putB F.FBX_STATUS_LIVE_PEND (match d.hrt.act with | some a => a.live && !a.pkg | none => false)
  (d.put F.HRT_SESS_OPEN d.sec.sessions.length).devstat

/-- What follows every command at once: holds of Draught and of the legs, contactors, group time, kindling's rows, views.
(DESIGN CHOICE, log entry 9.) -/
def Dev.settle (d : Dev) : Dev :=
  (whenAwake (fun d => d.lockouts.netDrains.flueDrains) d.gridSync).drtHolds.holdUpdate.ctlUpdate.ctlFeedback.flueBase.cprRegs.gdrRegs.drtRegs.views

/-- A command's meaning: its effect on the device, then what follows at once. The queue is not touched. -/
def run (f : Dev → Dev) (s : State) : Host.Outcome State Fault Refusal := .next { s with dev := (f s.dev).settle }

end Sys2Proof.Machine
end

