-- ==== Sys2Proof/Machine/Rows.lean ====
section
/-! DEFINITION. The last pieces of single rows of the opcode table: writes of one register, and events that several
blocks' operations make up. -/

namespace Sys2Proof.Machine

/-! ## Single registers (R9, R468) -/

/-- The status and payload of a command outside the frames of R456. -/
def Dev.say (d : Dev) (st : Nat) (payload : List Byte := []) : Dev := d.secUp fun s => { s with out := some (st, payload) }

/-- One entry written with the rights of an ENGINEER, once Hearth takes commands; a warm reset that it requests follows. -/
def Dev.writeOne (d : Dev) (e : RegEntry) : Dev :=
  if !d.hearthUp then d else
  let (st, _, d, warm) := d.regWrite false [e]
  let d := d.say st
  if warm then d.warmReset 2 else d

/-- REGISTER_WRITE: a register by its address; a control word of BAR0 or a word of the MSI-X table, which host memory
writes reach, stands at 0x1000000 and at 0x2000000 and takes no mask. -/
def Dev.writeRegister (d : Dev) (addr : Nat) (mask value : Word) : Dev :=
  if addr < 0x1000000 then d.writeOne ⟨addr, mask, value⟩
  else if addr < 0x2000000 then d.barWrite ((addr - 0x1000000) / 4096) ((addr - 0x1000000) % 4096) value
  else d.msixWrite ((addr - 0x2000000) / 4) value

/-- A whole register written. -/
def Dev.writeWord (d : Dev) (a : Nat) (v : Word) : Dev := d.writeOne ⟨a, 0xFFFFFFFF, v⟩

/-- A one-bit field written 1. -/
def Dev.writeBit (d : Dev) (f : Fld) : Dev := d.writeOne ⟨f.addr, wmask f.hi f.lo, wmask f.hi f.lo⟩

/-- SAR_REG written with a channel, its alignment and START (R182). -/
def Dev.writeSarReg (d : Dev) (x ch : Nat) (left : Bool) : Dev :=
  d.writeOne ⟨(F.SAR_REG_START.ix x).addr, 0x13F, BitVec.ofNat 32 (ch + (if left then 32 else 0) + 256)⟩

/-- ANG_STAMP_CYC read: the oldest stamp's value, and the stamp gone (R72). -/
def Dev.readStamp (d : Dev) : Dev :=
  if !d.hearthUp then d else
  let w := d.word F.ANG_STAMP_CYC_CYC.addr
  d.popStamp.say St.ok (leBytes 4 w.toNat)

/-! ## Endpoint -/

/-- REQUEST_AREA_READ: a read of a request area completes with Completer Abort (R441). -/
def Dev.reqRead (d : Dev) (m off : Nat) : Dev :=
  (d.hstUp fun h => { h with out := .abort (4096 * m + off) :: h.out }).bump F.HST_BAR_REJ_CNT

/-- MBX_RESPONSE_POST (R445): the response is written; the warm reset that waited for it begins. -/
def Dev.mbxRespond (d : Dev) (m : Nat) : Dev :=
  let e := d.mbxPost m
  match d.cpr.asked with
  | some r =>
    if r.mbx = m && ((d.mbx m).inflight.any fun c => c.resp.isSome) && !((e.mbx m).inflight.any fun c => c.resp.isSome) then
      e.resetBegin r
    else e
  | none => e

/-- HST_RESET (R440): no response waits in a mailbox any more, so a warm reset that waited for one begins. -/
def Dev.hstRestart (d : Dev) (cause dt : Nat) : Dev :=
  let e := d.hstReset cause dt
  match e.cpr.asked with
  | some r => e.resetBegin r
  | none => e

/-! ## Firebox, MET, SDM -/

/-- LEG_SET_COMPLETE: the leg set on its way to leg n lands, with what lands before it (R85). -/
def Dev.landLeg (d : Dev) (n : Nat) : Dev :=
  match d.fbx.flight.find? fun f => f.legs.any fun l => l.1 == n with
  | some f => (d.advanceTo (d.clockAt f.lands)).landUpTo f.lands
  | none => d


/-- SDM_FAULT_DETECT: clock loss of a channel, or the bits that show stuck data or a rail code (R163). -/
def Dev.sdmFault (d : Dev) (n : Nat) (clock : Bool) (bits : List Bool) : Dev :=
  if clock then d.sdmClockLoss n else d.schFeed n bits

/-- SDM_RECOVERED: the clock is back, and the bits that clear the fault have come (R163, R165). -/
def Dev.sdmRecovered (d : Dev) (n : Nat) (bits : List Bool) : Dev := (d.sdmClockBack n).schFeed n bits

/-- F3_ASSERT, F3_DEASSERT: the bits up to the one that changes a line (R161). -/
def Dev.f3Assert (d : Dev) (n : Nat) (bits : List Bool) (dt : Nat) : Dev := (d.advance dt).schFeed n bits
def Dev.f3Deassert (d : Dev) (n : Nat) (bits : List Bool) (dt : Nat) : Dev := (d.advance dt).schFeed n bits

/-! ## Links and keys -/

/-- CPR_D2D_LOST: 1 us without a word (R32). -/
def Dev.d2dSilent (d : Dev) (dt : Nat) : Dev := (d.advance dt).d2dLost

/-- The Flue group key's next key becomes current at its start time (R505). -/
def Dev.groupKeyChange (d : Dev) : Dev :=
  match d.flu.keyNext with
  | none => d
  | some k => ((d.toPtp (k.start * 1000000000)).fluUp fun f => { f with keyCur := some k, keyNext := none }).raise 0x0C0D [k.id]

/-- The Flue group key's validity ends. -/
def Dev.groupKeyExpired (d : Dev) : Dev :=
  match d.flu.keyCur with
  | none => d
  | some k =>
    let d := d.toPtp (k.stop * 1000000000)
    if d.keyLive (some k) then d else d.raise 0x0C0E [k.id]

/-- NET_KEY_CHANGE and NET_KEY_EXPIRED: of a stream context, or of the Flue group key. -/
def Dev.netKeyChange (d : Dev) : Option Nat → Dev
  | some i => d.keyChange i
  | none => d.groupKeyChange
def Dev.netKeyExpired (d : Dev) : Option Nat → Dev
  | some i => d.keyExpired i
  | none => d.groupKeyExpired

end Sys2Proof.Machine
end

