-- ==== Sys2Proof/Machine/CanEvents.lean ====
section
/-! DEFINITION. Events of CAN (chapter 18). -/

namespace Sys2Proof.Machine

/-- CAN_FRAME_RECEIVE (R427). -/
def execCanFrameReceive (c : Fin 2) (f : CanFrame) (len dt : Nat) (s : State) : Host.Outcome State Fault Refusal :=
  run (whenAwake (fun d => d.canReceive c f len dt)) s

/-- CAN_TX_START (R425). -/
def execCanTxStart (c : Fin 2) (dt : Nat) (s : State) : Host.Outcome State Fault Refusal :=
  run (whenAwake (fun d => d.canTxStart c dt)) s

/-- CAN_TX_END (R425). -/
def execCanTxEnd (c : Fin 2) (ok : Bool) (dt : Nat) (s : State) : Host.Outcome State Fault Refusal :=
  run (whenAwake (fun d => d.canTxEnd c ok dt)) s

/-- CAN_BUS_ON (R434). -/
def execCanBusOn (c : Fin 2) (dt : Nat) (s : State) : Host.Outcome State Fault Refusal :=
  run (whenAwake (fun d => d.canBusOn c dt)) s

/-- CAN_TIMING_APPLY (R423). -/
def execCanTimingApply (c : Fin 2) (s : State) : Host.Outcome State Fault Refusal :=
  run (whenAwake (fun d => d.canTiming c)) s

/-- CAN_TM_CYCLE_START (R432). -/
def execCanTmCycleStart (s : State) : Host.Outcome State Fault Refusal :=
  run (whenAwake (fun d => d.tmCycle)) s

/-- CAN_TM_LOST (R433). -/
def execCanTmLost (s : State) : Host.Outcome State Fault Refusal :=
  run (whenAwake (fun d => d.tmLost)) s

/-- CAN_BUS_ERROR (R434). -/
def execCanBusError (c : Fin 2) (lec : Fin 6) (tx eight : Bool) (dt : Nat) (s : State) : Host.Outcome State Fault Refusal :=
  run (whenAwake (fun d => d.canError c (lec + 1) tx eight dt)) s

end Sys2Proof.Machine
end

