-- ==== Sys2Proof/Machine/DamperEvents.lean ====
section
/-! DEFINITION. Events of Damper and of the timers of GSV (chapters 11 and 12). -/

namespace Sys2Proof.Machine

/-- COMPARATOR_ASSERT (R256). -/
def execComparatorAssert (j : Fin 16) (uv dt : Nat) (s : State) : Host.Outcome State Fault Refusal :=
  run (whenAwake (fun d => d.comparatorAssert j uv dt)) s

/-- COMPARATOR_STROBE: where the AON copy governs, the strobe runs through reset too (R258). -/
def execComparatorStrobe (uvs : List Nat) (s : State) : Host.Outcome State Fault Refusal :=
  run (fun d => if d.awake || d.aonRuns then d.comparatorStrobe uvs else d) s

/-- BLANKING_END (R259). -/
def execBlankingEnd (j : Fin 16) (s : State) : Host.Outcome State Fault Refusal :=
  run (whenAwake (fun d => d.blankingEnd j)) s

/-- FLT_N_ASSERT (R260). -/
def execFltNAssert (n : Fin 12) (dt : Nat) (s : State) : Host.Outcome State Fault Refusal :=
  run (whenAwake (fun d => d.fltAssert n dt)) s

/-- SOURCE_DEASSERT (R260). -/
def execSourceDeassert (i : Fin 86) (uv dt : Nat) (s : State) : Host.Outcome State Fault Refusal :=
  run (whenAwake (fun d => d.sourceReleased i uv dt)) s

/-- SAFE_SEQUENCE_INNER_OFF (R267). -/
def execSafeSequenceInnerOff (n : Fin 12) (s : State) : Host.Outcome State Fault Refusal :=
  run (whenAwake (fun d => d.sequenceEnd n)) s

/-- CONTACTOR_OPEN_DELAY (R270). -/
def execContactorOpenDelay (k : Fin 8) (s : State) : Host.Outcome State Fault Refusal :=
  run (whenAwake (fun d => d.openDelayEnd k)) s

/-- RESTART_WAIT_END (R273). -/
def execRestartWaitEnd (g : Fin 8) (s : State) : Host.Outcome State Fault Refusal :=
  run (whenAwake (fun d => d.restartWaitEnd g)) s

/-- LOCKOUT_COUNT_AGE (R274). -/
def execLockoutCountAge (s : State) : Host.Outcome State Fault Refusal :=
  run (whenAwake (fun d => d.lockoutAge)) s

/-- CTL_FB_CHANGE (R277). -/
def execCtlFbChange (k : Fin 8) (level : Bool) (dt : Nat) (s : State) : Host.Outcome State Fault Refusal :=
  run (whenAwake (fun d => d.ctlFbChange k level dt)) s

/-- DMP_CTL_FB (R277). -/
def execDmpCtlFb (k : Fin 8) (s : State) : Host.Outcome State Fault Refusal :=
  run (whenAwake (fun d => d.ctlFbFault k)) s

/-- GSV_PRECH_FAIL (R286). -/
def execGsvPrechFail (s : State) : Host.Outcome State Fault Refusal :=
  run (whenPaced (fun d => d.prechTimeEnd)) s

/-- PRECHARGE_DC_T (R286). -/
def execPrechargeDcT (s : State) : Host.Outcome State Fault Refusal :=
  run (whenPaced (fun d => d.dcTimeEnd)) s

/-- BREAKER_AC_T (R287). -/
def execBreakerAcT (s : State) : Host.Outcome State Fault Refusal :=
  run (whenPaced (fun d => d.acTimeEnd)) s

/-- SYNC_TIME_EXPIRED (R283). -/
def execSyncTimeExpired (s : State) : Host.Outcome State Fault Refusal :=
  run (whenPaced (fun d => d.syncTimeEnd)) s

end Sys2Proof.Machine
end

