-- ==== Sys2Proof/Machine/DriveEvents.lean ====
section
/-! DEFINITION. Events of the gate drivers and Draught (chapters 13 and 14). -/

namespace Sys2Proof.Machine

/-- DRIVE_WORD (R308). -/
def execDriveWord (b : Fin 2) (err : Nat) (s : State) : Host.Outcome State Fault Refusal :=
  run (whenAwake (fun d => d.driveWord b err)) s

/-- HS_WARNING_ASSERT (R313). -/
def execHsWarningAssert (n : Fin 6) (mv dt : Nat) (s : State) : Host.Outcome State Fault Refusal :=
  run (whenAwake (fun d => d.hsWarn n mv dt)) s

/-- HS_WARNING_RELEASE (R312). -/
def execHsWarningRelease (n : Fin 6) (mv dt : Nat) (s : State) : Host.Outcome State Fault Refusal :=
  run (whenAwake (fun d => d.hsWarnEnd n mv dt)) s

/-- HS_LOCKOUT_ASSERT (R314). -/
def execHsLockoutAssert (n : Fin 6) (mv : Nat) (ext : Bool) (dt : Nat) (s : State) : Host.Outcome State Fault Refusal :=
  run (whenAwake (fun d => d.hsLockout n mv ext dt)) s

/-- HS_LOCKOUT_RELEASE (R312). -/
def execHsLockoutRelease (n : Fin 6) (mv : Nat) (ext : Bool) (dt : Nat) (s : State) : Host.Outcome State Fault Refusal :=
  run (whenAwake (fun d => d.hsLockoutEnd n mv ext dt)) s

/-- VDRV_UNDERVOLTAGE (R315). -/
def execVdrvUndervoltage (mv dt : Nat) (s : State) : Host.Outcome State Fault Refusal :=
  run (whenAwake (fun d => d.vdrvLow mv dt)) s

/-- VDRV_RECOVERED (R315). -/
def execVdrvRecovered (mv dt : Nat) (s : State) : Host.Outcome State Fault Refusal :=
  run (whenAwake (fun d => d.vdrvEnd mv dt)) s

/-- GDR_SHORT_CIRCUIT (R316). -/
def execGdrShortCircuit (n : Fin 6) (rate dt : Nat) (s : State) : Host.Outcome State Fault Refusal :=
  run (whenAwake (fun d => d.shortCircuit n rate dt)) s

/-- GDR_OVERCURRENT (R317). -/
def execGdrOvercurrent (n : Fin 6) (x : Excess) (dt : Nat) (s : State) : Host.Outcome State Fault Refusal :=
  run (whenAwake (fun d => d.overcurrent n x.uv x.stay dt)) s

/-- SOFT_TURNOFF_END (R318). -/
def execSoftTurnoffEnd (b : Fin 2) (s : State) : Host.Outcome State Fault Refusal :=
  run (whenAwake (fun d => d.softEnd b)) s

/-- GDR_RETRY_WAIT_END (R320). -/
def execGdrRetryWaitEnd (b : Fin 2) (s : State) : Host.Outcome State Fault Refusal :=
  run (whenAwake (fun d => d.retryEnd b)) s

/-- GDR_TRY_CLEAR (R320). -/
def execGdrTryClear (b : Fin 2) (s : State) : Host.Outcome State Fault Refusal :=
  run (whenAwake (fun d => d.tryClear b)) s

/-- BRIDGE_OFF_ASSERT (R310). -/
def execBridgeOffAssert (b : Fin 2) (dt : Nat) (s : State) : Host.Outcome State Fault Refusal :=
  run (whenAwake (fun d => d.wireAssert b dt)) s

/-- BRIDGE_OFF_RELEASE (R310). -/
def execBridgeOffRelease (b : Fin 2) (dt : Nat) (s : State) : Host.Outcome State Fault Refusal :=
  run (whenAwake (fun d => d.wireRelease b dt)) s

/-- DRT_PWM_PERIOD_START (R326). -/
def execDrtPwmPeriodStart (c : Fin 2) (comps : Fin 8) (amp vmot : Word) (early : Option Nat) (s : State) : Host.Outcome State Fault Refusal :=
  run (whenAwake (fun d => d.drtPeriodStart c comps amp vmot early)) s

/-- COMMUTATION (R327). -/
def execCommutation (c : Fin 2) (comps : Fin 8) (amp vmot : Word) (early : Option Nat) (s : State) : Host.Outcome State Fault Refusal :=
  run (whenAwake (fun d => d.commutation c comps amp vmot early)) s

/-- ZC_WINDOW_CLOSE (R331). -/
def execZcWindowClose (c : Fin 2) (comps : Fin 8) (amp vmot : Word) (early : Option Nat) (s : State) : Host.Outcome State Fault Refusal :=
  run (whenAwake (fun d => d.windowClose c comps amp vmot early)) s

/-- DRT_CURRENT_LIMIT (R333). -/
def execDrtCurrentLimit (c : Fin 2) (uv dt : Nat) (s : State) : Host.Outcome State Fault Refusal :=
  run (whenAwake (fun d => d.drtLimit c uv dt)) s

/-- SPEED_LOOP_UPDATE (R334). -/
def execSpeedLoopUpdate (c : Fin 2) (s : State) : Host.Outcome State Fault Refusal :=
  run (whenAwake (fun d => d.speedLoop c)) s

/-- OBSERVE_END (R336). -/
def execObserveEnd (c : Fin 2) (comps : Fin 8) (amp vmot : Word) (early : Option Nat) (s : State) : Host.Outcome State Fault Refusal :=
  run (whenAwake (fun d => d.observeEnd c comps amp vmot early)) s

/-- OBSERVE_CROSSING (R335). -/
def execObserveCrossing (c : Fin 2) (ph : Fin 3) (side : NewSide) (comps : Fin 8) (amp vmot : Word) (early : Option Nat) (dt : Nat) (s : State) : Host.Outcome State Fault Refusal :=
  run (whenAwake (fun d => d.observeCrossing c ph side.rising side.stay comps amp vmot early dt)) s

/-- BRAKE_END (R337). -/
def execBrakeEnd (c : Fin 2) (s : State) : Host.Outcome State Fault Refusal :=
  run (whenAwake (fun d => d.brakeEnd c)) s

/-- ALIGN_END (R337). -/
def execAlignEnd (c : Fin 2) (comps : Fin 8) (amp vmot : Word) (early : Option Nat) (s : State) : Host.Outcome State Fault Refusal :=
  run (whenAwake (fun d => d.alignEnd c comps amp vmot early)) s

/-- RAMP_TIMEOUT (R337). -/
def execRampTimeout (c : Fin 2) (s : State) : Host.Outcome State Fault Refusal :=
  run (whenAwake (fun d => d.rampTimeout c)) s

/-- COAST_TIMEOUT (R340). -/
def execCoastTimeout (c : Fin 2) (s : State) : Host.Outcome State Fault Refusal :=
  run (whenAwake (fun d => d.coastTimeout c)) s

/-- DRT_RETRY_CLEAR (R341). -/
def execDrtRetryClear (c : Fin 2) (s : State) : Host.Outcome State Fault Refusal :=
  run (whenAwake (fun d => d.drtRetryClear c)) s

end Sys2Proof.Machine
end

