-- ==== Sys2Proof/Machine/FlueEvents.lean ====
section
/-! DEFINITION. Events of Flue (chapter 17). -/

namespace Sys2Proof.Machine

/-- FLUE_LINK_UP (R397). -/
def execFlueLinkUp (link : Fin 2) (dt : Nat) (s : State) : Host.Outcome State Fault Refusal :=
  run (whenAwake (fun d => d.flueUp link dt)) s

/-- FLUE_LINK_DOWN (R397). -/
def execFlueLinkDown (link : Fin 2) (dt : Nat) (s : State) : Host.Outcome State Fault Refusal :=
  run (whenAwake (fun d => d.flueDown link dt)) s

/-- FLUE_FRAME_RECEIVE (R400). -/
def execFlueFrameReceive (hd : FlueHdr) (dt : Nat) (s : State) : Host.Outcome State Fault Refusal :=
  run (whenAwake (fun d => d.flueReceive hd dt)) s

/-- CROWN_FRAME_RECEIVE (R53). -/
def execCrownFrameReceive (hd : FlueHdr) (f : CrownFrame) (dt : Nat) (s : State) : Host.Outcome State Fault Refusal :=
  run (whenAwake (fun d => d.crownFrameIn hd f dt)) s

/-- MEMBER_FRAME_RECEIVE (R403). -/
def execMemberFrameReceive (hd : FlueHdr) (f : MemberFrame) (dt : Nat) (s : State) : Host.Outcome State Fault Refusal :=
  run (whenAwake (fun d => d.memberReceive hd f dt)) s

/-- BULK_FRAME_RECEIVE (R410). -/
def execBulkFrameReceive (hd : FlueHdr) (b : BulkBody) (dt : Nat) (s : State) : Host.Outcome State Fault Refusal :=
  run (whenAwake (fun d => d.bulkIn hd b dt)) s

/-- TIME_FRAME_RECEIVE (R402). -/
def execTimeFrameReceive (hd : FlueHdr) (ns ps dt : Nat) (s : State) : Host.Outcome State Fault Refusal :=
  run (whenAwake (fun d => d.timeFrame hd ns ps dt)) s

/-- JOIN_FRAME_RECEIVE (R407). -/
def execJoinFrameReceive (hd : FlueHdr) (devId : List Byte) (strap sps cpc dt : Nat) (s : State) : Host.Outcome State Fault Refusal :=
  run (whenAwake (fun d => d.joinReceive hd devId strap sps cpc dt)) s

/-- SHADOW_FRAME_RECEIVE (R417). -/
def execShadowFrameReceive (hd : FlueHdr) (b : ShadowBody) (dt : Nat) (s : State) : Host.Outcome State Fault Refusal :=
  run (whenAwake (fun d => d.shadowIn hd b dt)) s

/-- FLUE_TIME_EXCHANGE (R402). -/
def execFlueTimeExchange (s : State) : Host.Outcome State Fault Refusal :=
  run (whenAwake (fun d => d.flueExchange)) s

/-- FLU_TIME_LOST (R402). -/
def execFluTimeLost (s : State) : Host.Outcome State Fault Refusal :=
  run (whenAwake (fun d => d.flueTimeLost)) s

/-- JOIN_FRAME_SEND (R407). -/
def execJoinFrameSend (s : State) : Host.Outcome State Fault Refusal :=
  run (whenAwake (fun d => d.joinSend)) s

/-- GROUP_FRAME_BOUNDARY (R403). -/
def execGroupFrameBoundary (s : State) : Host.Outcome State Fault Refusal :=
  run (whenPaced (fun d => d.groupFrame)) s

/-- MEMBER_FRAME_DEADLINE (R403). -/
def execMemberFrameDeadline (s : State) : Host.Outcome State Fault Refusal :=
  run (whenPaced (fun d => d.memberDeadline)) s

/-- RELAY_TIMEOUT (R466). -/
def execRelayTimeout (s : State) : Host.Outcome State Fault Refusal :=
  run (whenAwake (fun d => d.relayLate)) s

end Sys2Proof.Machine
end

