-- ==== Sys2Proof/Machine/FrameEvents.lean ====
section
/-! DEFINITION. Angle-paced events of Firebox, ANG, MET and GSV. -/

namespace Sys2Proof.Machine

/-- DEVICE_FRAME_START (R82). -/
def execDeviceFrameStart (bits : List (List Bool)) (s : State) : Host.Outcome State Fault Refusal :=
  run (whenPaced (Dev.deviceFrame bits)) s

/-- STAGED_SET_ADOPT (R21). -/
def execStagedSetAdopt (s : State) : Host.Outcome State Fault Refusal :=
  run (whenPaced (fun d => d.stageAdopt)) s

/-- IMAGE_ACTIVATION_ADOPT (R95). -/
def execImageActivationAdopt (s : State) : Host.Outcome State Fault Refusal :=
  run (whenPaced (fun d => d.imageAdopt)) s

/-- PACKAGE_ACTIVATION_ADOPT (R488). -/
def execPackageActivationAdopt (s : State) : Host.Outcome State Fault Refusal :=
  run (whenPaced (fun d => d.packageAdopt)) s

/-- SLOT_ISSUE (R78). -/
def execSlotIssue (i : Nat) (s : State) : Host.Outcome State Fault Refusal :=
  run (whenPaced (fun d => d.slotIssue i)) s

/-- SLOT_RESULT_WRITE (R79). -/
def execSlotResultWrite (i : Nat) (s : State) : Host.Outcome State Fault Refusal :=
  run (whenPaced (fun d => d.landSlot i)) s

/-- LEG_SET_COMPLETE (R85). -/
def execLegSetComplete (n : Fin 12) (s : State) : Host.Outcome State Fault Refusal :=
  run (whenPaced (fun d => d.landLeg n)) s

/-- FBX_OVERRUN (R99). -/
def execFbxOverrun (cause : Fin 3) (slot : Fin 4096) (s : State) : Host.Outcome State Fault Refusal :=
  run (whenPaced (fun d => d.fbxOverrun (cause.val + 1) slot)) s

/-- MPPT_SCAN_DUE (R131). -/
def execMpptScanDue (c : Fin 4) (s : State) : Host.Outcome State Fault Refusal :=
  run (whenPaced (fun d => d.mpptDue c)) s

/-- COMMON_ANGLE_SAMPLE (R46). -/
def execCommonAngleSample (bits : List (List Bool)) (s : State) : Host.Outcome State Fault Refusal :=
  run (whenPaced (Dev.commonSample bits)) s

/-- ANG_SNAP (R59). -/
def execAngSnap (s : State) : Host.Outcome State Fault Refusal :=
  run (whenPaced (fun d => d.angSnap)) s

/-- ANG_HOLD_EXPIRED (R56). -/
def execAngHoldExpired (s : State) : Host.Outcome State Fault Refusal :=
  run (whenPaced (fun d => d.holdExpired)) s

/-- ANG_SRC_CHANGE (R63). -/
def execAngSrcChange (s : State) : Host.Outcome State Fault Refusal :=
  run (whenPaced (fun d => d.srcChange)) s

/-- LINE_CYCLE_BOUNDARY (R61). -/
def execLineCycleBoundary (s : State) : Host.Outcome State Fault Refusal :=
  run (whenPaced (fun d => d.lineCycle)) s

/-- MET_SNAPSHOT (R199). -/
def execMetSnapshot (s : State) : Host.Outcome State Fault Refusal :=
  run (whenPaced (fun d => d.metSnapshot)) s

/-- MET_SETTINGS_ADOPT (R202). -/
def execMetSettingsAdopt (s : State) : Host.Outcome State Fault Refusal :=
  run (whenPaced (fun d => d.metSettingsAdopt)) s

/-- MET_PERIODIC_SAVE (R204). -/
def execMetPeriodicSave (s : State) : Host.Outcome State Fault Refusal :=
  run (whenPaced (fun d => d.metPeriodicSave)) s

/-- GSV_SETTINGS_ADOPT (R299). -/
def execGsvSettingsAdopt (s : State) : Host.Outcome State Fault Refusal :=
  run (whenPaced (fun d => d.gsvSettings)) s

/-- PHASOR_REPORT (R70). -/
def execPhasorReport (s : State) : Host.Outcome State Fault Refusal :=
  run (whenPaced (fun d => d.phasorReport)) s

/-- PERIODIC_SAVE_COMPLETE (R204). -/
def execPeriodicSaveComplete (ok : Bool) (s : State) : Host.Outcome State Fault Refusal :=
  run (whenAwake (fun d => d.metSaveDone ok)) s

end Sys2Proof.Machine
end

