-- ==== Sys2Proof/Machine/GroupCommands.lean ====
section
/-! DEFINITION. Host commands of groups and units (Table 20-6). -/

namespace Sys2Proof.Machine

/-- GROUP_STATUS (R411). -/
def execGroupStatus (h : CmdHdr) (p : List Byte) (s : State) : Host.Outcome State Fault Refusal :=
  run (Dev.hostCommand 0x60 h p bodyGroupStatus grpStatus) s

/-- GROUP_MEASURE (R411). -/
def execGroupMeasure (h : CmdHdr) (p : List Byte) (s : State) : Host.Outcome State Fault Refusal :=
  run (Dev.hostCommand 0x61 h p bodyGroupMeasure grpMeasure) s

/-- ROLE_SET (R409). -/
def execRoleSet (h : CmdHdr) (p : List Byte) (s : State) : Host.Outcome State Fault Refusal :=
  run (Dev.hostCommand 0x62 h p bodyRoleSet grpNone) s

/-- UNIT_READ (R406). -/
def execUnitRead (h : CmdHdr) (p : List Byte) (s : State) : Host.Outcome State Fault Refusal :=
  run (Dev.hostCommand 0x63 h p bodyUnitRead grpNone) s

end Sys2Proof.Machine
end

