-- ==== Sys2Proof/Machine/ImageCommands.lean ====
section
/-! DEFINITION. Host commands on images and packages (Table 20-6). -/

namespace Sys2Proof.Machine

/-- IMG_WRITE (R472). -/
def execImgWrite (h : CmdHdr) (p : List Byte) (s : State) : Host.Outcome State Fault Refusal :=
  run (Dev.hostCommand 0x30 h p bodyImgWrite grpNone) s

/-- IMG_VERIFY (R486). -/
def execImgVerify (h : CmdHdr) (p : List Byte) (s : State) : Host.Outcome State Fault Refusal :=
  run (Dev.hostCommand 0x31 h p bodyImgVerify grpNone) s

/-- IMG_ACTIVATE (R488). -/
def execImgActivate (h : CmdHdr) (p : List Byte) (s : State) : Host.Outcome State Fault Refusal :=
  run (Dev.hostCommand 0x32 h p bodyImgActivate grpImgActivate) s

/-- IMG_STATUS (R486). -/
def execImgStatus (h : CmdHdr) (p : List Byte) (s : State) : Host.Outcome State Fault Refusal :=
  run (Dev.hostCommand 0x33 h p bodyImgStatus grpNone) s

/-- IMG_ERASE (R472). -/
def execImgErase (h : CmdHdr) (p : List Byte) (s : State) : Host.Outcome State Fault Refusal :=
  run (Dev.hostCommand 0x34 h p bodyImgErase grpNone) s

end Sys2Proof.Machine
end

