-- ==== Sys2Proof/Machine/LocalCommands.lean ====
section
/-! DEFINITION. Host commands of unit L that open the command set (Table 20-6): ECHO to SESSION_REKEY. -/

namespace Sys2Proof.Machine

/-- ECHO (R459). -/
def execEcho (h : CmdHdr) (p : List Byte) (s : State) : Host.Outcome State Fault Refusal :=
  run (Dev.hostCommand 0x01 h p bodyEcho grpNone) s

/-- IDENTIFY (R459). -/
def execIdentify (h : CmdHdr) (p : List Byte) (s : State) : Host.Outcome State Fault Refusal :=
  run (Dev.hostCommand 0x02 h p bodyIdentify grpNone) s

/-- SESSION_OPEN (R500). -/
def execSessionOpen (h : CmdHdr) (p : List Byte) (s : State) : Host.Outcome State Fault Refusal :=
  run (Dev.hostCommand 0x03 h p bodySessionOpen grpNone) s

/-- SESSION_CLOSE (R463). -/
def execSessionClose (h : CmdHdr) (p : List Byte) (s : State) : Host.Outcome State Fault Refusal :=
  run (Dev.hostCommand 0x04 h p bodySessionClose grpNone) s

/-- SESSION_REKEY (R501). -/
def execSessionRekey (h : CmdHdr) (p : List Byte) (s : State) : Host.Outcome State Fault Refusal :=
  run (Dev.hostCommand 0x05 h p bodySessionRekey grpNone) s

end Sys2Proof.Machine
end

