-- ==== Sys2Proof/Machine/MeterCommands.lean ====
section
/-! DEFINITION. Host commands of metering (Table 20-6). -/

namespace Sys2Proof.Machine

/-- METER_RECORD (R209). -/
def execMeterRecord (h : CmdHdr) (p : List Byte) (s : State) : Host.Outcome State Fault Refusal :=
  run (Dev.hostCommand 0x40 h p bodyMeterRecord grpNone) s

/-- METER_READ (R199). -/
def execMeterRead (h : CmdHdr) (p : List Byte) (s : State) : Host.Outcome State Fault Refusal :=
  run (Dev.hostCommand 0x41 h p bodyMeterRead grpNone) s

/-- METER_SAVE (R204). -/
def execMeterSave (h : CmdHdr) (p : List Byte) (s : State) : Host.Outcome State Fault Refusal :=
  run (Dev.hostCommand 0x42 h p bodyMeterSave grpNone) s

/-- PQ_READ (R226). -/
def execPqRead (h : CmdHdr) (p : List Byte) (s : State) : Host.Outcome State Fault Refusal :=
  run (Dev.hostCommand 0x43 h p bodyPqRead grpNone) s

end Sys2Proof.Machine
end

