-- ==== Sys2Proof/Machine/NetworkCommands.lean ====
section
/-! DEFINITION. Host commands of keys, time and CAN (Table 20-6). -/

namespace Sys2Proof.Machine

/-- KEY_DELIVER (R393). -/
def execKeyDeliver (h : CmdHdr) (p : List Byte) (s : State) : Host.Outcome State Fault Refusal :=
  run (Dev.hostCommand 0x70 h p bodyKeyDeliver (grpAll 0x70 bodyKeyDeliver)) s

/-- CTX_STATUS (R387). -/
def execCtxStatus (h : CmdHdr) (p : List Byte) (s : State) : Host.Outcome State Fault Refusal :=
  run (Dev.hostCommand 0x71 h p bodyCtxStatus grpNone) s

/-- TIME_READ (R381). -/
def execTimeRead (h : CmdHdr) (p : List Byte) (s : State) : Host.Outcome State Fault Refusal :=
  run (Dev.hostCommand 0x72 h p bodyTimeRead grpNone) s

/-- CAN_SEND (R424). -/
def execCanSend (h : CmdHdr) (p : List Byte) (s : State) : Host.Outcome State Fault Refusal :=
  run (Dev.hostCommand 0x78 h p bodyCanSend grpNone) s

/-- CAN_READ (R428). -/
def execCanRead (h : CmdHdr) (p : List Byte) (s : State) : Host.Outcome State Fault Refusal :=
  run (Dev.hostCommand 0x79 h p bodyCanRead grpNone) s

end Sys2Proof.Machine
end

