-- ==== Sys2Proof/Machine/NetworkEvents.lean ====
section
/-! DEFINITION. Events of the station network (chapter 16). -/

namespace Sys2Proof.Machine

/-- ETH_LINK_UP (R373). -/
def execEthLinkUp (p : Fin 2) (giga : Bool) (dt : Nat) (s : State) : Host.Outcome State Fault Refusal :=
  run (whenAwake (fun d => d.ethUp p giga dt)) s

/-- ETH_LINK_DOWN (R373). -/
def execEthLinkDown (p : Fin 2) (dt : Nat) (s : State) : Host.Outcome State Fault Refusal :=
  run (whenAwake (fun d => d.ethDown p dt)) s

/-- ETH_FRAME_RECEIVE (R376). -/
def execEthFrameReceive (f : EthFrame) (dt : Nat) (s : State) : Host.Outcome State Fault Refusal :=
  run (whenAwake (fun d => d.ethReceive f dt)) s

/-- GOOSE_FRAME_RECEIVE (R386). -/
def execGooseFrameReceive (g : Goose) (dt : Nat) (s : State) : Host.Outcome State Fault Refusal :=
  run (whenAwake (fun d => d.gooseReceive g dt)) s

/-- SV_FRAME_RECEIVE (R387). -/
def execSvFrameReceive (v : Sv) (dt : Nat) (s : State) : Host.Outcome State Fault Refusal :=
  run (whenAwake (fun d => d.svReceive v dt)) s

/-- PTP_MESSAGE_RECEIVE (R381). -/
def execPtpMessageReceive (f : EthFrame) (m : PtpMsg) (dt : Nat) (s : State) : Host.Outcome State Fault Refusal :=
  run (whenAwake (fun d => d.ptpMessage f m dt)) s

/-- SUPERVISION_FRAME_RECEIVE (R378). -/
def execSupervisionFrameReceive (f : EthFrame) (node dt : Nat) (s : State) : Host.Outcome State Fault Refusal :=
  run (whenAwake (fun d => d.superReceive f node dt)) s

/-- L2_COMMAND_FRAME (R394). -/
def execL2CommandFrame (f : EthFrame) (dt : Nat) (s : State) : Host.Outcome State Fault Refusal :=
  run (whenAwake (fun d => d.l2Command f dt)) s

/-- SUPERVISION_SEND (R378). -/
def execSupervisionSend (s : State) : Host.Outcome State Fault Refusal :=
  run (whenAwake (fun d => d.superSend)) s

/-- NET_PATH_LOST (R378). -/
def execNetPathLost (p : Fin 2) (s : State) : Host.Outcome State Fault Refusal :=
  run (whenAwake (fun d => d.netPathLost p)) s

/-- STREAM_EXPIRY (R387). -/
def execStreamExpiry (i : Fin 256) (s : State) : Host.Outcome State Fault Refusal :=
  run (whenAwake (fun d => d.streamExpiry i)) s

/-- GOOSE_MEMBER_CHANGE (R390). -/
def execGooseMemberChange (i : Fin 256) (s : State) : Host.Outcome State Fault Refusal :=
  run (whenAwake (fun d => d.gooseChange i)) s

/-- GOOSE_RETRANSMIT (R390). -/
def execGooseRetransmit (i : Fin 256) (s : State) : Host.Outcome State Fault Refusal :=
  run (whenAwake (fun d => d.gooseRetransmit i)) s

/-- SV_SAMPLE_INSTANT (R391). -/
def execSvSampleInstant (i : Fin 256) (s : State) : Host.Outcome State Fault Refusal :=
  run (whenAwake (fun d => d.svSample i)) s

/-- NET_KEY_CHANGE (R393). -/
def execNetKeyChange (ctx : Option (Fin 256)) (s : State) : Host.Outcome State Fault Refusal :=
  run (whenAwake (fun d => d.netKeyChange (ctx.map Fin.val))) s

/-- NET_KEY_EXPIRED (R393). -/
def execNetKeyExpired (ctx : Option (Fin 256)) (s : State) : Host.Outcome State Fault Refusal :=
  run (whenAwake (fun d => d.netKeyExpired (ctx.map Fin.val))) s

/-- PTP_ANNOUNCE_TIMEOUT (R381). -/
def execPtpAnnounceTimeout (s : State) : Host.Outcome State Fault Refusal :=
  run (whenAwake (fun d => d.announceTimeout)) s

/-- PPS_IN_EDGE (R382). -/
def execPpsInEdge (dt : Nat) (s : State) : Host.Outcome State Fault Refusal :=
  run (whenAwake (fun d => d.ppsIn dt)) s

/-- PPS_OUT_SECOND (R383). -/
def execPpsOutSecond (s : State) : Host.Outcome State Fault Refusal :=
  run (whenAwake (fun d => d.ppsSecond)) s

end Sys2Proof.Machine
end

