-- ==== Sys2Proof/Machine/OperationCommands.lean ====
section
/-! DEFINITION. Host commands that operate the power stage (Table 20-6). -/

namespace Sys2Proof.Machine

/-- STATE_REQUEST (R285). -/
def execStateRequest (h : CmdHdr) (p : List Byte) (s : State) : Host.Outcome State Fault Refusal :=
  run (Dev.hostCommand 0x20 h p bodyStateRequest (grpAll 0x20 bodyStateRequest)) s

/-- SETPOINT (R473). -/
def execSetpoint (h : CmdHdr) (p : List Byte) (s : State) : Host.Outcome State Fault Refusal :=
  run (Dev.hostCommand 0x21 h p bodySetpoint grpSetpoint) s

/-- CURTAIL (R473). -/
def execCurtail (h : CmdHdr) (p : List Byte) (s : State) : Host.Outcome State Fault Refusal :=
  run (Dev.hostCommand 0x22 h p bodyCurtail grpCurtail) s

/-- TRIP (R265). -/
def execTrip (h : CmdHdr) (p : List Byte) (s : State) : Host.Outcome State Fault Refusal :=
  run (Dev.hostCommand 0x23 h p bodyTrip (grpAll 0x23 bodyTrip)) s

/-- CLEAR_TRIP (R272). -/
def execClearTrip (h : CmdHdr) (p : List Byte) (s : State) : Host.Outcome State Fault Refusal :=
  run (Dev.hostCommand 0x24 h p bodyClearTrip (grpAll 0x24 bodyClearTrip)) s

/-- LOCKOUT_RESET (R290). -/
def execLockoutReset (h : CmdHdr) (p : List Byte) (s : State) : Host.Outcome State Fault Refusal :=
  run (Dev.hostCommand 0x25 h p bodyLockoutReset (grpAll 0x25 bodyLockoutReset)) s

end Sys2Proof.Machine
end

