-- ==== Sys2Proof/Machine/PciePort.lean ====
section
/-! DEFINITION. What reaches the PCIe endpoint and what it does on its own (chapter 19). -/

namespace Sys2Proof.Machine

/-- MBX_DB_GO (R443). -/
def execMbxDbGo (m : Fin 16) (w : Word) (dt : Nat) (s : State) : Host.Outcome State Fault Refusal :=
  run (whenAwake (fun d => d.mbxGo m (wbits w 11 0) (wbits w 23 16) dt)) s

/-- MBX_ACK (R445). -/
def execMbxAck (m : Fin 16) (s : State) : Host.Outcome State Fault Refusal :=
  run (whenAwake (fun d => d.mbxAck m)) s

/-- RING_TAIL_WRITE (R450). -/
def execRingTailWrite (r : Fin 16) (w : Word) (s : State) : Host.Outcome State Fault Refusal :=
  run (whenAwake (fun d => d.ringTail r (wbits w 7 0))) s

/-- RING_CTRL_RESET (R453). -/
def execRingCtrlReset (r : Fin 16) (s : State) : Host.Outcome State Fault Refusal :=
  run (whenAwake (fun d => d.ringReset r)) s

/-- REQUEST_AREA_WRITE (R444). -/
def execRequestAreaWrite (m : Fin 16) (off : Fin 2048) (bytes : List (Option Byte)) (s : State) : Host.Outcome State Fault Refusal :=
  run (whenAwake (fun d => d.reqWrite m off bytes)) s

/-- REQUEST_AREA_READ (R441). -/
def execRequestAreaRead (m : Fin 16) (off : Fin 2048) (s : State) : Host.Outcome State Fault Refusal :=
  run (whenAwake (fun d => d.reqRead m off)) s

/-- CONTROL_WORD_BAD_ENABLES (R441). -/
def execControlWordBadEnables (write : Bool) (s : State) : Host.Outcome State Fault Refusal :=
  run (whenAwake (fun d => d.badEnables write)) s

/-- MBX_COPY_DONE (R443). -/
def execMbxCopyDone (m : Fin 16) (dt : Nat) (s : State) : Host.Outcome State Fault Refusal :=
  run (whenAwake (fun d => d.mbxCopied m dt)) s

/-- MBX_RESPONSE_POST (R445). -/
def execMbxResponsePost (m : Fin 16) (s : State) : Host.Outcome State Fault Refusal :=
  run (whenPowered (fun d => d.payBound.mbxRespond m)) s

/-- MSIX_MESSAGE (R447). -/
def execMsixMessage (v : Fin 32) (s : State) : Host.Outcome State Fault Refusal :=
  run (whenAwake (fun d => d.msixSend v)) s

/-- RING_RECORD_WRITE (R449). -/
def execRingRecordWrite (r : Fin 16) (dt : Nat) (s : State) : Host.Outcome State Fault Refusal :=
  run (whenAwake (fun d => d.recordWrite r dt)) s

/-- DESCRIPTOR_FETCH_DONE (R450). -/
def execDescriptorFetchDone (r : Fin 16) (xs : List DescIn) (dt : Nat) (s : State) : Host.Outcome State Fault Refusal :=
  run (whenAwake (fun d => d.descFetch r xs dt)) s

/-- COMPLETION_TIMEOUT (R450). -/
def execCompletionTimeout (r : Fin 16) (dt : Nat) (s : State) : Host.Outcome State Fault Refusal :=
  run (whenAwake (fun d => d.ringFault r 2 dt)) s

/-- RING_IRQ_TIMEOUT (R452). -/
def execRingIrqTimeout (r : Fin 16) (s : State) : Host.Outcome State Fault Refusal :=
  run (whenAwake (fun d => d.ringTimeout r)) s

/-- MALFORMED_TLP (R438). -/
def execMalformedTlp (dt : Nat) (s : State) : Host.Outcome State Fault Refusal :=
  run (whenAwake (fun d => d.tlpMalformed dt)) s

/-- POISONED_TLP (R438). -/
def execPoisonedTlp (ring : Option (Fin 16)) (dt : Nat) (s : State) : Host.Outcome State Fault Refusal :=
  run (whenAwake (fun d => d.tlpPoisoned (ring.map Fin.val) dt)) s

/-- UNEXPECTED_COMPLETION (R438). -/
def execUnexpectedCompletion (dt : Nat) (s : State) : Host.Outcome State Fault Refusal :=
  run (whenAwake (fun d => d.tlpUnexpected dt)) s

/-- UNSUPPORTED_REQUEST (R438). -/
def execUnsupportedRequest (dt : Nat) (s : State) : Host.Outcome State Fault Refusal :=
  run (whenAwake (fun d => d.tlpUnsupported dt)) s

/-- PCIE_LINK_UP (R438). -/
def execPcieLinkUp (wide : Bool) (speed : Fin 3) (dt : Nat) (s : State) : Host.Outcome State Fault Refusal :=
  run (whenAwake (fun d => d.pcieUp (if wide then 2 else 1) (speed + 1) dt)) s

/-- HST_RESET (R440). -/
def execHstReset (cause : Fin 4) (dt : Nat) (s : State) : Host.Outcome State Fault Refusal :=
  run (whenAwake (fun d => d.hstRestart (cause + 1) dt)) s

/-- PCIE_CONFIG_WRITE (R439). -/
def execPcieConfigWrite (bme d3 : Bool) (maxPayload : Fin 2) (en fmask : Bool) (s : State) : Host.Outcome State Fault Refusal :=
  run (whenAwake (fun d => d.pcieConfig bme d3 (128 * (maxPayload + 1)) en fmask)) s

end Sys2Proof.Machine
end

