-- ==== Sys2Proof/Machine/PowerEvents.lean ====
section
/-! DEFINITION. Events of clocks, power, reset, ticks, tamper and JTAG (chapters 15, 21 and 22). -/

namespace Sys2Proof.Machine

/-- POR_RELEASE (R355). -/
def execPorRelease (pins : PorPins) (hostMode : Fin 4) (dt : Nat) (s : State) :
    Host.Outcome State Fault Refusal :=
  run (fun d => d.porRelease pins.refMode hostMode pins.bank18 pins.still dt) s

/-- REF_OK (R347). -/
def execRefOk (dt : Nat) (s : State) : Host.Outcome State Fault Refusal :=
  run (fun d => d.refOk dt) s

/-- MDLL_LOCK (R348). -/
def execMdllLock (dt : Nat) (s : State) : Host.Outcome State Fault Refusal :=
  run (fun d => d.mdllLock dt) s

/-- SRAM_WIPE_DONE (R39). -/
def execSramWipeDone (dt : Nat) (s : State) : Host.Outcome State Fault Refusal :=
  run (fun d => d.wipeDone dt) s

/-- BIST_DONE (R367). -/
def execBistDone (fail : Option (Fin 16)) (dt : Nat) (s : State) : Host.Outcome State Fault Refusal :=
  run (fun d => d.bistDone (fail.map Fin.val) dt) s

/-- CONFIG_STORE_LOADED (R368). -/
def execConfigStoreLoaded (ok svc : Bool) (dt : Nat) (s : State) : Host.Outcome State Fault Refusal :=
  run (fun d => d.storeLoaded ok svc dt) s

/-- MOD_SYNTH_LOCK (R351). -/
def execModSynthLock (dt : Nat) (s : State) : Host.Outcome State Fault Refusal :=
  run (fun d => d.modSynth dt) s

/-- MET_RESTORE (R207). -/
def execMetRestore (dt : Nat) (s : State) : Host.Outcome State Fault Refusal :=
  run (fun d => d.metKindle dt) s

/-- HEARTH_KINDLE_VERIFY (R490). -/
def execHearthKindleVerify (k : KindleChecks) (dt : Nat) (s : State) : Host.Outcome State Fault Refusal :=
  run (fun d => d.hearthKindle k dt) s

/-- CPR_KINDLED (R366). -/
def execCprKindled (s : State) : Host.Outcome State Fault Refusal :=
  run (fun d => d.kindleEnd) s

/-- RAIL_FAILURE (R356). -/
def execRailFailure (rail : Fin 7) (dt : Nat) (s : State) : Host.Outcome State Fault Refusal :=
  run (fun d => d.railFailure rail dt) s

/-- RAIL_OVERVOLTAGE (R356). -/
def execRailOvervoltage (rail : Fin 7) (dt : Nat) (s : State) : Host.Outcome State Fault Refusal :=
  run (fun d => d.railOver rail dt) s

/-- PFI_QUALIFIED (R357). -/
def execPfiQualified (p : PfiLow) (s : State) : Host.Outcome State Fault Refusal :=
  run (fun d => d.pfiQualified p.low p.dt) s

/-- VDD_AON_FAIL (R359). -/
def execVddAonFail (dt : Nat) (s : State) : Host.Outcome State Fault Refusal :=
  run (fun d => d.aonFail dt) s

/-- BROWNOUT_RESET (R359). -/
def execBrownoutReset (s : State) : Host.Outcome State Fault Refusal :=
  run (fun d => d.brownout) s

/-- RESET_N_ASSERT (R360). -/
def execResetNAssert (dt : Nat) (s : State) : Host.Outcome State Fault Refusal :=
  run (fun d => d.resetAssert dt) s

/-- RESET_N_RELEASE (R360). -/
def execResetNRelease (e : WaitEnd) (s : State) : Host.Outcome State Fault Refusal :=
  run (fun d => d.resetRelease e.still e.dt) s

/-- HEARTH_WATCHDOG (R364). -/
def execHearthWatchdog (s : State) : Host.Outcome State Fault Refusal :=
  run (fun d => d.hearthWatchdog) s

/-- CPR_HOST_WDT (R365). -/
def execCprHostWdt (s : State) : Host.Outcome State Fault Refusal :=
  run (whenAwake (fun d => d.hostWdt)) s

/-- CLOCK_MONITOR_WINDOW (R353). -/
def execClockMonitorWindow (dom : Fin 12) (ok : Bool) (dt : Nat) (s : State) : Host.Outcome State Fault Refusal :=
  run (fun d => d.clockWindow dom ok dt) s

/-- CPR_REF_LOSS (R354). -/
def execCprRefLoss (dt : Nat) (s : State) : Host.Outcome State Fault Refusal :=
  run (fun d => d.refLoss dt) s

/-- REF_RETURN (R354). -/
def execRefReturn (dt : Nat) (s : State) : Host.Outcome State Fault Refusal :=
  run (fun d => d.refReturn dt) s

/-- CPR_SSC_CHANGE (R350). -/
def execCprSscChange (dt : Nat) (s : State) : Host.Outcome State Fault Refusal :=
  run (whenAwake (fun d => d.sscBegin dt)) s

/-- D2D_WORD_RECEIVE (R32). -/
def execD2dWordReceive (w : D2dWord) (dt : Nat) (s : State) : Host.Outcome State Fault Refusal :=
  run (whenAwake (fun d => d.d2dWord w.dir w.crc dt)) s

/-- CPR_D2D_LOST (R32). -/
def execCprD2dLost (dt : Nat) (s : State) : Host.Outcome State Fault Refusal :=
  run (whenAwake (fun d => d.d2dSilent dt)) s

/-- ANALOG_LINK_LOSS (R33). -/
def execAnalogLinkLoss (dt : Nat) (s : State) : Host.Outcome State Fault Refusal :=
  run (fun d => d.analogLoss dt) s

/-- D2D_LINK_RESTORED (R33). -/
def execD2dLinkRestored (dt : Nat) (s : State) : Host.Outcome State Fault Refusal :=
  run (fun d => d.d2dRestored dt) s

/-- MANAGEMENT_TICK (R474). -/
def execManagementTick (temps : List Word) (heartbeat : Bool) (s : State) : Host.Outcome State Fault Refusal :=
  run (whenAwake (Dev.managementTick temps heartbeat)) s

/-- SUPPLY_GLITCH (R508). -/
def execSupplyGlitch (dt : Nat) (s : State) : Host.Outcome State Fault Refusal :=
  run (fun d => d.supplyGlitch dt) s

/-- CLOCK_GLITCH (R508). -/
def execClockGlitch (dt : Nat) (s : State) : Host.Outcome State Fault Refusal :=
  run (fun d => d.clockGlitch dt) s

/-- DIE_SHIELD_CHECK (R508). -/
def execDieShieldCheck (ok : Bool) (dt : Nat) (s : State) : Host.Outcome State Fault Refusal :=
  run (fun d => d.shieldCheck ok dt) s

/-- HRT_ROLLBACK_RAISED (R487). -/
def execHrtRollbackRaised (type : Fin 2) (s : State) : Host.Outcome State Fault Refusal :=
  run (whenAwake (fun d => d.rollbackRaise type)) s

/-- JTAG_INSTRUCTION (R517). -/
def execJtagInstruction (j : Jtag) (s : State) : Host.Outcome State Fault Refusal :=
  run (Dev.jtagRun j) s

/-- JTAG_LC_COMMIT (R510). -/
def execJtagLcCommit (cert : Bool) (s : State) : Host.Outcome State Fault Refusal :=
  run (Dev.lcCommit cert) s

/-- AON_POWER_PRESENT (R258). -/
def execAonPowerPresent (bank18 : Bool) (dt : Nat) (s : State) : Host.Outcome State Fault Refusal :=
  run (fun d => d.aonPower bank18 dt) s

/-- EMBER_WRITE_COMPLETE (R205). -/
def execEmberWriteComplete (e : WaitEnd) (s : State) : Host.Outcome State Fault Refusal :=
  run (fun d => d.emberComplete e.still e.dt) s

end Sys2Proof.Machine
end

