-- ==== Sys2Proof/Machine/PwmEvents.lean ====
section
/-! DEFINITION. Events of PWM (chapter 10). -/

namespace Sys2Proof.Machine

/-- CARRIER_START (R233). -/
def execCarrierStart (s : State) : Host.Outcome State Fault Refusal :=
  run (whenPaced (fun d => d.carrierStart)) s

/-- HALF_CARRIER_RELOAD (R238). -/
def execHalfCarrierReload (s : State) : Host.Outcome State Fault Refusal :=
  run (whenPaced (fun d => d.halfReload)) s

/-- VSW_FB_TRANSITION (R243). -/
def execVswFbTransition (n : Fin 12) (rising : Bool) (dt : Nat) (s : State) : Host.Outcome State Fault Refusal :=
  run (whenPaced (fun d => d.vswTransition n rising dt)) s

/-- VSW_EXCHANGE_MISSING (R244). -/
def execVswExchangeMissing (n : Fin 12) (s : State) : Host.Outcome State Fault Refusal :=
  run (whenPaced (fun d => d.vswMissing n)) s

/-- DELAY_LINE_CALIBRATED (R246). -/
def execDelayLineCalibrated (g : Fin 4) (s : State) : Host.Outcome State Fault Refusal :=
  run (whenPaced (fun d => d.lineCalibrated g)) s

/-- PWM_DL_STALE (R247). -/
def execPwmDlStale (g : Fin 4) (s : State) : Host.Outcome State Fault Refusal :=
  run (whenPaced (fun d => d.lineStale g)) s

/-- PWM_DL_FAIL (R247). -/
def execPwmDlFail (g : Fin 4) (s : State) : Host.Outcome State Fault Refusal :=
  run (whenPaced (fun d => d.lineFail g)) s

/-- SYNC_IN_PULSE (R252). -/
def execSyncInPulse (width dt : Nat) (s : State) : Host.Outcome State Fault Refusal :=
  run (whenPaced (fun d => d.syncPulse width dt)) s

/-- PWM_SYNC_LOSS (R253). -/
def execPwmSyncLoss (s : State) : Host.Outcome State Fault Refusal :=
  run (whenPaced (fun d => d.syncLoss)) s

/-- PWM_SYNC_MEAS (R251). -/
def execPwmSyncMeas (diffs : List Nat) (s : State) : Host.Outcome State Fault Refusal :=
  run (whenPaced (fun d => d.syncMeasured diffs)) s

end Sys2Proof.Machine
end

