-- ==== Sys2Proof/Machine/RecorderCommands.lean ====
section
/-! DEFINITION. Host commands of trace, capture, rings and events (Table 20-6). -/

namespace Sys2Proof.Machine

/-- TRACE_ARM (R136). -/
def execTraceArm (h : CmdHdr) (p : List Byte) (s : State) : Host.Outcome State Fault Refusal :=
  run (Dev.hostCommand 0x50 h p bodyTraceArm grpNone) s

/-- TRACE_STOP (R136). -/
def execTraceStop (h : CmdHdr) (p : List Byte) (s : State) : Host.Outcome State Fault Refusal :=
  run (Dev.hostCommand 0x51 h p bodyTraceStop grpNone) s

/-- TRACE_FORCE (R136). -/
def execTraceForce (h : CmdHdr) (p : List Byte) (s : State) : Host.Outcome State Fault Refusal :=
  run (Dev.hostCommand 0x52 h p bodyTraceForce grpNone) s

/-- TRACE_STATUS (R135). -/
def execTraceStatus (h : CmdHdr) (p : List Byte) (s : State) : Host.Outcome State Fault Refusal :=
  run (Dev.hostCommand 0x53 h p bodyTraceStatus grpNone) s

/-- CAPTURE_ARM (R136). -/
def execCaptureArm (h : CmdHdr) (p : List Byte) (s : State) : Host.Outcome State Fault Refusal :=
  run (Dev.hostCommand 0x54 h p bodyCaptureArm grpNone) s

/-- CAPTURE_STOP (R136). -/
def execCaptureStop (h : CmdHdr) (p : List Byte) (s : State) : Host.Outcome State Fault Refusal :=
  run (Dev.hostCommand 0x55 h p bodyCaptureStop grpNone) s

/-- CAPTURE_TRIGGER (R146). -/
def execCaptureTrigger (h : CmdHdr) (p : List Byte) (s : State) : Host.Outcome State Fault Refusal :=
  run (Dev.hostCommand 0x56 h p bodyCaptureTrigger (grpAll 0x56 bodyCaptureTrigger)) s

/-- CAPTURE_STATUS (R147). -/
def execCaptureStatus (h : CmdHdr) (p : List Byte) (s : State) : Host.Outcome State Fault Refusal :=
  run (Dev.hostCommand 0x57 h p bodyCaptureStatus grpNone) s

/-- RING_STATUS (R449). -/
def execRingStatus (h : CmdHdr) (p : List Byte) (s : State) : Host.Outcome State Fault Refusal :=
  run (Dev.hostCommand 0x58 h p bodyRingStatus grpNone) s

/-- EVENT_FILTER (R483). -/
def execEventFilter (h : CmdHdr) (p : List Byte) (s : State) : Host.Outcome State Fault Refusal :=
  run (Dev.hostCommand 0x59 h p bodyEventFilter grpNone) s

end Sys2Proof.Machine
end

