-- ==== Sys2Proof/Machine/RegisterCommands.lean ====
section
/-! DEFINITION. Host commands on registers, staging and memories (Table 20-6). -/

namespace Sys2Proof.Machine

/-- REG_READ (R17). -/
def execRegRead (h : CmdHdr) (p : List Byte) (s : State) : Host.Outcome State Fault Refusal :=
  run (Dev.hostCommand 0x10 h p bodyRegRead grpNone) s

/-- REG_WRITE (R468). -/
def execRegWrite (h : CmdHdr) (p : List Byte) (s : State) : Host.Outcome State Fault Refusal :=
  run (Dev.hostCommand 0x11 h p bodyRegWrite grpNone) s

/-- REG_STAGE (R468). -/
def execRegStage (h : CmdHdr) (p : List Byte) (s : State) : Host.Outcome State Fault Refusal :=
  run (Dev.hostCommand 0x12 h p bodyRegStage (grpAll 0x12 bodyRegStage)) s

/-- COMMIT (R19). -/
def execCommit (h : CmdHdr) (p : List Byte) (s : State) : Host.Outcome State Fault Refusal :=
  run (Dev.hostCommand 0x13 h p bodyCommit grpCommit) s

/-- DISCARD_STAGE (R20). -/
def execDiscardStage (h : CmdHdr) (p : List Byte) (s : State) : Host.Outcome State Fault Refusal :=
  run (Dev.hostCommand 0x14 h p bodyDiscardStage (grpAll 0x14 bodyDiscardStage)) s

/-- MEM_READ (R40). -/
def execMemRead (h : CmdHdr) (p : List Byte) (s : State) : Host.Outcome State Fault Refusal :=
  run (Dev.hostCommand 0x15 h p bodyMemRead grpNone) s

/-- MEM_WRITE (R25). -/
def execMemWrite (h : CmdHdr) (p : List Byte) (s : State) : Host.Outcome State Fault Refusal :=
  run (Dev.hostCommand 0x16 h p bodyMemWrite grpNone) s

end Sys2Proof.Machine
end

