-- ==== Sys2Proof/Machine/RegisterWrites.lean ====
section
/-! DEFINITION. Writes and reads of single registers and fields, with the rights of an ENGINEER; the status each completes with stands in `Sec.out`. -/

namespace Sys2Proof.Machine

/-- REGISTER_WRITE (R9). -/
def execRegisterWrite (addr : Nat) (mask value : Word) (s : State) : Host.Outcome State Fault Refusal :=
  run (whenAwake (fun d => d.writeRegister addr mask value)) s

/-- TRC_CTRL_ARM (R136). -/
def execTrcCtrlArm (s : State) : Host.Outcome State Fault Refusal :=
  run (whenAwake (fun d => d.writeBit F.TRC_CTRL_ARM)) s

/-- TRC_CTRL_STOP (R136). -/
def execTrcCtrlStop (s : State) : Host.Outcome State Fault Refusal :=
  run (whenAwake (fun d => d.writeBit F.TRC_CTRL_STOP)) s

/-- TRC_CTRL_FORCE (R136). -/
def execTrcCtrlForce (s : State) : Host.Outcome State Fault Refusal :=
  run (whenAwake (fun d => d.writeBit F.TRC_CTRL_FORCE)) s

/-- CAP_CTRL_ARM (R136). -/
def execCapCtrlArm (s : State) : Host.Outcome State Fault Refusal :=
  run (whenAwake (fun d => d.writeBit F.CAP_CTRL_ARM)) s

/-- CAP_CTRL_STOP (R136). -/
def execCapCtrlStop (s : State) : Host.Outcome State Fault Refusal :=
  run (whenAwake (fun d => d.writeBit F.CAP_CTRL_STOP)) s

/-- CAP_CTRL_FORCE (R136). -/
def execCapCtrlForce (s : State) : Host.Outcome State Fault Refusal :=
  run (whenAwake (fun d => d.writeBit F.CAP_CTRL_FORCE)) s

/-- ANG_STAMP_CYC_READ (R72). -/
def execAngStampCycRead (s : State) : Host.Outcome State Fault Refusal :=
  run (whenAwake (fun d => d.readStamp)) s

/-- SAR_REG_START (R182). -/
def execSarRegStart (x : Fin 2) (ch : Fin 32) (left : Bool) (s : State) : Host.Outcome State Fault Refusal :=
  run (whenAwake (fun d => d.writeSarReg x ch left)) s

/-- PWM_SYNC_CTRL_MEAS (R251). -/
def execPwmSyncCtrlMeas (s : State) : Host.Outcome State Fault Refusal :=
  run (whenAwake (fun d => d.writeBit F.PWM_SYNC_CTRL_MEAS)) s

/-- GDR_CTRL_CLEAR (R321). -/
def execGdrCtrlClear (b : Fin 2) (s : State) : Host.Outcome State Fault Refusal :=
  run (whenAwake (fun d => d.writeBit (F.GDR_CTRL_CLEAR.ix b))) s

/-- DRT_CTRL_START (R343). -/
def execDrtCtrlStart (c : Fin 2) (s : State) : Host.Outcome State Fault Refusal :=
  run (whenAwake (fun d => d.writeBit (F.DRT_CTRL_START.ix c))) s

/-- DRT_CTRL_STOP (R343). -/
def execDrtCtrlStop (c : Fin 2) (s : State) : Host.Outcome State Fault Refusal :=
  run (whenAwake (fun d => d.writeBit (F.DRT_CTRL_STOP.ix c))) s

/-- DRT_CTRL_CLEAR (R341). -/
def execDrtCtrlClear (c : Fin 2) (s : State) : Host.Outcome State Fault Refusal :=
  run (whenAwake (fun d => d.writeBit (F.DRT_CTRL_CLEAR.ix c))) s

/-- DRT_SETP_WRITE (R339). -/
def execDrtSetpWrite (c : Fin 2) (v : Word) (s : State) : Host.Outcome State Fault Refusal :=
  run (whenAwake (fun d => d.writeWord (F.DRT_SETP.ix c).addr v)) s

/-- CPR_RESET_WARM (R362). -/
def execCprResetWarm (s : State) : Host.Outcome State Fault Refusal :=
  run (whenAwake (fun d => d.writeBit F.CPR_RESET_WARM)) s

/-- CPR_HWDT_KICK (R365). -/
def execCprHwdtKick (v : Word) (s : State) : Host.Outcome State Fault Refusal :=
  run (whenAwake (fun d => d.writeWord F.CPR_HWDT_KICK.addr v)) s

/-- NET_PTP_SET_WRITE (R382). -/
def execNetPtpSetWrite (v : Word) (s : State) : Host.Outcome State Fault Refusal :=
  run (whenAwake (fun d => d.writeWord F.NET_PTP_SET.addr v)) s

/-- CAN_CTRL_RECOVER (R434). -/
def execCanCtrlRecover (c : Fin 2) (s : State) : Host.Outcome State Fault Refusal :=
  run (whenAwake (fun d => d.writeBit (F.CAN_CTRL_RECOVER.ix c))) s

/-- CAN_MB_REQ (R424). -/
def execCanMbReq (c : Fin 2) (m : Fin 64) (s : State) : Host.Outcome State Fault Refusal :=
  run (whenAwake (fun d => d.writeBit (mbF F.CAN_MB_REQ c m))) s

/-- CAN_MB_CANCEL (R426). -/
def execCanMbCancel (c : Fin 2) (m : Fin 64) (s : State) : Host.Outcome State Fault Refusal :=
  run (whenAwake (fun d => d.writeBit (mbF F.CAN_MB_CANCEL c m))) s

end Sys2Proof.Machine
end

