-- ==== Sys2Proof/Machine/SenseEvents.lean ====
section
/-! DEFINITION. Events of SDM and SAR (chapters 6 and 7). -/

namespace Sys2Proof.Machine

/-- SDM_FAULT_DETECT (R163). -/
def execSdmFaultDetect (n : Fin 24) (clock : Bool) (bits : List Bool) (s : State) : Host.Outcome State Fault Refusal :=
  run (whenAwake (fun d => d.sdmFault n clock bits)) s

/-- SDM_RECOVERED (R163). -/
def execSdmRecovered (n : Fin 24) (bits : List Bool) (s : State) : Host.Outcome State Fault Refusal :=
  run (whenAwake (fun d => d.sdmRecovered n bits)) s

/-- MANCH_CODE_VIOLATION (R153). -/
def execManchCodeViolation (n : Fin 24) (s : State) : Host.Outcome State Fault Refusal :=
  run (whenAwake (fun d => d.manchViolation n)) s

/-- F3_ASSERT (R161). -/
def execF3Assert (n : Fin 24) (bits : List Bool) (dt : Nat) (s : State) : Host.Outcome State Fault Refusal :=
  run (whenAwake (fun d => d.f3Assert n bits dt)) s

/-- F3_DEASSERT (R161). -/
def execF3Deassert (n : Fin 24) (bits : List Bool) (dt : Nat) (s : State) : Host.Outcome State Fault Refusal :=
  run (whenAwake (fun d => d.f3Deassert n bits dt)) s

/-- SAR_CONVERSION_DONE (R177). -/
def execSarConversionDone (x : Fin 2) (i : Fin 64) (uvs : List Int) (s : State) : Host.Outcome State Fault Refusal :=
  run (whenPaced (fun d => d.sarConverted x i uvs)) s

/-- SAR_PASS_COMPLETE (R178). -/
def execSarPassComplete (a b : Int) (s : State) : Host.Outcome State Fault Refusal :=
  run (whenPaced (fun d => d.sarPublish a b)) s

/-- SAR_REG_DONE (R182). -/
def execSarRegDone (x : Fin 2) (uv : Int) (s : State) : Host.Outcome State Fault Refusal :=
  run (whenAwake (fun d => d.sarRegDone x uv)) s

/-- SAR_REF (R185). -/
def execSarRef (ok : Bool) (s : State) : Host.Outcome State Fault Refusal :=
  run (whenAwake (fun d => d.sarRef ok)) s

end Sys2Proof.Machine
end

