-- ==== Sys2Proof/Machine/TrustCommands.lean ====
section
/-! DEFINITION. Host commands of the log, sensors, life cycle and Draught (Table 20-6). -/

namespace Sys2Proof.Machine

/-- LOG_READ (R477). -/
def execLogRead (h : CmdHdr) (p : List Byte) (s : State) : Host.Outcome State Fault Refusal :=
  run (Dev.hostCommand 0x80 h p bodyLogRead grpNone) s

/-- LOG_EXPORT (R482). -/
def execLogExport (h : CmdHdr) (p : List Byte) (s : State) : Host.Outcome State Fault Refusal :=
  run (Dev.hostCommand 0x81 h p bodyLogExport grpNone) s

/-- SENSOR_READ (R475). -/
def execSensorRead (h : CmdHdr) (p : List Byte) (s : State) : Host.Outcome State Fault Refusal :=
  run (Dev.hostCommand 0x82 h p bodySensorRead grpNone) s

/-- LC_TRANSITION (R511). -/
def execLcTransition (h : CmdHdr) (p : List Byte) (s : State) : Host.Outcome State Fault Refusal :=
  run (Dev.hostCommand 0x90 h p bodyLcTransition grpNone) s

/-- PROVISION (R497). -/
def execProvision (h : CmdHdr) (p : List Byte) (s : State) : Host.Outcome State Fault Refusal :=
  run (Dev.hostCommand 0x91 h p bodyProvision grpNone) s

/-- ATTEST (R507). -/
def execAttest (h : CmdHdr) (p : List Byte) (s : State) : Host.Outcome State Fault Refusal :=
  run (Dev.hostCommand 0x92 h p bodyAttest grpNone) s

/-- DRAUGHT (R343). -/
def execDraught (h : CmdHdr) (p : List Byte) (s : State) : Host.Outcome State Fault Refusal :=
  run (Dev.hostCommand 0x98 h p bodyDraught grpNone) s

end Sys2Proof.Machine
end

