-- ==== Sys2Proof/Machine/Dispatch.lean ====
section
/-! DEFINITION. One arm for each command: the call of its meaning. -/

namespace Sys2Proof.Machine

/-- A command's effect on everything but the queue. -/
def exec (i : Instr) (s : State) : Host.Outcome State Fault Refusal :=
  match i with
  | .echo h p => Sys2Proof.Machine.execEcho h p s
  | .identify h p => Sys2Proof.Machine.execIdentify h p s
  | .sessionOpen h p => Sys2Proof.Machine.execSessionOpen h p s
  | .sessionClose h p => Sys2Proof.Machine.execSessionClose h p s
  | .sessionRekey h p => Sys2Proof.Machine.execSessionRekey h p s
  | .regRead h p => Sys2Proof.Machine.execRegRead h p s
  | .regWrite h p => Sys2Proof.Machine.execRegWrite h p s
  | .regStage h p => Sys2Proof.Machine.execRegStage h p s
  | .commit h p => Sys2Proof.Machine.execCommit h p s
  | .discardStage h p => Sys2Proof.Machine.execDiscardStage h p s
  | .memRead h p => Sys2Proof.Machine.execMemRead h p s
  | .memWrite h p => Sys2Proof.Machine.execMemWrite h p s
  | .stateRequest h p => Sys2Proof.Machine.execStateRequest h p s
  | .setpoint h p => Sys2Proof.Machine.execSetpoint h p s
  | .curtail h p => Sys2Proof.Machine.execCurtail h p s
  | .trip h p => Sys2Proof.Machine.execTrip h p s
  | .clearTrip h p => Sys2Proof.Machine.execClearTrip h p s
  | .lockoutReset h p => Sys2Proof.Machine.execLockoutReset h p s
  | .imgWrite h p => Sys2Proof.Machine.execImgWrite h p s
  | .imgVerify h p => Sys2Proof.Machine.execImgVerify h p s
  | .imgActivate h p => Sys2Proof.Machine.execImgActivate h p s
  | .imgStatus h p => Sys2Proof.Machine.execImgStatus h p s
  | .imgErase h p => Sys2Proof.Machine.execImgErase h p s
  | .meterRecord h p => Sys2Proof.Machine.execMeterRecord h p s
  | .meterRead h p => Sys2Proof.Machine.execMeterRead h p s
  | .meterSave h p => Sys2Proof.Machine.execMeterSave h p s
  | .pqRead h p => Sys2Proof.Machine.execPqRead h p s
  | .traceArm h p => Sys2Proof.Machine.execTraceArm h p s
  | .traceStop h p => Sys2Proof.Machine.execTraceStop h p s
  | .traceForce h p => Sys2Proof.Machine.execTraceForce h p s
  | .traceStatus h p => Sys2Proof.Machine.execTraceStatus h p s
  | .captureArm h p => Sys2Proof.Machine.execCaptureArm h p s
  | .captureStop h p => Sys2Proof.Machine.execCaptureStop h p s
  | .captureTrigger h p => Sys2Proof.Machine.execCaptureTrigger h p s
  | .captureStatus h p => Sys2Proof.Machine.execCaptureStatus h p s
  | .ringStatus h p => Sys2Proof.Machine.execRingStatus h p s
  | .eventFilter h p => Sys2Proof.Machine.execEventFilter h p s
  | .groupStatus h p => Sys2Proof.Machine.execGroupStatus h p s
  | .groupMeasure h p => Sys2Proof.Machine.execGroupMeasure h p s
  | .roleSet h p => Sys2Proof.Machine.execRoleSet h p s
  | .unitRead h p => Sys2Proof.Machine.execUnitRead h p s
  | .keyDeliver h p => Sys2Proof.Machine.execKeyDeliver h p s
  | .ctxStatus h p => Sys2Proof.Machine.execCtxStatus h p s
  | .timeRead h p => Sys2Proof.Machine.execTimeRead h p s
  | .canSend h p => Sys2Proof.Machine.execCanSend h p s
  | .canRead h p => Sys2Proof.Machine.execCanRead h p s
  | .logRead h p => Sys2Proof.Machine.execLogRead h p s
  | .logExport h p => Sys2Proof.Machine.execLogExport h p s
  | .sensorRead h p => Sys2Proof.Machine.execSensorRead h p s
  | .lcTransition h p => Sys2Proof.Machine.execLcTransition h p s
  | .provision h p => Sys2Proof.Machine.execProvision h p s
  | .attest h p => Sys2Proof.Machine.execAttest h p s
  | .draught h p => Sys2Proof.Machine.execDraught h p s
  | .registerWrite addr mask value => Sys2Proof.Machine.execRegisterWrite addr mask value s
  | .trcCtrlArm => Sys2Proof.Machine.execTrcCtrlArm s
  | .trcCtrlStop => Sys2Proof.Machine.execTrcCtrlStop s
  | .trcCtrlForce => Sys2Proof.Machine.execTrcCtrlForce s
  | .capCtrlArm => Sys2Proof.Machine.execCapCtrlArm s
  | .capCtrlStop => Sys2Proof.Machine.execCapCtrlStop s
  | .capCtrlForce => Sys2Proof.Machine.execCapCtrlForce s
  | .angStampCycRead => Sys2Proof.Machine.execAngStampCycRead s
  | .sarRegStart x ch left => Sys2Proof.Machine.execSarRegStart x ch left s
  | .pwmSyncCtrlMeas => Sys2Proof.Machine.execPwmSyncCtrlMeas s
  | .gdrCtrlClear b => Sys2Proof.Machine.execGdrCtrlClear b s
  | .drtCtrlStart c => Sys2Proof.Machine.execDrtCtrlStart c s
  | .drtCtrlStop c => Sys2Proof.Machine.execDrtCtrlStop c s
  | .drtCtrlClear c => Sys2Proof.Machine.execDrtCtrlClear c s
  | .drtSetpWrite c v => Sys2Proof.Machine.execDrtSetpWrite c v s
  | .cprResetWarm => Sys2Proof.Machine.execCprResetWarm s
  | .cprHwdtKick v => Sys2Proof.Machine.execCprHwdtKick v s
  | .netPtpSetWrite v => Sys2Proof.Machine.execNetPtpSetWrite v s
  | .canCtrlRecover c => Sys2Proof.Machine.execCanCtrlRecover c s
  | .canMbReq c m => Sys2Proof.Machine.execCanMbReq c m s
  | .canMbCancel c m => Sys2Proof.Machine.execCanMbCancel c m s
  | .mbxDbGo m w dt => Sys2Proof.Machine.execMbxDbGo m w dt s
  | .mbxAck m => Sys2Proof.Machine.execMbxAck m s
  | .ringTailWrite r w => Sys2Proof.Machine.execRingTailWrite r w s
  | .ringCtrlReset r => Sys2Proof.Machine.execRingCtrlReset r s
  | .requestAreaWrite m off bytes => Sys2Proof.Machine.execRequestAreaWrite m off bytes s
  | .requestAreaRead m off => Sys2Proof.Machine.execRequestAreaRead m off s
  | .controlWordBadEnables write => Sys2Proof.Machine.execControlWordBadEnables write s
  | .mbxCopyDone m dt => Sys2Proof.Machine.execMbxCopyDone m dt s
  | .mbxResponsePost m => Sys2Proof.Machine.execMbxResponsePost m s
  | .msixMessage v => Sys2Proof.Machine.execMsixMessage v s
  | .ringRecordWrite r dt => Sys2Proof.Machine.execRingRecordWrite r dt s
  | .descriptorFetchDone r xs dt => Sys2Proof.Machine.execDescriptorFetchDone r xs dt s
  | .completionTimeout r dt => Sys2Proof.Machine.execCompletionTimeout r dt s
  | .ringIrqTimeout r => Sys2Proof.Machine.execRingIrqTimeout r s
  | .malformedTlp dt => Sys2Proof.Machine.execMalformedTlp dt s
  | .poisonedTlp ring dt => Sys2Proof.Machine.execPoisonedTlp ring dt s
  | .unexpectedCompletion dt => Sys2Proof.Machine.execUnexpectedCompletion dt s
  | .unsupportedRequest dt => Sys2Proof.Machine.execUnsupportedRequest dt s
  | .pcieLinkUp wide speed dt => Sys2Proof.Machine.execPcieLinkUp wide speed dt s
  | .hstReset cause dt => Sys2Proof.Machine.execHstReset cause dt s
  | .deviceFrameStart bits => Sys2Proof.Machine.execDeviceFrameStart bits s
  | .stagedSetAdopt => Sys2Proof.Machine.execStagedSetAdopt s
  | .imageActivationAdopt => Sys2Proof.Machine.execImageActivationAdopt s
  | .packageActivationAdopt => Sys2Proof.Machine.execPackageActivationAdopt s
  | .slotIssue n => Sys2Proof.Machine.execSlotIssue n s
  | .slotResultWrite n => Sys2Proof.Machine.execSlotResultWrite n s
  | .legSetComplete n => Sys2Proof.Machine.execLegSetComplete n s
  | .fbxOverrun cause slot => Sys2Proof.Machine.execFbxOverrun cause slot s
  | .mpptScanDue c => Sys2Proof.Machine.execMpptScanDue c s
  | .commonAngleSample bits => Sys2Proof.Machine.execCommonAngleSample bits s
  | .angSnap => Sys2Proof.Machine.execAngSnap s
  | .angHoldExpired => Sys2Proof.Machine.execAngHoldExpired s
  | .angSrcChange => Sys2Proof.Machine.execAngSrcChange s
  | .lineCycleBoundary => Sys2Proof.Machine.execLineCycleBoundary s
  | .metSnapshot => Sys2Proof.Machine.execMetSnapshot s
  | .metSettingsAdopt => Sys2Proof.Machine.execMetSettingsAdopt s
  | .metPeriodicSave => Sys2Proof.Machine.execMetPeriodicSave s
  | .gsvSettingsAdopt => Sys2Proof.Machine.execGsvSettingsAdopt s
  | .phasorReport => Sys2Proof.Machine.execPhasorReport s
  | .carrierStart => Sys2Proof.Machine.execCarrierStart s
  | .halfCarrierReload => Sys2Proof.Machine.execHalfCarrierReload s
  | .vswFbTransition n rising dt => Sys2Proof.Machine.execVswFbTransition n rising dt s
  | .vswExchangeMissing n => Sys2Proof.Machine.execVswExchangeMissing n s
  | .delayLineCalibrated g => Sys2Proof.Machine.execDelayLineCalibrated g s
  | .pwmDlStale g => Sys2Proof.Machine.execPwmDlStale g s
  | .pwmDlFail g => Sys2Proof.Machine.execPwmDlFail g s
  | .syncInPulse width dt => Sys2Proof.Machine.execSyncInPulse width dt s
  | .pwmSyncLoss => Sys2Proof.Machine.execPwmSyncLoss s
  | .pwmSyncMeas diffs => Sys2Proof.Machine.execPwmSyncMeas diffs s
  | .sdmFaultDetect n clock bits => Sys2Proof.Machine.execSdmFaultDetect n clock bits s
  | .sdmRecovered n bits => Sys2Proof.Machine.execSdmRecovered n bits s
  | .manchCodeViolation n => Sys2Proof.Machine.execManchCodeViolation n s
  | .f3Assert n bits dt => Sys2Proof.Machine.execF3Assert n bits dt s
  | .f3Deassert n bits dt => Sys2Proof.Machine.execF3Deassert n bits dt s
  | .sarConversionDone x n codes => Sys2Proof.Machine.execSarConversionDone x n codes s
  | .sarPassComplete a b => Sys2Proof.Machine.execSarPassComplete a b s
  | .sarRegDone x uv => Sys2Proof.Machine.execSarRegDone x uv s
  | .sarRef ok => Sys2Proof.Machine.execSarRef ok s
  | .comparatorAssert j uv dt => Sys2Proof.Machine.execComparatorAssert j uv dt s
  | .comparatorStrobe uvs => Sys2Proof.Machine.execComparatorStrobe uvs s
  | .blankingEnd j => Sys2Proof.Machine.execBlankingEnd j s
  | .fltNAssert n dt => Sys2Proof.Machine.execFltNAssert n dt s
  | .sourceDeassert n uv dt => Sys2Proof.Machine.execSourceDeassert n uv dt s
  | .safeSequenceInnerOff n => Sys2Proof.Machine.execSafeSequenceInnerOff n s
  | .contactorOpenDelay k => Sys2Proof.Machine.execContactorOpenDelay k s
  | .restartWaitEnd g => Sys2Proof.Machine.execRestartWaitEnd g s
  | .lockoutCountAge => Sys2Proof.Machine.execLockoutCountAge s
  | .ctlFbChange k level dt => Sys2Proof.Machine.execCtlFbChange k level dt s
  | .dmpCtlFb k => Sys2Proof.Machine.execDmpCtlFb k s
  | .gsvPrechFail => Sys2Proof.Machine.execGsvPrechFail s
  | .prechargeDcT => Sys2Proof.Machine.execPrechargeDcT s
  | .breakerAcT => Sys2Proof.Machine.execBreakerAcT s
  | .syncTimeExpired => Sys2Proof.Machine.execSyncTimeExpired s
  | .driveWord b err => Sys2Proof.Machine.execDriveWord b err s
  | .hsWarningAssert n mv dt => Sys2Proof.Machine.execHsWarningAssert n mv dt s
  | .hsWarningRelease n mv dt => Sys2Proof.Machine.execHsWarningRelease n mv dt s
  | .hsLockoutAssert n mv ext dt => Sys2Proof.Machine.execHsLockoutAssert n mv ext dt s
  | .hsLockoutRelease n mv ext dt => Sys2Proof.Machine.execHsLockoutRelease n mv ext dt s
  | .vdrvUndervoltage mv dt => Sys2Proof.Machine.execVdrvUndervoltage mv dt s
  | .vdrvRecovered mv dt => Sys2Proof.Machine.execVdrvRecovered mv dt s
  | .gdrShortCircuit n rate dt => Sys2Proof.Machine.execGdrShortCircuit n rate dt s
  | .gdrOvercurrent n x dt => Sys2Proof.Machine.execGdrOvercurrent n x dt s
  | .softTurnoffEnd b => Sys2Proof.Machine.execSoftTurnoffEnd b s
  | .gdrRetryWaitEnd b => Sys2Proof.Machine.execGdrRetryWaitEnd b s
  | .gdrTryClear b => Sys2Proof.Machine.execGdrTryClear b s
  | .bridgeOffAssert b dt => Sys2Proof.Machine.execBridgeOffAssert b dt s
  | .bridgeOffRelease b dt => Sys2Proof.Machine.execBridgeOffRelease b dt s
  | .drtPwmPeriodStart c comps amp vmot early => Sys2Proof.Machine.execDrtPwmPeriodStart c comps amp vmot early s
  | .commutation c comps amp vmot early => Sys2Proof.Machine.execCommutation c comps amp vmot early s
  | .zcWindowClose c comps amp vmot early => Sys2Proof.Machine.execZcWindowClose c comps amp vmot early s
  | .drtCurrentLimit c uv dt => Sys2Proof.Machine.execDrtCurrentLimit c uv dt s
  | .speedLoopUpdate c => Sys2Proof.Machine.execSpeedLoopUpdate c s
  | .observeEnd c comps amp vmot early => Sys2Proof.Machine.execObserveEnd c comps amp vmot early s
  | .observeCrossing c ph side comps amp vmot early dt => Sys2Proof.Machine.execObserveCrossing c ph side comps amp vmot early dt s
  | .brakeEnd c => Sys2Proof.Machine.execBrakeEnd c s
  | .alignEnd c comps amp vmot early => Sys2Proof.Machine.execAlignEnd c comps amp vmot early s
  | .rampTimeout c => Sys2Proof.Machine.execRampTimeout c s
  | .coastTimeout c => Sys2Proof.Machine.execCoastTimeout c s
  | .drtRetryClear c => Sys2Proof.Machine.execDrtRetryClear c s
  | .porRelease pins hostMode dt => Sys2Proof.Machine.execPorRelease pins hostMode dt s
  | .refOk dt => Sys2Proof.Machine.execRefOk dt s
  | .mdllLock dt => Sys2Proof.Machine.execMdllLock dt s
  | .sramWipeDone dt => Sys2Proof.Machine.execSramWipeDone dt s
  | .bistDone fail dt => Sys2Proof.Machine.execBistDone fail dt s
  | .configStoreLoaded ok svc dt => Sys2Proof.Machine.execConfigStoreLoaded ok svc dt s
  | .modSynthLock dt => Sys2Proof.Machine.execModSynthLock dt s
  | .metRestore dt => Sys2Proof.Machine.execMetRestore dt s
  | .hearthKindleVerify k dt => Sys2Proof.Machine.execHearthKindleVerify k dt s
  | .cprKindled => Sys2Proof.Machine.execCprKindled s
  | .railFailure rail dt => Sys2Proof.Machine.execRailFailure rail dt s
  | .railOvervoltage rail dt => Sys2Proof.Machine.execRailOvervoltage rail dt s
  | .pfiQualified p => Sys2Proof.Machine.execPfiQualified p s
  | .vddAonFail dt => Sys2Proof.Machine.execVddAonFail dt s
  | .brownoutReset => Sys2Proof.Machine.execBrownoutReset s
  | .resetNAssert dt => Sys2Proof.Machine.execResetNAssert dt s
  | .resetNRelease e => Sys2Proof.Machine.execResetNRelease e s
  | .hearthWatchdog => Sys2Proof.Machine.execHearthWatchdog s
  | .cprHostWdt => Sys2Proof.Machine.execCprHostWdt s
  | .clockMonitorWindow dom ok dt => Sys2Proof.Machine.execClockMonitorWindow dom ok dt s
  | .cprRefLoss dt => Sys2Proof.Machine.execCprRefLoss dt s
  | .refReturn dt => Sys2Proof.Machine.execRefReturn dt s
  | .cprSscChange dt => Sys2Proof.Machine.execCprSscChange dt s
  | .d2dWordReceive w dt => Sys2Proof.Machine.execD2dWordReceive w dt s
  | .cprD2dLost dt => Sys2Proof.Machine.execCprD2dLost dt s
  | .analogLinkLoss dt => Sys2Proof.Machine.execAnalogLinkLoss dt s
  | .d2dLinkRestored dt => Sys2Proof.Machine.execD2dLinkRestored dt s
  | .managementTick temps heartbeat => Sys2Proof.Machine.execManagementTick temps heartbeat s
  | .supplyGlitch dt => Sys2Proof.Machine.execSupplyGlitch dt s
  | .clockGlitch dt => Sys2Proof.Machine.execClockGlitch dt s
  | .dieShieldCheck ok dt => Sys2Proof.Machine.execDieShieldCheck ok dt s
  | .hrtRollbackRaised type => Sys2Proof.Machine.execHrtRollbackRaised type s
  | .jtagInstruction j => Sys2Proof.Machine.execJtagInstruction j s
  | .jtagLcCommit cert => Sys2Proof.Machine.execJtagLcCommit cert s
  | .ethLinkUp p giga dt => Sys2Proof.Machine.execEthLinkUp p giga dt s
  | .ethLinkDown p dt => Sys2Proof.Machine.execEthLinkDown p dt s
  | .ethFrameReceive f dt => Sys2Proof.Machine.execEthFrameReceive f dt s
  | .gooseFrameReceive g dt => Sys2Proof.Machine.execGooseFrameReceive g dt s
  | .svFrameReceive v dt => Sys2Proof.Machine.execSvFrameReceive v dt s
  | .ptpMessageReceive f m dt => Sys2Proof.Machine.execPtpMessageReceive f m dt s
  | .supervisionFrameReceive f node dt => Sys2Proof.Machine.execSupervisionFrameReceive f node dt s
  | .l2CommandFrame f dt => Sys2Proof.Machine.execL2CommandFrame f dt s
  | .supervisionSend => Sys2Proof.Machine.execSupervisionSend s
  | .netPathLost p => Sys2Proof.Machine.execNetPathLost p s
  | .streamExpiry n => Sys2Proof.Machine.execStreamExpiry n s
  | .gooseMemberChange n => Sys2Proof.Machine.execGooseMemberChange n s
  | .gooseRetransmit n => Sys2Proof.Machine.execGooseRetransmit n s
  | .svSampleInstant n => Sys2Proof.Machine.execSvSampleInstant n s
  | .netKeyChange ctx => Sys2Proof.Machine.execNetKeyChange ctx s
  | .netKeyExpired ctx => Sys2Proof.Machine.execNetKeyExpired ctx s
  | .ptpAnnounceTimeout => Sys2Proof.Machine.execPtpAnnounceTimeout s
  | .ppsInEdge dt => Sys2Proof.Machine.execPpsInEdge dt s
  | .ppsOutSecond => Sys2Proof.Machine.execPpsOutSecond s
  | .flueLinkUp link dt => Sys2Proof.Machine.execFlueLinkUp link dt s
  | .flueLinkDown link dt => Sys2Proof.Machine.execFlueLinkDown link dt s
  | .flueFrameReceive hd dt => Sys2Proof.Machine.execFlueFrameReceive hd dt s
  | .crownFrameReceive hd f dt => Sys2Proof.Machine.execCrownFrameReceive hd f dt s
  | .memberFrameReceive hd f dt => Sys2Proof.Machine.execMemberFrameReceive hd f dt s
  | .bulkFrameReceive hd b dt => Sys2Proof.Machine.execBulkFrameReceive hd b dt s
  | .timeFrameReceive hd ns ps dt => Sys2Proof.Machine.execTimeFrameReceive hd ns ps dt s
  | .joinFrameReceive hd devId strap sps cpc dt => Sys2Proof.Machine.execJoinFrameReceive hd devId strap sps cpc dt s
  | .shadowFrameReceive hd b dt => Sys2Proof.Machine.execShadowFrameReceive hd b dt s
  | .flueTimeExchange => Sys2Proof.Machine.execFlueTimeExchange s
  | .fluTimeLost => Sys2Proof.Machine.execFluTimeLost s
  | .joinFrameSend => Sys2Proof.Machine.execJoinFrameSend s
  | .groupFrameBoundary => Sys2Proof.Machine.execGroupFrameBoundary s
  | .memberFrameDeadline => Sys2Proof.Machine.execMemberFrameDeadline s
  | .relayTimeout => Sys2Proof.Machine.execRelayTimeout s
  | .canFrameReceive c f len dt => Sys2Proof.Machine.execCanFrameReceive c f len dt s
  | .canTxStart c dt => Sys2Proof.Machine.execCanTxStart c dt s
  | .canTxEnd c ok dt => Sys2Proof.Machine.execCanTxEnd c ok dt s
  | .canBusOn c dt => Sys2Proof.Machine.execCanBusOn c dt s
  | .canTimingApply c => Sys2Proof.Machine.execCanTimingApply c s
  | .canTmCycleStart => Sys2Proof.Machine.execCanTmCycleStart s
  | .canTmLost => Sys2Proof.Machine.execCanTmLost s
  | .aonPowerPresent bank18 dt => Sys2Proof.Machine.execAonPowerPresent bank18 dt s
  | .emberWriteComplete e => Sys2Proof.Machine.execEmberWriteComplete e s
  | .periodicSaveComplete ok => Sys2Proof.Machine.execPeriodicSaveComplete ok s
  | .canBusError c lec tx eight dt => Sys2Proof.Machine.execCanBusError c lec tx eight dt s
  | .pcieConfigWrite bme d3 maxPayload en fmask => Sys2Proof.Machine.execPcieConfigWrite bme d3 maxPayload en fmask s

end Sys2Proof.Machine
end

