-- ==== Sys2Proof/Safety.lean ====
section
/-! DEFINITION. The terms in which claims are made: the state a command leaves, a host command that passes every check
of R459, and what is derived from the rest of the state after every command. -/

namespace Sys2Proof.Machine

/-- The state a command leaves whose own effect on the device is `d`: what follows at once has followed (`Dev.settle`),
the queue is kept. -/
def State.after (s : State) (d : Dev) : State := { s with dev := d.settle }

/-! ## What every command leaves consistent -/

/-- The bits of a field, so many as it has. -/
abbrev Fld.cut (f : Fld) (v : Nat) : Nat := v % 2 ^ (f.hi - f.lo + 1)

/-- Held outputs are off: the holds in force are the ones Damper acts on, a held leg is in its safe sequence or off,
and a Draught channel under a hold of Table 14-4 is in HELD, showing the lowest row, or in LOST. -/
def Dev.heldOff (d : Dev) : Prop :=
  d.dmp.held = d.heldLegs ∧ d.dmp.drtHeld = d.heldBridges
    ∧ (∀ n, n < 12 → d.heldLegs.testBit n = true → d.dmp.legs.getD n .free ≠ .free)
    ∧ ∀ c, c < 2 → (d.holdRows c ≠ 0 → d.drtState c = 7 ∨ d.drtState c = 8)
      ∧ (d.drtState c = 7 → d.holdRows c ≠ 0 ∧ d.get (F.DRT_STAT_HOLD.ix c) = lowestRow (d.holdRows c))

/-- A truth value as a one-bit field holds it. -/
abbrev bit (b : Bool) : Nat := if b then 1 else 0

/-- Status fields of Damper, the angle, the staged set and Hearth with what they show. -/
def Dev.shownOne (d : Dev) : List (Fld × Nat) :=
  [(F.DMP_STATUS_LATCH_A, d.dmp.latchA), (F.DMP_STATUS_HOLD_B, d.dmp.holdB), (F.DMP_STATUS_CYCLE, d.cycleGroups),
   (F.DMP_STATUS_LOCKOUT, bit d.dmp.lockout), (F.DMP_LEG_OFF_LEGS, d.dmp.held), (F.DMP_LEG_OFF_DRT, d.dmp.drtHeld),
   (F.DMP_CTL_STATE_OUT, d.dmp.ctlOut), (F.SDM_STATUS_CLK_OK, d.sdmClkOk), (F.ANG_STATUS_PTP_VALID, bit d.ptpOk),
   (F.PWM_STATUS_SYNC_ROLE, d.syncRole), (F.HRT_STATUS_ACT_PEND, bit d.hrt.act.isSome),
   (F.FBX_STATUS_LIVE_PEND, bit (d.hrt.act.any fun a => a.live && !a.pkg)),
   (F.HRT_SESS_OPEN, d.sec.sessions.length), (F.CPR_STATUS_STEP, d.step)]

/-- Status fields of a bridge and of a Draught channel with what they show (Tables 13-6 and 14-7). -/
def Dev.shownBridge (d : Dev) (b : Nat) : List (Fld × Nat) :=
  let x := d.bridge b
  [(F.GDR_STATUS_STATE.ix b, if x.latched then 2 else if x.wait.isSome then 1 else if d.bridgeHeld b then 3 else 0),
   (F.GDR_STATUS_SRC.ix b, d.hsSource b), (F.GDR_STATUS_WARN.ix b, x.warn), (F.GDR_STATUS_UV.ix b, d.lockedOut b),
   (F.DRT_SPEED.ix b, d.drtSpeed b), (F.DRT_REF.ix b, narrow (d.ch b).ref), (F.DRT_DUTY.ix b, narrow (d.ch b).d)]

/-- The word HST_DEVSTAT shows (Table 19-3): GSV's state, kindling's row, a latched group, valid PTP time, the Flue role,
the tick count. -/
def Dev.devstatWord (d : Dev) : Nat :=
  d.gsv + 256 * d.get F.CPR_STATUS_STEP + 4096 * bit (d.latched != 0) + 8192 * bit d.ptpOk + 16384 * d.get F.FLU_STATUS_ROLE
    + 65536 * (d.time.tick % 65536)

/-- Every status field that shows another part of the state, with what it shows. -/
def Dev.shown (d : Dev) : List (Fld × Nat) :=
  d.shownOne ++ d.shownBridge 0 ++ d.shownBridge 1 ++ (List.range 16).map fun m => (F.HST_DEVSTAT.ix m, d.devstatWord)

/-- Every such field shows what the state is. -/
def Dev.showsTruth (d : Dev) : Prop := ∀ x ∈ d.shown, d.get x.1 = x.1.cut x.2

/-! ## What raising an event and settling may change -/

/-- Registers that raising an event can change: the event flags, the log's numbers and counts, Damper's trip counters. -/
def raiseWords : List Nat :=
  [F.FBX_EVT_EVT, F.FBX_KU_EVT_EVT, F.FBX_TC_EVT_EVT, F.ANG_EVT_EVT, F.GSV_EVT_EVT, F.SDM_EVT_EVT, F.SAR_EVT_EVT,
   F.MET_EVT_EVT, F.PQ_EVT_EVT, F.PWM_EVT_EVT, F.DMP_EVT_EVT, F.GDR_EVT_EVT, F.DRT_EVT_EVT, F.CPR_EVT_EVT, F.NET_EVT_EVT,
   F.FLU_EVT_EVT, F.CAN_EVT_EVT.ix 0, F.CAN_EVT_EVT.ix 1, F.HST_EVT_EVT, F.HRT_EVT_EVT, F.HRT_LC_EVT_EVT,
   F.HRT_LOG_NEXT, F.HRT_STICKY_NEXT, F.HRT_LOG_SUPP_CNT, F.HRT_STICKY_DROP_CNT, F.HRT_EVT_DROP_CNT,
   F.DMP_LOCKOUT_CNT_CNT].map Fld.addr ++ (List.range 8).map fun g => (F.DMP_TRIP_CNT.ix g).addr

/-- Registers that settling can change beside those: Draught's states, lockouts of the gate drivers, Damper's contactor
state, and what is shown. -/
def settleWords : List Nat :=
  [F.DMP_STATUS_LATCH_A, F.DMP_LEG_OFF_LEGS, F.DMP_CTL_STATE_OUT, F.SDM_STATUS_CLK_OK, F.ANG_STATUS_PTP_VALID,
   F.PWM_STATUS_SYNC_ROLE, F.HRT_STATUS_ACT_PEND, F.FBX_STATUS_LIVE_PEND, F.HRT_SESS_OPEN, F.CPR_STATUS_STEP].map Fld.addr
    ++ (List.range 2).flatMap (fun b =>
      [F.GDR_STATUS_STATE, F.GDR_FAULT_UV, F.DRT_SPEED, F.DRT_REF, F.DRT_DUTY, F.DRT_STAT_STATE].map fun f => (f.ix b).addr)
    ++ [F.GDR_UV_CNT.addr]
    ++ (List.range 3).map (fun w => (F.DMP_SRC_LATCH.ix w).addr) ++ (List.range 16).map fun m => (F.HST_DEVSTAT.ix m).addr

/-- The parts of the state that raising an event leaves alone are those of `d`; the parts it can change are those of `e`. -/
def Dev.raisedFrom (d e : Dev) : Dev :=
  { d with
    regs := e.regs, dmp := e.dmp, log := e.log
    trc := { d.trc with evSeen := e.trc.evSeen }
    cap := { d.cap with happened := e.cap.happened }
    hst := { d.hst with rings := e.hst.rings }
    flu := { d.flu with alarm := e.flu.alarm }
    marks := { d.marks with trip := e.marks.trip }
    hrt := { d.hrt with act := e.hrt.act }
    pwm := { d.pwm with edges := e.pwm.edges } }

/-- The same of settling: beside those, Draught's channels, the bridges, kindling's rows, Flue's time base, the frames
that wait at the station network and at Flue, and the synchronisation pulse that is driven. -/
def Dev.settledFrom (d e : Dev) : Dev :=
  { d.raisedFrom e with
    drt := e.drt
    gdr := { d.gdr with br := e.gdr.br }
    cpr := { d.cpr with rows := e.cpr.rows }
    flu := { d.flu with alarm := e.flu.alarm, base := e.flu.base, ports := e.flu.ports, out := e.flu.out }
    net := { d.net with tx := e.net.tx, out := e.net.out }
    pwm := { d.pwm with edges := e.pwm.edges, grid := e.pwm.grid, syncOut := e.pwm.syncOut } }

/-! ## Host commands -/

/-- A request as the device remembers it until it is answered. -/
def asked (op : Nat) (h : CmdHdr) : Asked := ⟨h.path, op, h.sid, h.seq⟩

/-- The device once a request on its own attachments has passed steps 1 to 4 of R459: outputs of earlier commands gone,
the request counted on its session's key, its sequence number taken. -/
def Dev.received (d : Dev) (h : CmdHdr) : Dev :=
  let q := d.netQuiet.flueQuiet
  match q.session h.sid with
  | none => q
  | some _ => (q.sessUp h.sid fun s => s.count h.seq).sessUp h.sid fun s => s.take h.seq

/-- The device once steps 5 to 7 have passed: the owner's counter is the block's where the opcode carries one (R464). -/
def Dev.admitted (d : Dev) (op : Nat) (h : CmdHdr) (p : List Byte) : Dev :=
  if ownerOps.contains op then (d.received h).ownerCount p else d.received h

/-- A request of an opcode on the device's own attachments passes every check of R459 up to the layout of its payload,
and ends at this device. -/
def HostReady (d : Dev) (op : Nat) (h : CmdHdr) (p : List Byte) : Prop :=
  isRelay h.path = false ∧ d.hearthUp = true ∧ lengthBad h p = false ∧ h.ver = 1
    ∧ d.netQuiet.flueQuiet.authBad op h = false
    ∧ (∀ x, d.netQuiet.flueQuiet.session h.sid = some x → x.judge h.seq = .accept)
    ∧ ((d.received h).cpr.stopped = false ∨ op ∈ [0x02, 0x80, 0x81])
    ∧ lifecycleOk (d.received h).lc op p = true
    ∧ (d.received h).roleBad op h p = false
    ∧ (d.received h).resolve7 op h = .here
    ∧ (ownerOps.contains op = true → (d.received h).ownerOk op h p = true)
    ∧ (d.admitted op h p).memberSetpoint op .here = false
    ∧ (d.admitted op h p).layoutRefusal op h (ownPart op p) = none

/-- The device with the response of a request: a status and a payload from this unit. -/
def Dev.respond (d : Dev) (op : Nat) (h : CmdHdr) (status : Nat) (payload : List Byte) : Dev :=
  d.answer (asked op h) status d.selfUid payload

/-- A command by the host is one of the opcodes of Table 20-6: its number, header and payload. -/
def hostOf (i : Instr) : Option (Nat × CmdHdr × List Byte) :=
  match i with
  | .echo h p => some (0x01, h, p)
  | .identify h p => some (0x02, h, p)
  | .sessionOpen h p => some (0x03, h, p)
  | .sessionClose h p => some (0x04, h, p)
  | .sessionRekey h p => some (0x05, h, p)
  | .regRead h p => some (0x10, h, p)
  | .regWrite h p => some (0x11, h, p)
  | .regStage h p => some (0x12, h, p)
  | .commit h p => some (0x13, h, p)
  | .discardStage h p => some (0x14, h, p)
  | .memRead h p => some (0x15, h, p)
  | .memWrite h p => some (0x16, h, p)
  | .stateRequest h p => some (0x20, h, p)
  | .setpoint h p => some (0x21, h, p)
  | .curtail h p => some (0x22, h, p)
  | .trip h p => some (0x23, h, p)
  | .clearTrip h p => some (0x24, h, p)
  | .lockoutReset h p => some (0x25, h, p)
  | .imgWrite h p => some (0x30, h, p)
  | .imgVerify h p => some (0x31, h, p)
  | .imgActivate h p => some (0x32, h, p)
  | .imgStatus h p => some (0x33, h, p)
  | .imgErase h p => some (0x34, h, p)
  | .meterRecord h p => some (0x40, h, p)
  | .meterRead h p => some (0x41, h, p)
  | .meterSave h p => some (0x42, h, p)
  | .pqRead h p => some (0x43, h, p)
  | .traceArm h p => some (0x50, h, p)
  | .traceStop h p => some (0x51, h, p)
  | .traceForce h p => some (0x52, h, p)
  | .traceStatus h p => some (0x53, h, p)
  | .captureArm h p => some (0x54, h, p)
  | .captureStop h p => some (0x55, h, p)
  | .captureTrigger h p => some (0x56, h, p)
  | .captureStatus h p => some (0x57, h, p)
  | .ringStatus h p => some (0x58, h, p)
  | .eventFilter h p => some (0x59, h, p)
  | .groupStatus h p => some (0x60, h, p)
  | .groupMeasure h p => some (0x61, h, p)
  | .roleSet h p => some (0x62, h, p)
  | .unitRead h p => some (0x63, h, p)
  | .keyDeliver h p => some (0x70, h, p)
  | .ctxStatus h p => some (0x71, h, p)
  | .timeRead h p => some (0x72, h, p)
  | .canSend h p => some (0x78, h, p)
  | .canRead h p => some (0x79, h, p)
  | .logRead h p => some (0x80, h, p)
  | .logExport h p => some (0x81, h, p)
  | .sensorRead h p => some (0x82, h, p)
  | .lcTransition h p => some (0x90, h, p)
  | .provision h p => some (0x91, h, p)
  | .attest h p => some (0x92, h, p)
  | .draught h p => some (0x98, h, p)
  | _ => none

end Sys2Proof.Machine
end

