-- ==== Sys2Proof/Certificates/Slice0/Obligations.lean ====
section
/-! DEFINITION. The claims about the block that are to be proved. -/

open Sys2Proof Sys2Proof.Machine

/-- For every command c and every state whose queue is c followed by rest, step is exec of c on the state with the
queue rest. The queue is the model's own way of saying in which order commands reach the block; log entry 1.
(01_architecture.md, 20_command_set.md) -/
def Obligations.StepRunsTheFrontCommand : Prop :=
  ∀ (c : Instr) (rest : List Instr) (s : State), s.pending = c :: rest → step s = exec c { s with pending := rest }

/-- Where no command waits, a step answers the same state. This is the model's choice (log entry 1): time passes
only inside commands. (01_architecture.md) -/
def Obligations.IdleStepChangesNothing : Prop :=
  ∀ s : State, s.pending = [] → step s = .next s

/-- For every command and every state, exec answers a next state, never a fault or a refusal, and the next state's
queue is the state's queue. (01_architecture.md, 20_command_set.md) -/
def Obligations.EveryCommandAnswersAndKeepsTheQueue : Prop :=
  ∀ (c : Instr) (s : State), ∃ t, exec c s = .next t ∧ t.pending = s.pending

/-- For every opcode, once Hearth takes commands, a request on the device's own attachments: (1) whose LEN is wrong
is answered BAD_LENGTH and counted; (2) else with another version is answered BAD_OPCODE and counted; (3) else
failing authentication is answered AUTH_FAIL; (4) else with a sequence number that is 0 or at most M - 64 is
answered REPLAY, counted and raised; (5) else, accepted, but not permitted in the life-cycle state is answered
LIFECYCLE; (6) else without the role is answered NOT_PERMITTED. Nothing but the answer, the counters and, from step
4 on, the sequence number's taking happens. (R459, R460, R467) -/
def Obligations.HostRequestIsCheckedInOrder : Prop :=
  ∀ (i : Instr) (op : Nat) (h : CmdHdr) (p : List Byte) (s : State),
    hostOf i = some (op, h, p) → s.dev.hearthUp = true → isRelay h.path = false →
    let q := s.dev.netQuiet.flueQuiet
    let r := s.dev.received h
    (lengthBad h p = true → exec i s = .next (s.after ((q.bump F.HRT_CMD_LEN_CNT).refuse (asked op h) St.badLength))) ∧
    (lengthBad h p = false → h.ver ≠ 1 →
      exec i s = .next (s.after ((q.bump F.HRT_CMD_OPC_CNT).refuse (asked op h) St.badOpcode))) ∧
    (lengthBad h p = false → h.ver = 1 → q.authBad op h = true →
      exec i s = .next (s.after ((q.authFail h).refuse (asked op h) St.authFail))) ∧
    (∀ x, lengthBad h p = false → h.ver = 1 → q.authBad op h = false → q.session h.sid = some x →
      (h.seq = 0 ∨ h.seq + 64 ≤ x.top) →
      exec i s = .next (s.after ((((q.sessUp h.sid fun y => y.count h.seq).bump F.HRT_CMD_REPLAY_CNT).raise 0x1005 [h.sid]).refuse
        (asked op h) St.replay))) ∧
    (lengthBad h p = false → h.ver = 1 → q.authBad op h = false →
      (∀ x, q.session h.sid = some x → x.judge h.seq = .accept) → r.cpr.stopped = false →
      (lifecycleOk r.lc op p = false → exec i s = .next (s.after (r.respond op h St.lifecycle []))) ∧
      (lifecycleOk r.lc op p = true → r.roleBad op h p = true → exec i s = .next (s.after (r.respond op h St.notPermitted []))))

/-- Of a session whose highest accepted SEQ is M: SEQ 0 or SEQ at most M - 64 is REPLAY; else a SEQ in the cache of
accepted ones is DUPLICATE; else it is accepted. Accepting makes the highest the greater of M and SEQ, so M is SEQ
where SEQ > M and unchanged otherwise, and the SEQ judged again is then a DUPLICATE. A session starts with M = 0.
(R460) -/
def Obligations.SequenceNumberRule : Prop :=
  (∀ (x : Session) (q : Nat),
    ((q = 0 ∨ q + 64 ≤ x.top) → x.judge q = .replay) ∧
    (q ≠ 0 → x.top < q + 64 → (∃ c ∈ x.cache, c.1 = q) → x.judge q = .duplicate) ∧
    (q ≠ 0 → x.top < q + 64 → (∀ c ∈ x.cache, c.1 ≠ q) → x.judge q = .accept) ∧
    (x.top < q → (x.take q).top = q) ∧ (q ≤ x.top → (x.take q).top = x.top) ∧
    (x.judge q = .accept → (x.take q).judge q = .duplicate)) ∧
  ∀ sid role serial notAfter key : Nat,
    ({ sid := sid, role := role, serial := serial, notAfter := notAfter, key := key } : Session).top = 0

/-- In OWNED every opcode is permitted. In SERVICE every opcode but SETPOINT, CURTAIL, CLEAR_TRIP and STATE_REQUEST
with START. In TEST and VENDOR exactly 0x01 to 0x05, 0x80 to 0x82 and 0x90 to 0x92. In SCRAPPED exactly 0x01, 0x02
and 0x92. (R467) -/
def Obligations.LifecyclePermission : Prop :=
  ∀ (op : Nat) (p : List Byte),
    lifecycleOk 2 op p = true ∧
    (lifecycleOk 3 op p = false ↔ op = 0x21 ∨ op = 0x22 ∨ op = 0x24 ∨ (op = 0x20 ∧ leAt p 0 4 = 1)) ∧
    (∀ lc, lc < 2 → (lifecycleOk lc op p = true ↔ (1 ≤ op ∧ op ≤ 5) ∨ (0x80 ≤ op ∧ op ≤ 0x82) ∨ (0x90 ≤ op ∧ op ≤ 0x92))) ∧
    (lifecycleOk 4 op p = true ↔ op = 1 ∨ op = 2 ∨ op = 0x92)

/-- ECHO answers OK with the request's bytes. IDENTIFY answers OK with the fields of Table 20-6 in order.
SESSION_OPEN with a good key, no temperature alarm, a credential that fails no check and fewer than 16 open sessions
opens the lowest free session with the credential's role (OBSERVER before OWNED), raises its event and answers OK
with a signed record. SESSION_CLOSE answers OK and closes the session after its response. SESSION_REKEY puts a fresh
key in force after this sequence number and keeps the old one. (R459, R463, R500, R501, R508) -/
def Obligations.LocalCommandsComplete : Prop :=
  (∀ (h : CmdHdr) (p : List Byte) (s : State), HostReady s.dev 0x01 h p →
    exec (.echo h p) s = .next (s.after ((s.dev.admitted 0x01 h p).respond 0x01 h St.ok p))) ∧
  (∀ (h : CmdHdr) (p : List Byte) (s : State), HostReady s.dev 0x02 h p →
    let d := s.dev.admitted 0x02 h p
    exec (.identify h p) s = .next (s.after (d.respond 0x02 h St.ok
      (d.devId ++ leBytes 2 0x9164 ++ leBytes 1 0xB1 ++ leBytes 1 d.lc ++ leBytes 1 d.fluRole ++ zeros 3 ++ leBytes 2 d.selfUid
        ++ zeros 2 ++ leBytes 4 (d.fbx.active.elim 0 Image.version) ++ leBytes 4 d.pkgVersion)))) ∧
  (∀ (h : CmdHdr) (p : List Byte) (s : State), HostReady s.dev 0x03 h p →
    let d := s.dev.admitted 0x03 h p
    let c := p.drop 100
    h.good = true → d.hrt.hotTicks < 2 → d.credReason h (leAt p 96 4) c = 0 → d.sec.sessions.length < 16 →
    let role := if d.lc < 2 then 1 else leAt c 6 1
    let k := d.freshKey (p.take 96) "PLZ CMD"
    let x : Session := { sid := d.freeSid, role := role, serial := leAt c 40 4, notAfter := leAt c 32 8, key := k.2.1 }
    let r := leBytes 2 d.freeSid ++ leBytes 2 role ++ k.1
    let e := ((k.2.2.secUp fun y => { y with sessions := y.sessions ++ [x] }).raise 0x1012 [d.freeSid, role, x.serial]).shadowSession x
    exec (.sessionOpen h p) s = .next (s.after (e.respond 0x03 h St.ok ((r ++ e.devId) ++ e.sign ((r ++ e.devId) ++ p.take 96))))) ∧
  (∀ (h : CmdHdr) (p : List Byte) (s : State), HostReady s.dev 0x04 h p →
    exec (.sessionClose h p) s = .next (s.after (((s.dev.admitted 0x04 h p).respond 0x04 h St.ok []).closeSession h.sid))) ∧
  (∀ (h : CmdHdr) (p : List Byte) (s : State), HostReady s.dev 0x05 h p → h.good = true →
    let d := s.dev.admitted 0x05 h p
    let k := d.freshKey (p.take 96) "PLZ REKEY"
    let e := k.2.2.sessUp h.sid fun x => { x with oldKey := x.key, oldUsed := x.used, key := k.2.1, used := 0, since := h.seq }
    ∀ x, e.session h.sid = some x →
    exec (.sessionRekey h p) s = .next (s.after ((e.shadowSession x).respond 0x05 h St.ok
      (k.1 ++ (e.shadowSession x).sign (k.1 ++ p.take 96)))))

/-- REG_READ of 1 to 480 assigned words answers OK with the words as read, in effect or staged. REG_WRITE and
REG_STAGE of 1 to 160 entries answer with the status and first refused entry of writing or staging them in order.
COMMIT and DISCARD_STAGE answer with what committing or discarding gives. MEM_READ of an aligned range inside the
memory answers OK with its bytes. MEM_WRITE of such a range buffers host-parameter nodes bound by the image in
force, or stages the words of a memory that is staged, replacing those staged before at the same addresses and
taking the stage. (R16, R18, R20, R25, R40, R468, R470) -/
def Obligations.RegisterCommandsComplete : Prop :=
  (∀ (h : CmdHdr) (p : List Byte) (s : State), HostReady s.dev 0x10 h p →
    ∀ ws e, leAt p 0 4 < 2 ^ 24 → 1 ≤ leAt p 4 2 → leAt p 4 2 ≤ 480 →
    (s.dev.admitted 0x10 h p).readRun ((leAt p 6 2).testBit 0) (leAt p 0 4) (leAt p 4 2) = some (ws, e) →
    exec (.regRead h p) s = .next (s.after (e.respond 0x10 h St.ok (bytesOf ws)))) ∧
  (∀ (h : CmdHdr) (p : List Byte) (s : State), HostReady s.dev 0x11 h p → 1 ≤ leAt p 0 4 → leAt p 0 4 ≤ 160 →
    let d := s.dev.admitted 0x11 h p
    ∀ st i e warm, d.regWrite (d.roleOf h == 2) (entriesOf p) = (st, i, e, warm) →
    exec (.regWrite h p) s = .next (s.after
      (if warm = true then (e.respond 0x11 h st (indexPayload i)).resetAfter h.path 2 none else e.respond 0x11 h st (indexPayload i)))) ∧
  (∀ (h : CmdHdr) (p : List Byte) (s : State), HostReady s.dev 0x12 h p → 1 ≤ leAt p 0 4 → leAt p 0 4 ≤ 160 →
    ∀ st i e, (s.dev.admitted 0x12 h p).regStage h.sid (entriesOf p) = (st, i, e) →
    exec (.regStage h p) s = .next (s.after (e.respond 0x12 h st (indexPayload i)))) ∧
  (∀ (h : CmdHdr) (p : List Byte) (s : State), HostReady s.dev 0x13 h p → leAt p 0 4 ≤ 1 →
    ∀ st pay e, (s.dev.admitted 0x13 h p).commit h.sid (if leAt p 0 4 = 0 then none else some (leAt p 4 4)) = (st, pay, e) →
    exec (.commit h p) s = .next (s.after (e.respond 0x13 h st pay))) ∧
  (∀ (h : CmdHdr) (p : List Byte) (s : State), HostReady s.dev 0x14 h p →
    ∀ st e, (s.dev.admitted 0x14 h p).discardStage h.sid = (st, e) →
    exec (.discardStage h p) s = .next (s.after (e.respond 0x14 h st []))) ∧
  (∀ (h : CmdHdr) (p : List Byte) (s : State), HostReady s.dev 0x15 h p →
    memBad (leAt p 0 1) (leAt p 4 4) (leAt p 8 4) = false → leAt p 8 4 ≤ 1920 →
    let d := s.dev.admitted 0x15 h p
    exec (.memRead h p) s = .next (s.after (d.respond 0x15 h St.ok
      (bytesOf (Mem.rds (d.memWords (leAt p 0 1) ((leAt p 12 4).testBit 0)) (leAt p 4 4 / 4) (leAt p 8 4 / 4)))))) ∧
  (∀ (h : CmdHdr) (p : List Byte) (s : State), HostReady s.dev 0x16 h p →
    memBad (leAt p 0 1) (leAt p 4 4) (leAt p 8 4) = false → leAt p 8 4 ≤ 1984 →
    let d := s.dev.admitted 0x16 h p
    let ws := runOf (leAt p 4 4 / 4) (wordsOf (p.drop 12))
    (leAt p 0 1 = 1 → (∀ x ∈ ws, d.hostBound x.1 = true) →
      exec (.memWrite h p) s = .next (s.after ((d.stageUp fun g => { g with host := g.host ++ ws }).respond 0x16 h St.ok []))) ∧
    (leAt p 0 1 = 2 → d.stageHeld h.sid = false → d.stage.pending = none →
      exec (.memWrite h p) s = .next (s.after ((d.stageUp fun g => { g with
        owner := some h.sid, coef := (g.coef.filter fun a => !ws.any fun b => a.1 == b.1) ++ ws }).respond 0x16 h St.ok []))) ∧
    (leAt p 0 1 = 3 → d.stageHeld h.sid = false → d.stage.pending = none →
      exec (.memWrite h p) s = .next (s.after ((d.stageUp fun g => { g with
        owner := some h.sid, lut := (g.lut.filter fun a => !ws.any fun b => a.1 == b.1) ++ ws }).respond 0x16 h St.ok []))))

/-- STATE_REQUEST START where a start is not refused notes the start; STOP with the power stage stopped answers OK
and changes nothing, and in a state that is neither stopped nor TRIPPED or LOCKOUT notes the stop. SETPOINT and
CURTAIL with finite values and bound tags buffer each value for the node bound with its tag. TRIP trips the groups
it names with its class and raises DMP_MANUAL. CLEAR_TRIP not refused answers OK with the groups released.
LOCKOUT_RESET in LOCKOUT ends the lockout. (R265, R272, R285, R290, R473) -/
def Obligations.OperationCommandsComplete : Prop :=
  (∀ (h : CmdHdr) (p : List Byte) (s : State), HostReady s.dev 0x20 h p →
    let d := s.dev.admitted 0x20 h p
    (leAt p 0 4 = 1 → d.startRefused = false →
      exec (.stateRequest h p) s = .next (s.after ((d.supUp fun g => { g with cmd := 1 }).respond 0x20 h St.ok []))) ∧
    (leAt p 0 4 = 2 → d.gsv ≤ 1 → exec (.stateRequest h p) s = .next (s.after (d.respond 0x20 h St.ok []))) ∧
    (leAt p 0 4 = 2 → 1 < d.gsv → d.gsv < 7 →
      exec (.stateRequest h p) s = .next (s.after ((d.supUp fun g => { g with cmd := 2 }).respond 0x20 h St.ok [])))) ∧
  (∀ (h : CmdHdr) (p : List Byte) (s : State), HostReady s.dev 0x21 h p →
    let d := s.dev.admitted 0x21 h p
    1 ≤ leAt p 0 4 → leAt p 0 4 ≤ 4 →
    (∀ x ∈ setpoints p, 1 ≤ x.1 ∧ x.1 ≤ 4 ∧ f32.finite x.2.toNat = true ∧ (d.tagNode x.1).isSome = true) →
    exec (.setpoint h p) s = .next (s.after ((d.stageUp fun g => { g with
      host := g.host ++ (setpoints p).map fun (t, w) => ((d.tagNode t).getD 0, w) }).respond 0x21 h St.ok []))) ∧
  (∀ (h : CmdHdr) (p : List Byte) (s : State), HostReady s.dev 0x22 h p →
    let d := s.dev.admitted 0x22 h p
    ∀ n, f32.finite (leAt p 0 4) = true → d.tagNode 5 = some n →
    exec (.curtail h p) s = .next (s.after ((d.stageUp fun g => { g with host := g.host ++ [(n, wordAt p 0)] }).respond 0x22 h St.ok []))) ∧
  (∀ (h : CmdHdr) (p : List Byte) (s : State), HostReady s.dev 0x23 h p → leAt p 1 1 ≤ 1 →
    exec (.trip h p) s = .next (s.after ((((s.dev.admitted 0x23 h p).trip .manual (if leAt p 1 1 = 0 then .a else .b) (leAt p 0 1)).raise
      0x080A [leAt p 0 1, leAt p 1 1]).respond 0x23 h St.ok []))) ∧
  (∀ (h : CmdHdr) (p : List Byte) (s : State), HostReady s.dev 0x24 h p →
    let d := s.dev.admitted 0x24 h p
    d.clearRefused (leAt p 0 1) = false →
    exec (.clearTrip h p) s = .next (s.after ((d.clearTrip (leAt p 0 1)).1.respond 0x24 h St.ok
      (leBytes 1 (d.clearTrip (leAt p 0 1)).2 ++ zeros 3)))) ∧
  (∀ (h : CmdHdr) (p : List Byte) (s : State), HostReady s.dev 0x25 h p →
    let d := s.dev.admitted 0x25 h p
    d.gsv = 8 → exec (.lockoutReset h p) s = .next (s.after (d.lockoutReset.respond 0x25 h St.ok [])))

/-- With TYPE and SLOT in range, IMG_WRITE of at most 1,984 bytes, IMG_ACTIVATE with KIND and MODE in range, and
IMG_ERASE answer with the status of writing, activating or erasing the slot, and leave the device so. IMG_VERIFY
answers OK with zeros or IMAGE_INVALID with the reason, its source and index, and the slot's version in both cases.
IMG_STATUS answers OK with the states and versions of the four slots in order. (R96, R459, R472, R486) -/
def Obligations.ImageCommandsComplete : Prop :=
  (∀ (h : CmdHdr) (p : List Byte) (s : State), HostReady s.dev 0x30 h p → slotBad p = false → p.length ≤ 1992 →
    ∀ st e, (s.dev.admitted 0x30 h p).imgWrite (leAt p 0 1) (leAt p 1 1) (leAt p 4 4) (p.drop 8) = (st, e) →
    exec (.imgWrite h p) s = .next (s.after (e.respond 0x30 h st []))) ∧
  (∀ (h : CmdHdr) (p : List Byte) (s : State), HostReady s.dev 0x31 h p → slotBad p = false →
    ∀ e, ((s.dev.admitted 0x31 h p).slotVerify (leAt p 0 1) (leAt p 1 1) h.sig h.sig2 = (none, e) →
      exec (.imgVerify h p) s = .next (s.after (e.respond 0x31 h St.ok
        (zeros 4 ++ leBytes 4 (e.slot (leAt p 0 1) (leAt p 1 1)).version)))) ∧
    ∀ r src i, (s.dev.admitted 0x31 h p).slotVerify (leAt p 0 1) (leAt p 1 1) h.sig h.sig2 = (some (r, src, i), e) →
      exec (.imgVerify h p) s = .next (s.after (e.respond 0x31 h St.imageInvalid
        (leBytes 1 r ++ leBytes 1 src ++ leBytes 2 i ++ leBytes 4 (e.slot (leAt p 0 1) (leAt p 1 1)).version)))) ∧
  (∀ (h : CmdHdr) (p : List Byte) (s : State), HostReady s.dev 0x32 h p →
    slotBad p = false → leAt p 2 1 ≤ 1 → leAt p 4 4 ≤ 1 →
    ∀ st pay e, (s.dev.admitted 0x32 h p).imgActivate (leAt p 0 1) (leAt p 1 1) (leAt p 2 1 == 1)
        (if leAt p 4 4 = 0 then none else some (leAt p 8 4)) = (st, pay, e) →
    exec (.imgActivate h p) s = .next (s.after (e.respond 0x32 h st pay))) ∧
  (∀ (h : CmdHdr) (p : List Byte) (s : State), HostReady s.dev 0x33 h p →
    let d := s.dev.admitted 0x33 h p
    let one (t k : Nat) : List Byte := leBytes 1 (d.slotState t k) ++ zeros 3 ++ leBytes 4 (d.slot t k).version
    exec (.imgStatus h p) s = .next (s.after (d.respond 0x33 h St.ok (one 0 0 ++ one 0 1 ++ one 1 0 ++ one 1 1)))) ∧
  (∀ (h : CmdHdr) (p : List Byte) (s : State), HostReady s.dev 0x34 h p → slotBad p = false →
    ∀ st e, (s.dev.admitted 0x34 h p).imgErase (leAt p 0 1) (leAt p 1 1) = (st, e) →
    exec (.imgErase h p) s = .next (s.after (e.respond 0x34 h st [])))

/-- METER_RECORD with the identity key found good answers OK with the record of Table 8-9 and the key's signature
over it. METER_READ answers OK with the snapshot's cycle, flags, duration and 52 registers. METER_SAVE while MET
runs and no save is being written saves and answers OK with the save's sequence number. PQ_READ answers OK with the
eight registers in the order listed. (R199, R204, R209) -/
def Obligations.MeterCommandsComplete : Prop :=
  (∀ (h : CmdHdr) (p : List Byte) (s : State), HostReady s.dev 0x40 h p →
    let d := s.dev.admitted 0x40 h p
    d.flag F.HRT_LC_IDENT_OK = true →
    ∃ r : List Byte, exec (.meterRecord h p) s = .next (s.after (d.respond 0x40 h St.ok (r ++ d.sign r))) ∧
      r = leBytes 4 0x4D5A4C50 ++ leBytes 2 1 ++ leBytes 2 816 ++ d.devId ++ p.take 16
        ++ leBytes 4 (d.get F.MET_SEQ_LO) ++ leBytes 4 (d.get F.MET_SEQ_HI) ++ leBytes 8 d.snapCyc
        ++ leBytes 8 d.met.snapSec ++ leBytes 4 d.met.snapNs ++ leBytes 4 (d.get F.MET_SNAP_FLAGS)
        ++ (List.range 52).flatMap (fun i => leBytes 12 (d.snapReg i))
        ++ leBytes 4 (d.mget F.MET_RATIO_V) ++ leBytes 4 (d.mget F.MET_RATIO_I) ++ leBytes 4 d.pkgVersion
        ++ leBytes 4 (d.get F.MET_MISSED_CNT) ++ leBytes 4 (d.get F.MET_MISSED_MS_LO) ++ leBytes 4 (d.get F.MET_MISSED_MS_HI)) ∧
  (∀ (h : CmdHdr) (p : List Byte) (s : State), HostReady s.dev 0x41 h p →
    let d := s.dev.admitted 0x41 h p
    exec (.meterRead h p) s = .next (s.after (d.respond 0x41 h St.ok
      (leBytes 8 d.snapCyc ++ leBytes 4 (d.get F.MET_SNAP_FLAGS) ++ leBytes 4 (d.get F.MET_SNAP_DUR)
        ++ (List.range 52).flatMap fun i => leBytes 12 (d.snapReg i))))) ∧
  (∀ (h : CmdHdr) (p : List Byte) (s : State), HostReady s.dev 0x42 h p →
    let d := s.dev.admitted 0x42 h p
    d.met.run = true → d.met.saving = none →
    exec (.meterSave h p) s = .next (s.after ((d.metWrite (d.metRecord false)).respond 0x42 h St.ok (leBytes 8 d.met.seq)))) ∧
  (∀ (h : CmdHdr) (p : List Byte) (s : State), HostReady s.dev 0x43 h p →
    let d := s.dev.admitted 0x43 h p
    exec (.pqRead h p) s = .next (s.after (d.respond 0x43 h St.ok
      ([F.PQ_STATUS_SAG_PH.addr, F.PQ_URMS.addr, F.PQ_URMS.addr + 4, F.PQ_URMS.addr + 8, F.PQ_SAG_CNT.addr, F.PQ_SWL_CNT.addr,
        F.PQ_INT_CNT.addr, F.PQ_DROP_CNT.addr].flatMap d.wordBytes))))

/-- TRACE_ARM, TRACE_STOP, TRACE_FORCE, CAPTURE_ARM, CAPTURE_STOP and CAPTURE_TRIGGER answer with what one write of
the control register gives, with the bits their flags name. TRACE_STATUS, CAPTURE_STATUS and RING_STATUS answer OK
with their registers in order. EVENT_FILTER sets the worst class recorded and the blocks. (R136, R458, R468, R483)
-/
def Obligations.RecorderCommandsComplete : Prop :=
  (∀ (h : CmdHdr) (p : List Byte) (s : State), HostReady s.dev 0x50 h p →
    ∀ st i e w, (s.dev.admitted 0x50 h p).regWrite false
      [⟨F.TRC_CTRL_ARM.addr, 0x19, BitVec.ofNat 32 (1 + 8 * (leAt p 0 4 % 2) + 16 * (leAt p 0 4 / 2 % 2))⟩] = (st, i, e, w) →
    exec (.traceArm h p) s = .next (s.after (e.respond 0x50 h st []))) ∧
  (∀ (h : CmdHdr) (p : List Byte) (s : State), HostReady s.dev 0x51 h p →
    ∀ st i e w, (s.dev.admitted 0x51 h p).regWrite false [⟨F.TRC_CTRL_ARM.addr, 2, 2⟩] = (st, i, e, w) →
    exec (.traceStop h p) s = .next (s.after (e.respond 0x51 h st []))) ∧
  (∀ (h : CmdHdr) (p : List Byte) (s : State), HostReady s.dev 0x52 h p →
    ∀ st i e w, (s.dev.admitted 0x52 h p).regWrite false [⟨F.TRC_CTRL_ARM.addr, 4, 4⟩] = (st, i, e, w) →
    exec (.traceForce h p) s = .next (s.after (e.respond 0x52 h st []))) ∧
  (∀ (h : CmdHdr) (p : List Byte) (s : State), HostReady s.dev 0x53 h p →
    let d := s.dev.admitted 0x53 h p
    exec (.traceStatus h p) s = .next (s.after (d.respond 0x53 h St.ok
      ([F.TRC_STATUS_STATE.addr, F.TRC_TRIG_FCNT.addr, F.TRC_MISSED.addr, F.TRC_DROP.addr].flatMap d.wordBytes)))) ∧
  (∀ (h : CmdHdr) (p : List Byte) (s : State), HostReady s.dev 0x54 h p →
    ∀ st i e w, (s.dev.admitted 0x54 h p).regWrite false
      [⟨F.CAP_CTRL_ARM.addr, 9, BitVec.ofNat 32 (1 + 8 * (leAt p 0 4 % 2))⟩] = (st, i, e, w) →
    exec (.captureArm h p) s = .next (s.after (e.respond 0x54 h st []))) ∧
  (∀ (h : CmdHdr) (p : List Byte) (s : State), HostReady s.dev 0x55 h p →
    ∀ st i e w, (s.dev.admitted 0x55 h p).regWrite false [⟨F.CAP_CTRL_ARM.addr, 2, 2⟩] = (st, i, e, w) →
    exec (.captureStop h p) s = .next (s.after (e.respond 0x55 h st []))) ∧
  (∀ (h : CmdHdr) (p : List Byte) (s : State), HostReady s.dev 0x56 h p →
    ∀ st i e w, (s.dev.admitted 0x56 h p).regWrite false [⟨F.CAP_CTRL_ARM.addr, 4, 4⟩] = (st, i, e, w) →
    exec (.captureTrigger h p) s = .next (s.after (e.respond 0x56 h st []))) ∧
  (∀ (h : CmdHdr) (p : List Byte) (s : State), HostReady s.dev 0x57 h p →
    let d := s.dev.admitted 0x57 h p
    exec (.captureStatus h p) s = .next (s.after (d.respond 0x57 h St.ok
      ([F.CAP_STATUS_STATE.addr, F.CAP_CAUSE.addr, F.CAP_RETRIG.addr, F.CAP_MISSED.addr].flatMap d.wordBytes)))) ∧
  (∀ (h : CmdHdr) (p : List Byte) (s : State), HostReady s.dev 0x58 h p → leAt p 0 4 ≤ 15 →
    let d := s.dev.admitted 0x58 h p
    let r := leAt p 0 4
    exec (.ringStatus h p) s = .next (s.after (d.respond 0x58 h St.ok (d.wordBytes (F.RING_HEAD_HEAD.ix r).addr
      ++ d.wordBytes (F.RING_TAIL_TAIL.ix r).addr ++ d.wordBytes (F.RING_STAT_STATE.ix r).addr ++ d.wordBytes (F.HST_RING_RECORDS.ix r).addr)))) ∧
  (∀ (h : CmdHdr) (p : List Byte) (s : State), HostReady s.dev 0x59 h p → leAt p 0 1 ≤ 3 →
    let d := s.dev.admitted 0x59 h p
    exec (.eventFilter h p) s = .next (s.after
      ({ d with log := { d.log with filterClass := leAt p 0 1, filterBlocks := leAt p 4 4 } }.respond 0x59 h St.ok [])))

/-- GROUP_STATUS that ends at this device answers OK with its own state, a count of 1 in that state, 1 live device,
epoch and boundary. GROUP_MEASURE answers OK with its own measurements. At a crown, ROLE_SET 1 with a standby named
and ROLE_SET 2 of a live crown-capable position other than its own put their record into the next crown frame, their
OK bound to it; UNIT_READ of an entry answers OK with the entry and whether the unit is live. What a group counts as
live for a single device is the model's choice (log entry 14). (R409, R410, R411, R416) -/
def Obligations.GroupCommandsComplete : Prop :=
  (∀ (h : CmdHdr) (p : List Byte) (s : State), HostReady s.dev 0x60 h p →
    let d := s.dev.admitted 0x60 h p
    exec (.groupStatus h p) s = .next (s.after (d.respond 0x60 h St.ok
      (leBytes 4 d.gsv ++ ((List.range 9).map fun k => if k = d.gsv then 1 else 0).flatMap (leBytes 1) ++ zeros 3
        ++ leBytes 4 1 ++ leBytes 4 (d.get F.FLU_EPOCH) ++ leBytes 4 (d.get F.FLU_GFI))))) ∧
  (∀ (h : CmdHdr) (p : List Byte) (s : State), HostReady s.dev 0x61 h p →
    let d := s.dev.admitted 0x61 h p
    exec (.groupMeasure h p) s = .next (s.after (d.respond 0x61 h St.ok
      (bytesOf [d.memberFrame.p, d.memberFrame.q, d.memberFrame.v1, d.memberFrame.f] ++ leBytes 4 1 ++ leBytes 4 (d.get F.FLU_GFI))))) ∧
  (∀ (h : CmdHdr) (p : List Byte) (s : State), HostReady s.dev 0x62 h p →
    let d := s.dev.admitted 0x62 h p
    d.fluRole = 2 →
    (leAt p 0 4 = 1 → d.flag F.FLU_ROLE_STANDBY_EN = true →
      exec (.roleSet h p) s = .next (s.after (d.fluUp fun f => { f with
        cmds := f.cmds ++ [.handover (d.get F.FLU_ROLE_STANDBY_POS)], owed := f.owed ++ [⟨asked 0x62 h, St.ok, d.selfUid, []⟩] }))) ∧
    (leAt p 0 4 = 2 → d.liveMask.testBit (leAt p 4 4) = true → leAt p 4 4 ≠ d.fluPos →
      (d.unitAt (leAt p 4 4)).any (fun e => e.flags.testBit 2) = true →
      exec (.roleSet h p) s = .next (s.after (d.fluUp fun f => { f with
        cmds := f.cmds ++ [.standby (leAt p 4 4)], owed := f.owed ++ [⟨asked 0x62 h, St.ok, d.selfUid, []⟩] })))) ∧
  (∀ (h : CmdHdr) (p : List Byte) (s : State), HostReady s.dev 0x63 h p →
    let d := s.dev.admitted 0x63 h p
    ∀ i, d.fluRole = 2 →
    ((List.range 4096).find? fun k => (unitEntry d.flu.unit k).kind != 0 && (unitEntry d.flu.unit k).uid == leAt p 0 2) = some i →
    exec (.unitRead h p) s = .next (s.after (d.respond 0x63 h St.ok
      (Mem.bytes d.flu.unit (16 * i) 16 ++ leBytes 1 (if d.unitLive (unitEntry d.flu.unit i) then 1 else 0) ++ zeros 3))))

/-- KEY_DELIVER with an algorithm from 1 to 3 and a key that unwraps puts the key into the next-key slot of every
context named, or, with none named and algorithm 3, of the Flue group key, and raises its event. CTX_STATUS answers
OK with the context's status and key words. TIME_READ answers OK with PTP time, Flue time and their flags. CAN_SEND
on a buffer that may be requested writes identifier, DLC and data and requests it in one step. CAN_READ answers OK
with a copy of the buffer, its NEWDATA cleared first (log entry 13). (R393, R402, R424, R425, R426, R428, R503,
R505) -/
def Obligations.NetworkCommandsComplete : Prop :=
  (∀ (h : CmdHdr) (p : List Byte) (s : State), HostReady s.dev 0x70 h p →
    let d := s.dev.admitted 0x70 h p
    let k : NetKey :=
      { id := leAt p 32 4, alg := leAt p 36 1, start := leAt p 40 8, stop := leAt p 48 8
        key := d.unwrapped (leAt p 36 1) ((p.drop 56).take 40) }
    1 ≤ leAt p 36 1 → leAt p 36 1 ≤ 3 → h.good = true →
    (leAt p 0 32 ≠ 0 → exec (.keyDeliver h p) s = .next (s.after ((((bitList 256 (leAt p 0 32)).foldl (fun e i => e.keyDeliver i k) d).raise
      0x1014 [k.id]).respond 0x70 h St.ok []))) ∧
    (leAt p 0 32 = 0 → leAt p 36 1 = 3 → exec (.keyDeliver h p) s = .next (s.after (((d.fluUp fun f => { f with keyNext := some k }).raise
      0x1014 [k.id]).respond 0x70 h St.ok [])))) ∧
  (∀ (h : CmdHdr) (p : List Byte) (s : State), HostReady s.dev 0x71 h p → leAt p 0 4 ≤ 255 →
    let d := s.dev.admitted 0x71 h p
    let a := (F.NET_CTX_STAT_VALID.ix (leAt p 0 4)).addr
    let b := (F.NET_KEY_CUR.ix (leAt p 0 4)).addr
    exec (.ctxStatus h p) s = .next (s.after (d.respond 0x71 h St.ok
      ([a, a + 4, a + 8, a + 12, b, b + 4, b + 8, b + 12].flatMap d.wordBytes)))) ∧
  (∀ (h : CmdHdr) (p : List Byte) (s : State), HostReady s.dev 0x72 h p →
    let d := s.dev.admitted 0x72 h p
    exec (.timeRead h p) s = .next (s.after (d.respond 0x72 h St.ok
      (leBytes 8 d.ptpSec ++ leBytes 4 d.ptpSub ++ leBytes 8 d.flueTime
        ++ leBytes 4 ((if d.ptpOk then 1 else 0) + (if d.flag F.FLU_STATUS_TIME_OK then 2 else 0)))))) ∧
  (∀ (h : CmdHdr) (p : List Byte) (s : State), HostReady s.dev 0x78 h p →
    let c := leAt p 0 1
    let m := leAt p 1 1
    ∀ e, c ≤ 1 → m ≤ 63 → (s.dev.admitted 0x78 h p).canRequest c m = (e, 0) →
    exec (.canSend h p) s = .next (s.after ((((e.setWord (mbF F.CAN_MB_ID c m).addr (wordAt p 4)).put (mbF F.CAN_MB_DLC c m)
      (leAt p 8 4 % 16)).putMbData c m (wordsOf (p.drop 12))).respond 0x78 h St.ok []))) ∧
  (∀ (h : CmdHdr) (p : List Byte) (s : State), HostReady s.dev 0x79 h p →
    let c := leAt p 0 1
    let m := leAt p 1 1
    c ≤ 1 → m ≤ 63 →
    let d := (s.dev.admitted 0x79 h p).put (mbF F.CAN_MB_NEWDATA c m) 0
    let a := (mbF F.CAN_MB_ID c m).addr
    exec (.canRead h p) s = .next (s.after (d.respond 0x79 h St.ok
      ([a, a + 4, a + 8].flatMap d.wordBytes ++ bytesOf (d.mbData c m 16)))))

/-- LOG_READ of at most 60 entries answers OK with their bytes. LOG_EXPORT of 1 to 1,024 entries with the identity
key good and a ring of use 4 queues the signed export of Table 21-3 there. SENSOR_READ answers OK with six
temperatures, rails and tamper flags. LC_TRANSITION of a row of Table 22-8 whose condition holds, and PROVISION in
VENDOR with a good key and proof, answer OK, and the warm reset that makes the target pending follows the response.
ATTEST answers OK with the report of Table 20-7, signed, or in SCRAPPED with a zero signature. DRAUGHT starts,
stops, clears or gives the setpoint of its channel. (R343, R478, R482, R497, R507, R510, R511) -/
def Obligations.TrustCommandsComplete : Prop :=
  (∀ (h : CmdHdr) (p : List Byte) (s : State), HostReady s.dev 0x80 h p → leAt p 0 1 ≤ 1 → leAt p 8 4 ≤ 60 →
    let d := s.dev.admitted 0x80 h p
    exec (.logRead h p) s = .next (s.after (d.respond 0x80 h St.ok
      ((d.logFrom (leAt p 0 1) (leAt p 4 4) (leAt p 8 4)).flatMap LogEntry.bytes)))) ∧
  (∀ (h : CmdHdr) (p : List Byte) (s : State), HostReady s.dev 0x81 h p → leAt p 0 1 ≤ 1 → 1 ≤ leAt p 8 4 → leAt p 8 4 ≤ 1024 →
    let d := s.dev.admitted 0x81 h p
    ∀ r, d.flag F.HRT_LC_IDENT_OK = true → d.ringOfUse 4 = some r →
    let es := d.logFrom (leAt p 0 1) (leAt p 4 4) (leAt p 8 4)
    let first := es.head?.elim (leAt p 4 4) LogEntry.num
    let tag := (d.tagBefore (leAt p 0 1) first).1
    let d1 := (d.tagBefore (leAt p 0 1) first).2
    let d2 := d1.fresh.2
    let x := leBytes 2 0x5801 ++ leBytes 1 (leAt p 0 1) ++ zeros 1 ++ leBytes 4 first ++ leBytes 4 es.length ++ zeros 4 ++ d2.devId
      ++ tag ++ leBytes 8 d2.ptpSec ++ leBytes 16 d1.fresh.1 ++ es.flatMap LogEntry.bytes
    exec (.logExport h p) s = .next (s.after ((d2.ringQueue r ⟨.exportRec (leAt p 0 1) (first + es.length), x ++ d2.sign x⟩).respond 0x81 h St.ok []))) ∧
  (∀ (h : CmdHdr) (p : List Byte) (s : State), HostReady s.dev 0x82 h p →
    let d := s.dev.admitted 0x82 h p
    exec (.sensorRead h p) s = .next (s.after (d.respond 0x82 h St.ok
      ((List.range 6).flatMap (fun i => leBytes 4 (d.temp i)) ++ d.wordBytes F.CPR_RAIL_GOOD.addr ++ leBytes 4 (d.get F.HRT_TAMPER))))) ∧
  (∀ (h : CmdHdr) (p : List Byte) (s : State), HostReady s.dev 0x90 h p →
    let d := s.dev.admitted 0x90 h p
    ∀ c, leAt p 0 1 ≤ 4 → lcRow d.lc (leAt p 0 1) = some c → (c = true → d.gsv ≤ 1 ∨ 7 ≤ d.gsv) →
    exec (.lcTransition h p) s = .next (s.after ((d.respond 0x90 h St.ok []).resetAfter h.path 5 (some (leAt p 0 1))))) ∧
  (∀ (h : CmdHdr) (p : List Byte) (s : State), HostReady s.dev 0x91 h p →
    let d := s.dev.admitted 0x91 h p
    h.good = true → d.lc = 1 → h.sig = true →
    exec (.provision h p) s = .next (s.after ((((d.put F.HRT_OWNER_CTR 0).secUp fun x => { x with
      otp := { x.otp with owner := some (sha384 (p.take 96)) }
      store := { x.store with owner := 0 }
      certs := (x.certs.filter fun c => c.1 != 4) ++ [(4, p.take 96)] }).respond 0x91 h St.ok []).resetAfter h.path 5 (some 2)))) ∧
  (∀ (h : CmdHdr) (p : List Byte) (s : State), HostReady s.dev 0x92 h p →
    let d := s.dev.admitted 0x92 h p
    let r := leBytes 4 0x415A4C50 ++ leBytes 4 d.lc ++ d.devId ++ p.take 16 ++ d.fbx.active.elim (zeros 32) Image.hash
      ++ leBytes 4 (d.fbx.active.elim 0 Image.version) ++ leBytes 4 d.pkgVersion ++ d.sec.otp.owner.getD (zeros 48)
    (d.lc ≠ 4 → d.flag F.HRT_LC_IDENT_OK = true → exec (.attest h p) s = .next (s.after (d.respond 0x92 h St.ok (r ++ d.sign r)))) ∧
    (d.lc = 4 → exec (.attest h p) s = .next (s.after (d.respond 0x92 h St.ok (r ++ zeros 96))))) ∧
  (∀ (h : CmdHdr) (p : List Byte) (s : State), HostReady s.dev 0x98 h p →
    let d := s.dev.admitted 0x98 h p
    let c := leAt p 0 1
    c ≤ 1 →
    (leAt p 1 1 = 1 → (d.drtStart c).2 = false → exec (.draught h p) s = .next (s.after ((d.drtStart c).1.respond 0x98 h St.ok []))) ∧
    (leAt p 1 1 = 2 → exec (.draught h p) s = .next (s.after ((d.drtStop c).respond 0x98 h St.ok []))) ∧
    (leAt p 1 1 = 3 → exec (.draught h p) s = .next (s.after ((d.drtClear c).respond 0x98 h St.ok []))) ∧
    (leAt p 1 1 = 4 → exec (.draught h p) s = .next (s.after ((d.drtSetp c (wordAt p 4)).respond 0x98 h St.ok []))))

/-- In an awake device: GO with REQ_FREE 1 takes the length and tag and clears REQ_FREE. The end of the copy of a
request of at most 2,048 bytes that steps 1 and 2 of R459 pass puts it behind the others, INFLIGHT up by one,
REQ_FREE 1 below four. A finished response posts into a free response area: bytes, length, tag, VALID 1, a signal
where IRQ_EN; a warm reset that waited for this mailbox's last response begins after it (R362). ACK of a VALID
response clears VALID and frees one command. A write of the request area with REQ_FREE 1 changes exactly the enabled
bytes at its offset. A read of it is aborted and counted. (R362, R441, R443, R444, R445) -/
def Obligations.MailboxCommandsComplete : Prop :=
  (∀ (m : Fin 16) (w : Word) (dt : Nat) (s : State), s.dev.awake = true →
    let d := s.dev.advance dt
    d.flag (F.MBX_STAT_REQ_FREE.ix m) = true →
    exec (.mbxDbGo m w dt) s = .next (s.after
      ((d.mbxUp m fun x => { x with copying := some (wbits w 11 0, wbits w 23 16) }).put (F.MBX_STAT_REQ_FREE.ix m) 0))) ∧
  (∀ (m : Fin 16) (dt len tag : Nat) (s : State), s.dev.awake = true →
    let d := s.dev.advance dt
    let frame := Mem.bytes (d.mbx m).req 0 len
    let n := d.get (F.MBX_STAT_INFLIGHT.ix m) + 1
    (d.mbx m).copying = some (len, tag) → len ≤ 2048 → frameStatus frame 2048 = none →
    exec (.mbxCopyDone m dt) s = .next (s.after
      (((d.mbxUp m fun x => { x with copying := none, inflight := x.inflight ++ [⟨tag, frame, none⟩] }).put
        (F.MBX_STAT_INFLIGHT.ix m) n).putB (F.MBX_STAT_REQ_FREE.ix m) (decide (n < 4))))) ∧
  (∀ (m : Fin 16) (tag : Nat) (frame r : List Byte) (rest : List MbxCmd) (s : State), s.dev.cpr.por = false →
    let d := s.dev.payBound
    d.flag (F.MBX_RSP_VALID.ix m) = false → (d.mbx m).inflight = ⟨tag, frame, some r⟩ :: rest →
    let e := (((d.mbxUp m fun x => { x with inflight := rest, area := r }).put (F.MBX_RSP_LEN.ix m) r.length).put
      (F.MBX_RSP_TAG.ix m) tag).put (F.MBX_RSP_VALID.ix m) 1
    let p := if e.flag (F.MBX_IRQ_EN.ix m) then e.signal m else e
    (d.cpr.asked = none → exec (.mbxResponsePost m) s = .next (s.after p)) ∧
    (∀ a, d.cpr.asked = some a → a.mbx = m → (∀ c ∈ rest, c.resp = none) → exec (.mbxResponsePost m) s = .next (s.after (p.resetBegin a)))) ∧
  (∀ (m : Fin 16) (s : State), s.dev.awake = true →
    let d := s.dev.put (F.MBX_RSP_VALID.ix m) 0
    let n := d.get (F.MBX_STAT_INFLIGHT.ix m) - 1
    s.dev.flag (F.MBX_RSP_VALID.ix m) = true →
    exec (.mbxAck m) s = .next (s.after ((d.put (F.MBX_STAT_INFLIGHT.ix m) n).putB (F.MBX_STAT_REQ_FREE.ix m)
      ((s.dev.mbx m).copying.isNone && decide (n < 4))))) ∧
  (∀ (m : Fin 16) (off : Fin 2048) (bytes : List (Option Byte)) (s : State), s.dev.awake = true →
    s.dev.flag (F.MBX_STAT_REQ_FREE.ix m) = true → off + bytes.length ≤ 2048 →
    ∃ q : Mem → Mem, exec (.requestAreaWrite m off bytes) s = .next (s.after (s.dev.mbxUp m fun x => { x with req := q x.req })) ∧
      ∀ x a, Mem.byte (q x) a =
        if off ≤ a ∧ a < off + bytes.length then (bytes.getD (a - off) none).getD (Mem.byte x a) else Mem.byte x a) ∧
  (∀ (m : Fin 16) (off : Fin 2048) (s : State), s.dev.awake = true →
    exec (.requestAreaRead m off) s = .next (s.after
      ((s.dev.hstUp fun h => { h with out := .abort (4096 * m + off) :: h.out }).bump F.HST_BAR_REJ_CNT)))

/-- A pending vector that is open sends its message and is no longer pending. A TAIL below SIZE that takes no owned
descriptor back is stored, and starts a ring that is enabled and stopped. RESET puts HEAD, TAIL and ERR to 0 and the
state to EN, and drops what was read. A block of descriptors that are all well formed joins those read, at most 16
and no more than are owned. A record that the buffers read take is written, and HEAD, RECORDS and the counts towards
a signal advance; with CNT reached the ring signals. After TIME us from the first record not signalled a ring
signals where its interrupt is enabled. (R439, R447, R449, R450, R451, R452, R453) -/
def Obligations.MsixAndRingCommandsComplete : Prop :=
  (∀ (v : Fin 32) (s : State), s.dev.awake = true → s.dev.hst.msixPend.testBit v = true → s.dev.vectorOpen v = true →
    exec (.msixMessage v) s = .next (s.after
      (s.dev.hstUp fun h => { h with msixPend := clrBit h.msixPend v, out := .msix v :: h.out }))) ∧
  (∀ (r : Fin 16) (w : Word) (s : State), s.dev.awake = true →
    let d := s.dev
    let v := wbits w 7 0
    let e := d.put (F.RING_TAIL_TAIL.ix r) v
    v < d.ringSize r → d.ringOwned r ≤ (v + d.ringSize r - d.get (F.RING_HEAD_HEAD.ix r)) % d.ringSize r →
    exec (.ringTailWrite r w) s = .next (s.after
      (if e.flag (F.HST_RING_EN.ix r) && e.get (F.RING_STAT_STATE.ix r) == 0 then e.put (F.RING_STAT_STATE.ix r) 1 else e))) ∧
  (∀ (r : Fin 16) (s : State), s.dev.awake = true →
    let d := s.dev
    exec (.ringCtrlReset r) s = .next (s.after (((((d.put (F.RING_HEAD_HEAD.ix r) 0).put (F.RING_TAIL_TAIL.ix r) 0).put
      (F.RING_STAT_STATE.ix r) (d.get (F.HST_RING_EN.ix r))).put (F.RING_STAT_ERR.ix r) 0).ringUp r fun g =>
        { g with fetched := [], unsig := 0, firstUnsig := none }))) ∧
  (∀ (r : Fin 16) (xs : List DescIn) (dt : Nat) (s : State), s.dev.awake = true →
    let d := s.dev.advance dt
    let ys := xs.take (min 16 (d.ringOwned r - (d.ring r).fetched.length))
    d.mayIssue = true → (d.get (F.RING_STAT_STATE.ix r) = 1 ∨ d.get (F.RING_STAT_STATE.ix r) = 2) →
    (∀ x ∈ ys, x.own = true ∧ 64 ≤ x.len ∧ x.len ≤ 65536 ∧ x.len % 64 = 0 ∧ x.addr % 64 = 0) →
    exec (.descriptorFetchDone r xs dt) s = .next (s.after
      (d.ringUp r fun g => { g with fetched := g.fetched ++ ys.map fun x => ⟨x.addr, x.len⟩ }))) ∧
  (∀ (r : Fin 16) (dt : Nat) (s : State) (x : Rec) (rest : List Rec) (ws : List HostOut) (head : Nat) (left : List Desc),
    s.dev.awake = true →
    let d := s.dev.advance dt
    let g := d.ring r
    d.mayIssue = true → d.get (F.RING_STAT_STATE.ix r) ≠ 3 → d.flag (F.HST_RING_EN.ix r) = true → g.waiting = x :: rest →
    (takeBuffers (g.fetched.map Desc.len) x.bytes.length).isSome = true →
    recordWrites (min d.hst.maxPayload 256) (d.get (F.HST_RING_BASE_LO.ix r) + d.get (F.HST_RING_BASE_HI.ix r) * 2 ^ 32)
      (d.ringSize r) (d.get (F.HST_RING_RECORDS.ix r)) (g.fetched.length + 1) (d.get (F.RING_HEAD_HEAD.ix r)) true g.fetched
      x.bytes = (ws, head, left) →
    let e := ((((d.hstUp fun h => { h with out := ws ++ h.out }).put (F.RING_HEAD_HEAD.ix r) head).wrapInc
      (F.HST_RING_RECORDS.ix r)).put (F.RING_STAT_STATE.ix r) 1).ringUp r fun y =>
        { y with fetched := left, waiting := rest, unsig := y.unsig + 1, firstUnsig := y.firstUnsig.orElse fun _ => some d.time.now }
    exec (.ringRecordWrite r dt) s = .next (s.after
      ((if e.get (F.RING_IRQ_CNT.ix r) ≠ 0 ∧ e.get (F.RING_IRQ_CNT.ix r) ≤ (e.ring r).unsig then e.ringSignal r false else e).recordDone
        x.prod))) ∧
  (∀ (r : Fin 16) (t : Nat) (s : State), s.dev.awake = true → (s.dev.ring r).firstUnsig = some t →
    s.dev.get (F.RING_IRQ_TIME.ix r) ≠ 0 →
    let d := s.dev.advanceTo (t + s.dev.get (F.RING_IRQ_TIME.ix r) * 500)
    d.flag (F.RING_IRQ_EN.ix r) = true →
    exec (.ringIrqTimeout r) s = .next (s.after ((d.ringUp r fun g => { g with unsig := 0, firstUnsig := none }).signal (16 + r))))

/-- An access with partial byte enables is discarded and counted in BAR_REJ_CNT, a read in UR_CNT. A completion
timeout of a ring not in ERROR puts it into ERROR with reason 2, counts, raises HST_CPL_TO and signals. Malformed
and poisoned packets are counted and raised, a poisoned descriptor completion is the ring's error 1, unexpected
completions and unsupported requests are counted. Link up puts LINK, width and speed and raises HST_LINK_UP. An HST
reset by a cause other than 3, or with the link down already, returns control words, mailboxes, MSI-X and payload
size to reset values, keeps records that wait, and raises HST_RESET; a warm reset that waited for a response begins.
A configuration write puts BME, D3, the MSI-X enable and Max_Payload_Size, and open vectors send what pends. (R438,
R439, R440, R441, R447, R450) -/
def Obligations.LinkAndErrorCommandsComplete : Prop :=
  (∀ (write : Bool) (s : State), s.dev.awake = true →
    exec (.controlWordBadEnables write) s = .next (s.after
      (if write then s.dev.bump F.HST_BAR_REJ_CNT else s.dev.bump F.HST_UR_CNT))) ∧
  (∀ (r : Fin 16) (dt : Nat) (s : State), s.dev.awake = true →
    let d := s.dev.advance dt
    d.get (F.RING_STAT_STATE.ix r) ≠ 3 →
    exec (.completionTimeout r dt) s = .next (s.after
      (((((d.put (F.RING_STAT_STATE.ix r) 3).put (F.RING_STAT_ERR.ix r) 2).bump F.HST_CPL_TO_CNT).raise 0x0F04 [r]).ringSignal r true))) ∧
  (∀ (dt : Nat) (s : State), s.dev.awake = true →
    exec (.malformedTlp dt) s = .next (s.after (((s.dev.advance dt).bump F.HST_MALF_CNT).raise 0x0F05)) ∧
    exec (.poisonedTlp none dt) s = .next (s.after (((s.dev.advance dt).bump F.HST_POISON_CNT).raise 0x0F06)) ∧
    exec (.unexpectedCompletion dt) s = .next (s.after ((s.dev.advance dt).bump F.HST_UNEXP_CNT)) ∧
    exec (.unsupportedRequest dt) s = .next (s.after ((s.dev.advance dt).bump F.HST_UR_CNT)) ∧
    ∀ r : Fin 16, (s.dev.advance dt).get (F.RING_STAT_STATE.ix r) ≠ 3 →
      exec (.poisonedTlp (some r) dt) s = .next (s.after
        ((((((s.dev.advance dt).put (F.RING_STAT_STATE.ix r) 3).put (F.RING_STAT_ERR.ix r) 1).bump F.HST_RING_ERR_CNT).raise
          0x0F07 [r, 1]).ringSignal r true))) ∧
  (∀ (wide : Bool) (speed : Fin 3) (dt : Nat) (s : State), s.dev.awake = true →
    exec (.pcieLinkUp wide speed dt) s = .next (s.after (((((s.dev.advance dt).put F.HST_STATUS_LINK 1).put F.HST_STATUS_WIDTH
      (if wide then 2 else 1)).put F.HST_STATUS_SPEED (speed + 1)).raise 0x0F01 [if wide then 2 else 1, speed + 1]))) ∧
  (∀ (cause : Fin 4) (dt : Nat) (s : State), s.dev.awake = true →
    let d := s.dev.advance dt
    (cause.val ≠ 2 ∨ d.flag F.HST_STATUS_LINK = false) →
    let e := ((((({ d with regs := d.regs.filter fun x => decide (x.1 < 0x1000000) } : Dev).put
      F.HST_STATUS_BME 0).put F.HST_STATUS_D3 0).put F.HST_STATUS_MSIX 0).hstUp fun h => { h with
        mbx := List.replicate 16 {}, msixMask := 0xFFFFFFFF, msixPend := 0, msixEn := false, msixFmask := false, msixTab := []
        maxPayload := 128, rings := h.rings.map fun g => { g with fetched := [], unsig := 0, firstUnsig := none } }).raise
      0x0F03 [cause + 1]
    exec (.hstReset cause dt) s = .next (s.after (e.cpr.asked.elim e fun r => e.resetBegin r))) ∧
  (∀ (bme d3 : Bool) (maxPayload : Fin 2) (en fmask : Bool) (s : State), s.dev.awake = true →
    let d := (((s.dev.putB F.HST_STATUS_BME bme).putB F.HST_STATUS_D3 d3).putB F.HST_STATUS_MSIX (en && !fmask)).hstUp fun h =>
      { h with maxPayload := 128 * (maxPayload + 1), msixEn := en, msixFmask := fmask }
    exec (.pcieConfigWrite bme d3 maxPayload en fmask) s = .next (s.after
      ((bitList 32 d.hst.msixPend).foldl (fun e v => e.msixSend v) d)))

/-- Once Hearth takes commands: a write that R468 does not refuse leaves what the entry leaves, a warm reset after
its response where it requested one. ARM, STOP and FORCE of trace and capture note their request. SAR_REG with START
on an enabled converter with nothing pending stores channel and alignment, sets PEND and clears DONE. MEAS in a
stopped device notes the measurement. GDR CLEAR of a latched bridge without cause releases it with its tries
cleared. CPR_RESET where it is not refused requests a warm reset of cause 2. The watchdog KICK clears its count and
flag. PTP_SET in a role other than slave notes the seconds. Reading the stamp answers the oldest and removes it.
(R9, R72, R136, R182, R251, R321, R362, R365, R382, R468) -/
def Obligations.SingleRegisterWritesComplete : Prop :=
  (∀ (addr : Nat) (mask value : Word) (e : Dev) (warm : Bool) (s : State), s.dev.hearthUp = true → addr < 0x1000000 →
    s.dev.writeEntry false ⟨addr, mask, value⟩ = (St.ok, e, warm) →
    exec (.registerWrite addr mask value) s = .next (s.after (if warm then (e.say St.ok).warmReset 2 else e.say St.ok))) ∧
  (∀ s : State, s.dev.hearthUp = true →
    let a := s.dev.setWord 0x010400 (s.dev.word 0x010400)
    let b := s.dev.setWord 0x010600 (s.dev.word 0x010600)
    exec .trcCtrlArm s = .next (s.after ((a.trcUp fun t => { t with arm := true }).say St.ok)) ∧
    exec .trcCtrlStop s = .next (s.after ((a.trcUp fun t => { t with stop := true }).say St.ok)) ∧
    exec .trcCtrlForce s = .next (s.after ((a.trcUp fun t => { t with force := true }).say St.ok)) ∧
    exec .capCtrlArm s = .next (s.after ((b.capUp fun t => { t with arm := true }).say St.ok)) ∧
    exec .capCtrlStop s = .next (s.after ((b.capUp fun t => { t with stop := true }).say St.ok)) ∧
    exec .capCtrlForce s = .next (s.after ((b.capUp fun t => { t with force := true }).say St.ok))) ∧
  (∀ s : State, s.dev.hearthUp = true → exec .angStampCycRead s = .next (s.after
    (((s.dev.angUp fun a => { a with stamps := a.stamps.tail }).stampRegs).say St.ok
      (leBytes 4 (s.dev.word F.ANG_STAMP_CYC_CYC.addr).toNat)))) ∧
  (∀ (x : Fin 2) (ch : Fin 32) (left : Bool) (s : State), s.dev.hearthUp = true → s.dev.sarEn x = true →
    sarReserved ch = false → s.dev.flag (F.SAR_REG_PEND.ix x) = false →
    let a := (F.SAR_REG_CH.ix x).addr
    let d := s.dev.setWord a ((s.dev.word a &&& ~~~0x3F) ||| BitVec.ofNat 32 (ch + if left then 32 else 0))
    exec (.sarRegStart x ch left) s = .next (s.after ((((((d.put (F.SAR_REG_CH.ix x) ch).putB (F.SAR_REG_ALIGN.ix x) left).put
      (F.SAR_REG_PEND.ix x) 1).put (F.SAR_REG_DONE.ix x) 0).sarUp fun y => { y with
        req := upd y.req x fun _ => (ch.val, left), reqAt := upd y.reqAt x fun _ => s.dev.now }).say St.ok))) ∧
  (∀ s : State, s.dev.hearthUp = true → s.dev.stopped = true →
    exec .pwmSyncCtrlMeas s = .next (s.after (((s.dev.setWord 0x070404 (s.dev.word 0x070404)).pwmUp fun p =>
      { p with meas := true }).say St.ok))) ∧
  (∀ (b : Fin 2) (s : State), s.dev.hearthUp = true → (s.dev.bridge b).latched = true → s.dev.gdrCause b = false →
    let a := (F.GDR_CTRL_CLEAR.ix b).addr
    exec (.gdrCtrlClear b) s = .next (s.after ((((s.dev.setWord a (s.dev.word a)).bridgeRelease b).put
      (F.GDR_STATUS_TRIES.ix b) 0).say St.ok))) ∧
  (∀ s : State, s.dev.hearthUp = true → s.dev.resetRefused = false →
    exec .cprResetWarm s = .next (s.after (((s.dev.setWord 0x0B0024 (s.dev.word 0x0B0024)).say St.ok).warmReset 2))) ∧
  (∀ (v : Word) (s : State), s.dev.hearthUp = true →
    exec (.cprHwdtKick v) s = .next (s.after ((((s.dev.setWord 0x0B0020 (s.dev.word 0x0B0020)).put F.CPR_STATUS_HWDT 0).cprUp fun c =>
      { c with hwdt := 0 }).say St.ok)) ∧
    (s.dev.get F.NET_PTP_CFG_ROLE ≠ 0 → exec (.netPtpSetWrite v) s = .next (s.after
      ((((s.dev.setWord 0x0C0060 v).put F.NET_PTP_SET v.toNat).netUp fun n => { n with ptpSet := some v.toNat, wasSet := true }).say St.ok))))

/-- Once Hearth takes commands: START in IDLE clears the stop and judges the setpoint, in a running state clears the
stop; STOP makes the setpoint 0 until the next START; CLEAR in LOST returns the channel to IDLE with TRIES 0; a
setpoint is stored and judged where SRC names the register. RECOVER in BUS_OFF starts the recovery. REQ on a
transmit buffer without port that is neither pending nor transmitting makes it PENDING with its attempts and late
flag cleared. CANCEL of a pending buffer makes it CANCELLED, of one transmitting sets CANCEL_LATE. (R339, R341,
R343, R424, R426, R434, R468) -/
def Obligations.ChannelAndBufferWritesComplete : Prop :=
  (∀ (c : Fin 2) (s : State), s.dev.hearthUp = true →
    let a := (F.DRT_CTRL_START.ix c).addr
    let d := s.dev.setWord a (s.dev.word a)
    (s.dev.drtState c = 0 → exec (.drtCtrlStart c) s = .next (s.after
      (((d.chUp c fun x => { x with stopped := false, onlyStart := false, live := false }).drtJudge c).say St.ok))) ∧
    (1 ≤ s.dev.drtState c → s.dev.drtState c ≤ 6 → exec (.drtCtrlStart c) s = .next (s.after
      ((d.chUp c fun x => { x with stopped := false }).say St.ok))) ∧
    exec (.drtCtrlStop c) s = .next (s.after
      (((d.chUp c fun x => { x with stopped := true, startMem := false }).drtJudge c).say St.ok)) ∧
    (s.dev.drtState c = 8 → exec (.drtCtrlClear c) s = .next (s.after
      (((d.drtIdle c).put (F.DRT_STAT_TRIES.ix c) 0).say St.ok)))) ∧
  (∀ (c : Fin 2) (v : Word) (s : State), s.dev.hearthUp = true →
    let d := (s.dev.setWord (F.DRT_SETP.ix c).addr v).put (F.DRT_SETP.ix c) v.toNat
    exec (.drtSetpWrite c v) s = .next (s.after ((if d.flag (F.DRT_CFG_SRC.ix c) then d.drtGiven c v else d).say St.ok))) ∧
  (∀ (c : Fin 2) (s : State), s.dev.hearthUp = true → s.dev.get (F.CAN_STATUS_STATE.ix c) = 3 →
    let a := (F.CAN_CTRL_RECOVER.ix c).addr
    exec (.canCtrlRecover c) s = .next (s.after
      (((s.dev.setWord a (s.dev.word a)).canUp c fun x => { x with recover := true }).say St.ok))) ∧
  (∀ (c : Fin 2) (m : Fin 64) (s : State), s.dev.hearthUp = true →
    let a := (mbF F.CAN_MB_DLC c m).addr
    let d := s.dev.setWord a (s.dev.word a)
    (s.dev.canCfg c (mbF F.CAN_MB_CFG_DIR c m) = 1 → s.dev.canOn c (mbF F.CAN_MB_CFG_PORT_EN c m) = false → s.dev.mbState c m ≠ 1 →
      s.dev.mbState c m ≠ 2 → exec (.canMbReq c m) s = .next (s.after
        ((((d.put (mbF F.CAN_MB_STATE c m) 1).put (mbF F.CAN_MB_ATTEMPTS c m) 0).put (mbF F.CAN_MB_CANCEL_LATE c m) 0).say St.ok))) ∧
    (s.dev.mbState c m = 1 → exec (.canMbCancel c m) s = .next (s.after ((d.put (mbF F.CAN_MB_STATE c m) 4).say St.ok))) ∧
    (s.dev.mbState c m = 2 → exec (.canMbCancel c m) s = .next (s.after ((d.put (mbF F.CAN_MB_CANCEL_LATE c m) 1).say St.ok))))

/-- With the configuration store loaded and no power-fail hold: DEVICE_FRAME_START ends the frame before, adopts
what is due, moves time to the boundary, counts ANG_FCNT, copies the ports, lets the blocks read them, shows the
latest angle, zeroes the slots of converters that stood disabled, writes the input nodes and buffered host
parameters where an image is active, drops the buffer, and begins the frame. A pending set whose frame is the next
comes into effect, registers, coefficients and LUT words, and is then empty, its owner and frame remembered for R20,
the configuration store written. An activation due puts its image, or its package, into force and is gone. (R16,
R20, R21, R25, R82, R84, R86, R95, R96, R488) -/
def Obligations.FrameAndAdoptionEventsComplete : Prop :=
  (∀ (bits : List (List Bool)) (s : State), s.dev.kindling 6 = true →
    let last := if s.dev.time.frames = 0 then none else some s.dev.fbx.frameAt
    let b := s.dev.toFrameStart
    let d := (b.sdmBits (b.frameIndex * (2 ^ 48 / b.S) + b.phi48) bits).dueAdoptions
    let k := d.frameIndex
    let e := d.toPhase (k * (2 ^ 48 / d.S) + d.phi48)
    let f := { e with time := { e.time with nextFrame := k + 1, frames := e.time.frames + 1 } }
    let angle := k * (2 ^ 32 / f.S) + f.get F.ANG_PHI
    let freq := f.word F.ANG_F.addr
    let g := (((f.wrapInc F.ANG_FCNT).copyPorts.traceFrameInfo (angle % 2 ^ 32)).formFrame.gsvFrame)
    let fcnt := g.get F.ANG_FCNT
    let p := (g.canPorts fcnt).drtFrame.sdmF1
    let q := ((p.sarIdle.put F.ANG_THETA p.ang.theta).latchInputs angle freq last).stageUp fun x => { x with host := [] }
    exec (.deviceFrameStart bits) s = .next (s.after ((q.frameBegin fcnt q.gsvBank).sarFrame fcnt (!q.cpr.d2dLost)))) ∧
  (∀ (k c : Nat) (s : State), s.dev.kindling 6 = true → s.dev.stage.pending = some (k, c) →
    (s.dev.get F.ANG_FCNT + 1) % 2 ^ 32 = k →
    let d := s.dev.toFrameStart
    let e := d.withStaged.fbxUp fun x => { x with
      coef := d.stage.coef.foldl (fun m (y : Nat × Word) => Mem.wr m y.1 y.2) x.coef
      lut := d.stage.lut.foldl (fun m (y : Nat × Word) => Mem.wr m y.1 y.2) x.lut }
    let f := e.stageEmpty.stageUp fun x => { x with adopted := some (d.stage.owner.getD 0, k) }
    exec .stagedSetAdopt s = .next (s.after ((f.stageHooks d).storeWrite))) ∧
  (∀ (a : ActPend) (s : State), s.dev.kindling 6 = true →
    (s.dev.actDue false = some a → exec .imageActivationAdopt s = .next (s.after
      ((s.dev.toFrameStart.hrtUp fun h => { h with act := none }).imageForce a.slot a.live))) ∧
    (s.dev.actDue true = some a → exec .packageActivationAdopt s = .next (s.after
      ((s.dev.toFrameStart.hrtUp fun h => { h with act := none }).pkgForce a.slot))))

/-- In a running frame a selected slot whose unit is free, not issued before and not abandoned, issues at its CORE
clock after every result due by then has landed, once: its unit's result is on its way, an invalid kernel result
counted. The result of a slot, or the set of a leg, lands at its clock with those due before it. An overrun not yet
declared for the frame lands what is due by then, abandons the frame, withholds leg sets that have not landed,
counts, records the first one in OVR_INFO and raises FBX_OVERRUN. A scan due raises the channel's timer to its
period. (R78, R79, R85, R97, R99, R105, R131) -/
def Obligations.FireboxEventsComplete : Prop :=
  (∀ (i : Nat) (img : Image) (x : Slot) (s : State), s.dev.kindling 6 = true → s.dev.fbx.active = some img →
    img.slots[i]? = some x → s.dev.fbx.running = true → s.dev.fbx.abandoned = false → x.selected s.dev.fbx.fcnt = true →
    s.dev.fbx.issued.contains i = false → s.dev.fbx.unitHeld img.slots x = false →
    let d := ((s.dev.advanceTo (s.dev.clockAt x.issue)).landUpTo x.issue).fbxUp fun y => { y with issued := y.issued ++ [i] }
    (x.unit < 8 → exec (.slotIssue i) s = .next (s.after ((d.kernelNan x.unit i (d.issueCmp x i).2).fbxUp fun y =>
      { y with flight := y.flight ++ [(d.issueCmp x i).1] }))) ∧
    (8 ≤ x.unit → x.unit < 10 → exec (.slotIssue i) s = .next (s.after ((d.kernelNan x.unit i (d.issueXfm x i).2).fbxUp fun y =>
      { y with flight := y.flight ++ [(d.issueXfm x i).1] }))) ∧
    (10 ≤ x.unit → x.unit < 14 → exec (.slotIssue i) s = .next (s.after ((d.kernelNan x.unit i (d.issueAlu x i).2).fbxUp fun y =>
      { y with flight := y.flight ++ [(d.issueAlu x i).1] }))) ∧
    (x.unit = 14 → exec (.slotIssue i) s = .next (s.after ((d.issueMod x i).1.fbxUp fun y =>
      { y with flight := y.flight ++ [(d.issueMod x i).2] }))) ∧
    (14 < x.unit → exec (.slotIssue i) s = .next (s.after ((d.kernelNan x.unit i (d.issueMpt x i).2).fbxUp fun y =>
      { y with flight := y.flight ++ [(d.issueMpt x i).1] })))) ∧
  (∀ (i : Nat) (f : Flight) (s : State), s.dev.kindling 6 = true → s.dev.fbx.flight.find? (fun g => g.slot == i) = some f →
    exec (.slotResultWrite i) s = .next (s.after ((s.dev.advanceTo (s.dev.clockAt f.lands)).landUpTo f.lands))) ∧
  (∀ (n : Fin 12) (f : Flight) (s : State), s.dev.kindling 6 = true →
    s.dev.fbx.flight.find? (fun g => g.legs.any fun l => l.1 == n.val) = some f →
    exec (.legSetComplete n) s = .next (s.after ((s.dev.advanceTo (s.dev.clockAt f.lands)).landUpTo f.lands))) ∧
  (∀ (cause : Fin 3) (slot : Fin 4096) (s : State), s.dev.kindling 6 = true → s.dev.fbx.active.isSome = true →
    s.dev.fbx.running = true →
    let a := s.dev.landUpTo (s.dev.frameClocks s.dev.time.now)
    a.fbx.overrun = false →
    let d := (a.fbxUp fun x => { x with
      abandoned := true, flight := x.flight.filter fun f => f.legs.isEmpty, overrun := true }).bump F.FBX_OVR_CNT_CNT
    let e := if a.flag F.FBX_STATUS_OVR then d else
      (((d.put F.FBX_STATUS_OVR 1).put F.FBX_OVR_INFO_SLOT slot).put F.FBX_OVR_INFO_CAUSE (cause + 1)).put F.FBX_OVR_INFO_FCNT
        (a.fbx.fcnt % 65536)
    exec (.fbxOverrun cause slot) s = .next (s.after (e.raise 0x0101 [cause + 1, slot, a.fbx.fcnt]))) ∧
  (∀ (c : Fin 4) (s : State), s.dev.kindling 6 = true →
    exec (.mpptScanDue c) s = .next (s.after (s.dev.fbxUp fun x => { x with
      scanTimer := upd x.scanTimer c fun t => max t (s.dev.get (F.MPT_SCAN_CFG_SCAN_PERIOD.ix c) * 60000) })))

/-- With the configuration store loaded and no power-fail hold: a common-angle sample moves time to it and adopts
F3's fields and pending GSV settings and gives its filter values to the angle clock, GSV, PQ, metering, sampled
values and capture, in this order. A snap that is announced or measured, or one of the PLL's error where the device
is no crown, due at a frame boundary after its request that is no sample instant, acts there. HOLD_MAX line cycles
in HOLDOVER raise ANG_HOLD_EXPIRED once. A source selection that differs takes effect at a counted line cycle with
the lock it begins in and ANG_SRC_CHANGE. A counted crossing closes and opens what the blocks close and open at it,
one not counted nothing. A phasor report with reports enabled passes to the next reporting instant and takes the
next sequence number, its record held for the ring where there is room. (R46, R56, R59, R61, R63, R70) -/
def Obligations.AngleEventsComplete : Prop :=
  (∀ (bits : List (List Bool)) (s : State), s.dev.kindling 6 = true →
    let u := 2 ^ 48 / s.dev.S
    let n := s.dev.seriesIndex u 0 s.dev.time.nextSample
    let d := s.dev.toPhase (n * u)
    let e := { d with time := { d.time with nextSample := n + 1, samples := d.time.samples + 1 } }
    let g := ((e.sdmBits (n * u) bits).f3Adopt.sdmSample).gsvAdopt
    let f := g.angSample (n * (2 ^ 32 / g.S))
    exec (.commonAngleSample bits) s = .next (s.after
      ((((f.gsvSample f.netPermit).pqSample (n % f.S) (n * u)).metSample.svTake (n * u)).captureSample))) ∧
  (∀ (s : State), s.dev.kindling 6 = true → s.dev.angLock ≤ 1 → s.dev.angSrc ≠ 1 → s.dev.snapBoundary = true →
    let target := s.dev.frameTarget
    s.dev.ang.snapAfter < target → s.dev.time.nextSample * (2 ^ 48 / s.dev.S) ≠ target →
    (∀ n, s.dev.ang.snap = some (.announced n) → exec .angSnap s = .next (s.after ((s.dev.toPhase target).snapBy n))) ∧
    (∀ e, s.dev.ang.snap = some (.measured e) → exec .angSnap s = .next (s.after
      ((s.dev.toPhase target).snapBy (rneDiv e s.dev.snapUnit)))) ∧
    (s.dev.ang.snap = some .now → s.dev.angSrc = 0 → s.dev.get F.FLU_STATUS_ROLE ≠ 2 → s.dev.ang.started = true →
      let d := s.dev.toPhase target
      exec .angSnap s = .next (s.after (d.snapBy (rneDiv d.followError (s.dev.snapUnit * 65536)))))) ∧
  (∀ (s : State), s.dev.kindling 6 = true → s.dev.angLock = 2 → s.dev.get F.ANG_HOLD_HOLD_MAX ≠ 0 →
    s.dev.get F.ANG_HOLD_HOLD_MAX ≤ s.dev.get F.ANG_STATUS_HOLD_CYC → s.dev.ang.expired = false →
    exec .angHoldExpired s = .next (s.after ((s.dev.angUp fun a => { a with expired := true }).raise 0x0208))) ∧
  (∀ (s : State), s.dev.kindling 6 = true → s.dev.get F.ANG_SRC_SEL ≠ s.dev.angSrc → s.dev.get F.ANG_SRC_SEL ≠ 3 →
    s.dev.ang.cycAt = s.dev.time.now →
    let sel := s.dev.get F.ANG_SRC_SEL
    let d := ((s.dev.put F.ANG_STATUS_SRC sel).angUp fun a => { a with
      lossCnt := 0, lockCnt := 0, loss := false, form := none, grpMiss := 0, grpBig := 0 }).setSnap none
    let e := (d.angUp fun a => { a with first := true }).setLock 1
    (sel = 1 → exec .angSrcChange s = .next (s.after ((d.setLock (if d.fbx.active.isSome then 0 else 3)).raise 0x0207))) ∧
    (sel ≠ 1 → exec .angSrcChange s = .next (s.after ((if e.stopped then e.setSnap (some .now) else e).raise 0x0207)))) ∧
  (∀ (d : Dev) (s : State), s.dev.kindling 6 = true →
    (s.dev.angCrossing = (d, true) → exec .lineCycleBoundary s = .next (s.after
      d.drBoundary.metBoundary.metSettingsAdopt.npCycle.srcChange.gsvBoundary)) ∧
    (s.dev.angCrossing = (d, false) → exec .lineCycleBoundary s = .next (s.after d))) ∧
  (∀ (s : State), s.dev.kindling 6 = true → s.dev.flag F.ANG_PHR_CFG_EN = true →
    let d := (s.dev.toPtp s.dev.phrNext).angUp fun a => { a with phrAt := some s.dev.phrNext }
    let rate := phrRate (d.get F.ANG_PHR_CFG_RATE)
    let i := d.ptpSub * rate / 1000000000
    let ns := i * 1000000000 / rate
    let back := (d.ptpSub - ns) * d.get F.ANG_INC / 2
    let angle := wrap 32 (((d.time.phase : Int) - back) / 65536 - (2 ^ 32 * d.fNom * i / rate : Nat))
    let state := d.get F.ANG_STATUS_SRC + 4 * d.get F.ANG_STATUS_LOCK + 16 * d.get F.ANG_STATUS_FCLAMP + (if d.ptpOk then 32 else 0)
    let e := (d.ringHold (d.get F.ANG_PHR_CFG_RING) .phasor (leBytes 4 d.ptpSec ++ leBytes 4 ns ++ leBytes 4 (d.get F.ANG_V1)
      ++ leBytes 4 angle ++ leBytes 4 (d.get F.ANG_F_MEAS) ++ leBytes 4 (d.get F.ANG_ROCOF) ++ leBytes 2 d.ang.phrSeq
      ++ leBytes 1 state ++ leBytes 1 rate ++ leBytes 4 (d.get F.ANG_CYCLE))).getD d
    exec .phasorReport s = .next (s.after (e.angUp fun a => { a with phrSeq := (a.phrSeq + 1) % 65536 })))

/-- A closed interval is snapped: registers, flags with bit 5 while PTP time is valid, duration, seconds, and the
interval is gone; a profile record ends every N of that cycle, and a new N restarts the interval after it; where a
save has fallen due, this snapshot is the one it writes. Pending metering settings come into effect together at an
opening boundary, open the first cycle where they turn metering on, and raise MET_SETTINGS. A save that has its
snapshot, with none in progress, takes the next sequence number, writes the next ring slot and shows SAVE_BUSY; its
completion clears SAVE_BUSY, moves RING_NEXT on and, failed, raises MET_SAVE_FAIL. Pending GSV settings come into
effect outside RIDE and CEASE at the sample instant that is now, clear the timers of every ride-through table they
change, raise GSV_SETTINGS, and the region is judged again. (R199, R202, R204, R299) -/
def Obligations.MeterAndSettingsEventsComplete : Prop :=
  (∀ (c : MetCycle) (s : State), s.dev.kindling 6 = true → s.dev.met.closed = some c →
    let flags := c.flags ||| (if s.dev.ptpOk then 32 else 0)
    let d := ((s.dev.metRegsOut.put64 F.MET_SNAP_CYC_LO F.MET_SNAP_CYC_HI s.dev.met.cyc).put F.MET_SNAP_FLAGS flags).put
      F.MET_SNAP_DUR c.dur
    let e := d.metUp fun m => { m with
      closed := none, snap := { c with flags := flags }, snapSec := d.ptpSec, snapNs := d.ptpSub
      profFlags := m.profFlags ||| flags, profDur := m.profDur + c.dur }
    let f := if e.oget F.MET_PROF_CFG_N ≠ 0 ∧ e.met.cyc % e.oget F.MET_PROF_CFG_N = 0 then e.profEnd else e
    let g := if f.oget F.MET_PROF_CFG_N = f.mget F.MET_PROF_CFG_N then f
      else f.metUp fun m => { m with profFlags := 0, profDur := 0, restart := false }
    exec .metSnapshot s = .next (s.after (if g.met.due = true then g.metUp fun m => { m with due := false, save := some (g.metRecord false) }
      else g))) ∧
  (∀ (s : State), s.dev.kindling 6 = true → s.dev.met.cfgPend = true → s.dev.met.run = true → s.dev.ang.cycAt = s.dev.time.now →
    (s.dev.met.opening = true ∨ s.dev.mget F.MET_CFG_EN ≠ 1) →
    let d := s.dev.pqSettings
    let e := d.metUp fun m => { m with
      cfg := d.metSettings, cfgPend := false, proc := if m.open_ then m.proc else d.metSettings }
    let f := if e.mget F.MET_PROF_CFG_N = s.dev.mget F.MET_PROF_CFG_N ∨ e.met.open_ = true then e
      else e.metUp fun m => { m with profFlags := 0, profDur := 0, restart := false }
    let h := if f.mget F.MET_CFG_EN = 1 ∧ s.dev.mget F.MET_CFG_EN ≠ 1 then f.metUp fun m => { m with
        hist := [], dft := [], sums := {}, open_ := false, opening := true, wasBad := false } else f
    let g := if h.pqOn then h else h.pqClear
    exec .metSettingsAdopt s = .next (s.after (g.raise 0x0609 [g.pkgVersion]))) ∧
  (∀ (s : State), s.dev.kindling 6 = true → s.dev.met.run = true → s.dev.met.saving = none →
    ∀ r, s.dev.met.save = some r →
    let d := s.dev.metUp fun m => { m with save := none }
    let j := d.get F.MET_STATUS_RING_NEXT
    let x := { r with seq := d.met.seq }
    exec .metPeriodicSave s = .next (s.after ((d.takeSeq.metUp fun m => { m with
      saving := some (j, x), ring := m.ring.set j (some x) }).put F.MET_STATUS_SAVE_BUSY 1))) ∧
  (∀ (ok : Bool) (j : Nat) (r : MetSave) (s : State), s.dev.awake = true → s.dev.met.saving = some (j, r) →
    let d := ((s.dev.metUp fun m => { m with saving := none, ring := m.ring.set j (some { r with good := ok }) }).put
      F.MET_STATUS_SAVE_BUSY 0).put F.MET_STATUS_RING_NEXT ((j + 1) % 32)
    exec (.periodicSaveComplete ok) s = .next (s.after (if ok then d else d.raise 0x0605))) ∧
  (∀ (ws : List (Nat × Word)) (s : State), s.dev.kindling 6 = true → s.dev.sup.pend = some ws → s.dev.gsv ≠ 5 → s.dev.gsv ≠ 6 →
    s.dev.sup.sampleAt = some s.dev.time.now →
    let old := s.dev
    let new := ws.foldl (fun (d : Dev) (x : Nat × Word) => d.setWord x.1 x.2) old
    let changed := fun t : Nat => old.word (F.GSV_RT_HYS.ix t).addr != new.word (F.GSV_RT_HYS.ix t).addr
      || (List.range 16).any fun i => old.word (rtFld F.GSV_RT_LEVEL t i).addr != new.word (rtFld F.GSV_RT_LEVEL t i).addr
        || old.word (rtFld F.GSV_RT_TIME t i).addr != new.word (rtFld F.GSV_RT_TIME t i).addr
    let d := new.supUp fun g => { g with
      pend := none
      beyond := (List.range 4).map fun t => if changed t then 0 else g.beyond.getD t 0
      timer := (List.range 4).map fun t => if changed t then List.replicate 16 0 else g.timer.getD t [] }
    exec .gsvSettingsAdopt s = .next (s.after ((d.raise 0x030F [d.pkgVersion]).tablesStep 0)))

/-- With the configuration store loaded and no power-fail hold: a carrier starts at its boundary: cycle latches
judged, legs released, lines swapped, the period predicted, every leg reloaded, judged and given its edges. A
half-carrier with HALF 1 gives legs that take a set their off-edges of the second half. A transition that answers an
exchange in time measures its dead time; a missing one counts, the eighth raising PWM_VSW. A calibration ends
DL_FAIL and gives a spare; no swap for 4 ms sets DL_STALE, no calibration for 16 ms DL_FAIL, each raised once. A
pulse of 20 to 200 ns breaks the run of good ones where one was missed before it, is passed on, and judged where the
role and angle allow, else ends a substitution after four. Two periods after the last pulse loss substitutes. A
measurement of 64 differences stores their mean. (R233, R236, R238, R243, R244, R246, R247, R249, R251, R252, R253)
-/
def Obligations.PwmEventsComplete : Prop :=
  (∀ (s : State), s.dev.kindling 6 = true →
    let u := 2 ^ 48 / s.dev.C
    let j := s.dev.seriesIndex u s.dev.phi48 s.dev.time.nextCarrier
    let target := j * u + s.dev.phi48
    let a := s.dev.toPhase target
    let b := ({ a with time := { a.time with nextCarrier := j + 1 } }.cycleClear.releaseLegs).swapLines
    let c := b.endCarrier (b.nowTaps - b.fineTaps target)
    let d := c.pwmUp fun p => { p with period := c.predictedPeriod, index := j }
    let late := d.dueFrame (j * d.S % d.C == 0) (j * d.S / d.C)
    exec .carrierStart s = .next (s.after ((List.range 12).foldl (fun e n => e.legCarrier n c.predictedPeriod late) d))) ∧
  (∀ (s : State), s.dev.kindling 6 = true → s.dev.flag F.PWM_CFG_HALF = true →
    let u := 2 ^ 48 / s.dev.C
    let off := s.dev.phi48 + u / 2
    let j := s.dev.seriesIndex u off s.dev.time.nextHalf
    let a := s.dev.toPhase (j * u + off)
    let b := { a with time := { a.time with nextHalf := j + 1 } }
    let late := b.dueFrame ((2 * j + 1) * b.S % (2 * b.C) == 0) ((2 * j + 1) * b.S / (2 * b.C))
    let h : Int := b.nowTaps - b.fineTaps (j * u + off) - b.pwm.crossing
    exec .halfCarrierReload s = .next (s.after ((List.range 12).foldl (fun e n => e.legHalf n b.pwm.period h late) b))) ∧
  (∀ (n : Fin 12) (rising : Bool) (dt : Nat) (e : PwmEdge) (s : State), s.dev.kindling 6 = true →
    let t := s.dev.nowTaps + dt
    let d := s.dev.advance (dt / 128)
    let up := rising != d.flag (F.PWM_LEG_CFG_VSW_INV.ix n)
    let l := d.leg n
    let tr := (t - e.ball).toNat
    let past := decide (d.get (F.PWM_DTMAX_DT_MAX.ix n) < tr + d.get (F.PWM_DTADP_MARGIN.ix n))
    d.adapts n = true → lastOff d.pwm.edges (if up then 2 * n + 1 else 2 * n) t = some e →
    (if up then l.seenBA else l.seenAB) ≠ some e.tap → t < d.incomingEdge n up e →
    let f := (d.legUp n fun l => { l with
      seenAB := if up then l.seenAB else some e.tap
      seenBA := if up then some e.tap else l.seenBA
      miss := 0, clean := min 64 (l.clean + 1), fault := l.fault && decide (l.clean + 1 < 64) }).legUp n fun l =>
        if up then { l with trBA := some tr, overBA := past } else { l with trAB := some tr, overAB := past }
    let g := if up then (f.put (F.PWM_TDC_T_BA.ix n) tr).put (F.PWM_TDC_VALID_BA.ix n) 1
      else (f.put (F.PWM_TDC_T_AB.ix n) tr).put (F.PWM_TDC_VALID_AB.ix n) 1
    let was := if up then (d.leg n).overBA else (d.leg n).overAB
    exec (.vswFbTransition n rising dt) s = .next (s.after (if past && !was then g.raise 0x0705 else g))) ∧
  (∀ (n : Fin 12) (s : State), s.dev.kindling 6 = true → s.dev.adapts n = true →
    let m := (s.dev.leg n).miss + 1
    let d := s.dev.legUp n fun l => { l with miss := min 8 m, clean := 0, fault := l.fault || decide (8 ≤ m) }
    exec (.vswExchangeMissing n) s = .next (s.after
      (if m = 8 then (d.bump F.PWM_VSW_CNT).raise 0x0704 [n] else d))) ∧
  (∀ (g : Fin 4) (s : State), s.dev.kindling 6 = true →
    exec (.delayLineCalibrated g) s = .next (s.after ((s.dev.clrIn F.PWM_STATUS_DL_FAIL g).pwmUp fun p => { p with
      spare := upd p.spare g fun _ => true, calAt := upd p.calAt g fun _ => s.dev.time.now })) ∧
    (let d := s.dev.advanceTo (s.dev.pwm.swapAt.getD g 0 + 2000000)
     d.bitIn F.PWM_STATUS_DL_STALE g = false →
      exec (.pwmDlStale g) s = .next (s.after ((d.setIn F.PWM_STATUS_DL_STALE g).raise 0x0702 [g]))) ∧
    (let d := s.dev.advanceTo (s.dev.pwm.calAt.getD g 0 + 8000000)
     s.dev.pwm.spare.getD g false = false → d.bitIn F.PWM_STATUS_DL_FAIL g = false →
      exec (.pwmDlFail g) s = .next (s.after ((d.setIn F.PWM_STATUS_DL_FAIL g).raise 0x0703 [g])))) ∧
  (∀ (width dt : Nat) (s : State), s.dev.kindling 6 = true → 20 ≤ width → width ≤ 200 →
    let t : Int := s.dev.nowTaps + dt
    let b := s.dev.advance (dt / 128)
    b.syncRole = 2 →
    let missed := b.pwm.syncAt.any fun x => decide (3 * (b.predictedPeriod : Int) < 2 * (t - x))
    let d := (b.pwmUp fun p => { p with syncAt := some t, syncGood := if missed then 0 else p.syncGood }).put F.PWM_STATUS_SYNC_IN_OK 1
    let sub := d.flag F.PWM_STATUS_SYNC_SUBST
    let e := if sub then d else d.pwmUp fun p => { p with syncOut := [(t + 512, width)] }
    let f := e.pwmUp fun p => { p with syncGood := min 4 (p.syncGood + 1) }
    (e.syncCompares = true → exec (.syncInPulse width dt) s = .next (s.after (e.syncJudge t (decide (80 ≤ width))))) ∧
    (e.syncCompares = false → sub = false → exec (.syncInPulse width dt) s = .next (s.after e)) ∧
    (e.syncCompares = false → sub = true → exec (.syncInPulse width dt) s = .next (s.after
      (if f.pwm.syncGood = 4 then f.put F.PWM_STATUS_SYNC_SUBST 0 else f)))) ∧
  (∀ (s : State), s.dev.kindling 6 = true → s.dev.syncRole = 2 → s.dev.flag F.PWM_STATUS_SYNC_SUBST = false →
    let d := s.dev.pwm.syncAt.elim s.dev fun t => s.dev.advanceTo ((t + 2 * s.dev.predictedPeriod).toNat / 128)
    exec .pwmSyncLoss s = .next (s.after (((((d.put F.PWM_STATUS_SYNC_SUBST 1).put F.PWM_STATUS_SYNC_IN_OK 0).bump
      F.PWM_SYNC_ERR_CNT).pwmUp fun p => { p with syncGood := 0, syncBad := 0 }).raise 0x0706))) ∧
  (∀ (diffs : List Nat) (s : State), s.dev.kindling 6 = true → s.dev.pwm.meas = true → diffs.length = 64 →
    let m := (diffs.sum + 32) / 64
    exec (.pwmSyncMeas diffs) s = .next (s.after ((((s.dev.put F.PWM_SYNC_DLY_D m).put F.PWM_SYNC_DLY_VALID 1).pwmUp fun p =>
      { p with meas := false }).raise 0x0709 [m])))

/-- In an awake device: clock loss of an enabled channel, alone in Manchester mode, else of its group, marks and
counts each channel not marked. A Manchester code violation counts and repeats the last bit, the eighth in a row
losing the clock. A channel takes bits one by one, on CLKOUT with its clock running once that clock has sampled
them: a fault, F3's lines are what the bits show. Recovery takes the clock mark away and then the bits, on CLKOUT
with the synthesiser in lock. With the store loaded, the next entry of a converter in the running pass, done at its
edge, counts saturated codes of its inputs and puts the mean into the entry's place; with the die-to-die link up and
every entry done the pass's end, 250 ns after the longer pass, publishes every slot of the enabled converters and
counts. A register conversion pending with room before the next conversion delivers its word as requested 250 ns
after its start, DONE for PEND. The reference's loss clears REF_OK, counts and raises SAR_REF. (R153, R158, R161,
R163, R165, R176, R177, R178, R182, R185) -/
def Obligations.SenseEventsComplete : Prop :=
  (∀ (n : Fin 24) (bits : List Bool) (s : State), s.dev.awake = true →
    exec (.sdmFaultDetect n true bits) s = .next (s.after
      ((((if s.dev.schMode n = 3 then [n.val] else (List.range 4).map fun i => n / 4 * 4 + i).filter fun i =>
        s.dev.schOn i && !(s.dev.sch i).clk)).foldl (fun e i => (((e.schUp i fun c =>
          { c with clk := true, stuck := false, rail := false, run := 0 }).schDetect i 0x0401 F.SDM_CLK_CNT).f3Eval i).schShow i) s.dev)) ∧
    (s.dev.schOn n = true → s.dev.schMode n = 3 → (s.dev.sch n).viol ≠ 7 → exec (.manchCodeViolation n) s = .next (s.after
      ((((s.dev.bump F.SDM_MANCH_CNT).schBit n (s.dev.sch n).raw).schUp n fun c => { c with viol := min ((s.dev.sch n).viol + 1) 8 }).schShow n))) ∧
    (s.dev.schOn n = true → s.dev.schMode n = 3 → (s.dev.sch n).viol = 7 → exec (.manchCodeViolation n) s = .next (s.after
      ((((s.dev.bump F.SDM_MANCH_CNT).schBit n (s.dev.sch n).raw).schUp n fun c => { c with viol := 8 }).sdmClockLoss n)))) ∧
  (∀ (n : Fin 24) (bits : List Bool) (dt : Nat) (s : State), s.dev.awake = true → bits ≠ [] →
    let feed := fun d : Dev => ((bits.foldl (fun e b => e.schBit n b) d).schUp n fun c => { c with viol := 0 }).schShow n
    let clocked := fun d : Dev =>
      (feed (d.toPhase (((d.sch n).next + bits.length - 1) * d.modUnit + d.get (F.SDM_GRP_DLY.ix (n / 4)) * d.get F.ANG_INC + 1))).schUp
        n fun c => { c with next := (d.sch n).next + bits.length }
    let take := fun d : Dev => if d.schMode n = 1 then clocked d else feed d
    let ready := fun d : Dev => (d.schOn n = true ∨ d.f3On n = true) ∧ (d.schMode n = 1 → d.clkRuns (n / 4) = true)
    let back := (if s.dev.schMode n = 3 then [n.val] else (List.range 4).map fun i => n / 4 * 4 + i).foldl
      (fun e i => e.schUp i fun c => { c with clk := false }) s.dev
    let d := s.dev.advance dt
    (ready s.dev → exec (.sdmFaultDetect n false bits) s = .next (s.after (take s.dev))) ∧
    (ready back → (s.dev.schMode n = 1 → s.dev.modLost = false) →
      exec (.sdmRecovered n bits) s = .next (s.after (take back))) ∧
    (ready d → exec (.f3Assert n bits dt) s = .next (s.after (take d)) ∧ exec (.f3Deassert n bits dt) s = .next (s.after (take d)))) ∧
  (∀ (x : Fin 2) (i : Fin 64) (uvs : List Int) (s : State), s.dev.kindling 6 = true → s.dev.sarEn x = true →
    s.dev.sar.pass.isSome = true → i.val < s.dev.sarLen x → s.dev.sar.next.getD x 0 = i.val →
    let d := s.dev.advanceTo (5 * (s.dev.sarBegin s.dev.sar.t0 x i + 25 * s.dev.sarRepeat x i))
    let ch := d.sarCh x i
    let codes := (List.range (d.sarRepeat x i)).map fun j => sarCode ch (uvs.getD j 0)
    exec (.sarConversionDone x i uvs) s = .next (s.after
      ((d.bump F.SAR_SAT_CNT (codes.filter (sarSat ch)).length).sarUp fun y => { y with
        next := upd y.next x fun k => k + 1
        pending := Mem.wr y.pending (64 * x + d.sarDest x i) (sarWord ch (d.sarAlign x i) (sarMean codes)) }))) ∧
  (∀ (a b : Int) (k : Nat) (s : State), s.dev.kindling 6 = true → s.dev.cpr.d2dLost = false → s.dev.sarThrough = true →
    s.dev.sar.pass = some k →
    let d := s.dev.advanceTo (5 * (s.dev.sar.t0 + s.dev.sarSpan + 25))
    let e := ((d.sarUp fun y => { y with published := d.sarSlots, pass := none }).wrapInc F.SAR_STATUS_PASSES).put F.SAR_STATUS_STALE 0
    exec (.sarPassComplete a b) s = .next (s.after
      (if e.plausPass k then e.plausJudge (sarCode 15 a).toNat (sarCode 15 b).toNat else e))) ∧
  (∀ (x : Fin 2) (uv : Int) (edge : Nat) (s : State), s.dev.awake = true → s.dev.flag (F.SAR_REG_PEND.ix x) = true →
    s.dev.sarRegEdge x = some edge →
    let d := s.dev.advanceTo (5 * (edge + 25))
    let ch := (d.sar.req.getD x (0, false)).1
    let e := if sarSat ch (sarCode ch uv) then d.bump F.SAR_SAT_CNT else d
    exec (.sarRegDone x uv) s = .next (s.after (((e.put (F.SAR_REG_DATA.ix x)
      (sarWord ch (d.sar.req.getD x (0, false)).2 (sarCode ch uv)).toNat).put (F.SAR_REG_PEND.ix x) 0).put (F.SAR_REG_DONE.ix x) 1))) ∧
  (∀ (s : State), s.dev.awake = true →
    exec (.sarRef true) s = .next (s.after (s.dev.put F.SAR_STATUS_REF_OK 1)) ∧
    exec (.sarRef false) s = .next (s.after (((s.dev.put F.SAR_STATUS_REF_OK 0).bump F.SAR_REF_CNT).raise 0x0503)))

/-- In an awake device: a comparator whose input passes its threshold sets its output, then asserts its source, at
once or after its blanking. A strobe judges every strobed comparator at its instant. A blanking's end asserts the
source of an output still set. FLT_N asserts its source. A comparator whose input no longer passes, and FLT_N,
deassert. A leg's inner outputs end their sequence: the leg is off. A contactor's delay ends. A restart wait's end
releases the group where no class B source of it is asserted, raising DMP_RETRY, else it waits again. The oldest
lockout trip leaves its window. Feedback follows its pin; a disagreement longer than FB_TIME marks, counts and
raises DMP_CTL_FB once. (R256, R258, R259, R260, R267, R270, R273, R274, R277) -/
def Obligations.DamperEventsComplete : Prop :=
  (∀ (j : Fin 16) (uv dt : Nat) (s : State), s.dev.awake = true →
    let d := s.dev.advance dt
    let w := d.cmpEntry j
    cmpOn w 0 = true → cmpOutput w uv (d.dmp.cmpOut.testBit j) = true → d.dmp.asserted.testBit j = false →
    let e := d.dmpUp fun x => { x with cmpOut := setBit x.cmpOut j }
    (e.blankEnd w = none → exec (.comparatorAssert j uv dt) s = .next (s.after (e.sourceAssert j))) ∧
    (∀ t, e.blankEnd w = some t → exec (.comparatorAssert j uv dt) s = .next (s.after
      (e.dmpUp fun x => { x with blank := x.blank.set j (some t) })))) ∧
  (∀ (uvs : List Nat) (s : State), s.dev.awake = true →
    exec (.comparatorStrobe uvs) s = .next (s.after ((List.range 16).foldl (fun e j => e.strobeResult uvs j)
      ((s.dev.advanceTo s.dev.nextStrobe).dmpUp fun x => { x with strobeAt := s.dev.nextStrobe })))) ∧
  (∀ (j : Fin 16) (t : Nat) (s : State), s.dev.awake = true → s.dev.dmp.blank.getD j none = some t →
    let d := (s.dev.advanceTo t).dmpUp fun x => { x with blank := x.blank.set j none }
    exec (.blankingEnd j) s = .next (s.after (match d.blankEnd (d.cmpEntry j) with
      | some u => d.dmpUp fun x => { x with blank := x.blank.set j (some u) }
      | none => if d.dmp.cmpOut.testBit j then d.sourceAssert j else d))) ∧
  (∀ (n : Fin 12) (dt : Nat) (s : State), s.dev.awake = true →
    exec (.fltNAssert n dt) s = .next (s.after ((s.dev.advance dt).sourceAssert (16 + n)))) ∧
  (∀ (i : Fin 86) (uv dt : Nat) (s : State), s.dev.awake = true →
    let d := s.dev.advance dt
    (i.val < 16 → cmpOn (d.cmpEntry i) 0 = true → cmpOutput (d.cmpEntry i) uv (d.dmp.cmpOut.testBit i) = false →
      exec (.sourceDeassert i uv dt) s = .next (s.after
        ((d.dmpUp fun x => { x with cmpOut := clrBit x.cmpOut i, blank := x.blank.set i none }).sourceDeassert i))) ∧
    (16 ≤ i.val → i.val < 28 → exec (.sourceDeassert i uv dt) s = .next (s.after (d.sourceDeassert i)))) ∧
  (∀ (n : Fin 12) (t : Nat) (s : State), s.dev.awake = true → s.dev.dmp.legs.getD n .free = .seq t →
    exec (.safeSequenceInnerOff n) s = .next (s.after
      ((s.dev.advanceTo t).dmpUp fun x => { x with legs := x.legs.set n .off }).holdUpdate)) ∧
  (∀ (k : Fin 8) (x : Nat × Nat) (s : State), s.dev.awake = true → s.dev.dmp.opening.find? (fun y => y.1 == k.val) = some x →
    exec (.contactorOpenDelay k) s = .next (s.after (s.dev.advanceTo x.2).contactorDue)) ∧
  (∀ (g : Fin 8) (t : Nat) (s : State), s.dev.awake = true → s.dev.dmp.bWait.getD g none = some t →
    let d := (s.dev.advanceTo t).dropLatches g fun l => l.cls == .b && !(s.dev.advanceTo t).latchUp l
    (d.bAsserted g = true → exec (.restartWaitEnd g) s = .next (s.after (d.startWait g))) ∧
    (d.bAsserted g = false → exec (.restartWaitEnd g) s = .next (s.after
      (((d.dmpUp fun x => { x with holdB := clrBit x.holdB g, bWait := x.bWait.set g none }).holdUpdate).raise 0x0806 [2 ^ g.val])))) ∧
  (∀ (t : Nat) (ts : List Nat) (s : State), s.dev.awake = true → s.dev.dmp.lockTimes = t :: ts → s.dev.dmp.lockout = false →
    let win := 500000000 * s.dev.get F.DMP_LOCKOUT_CFG_LOCK_WIN
    let d := s.dev.advanceTo (t + win)
    let e := d.dmpUp fun x => { x with lockTimes := x.lockTimes.filter fun u => decide (d.time.now < u + win) }
    exec .lockoutCountAge s = .next (s.after (e.put F.DMP_LOCKOUT_CNT_CNT (min 15 e.dmp.lockTimes.length)))) ∧
  (∀ (k : Fin 8) (level : Bool) (dt : Nat) (s : State), s.dev.awake = true →
    exec (.ctlFbChange k level dt) s = .next (s.after
      ((s.dev.advance dt).dmpUp fun x => { x with fbPin := putBit x.fbPin k level }))) ∧
  (∀ (k : Fin 8) (t : Nat) (s : State), s.dev.awake = true → s.dev.dmp.disagree.getD k none = some t →
    let d := s.dev.advanceTo (t + 500000 * s.dev.get (F.DMP_CTL_FB_TIME.ix k))
    d.bitIn F.DMP_CTL_STATE_MISMATCH k = false →
    exec (.dmpCtlFb k) s = .next (s.after (((d.setIn F.DMP_CTL_STATE_MISMATCH k).bump F.DMP_CTL_FB_CNT).raise 0x0809 [k])))

/-- With the configuration store loaded and no power-fail hold: PRE_TIME after entering PRECHARGE in its first step,
DC_T after its second step began, AC_T after the breaker was commanded, in SYNC to close and elsewhere to open, and
SYNC_TIME seconds after entering SYNC, where it is not 0, time stands at that instant. What GSV makes of it comes
with the first common-angle sample not before it, the model's choice of a decision instant (R280; log entry 148).
(R283, R286, R287) -/
def Obligations.SequenceTimersComplete : Prop :=
  ∀ (s : State), s.dev.kindling 6 = true →
    (s.dev.gsv = 2 → s.dev.sup.step = 0 → s.dev.sup.preFail = false → exec .gsvPrechFail s = .next (s.after
      (s.dev.advanceTo (s.dev.sup.enterAt + 500000 * s.dev.get F.GSV_SEQ_T_PRE_TIME)))) ∧
    (s.dev.gsv = 2 → s.dev.sup.step = 1 → exec .prechargeDcT s = .next (s.after
      (s.dev.advanceTo (s.dev.sup.stepAt + 500000 * s.dev.get F.GSV_CLOSE_T_DC_T)))) ∧
    (∀ t, s.dev.gsv = 3 → s.dev.sup.closeAt = some t → exec .breakerAcT s = .next (s.after
      (s.dev.advanceTo (t + 500000 * s.dev.get F.GSV_CLOSE_T_AC_T)))) ∧
    (∀ t, s.dev.gsv ≠ 3 → s.dev.sup.stopAt = some t → exec .breakerAcT s = .next (s.after
      (s.dev.advanceTo (t + 500000 * s.dev.get F.GSV_CLOSE_T_AC_T)))) ∧
    (s.dev.gsv = 3 → s.dev.get F.GSV_SEQ_T_SYNC_TIME ≠ 0 → exec .syncTimeExpired s = .next (s.after
      (s.dev.advanceTo (s.dev.sup.enterAt + 500000000 * s.dev.get F.GSV_SEQ_T_SYNC_TIME))))

/-- In an awake device: the next clock's word of Draught, with the bits the link changes, if its CRC and sequence
number are right, commands its gates, a leg with both gates on neither, and raises that; if not it counts, and the
third in a row is a link fault of the bridge. A supply below 8.5 V warns once, above 9.0 V ends it; one below 7.5 V,
or external below 9.0 V, locks out, counts, flags and faults the bridge, raised once in a fault that it joins; above
8.0 V, or no longer below 9.0 V, ends it. VDRV below 9.8 V turns both bridges off and raises GDR_VDRV, above 10.2 V
ends it. A rise faster than SC_SLEW, or a level above OC_THR enabled, after its blanking where it stays, is a fault
of its leg. Soft turn-off ends; a wait's end releases or waits again; CLR_T clears tries; the off-wire holds and
releases its bridge. (R307, R308, R310, R312, R313, R314, R315, R316, R317, R318, R319, R320) -/
def Obligations.GateDriverEventsComplete : Prop :=
  (∀ (b : Fin 2) (err : Nat) (s : State), s.dev.awake = true →
    let k := max (anaEdge s.dev.time.now) (s.dev.bridge b).upTo
    let d := (s.dev.advanceTo (5 * k)).wordsTo b (5 * k)
    let w := d.drtWord b k ^^^ err
    let e := d.bridgeUp b fun x => { x with upTo := k + 1 }
    let f := e.bridgeUp b fun x => { x.command e.time.now (splitGates (w % 64)).1 with bad := 0 }
    let n := if (d.bridge b).badAt.any (fun j => j + 1 == k) then (d.bridge b).bad + 1 else 1
    let g := (e.bump F.GDR_LINK_CNT).bridgeUp b fun x => { x with bad := n % 3, badAt := some k }
    (wordGood w k = true → exec (.driveWord b err) s = .next (s.after
      (if (splitGates (w % 64)).2 = 0 then f else f.raise 0x0908 [b, (splitGates (w % 64)).2]))) ∧
    (wordGood w k = false → n < 3 → exec (.driveWord b err) s = .next (s.after g)) ∧
    (wordGood w k = false → 3 ≤ n → (g.bridge b).faulted = false → exec (.driveWord b err) s = .next (s.after
      (((g.bridgeFault b 0 false).put (F.GDR_FAULT_LINK.ix b) 1).causeEvent b 3 0x0907 0)))) ∧
  (∀ (n : Fin 6) (mv dt : Nat) (s : State), s.dev.awake = true →
    let d := s.dev.advance dt
    let b := n.val / 3
    let l := n.val % 3
    (mv < 8500 → (d.bridge b).warn.testBit l = false → exec (.hsWarningAssert n mv dt) s = .next (s.after
      ((d.bridgeUp b fun x => { x with warn := setBit x.warn l }).raise 0x0903 [b, 2 ^ l]))) ∧
    (9000 < mv → exec (.hsWarningRelease n mv dt) s = .next (s.after (d.bridgeUp b fun x => { x with warn := clrBit x.warn l }))) ∧
    (∀ ext : Bool, (if ext then mv < 9000 else mv < 7500) →
      let e := d.bridgeUp b fun x => if ext then { x with extLow := true } else { x with low := setBit x.low l }
      let new := andNot (e.lockedOut b) (e.bridge b).lockSeen
      new ≠ 0 →
      let f := (e.bridgeUp b fun x => { x with lockSeen := e.lockedOut b }).bump F.GDR_UV_CNT (popCount 3 new)
      let g := f.put (F.GDR_FAULT_UV.ix b) (f.get (F.GDR_FAULT_UV.ix b) ||| new)
      ((g.bridge b).faulted = true → g.joinsFault b = false →
        exec (.hsLockoutAssert n mv ext dt) s = .next (s.after (g.raise 0x0904 [b, new]))) ∧
      (((g.bridge b).faulted = false ∨ g.joinsFault b = true) → exec (.hsLockoutAssert n mv ext dt) s = .next (s.after
        (((g.bridgeFault b new false).bridgeUp b fun x => { x with uvLegs := x.uvLegs ||| new }).causeEvent b 2 0x0904 new)))) ∧
    (∀ ext : Bool, (if ext then 9000 ≤ mv else 8000 < mv) → exec (.hsLockoutRelease n mv ext dt) s = .next (s.after
      (d.bridgeUp b fun x => if ext then { x with extLow := false } else { x with low := clrBit x.low l })))) ∧
  (∀ (mv dt : Nat) (s : State), s.dev.awake = true →
    let d := s.dev.advance dt
    let e := (d.gatesOff 0).gatesOff 1
    (mv < 9800 → d.gdr.vdrvLow = false → exec (.vdrvUndervoltage mv dt) s = .next (s.after
      (({ e with gdr := { e.gdr with vdrvLow := true } }.bump F.GDR_UV_CNT).raise 0x0909 [3, 0]))) ∧
    (10200 < mv → exec (.vdrvRecovered mv dt) s = .next (s.after { d with gdr := { d.gdr with vdrvLow := false } }))) ∧
  (∀ (n : Fin 6) (x stay dt : Nat) (s : State), s.dev.awake = true →
    let d := s.dev.advance dt
    let b := n.val / 3
    (1000 * (d.get (F.GDR_SC_SC_SLEW.ix b) + 1) < x → exec (.gdrShortCircuit n x dt) s = .next (s.after (d.legFault n true))) ∧
    (d.flag (F.GDR_CFG_OC_EN.ix b) = true → 20000 * d.get (F.GDR_SC_OC_THR.ix b) < x →
      (d.ocBlankEnd n = none → exec (.gdrOvercurrent n ⟨x, stay⟩ dt) s = .next (s.after (d.legFault n false))) ∧
      ∀ t, d.ocBlankEnd n = some t →
        (d.time.now + stay < t → exec (.gdrOvercurrent n ⟨x, stay⟩ dt) s = .next (s.after d)) ∧
        (t ≤ d.time.now + stay → (d.advanceTo t).ocBlankEnd n = none →
          exec (.gdrOvercurrent n ⟨x, stay⟩ dt) s = .next (s.after ((d.advanceTo t).legFault n false))))) ∧
  (∀ (b : Fin 2) (t : Nat) (s : State), s.dev.awake = true →
    (∀ on, (s.dev.bridge b).soft = some (t, on) → exec (.softTurnoffEnd b) s = .next (s.after
      (((s.dev.advanceTo t).bridgeUp b fun x => { x with soft := none }).faultEvents b))) ∧
    (let d := s.dev.advanceTo t
     (s.dev.bridge b).wait = some t →
      (d.gdrCause b = true → exec (.gdrRetryWaitEnd b) s = .next (s.after
        (d.bridgeUp b fun x => { x with wait := some (d.time.now + 5000000 * (d.get (F.GDR_RETRY_WAIT.ix b) + 1)) }))) ∧
      (d.gdrCause b = false → exec (.gdrRetryWaitEnd b) s = .next (s.after
        ((((d.bridgeUp b fun x => { x with wait := none, latched := false, joinTo := 0 }).sourceDeassert (84 + b)).bump
          (F.GDR_STATUS_TRIES.ix b)).raise 0x0905 [b, (d.bridge b).scLegs ||| (d.bridge b).ocLegs ||| (d.bridge b).uvLegs])))) ∧
    ((s.dev.bridge b).driveSince = some t → exec (.gdrTryClear b) s = .next (s.after
      ((s.dev.advanceTo (t + 500000000 * s.dev.get (F.GDR_RETRY_CLR_T.ix b))).put (F.GDR_STATUS_TRIES.ix b) 0)))) ∧
  (∀ (b : Fin 2) (dt : Nat) (s : State), s.dev.awake = true →
    let d := s.dev.advance dt
    (d.dmp.drtHeld.testBit b = true → exec (.bridgeOffAssert b dt) s = .next (s.after
      ((d.gatesOff b).bridgeUp b fun x => { x with wire := true }))) ∧
    (d.dmp.drtHeld.testBit b = false → exec (.bridgeOffRelease b dt) s = .next (s.after
      (d.bridgeUp b fun x => { x with wire := false }))))

/-- In an awake device: a period starts at the ANA clock that follows the last one's end: its settings, its duty,
not below its d_min, and its limit flag are those due, and what it reads follows. A commutation waited for happens
at its instant. A window that closes in RUN without a crossing counts a miss, loses the rotor at the third, else
commutates. A current above the limit of the state turns the high side off, in BRAKE all gates, from the next ANA
clock until the period ends, and shows ILIM. In RUN the speed loop runs 250 us after the last: ref moves towards the
setpoint by no more than ACC or DEC allow, the duty clamps to d_min and 1, the integral stands while clamped, a duty
below d_min shows, counts and is raised once, and a setpoint of 0 ends in IDLE below SPD_MIN. RETRY_CLR seconds in
RUN clear TRIES. (R326, R327, R331, R333, R334, R341) -/
def Obligations.DraughtRunningEventsComplete : Prop :=
  (∀ (c : Fin 2) (comps : Fin 8) (amp vmot : Word) (early : Option Nat) (s : State), s.dev.awake = true →
    let a := s.dev.advanceTo (s.dev.ch c).perEnd
    let d := a.wordsTo c a.time.now
    let w := d.word (F.DRT_PWM_PER.ix c).addr
    let d1 := (d.chUp c fun x => { x with pwm := w, gain := d.get (F.DRT_CFG_GAIN.ix c) }).putB (F.DRT_STAT_ILIM.ix c)
      (d.ch c).limAt.isSome
    let t := 5 * anaEdge d1.time.now
    let e := d1.chUp c fun x => { x with perAt := t, perEnd := t + 5 * wbits w 12 0, d := x.clampD x.dNext, limAt := none }
    exec (.drtPwmPeriodStart c comps amp vmot early) s = .next (s.after ((e.drtRefresh c).drtReads c comps amp vmot early))) ∧
  (∀ (c : Fin 2) (comps : Fin 8) (amp vmot : Word) (early : Option Nat) (t : Nat) (s : State), s.dev.awake = true →
    (s.dev.ch c).next = some t → exec (.commutation c comps amp vmot early) s = .next (s.after
      (((s.dev.advanceTo t).commutationDue c).drtReads c comps amp vmot early))) ∧
  (∀ (c : Fin 2) (comps : Fin 8) (amp vmot : Word) (early : Option Nat) (s : State), s.dev.awake = true → s.dev.drtState c = 5 →
    (s.dev.ch c).seen = false →
    let d := ((s.dev.advanceTo ((s.dev.ch c).window 0).2).bump F.DRT_MISS_CNT).chUp c fun x => { x with miss := x.miss + 1, zcAt := none }
    (3 ≤ (d.ch c).miss → exec (.zcWindowClose c comps amp vmot early) s = .next (s.after (d.rotorLoss c))) ∧
    ((d.ch c).miss < 3 → exec (.zcWindowClose c comps amp vmot early) s = .next (s.after
      ((d.drtCommutate c).drtReads c comps amp vmot early)))) ∧
  (∀ (c : Fin 2) (uv dt : Nat) (s : State), s.dev.awake = true →
    let d := s.dev.advance dt
    let st := d.drtState c
    2 ≤ st → st ≤ 5 → 20000 * d.drtCfg c (if st = 2 then F.DRT_LIM_BRK_ILIM else F.DRT_LIM_RUN_ILIM) < uv →
    (d.ch c).limAt = none →
    let e := d.wordsTo c d.time.now
    let f := (e.chUp c fun x => { x with limAt := some (5 * anaEdge e.time.now) }).put (F.DRT_STAT_ILIM.ix c) 1
    exec (.drtCurrentLimit c uv dt) s = .next (s.after f) ∧
      ∀ t, c.val < d.drt.length → 5 * anaEdge e.time.now ≤ t → (st = 2 → f.drtGates c t = 0) ∧
        (3 ≤ st → (f.drtGates c t).testBit (2 * (sectorLegs (d.get (F.DRT_STAT_SECTOR.ix c))).1) = false)) ∧
  (∀ (c : Fin 2) (s : State), s.dev.awake = true → s.dev.drtState c = 5 →
    let d := (s.dev.advanceTo ((s.dev.ch c).lastUpd + 125000)).drtTake c
    let x := d.ch c
    let sp := d.drtSp c
    let h := f64.ofRat 1 4000
    let ref := radd x.ref (f64.min (f64.max (rsub sp x.ref) (f64.neg (rmul (d.drtReal c F.DRT_DEC) h))) (rmul (d.drtReal c F.DRT_ACC) h))
    let e := rsub ref (f64.abs x.f)
    let i := if (f64.le x.dNext x.dMin && f64.lt e 0) || (f64.le r1 x.dNext && f64.lt 0 e) then x.i
      else radd x.i (rmul (rmul (d.drtReal c F.DRT_KI) e) h)
    let out := radd (rmul (d.drtReal c F.DRT_KP) e) i
    let f := (d.chUp c fun y => { y with ref := ref, i := i, dNext := y.clampD out, lastUpd := d.time.now }).putB
      (F.DRT_STAT_DMIN.ix c) (f64.lt out x.dMin)
    let g := if f64.lt out x.dMin then f.bump F.DRT_DMIN_CNT else f
    let k := if f64.lt out x.dMin && !d.flag (F.DRT_STAT_DMIN.ix c) then g.raise 0x0A0A [c] else g
    exec (.speedLoopUpdate c) s = .next (s.after
      (if k.drtState c = 5 ∧ f64.eq sp 0 = true ∧ f64.lt ref (k.drtReal c F.DRT_SPD_MIN) = true then k.drtIdle c else k))) ∧
  (∀ (c : Fin 2) (s : State), s.dev.awake = true → s.dev.drtState c = 5 →
    exec (.drtRetryClear c) s = .next (s.after ((s.dev.advanceTo ((s.dev.ch c).enterAt
      + 500000000 * s.dev.drtCfg c F.DRT_CLR_RETRY_CLR)).put (F.DRT_STAT_TRIES.ix c) 0)))

/-- In an awake device: OBSERVE ends after 30 ms with VMOT read and decides by what it has seen. A change of a
comparator in OBSERVE or COAST that ZC_FILT + 1 samples confirm and that is not of the phase's last side joins the
list with the instant of its first sample and VMOT is read: with no steady direction the speed is unknown, else it
is the speed of the list, and a COAST whose motor turns forward at CATCH_F or faster is caught. BRAKE ends after
BRK_T: as a try where this was the last of BRK_MAX, else in OBSERVE. ALIGN ends after ALIGN_T in RAMP. A RAMP of
RAMP_T, and a COAST of 20 ms, is a try. (R335, R336, R337, R340, R341) -/
def Obligations.DraughtStartingEventsComplete : Prop :=
  (∀ (c : Fin 2) (comps : Fin 8) (amp vmot : Word) (early : Option Nat) (s : State), s.dev.awake = true → s.dev.drtState c = 1 →
    exec (.observeEnd c comps amp vmot early) s = .next (s.after
      ((((s.dev.advanceTo ((s.dev.ch c).enterAt + 15000000)).put (F.DRT_VMOT.ix c) vmot.toNat).drtDecide c).drtReads c comps amp vmot early))) ∧
  (∀ (c : Fin 2) (ph : Fin 3) (rising : Bool) (stay : Nat) (comps : Fin 8) (amp vmot : Word) (early : Option Nat) (dt at_ t : Nat) (s : State),
    s.dev.awake = true →
    let b := s.dev.advance dt
    (b.drtState c = 1 ∨ b.drtState c = 6) → b.observeSamples c stay = some (at_, t) →
    (∀ o, (b.ch c).obs.find? (fun o => o.phase == ph.val) = some o → o.rising ≠ rising) →
    let d := b.advanceTo t
    let e := (d.chUp c fun x => { x with obs := ⟨ph, rising, at_⟩ :: x.obs }).put (F.DRT_VMOT.ix c) vmot.toNat
    (e.drtObserved c = none → exec (.observeCrossing c ph ⟨rising, stay⟩ comps amp vmot early dt) s = .next (s.after
      (e.chUp c fun x => { x with known := false, f := 0 }))) ∧
    (∀ fwd ints sec zc, e.drtObserved c = some (fwd, ints, sec, zc) →
      let f := e.chUp c fun x => { x with known := true, f := if fwd then speedOf ints else f64.neg (speedOf ints) }
      exec (.observeCrossing c ph ⟨rising, stay⟩ comps amp vmot early dt) s = .next (s.after
        (if d.drtState c = 6 ∧ fwd = true ∧ f64.le (f.drtReal c F.DRT_CATCH_F) (speedOf ints) = true
          then (f.drtCatch c ints sec zc).drtReads c comps amp vmot early else f)))) ∧
  (∀ (c : Fin 2) (s : State), s.dev.awake = true → s.dev.drtState c = 2 →
    let d := s.dev.advanceTo ((s.dev.ch c).enterAt + 5000000 * s.dev.drtCfg c F.DRT_LIM_BRK_T)
    let n := (d.ch c).brakes + 1
    exec (.brakeEnd c) s = .next (s.after (if d.drtCfg c F.DRT_START_CFG_BRK_MAX ≤ n then d.drtTry c 0x0A05
      else (d.drtEnter c 1).chUp c fun x => { x with brakes := n }))) ∧
  (∀ (c : Fin 2) (comps : Fin 8) (amp vmot : Word) (early : Option Nat) (s : State), s.dev.awake = true → s.dev.drtState c = 3 →
    exec (.alignEnd c comps amp vmot early) s = .next (s.after
      (((s.dev.advanceTo ((s.dev.ch c).enterAt + 5000000 * s.dev.drtCfg c F.DRT_START_CFG_ALIGN_T)).drtRamp c).drtReads c comps amp vmot early))) ∧
  (∀ (c : Fin 2) (s : State), s.dev.awake = true →
    (s.dev.drtState c = 4 → exec (.rampTimeout c) s = .next (s.after
      ((s.dev.advanceTo ((s.dev.ch c).enterAt + 50000000 * s.dev.drtCfg c F.DRT_START_CFG_RAMP_T)).drtTry c 0x0A05))) ∧
    (s.dev.drtState c = 6 → exec (.coastTimeout c) s = .next (s.after
      ((s.dev.advanceTo ((s.dev.ch c).enterAt + 10000000)).drtTry c 0x0A07))))

/-- In every state: presence of VDD_AON restarts the analog die's copy and, in power-on reset, senses SDM's bank.
Release of power-on reset samples the straps and the bank, sets cause POR, WARM_CNT 0, the good rails and row 1, and
a power failure that joined and is still there starts its sequence. In order after the row before: REF_OK sets its
flag and row 2; MDLL lock both lock flags, row 3 and the strobe's origin; the wipe's end row 4; BIST row 5, or a
stop with CPR_BIST_FAIL, or with HRT_TAMPER_HOLD at eight tamper resets; the store row 6 with its words in force or
CPR_CONFIG_INVALID; the modulation synthesizer row 7 with the modulator clocks running; MET row 10; Hearth row 11
with package and image of kindling. With rows 9, 11 and 12 complete and GSV READY kindling ends: CPR_KINDLE_T and
CPR_KINDLED. (R151, R258, R347, R348, R351, R355, R366, R367, R368, R207, R490, R511) -/
def Obligations.PowerOnAndKindlingComplete : Prop :=
  (∀ (bank18 : Bool) (dt : Nat) (s : State),
    let d := s.dev.advance dt
    let e := { d with dmp := { d.dmp with aonCopy := none, aonOrigin := d.time.now } }
    exec (.aonPowerPresent bank18 dt) s = .next (s.after (if e.cpr.por then e.cprUp fun c => { c with sdm18 := bank18 } else e))) ∧
  (∀ (refMode : Bool) (hostMode : Fin 4) (bank18 still : Bool) (dt : Nat) (s : State),
    let d := (s.dev.advance dt).cprUp fun c => { c with sdm18 := bank18 }
    s.dev.cpr.por = true →
    let e := ((((((d.putB F.CPR_STATUS_REF_MODE refMode).put F.FLU_ROLE_HOST_MODE
      hostMode).put F.CPR_RST_CAUSE_CAUSE 1).put F.CPR_WARM_CNT 0).putB F.SDM_STATUS_BANK (!bank18)).put F.CPR_RAIL_GOOD
        (if bank18 then 0x7F else 0x6F)).cprUp fun c =>
          { c with por := false, rows := setBit c.rows 1, start := d.time.now }
    exec (.porRelease ⟨refMode, bank18, still⟩ hostMode dt) s = .next (s.after (e.kindleAgain still))) ∧
  (∀ (dt : Nat) (s : State),
    let d := s.dev.advance dt
    let row := fun (e : Dev) (n : Nat) => e.cprUp fun c => { c with rows := setBit c.rows n }
    (d.kindling 1 = true → exec (.refOk dt) s = .next (s.after (row (d.put F.CPR_STATUS_REF_OK 1) 2))) ∧
    (d.kindling 2 = true → d.cpr.freeRun = false →
      let e := row ((d.put F.CPR_STATUS_CORE_LOCK 1).put F.CPR_STATUS_PWM_LOCK 1) 3
      exec (.mdllLock dt) s = .next (s.after { e with dmp := { e.dmp with slowOrigin := d.time.now } })) ∧
    (d.kindling 3 = true → exec (.sramWipeDone dt) s = .next (s.after (row d 4))) ∧
    (d.kindling 4 = true →
      (∀ b : Fin 16, exec (.bistDone (some b) dt) s = .next (s.after ((d.cprUp fun c => { c with stopped := true }).raise 0x0B06 [b]))) ∧
      ((row d 5).tamperWindow.length < 8 → exec (.bistDone none dt) s = .next (s.after (row d 5))) ∧
      (8 ≤ (row d 5).tamperWindow.length → exec (.bistDone none dt) s = .next (s.after
        (((row d 5).cprUp fun c => { c with stopped := true }).raise 0x1015)))) ∧
    (d.kindling 6 = true → 
      let e := (row (d.modLock true) 7).clkOutputs
      exec (.modSynthLock dt) s = .next (s.after { e with sdm := { e.sdm with
        ch := e.sdm.ch.mapIdx fun n c => { c with next := e.bitIndex n e.time.phase } } })) ∧
    (d.kindling 6 = true → d.cpr.rows.testBit 10 = false → exec (.metRestore dt) s = .next (s.after (row d.metRestore 10)))) ∧
  (∀ (ok svc : Bool) (dt : Nat) (s : State),
    let d := s.dev.advance dt
    let valid := ok && d.sec.store.valid && !cfgRefused d.sec.store.words
    d.kindling 5 = true → d.sec.store.pend = none →
    let e := if valid then d.sec.store.words.foldl (fun (e : Dev) (x : Nat × Word) => e.setWord x.1
        ((e.word x.1 &&& ~~~(BitVec.ofNat 32 (cfgMask x.1))) ||| (x.2 &&& BitVec.ofNat 32 (cfgMask x.1)))) d
      else (d.secUp fun y => { y with store :=
        { y.store with valid := false, words := [], img := none, pkg := none, owner := 0, floor := 0 } }).raise 0x0B07
    let f := (e.put F.HRT_OWNER_CTR e.sec.store.owner).put F.HRT_TIME_FLOOR e.sec.store.floor
    let g := if !(valid && svc) && (f.sec.lc = 2 || f.sec.lc = 3) then
        ((f.secUp fun y => { y with store := { y.store with service := true } }).put F.HRT_LC_STATE 3).raise 0x1017 else f
    exec (.configStoreLoaded ok svc dt) s = .next (s.after
      ((g.cfgInForce.ptpStart.pwmStart.profileBegin (g.get F.CPR_SSC_SSC)).cprUp fun c => { c with rows := setBit c.rows 6 }))) ∧
  (∀ (k : KindleChecks) (dt : Nat) (s : State),
    let d := s.dev.advance dt
    d.kindling 6 = true → d.cpr.rows.testBit 11 = false →
    let e := ((d.repairRegion 0 k.tornNormal).repairRegion 1 k.tornSticky).drawSeed k.health
    let ok := e.identityOk k.cert
    let f := e.putB F.HRT_LC_IDENT_OK ok
    let g := if ok || f.sec.otp.seed.isNone then f else f.raise 0x1011
    let h := if g.cpr.mesh then
      ({ g with net := { g.net with ctx := [] }, flu := { g.flu with keyCur := none, keyNext := none } }).raise 0x1016 else g
    ∀ (p i : Option Nat) (a b : Dev), h.kindleVerify 1 k.sigs = (p, a) →
      (match p with | some q => a.pkgForce q | none => a.pkgSettings []).kindleVerify 0 k.sigs = (i, b) →
      let z := match i with | some q => b.imageForce q false | none => b
      exec (.hearthKindleVerify k dt) s = .next (s.after
        (z.drawNonce.flueKindle.cprUp fun c => { c with rows := setBit c.rows 11 }))) ∧
  (∀ s : State,
    let d := s.dev.kindleRows
    d.kindling 9 = true → d.kindling 11 = true → d.kindling 12 = true → d.gsv = 1 → d.cpr.rows.testBit 13 = false →
    let t := min ((d.time.now - d.cpr.start) / 500) 0xFFFFFFFF
    let e := (d.cprUp fun c => { c with rows := setBit c.rows 13 }).put F.CPR_KINDLE_T t
    exec .cprKindled s = .next (s.after (e.raise 0x0B09 [t, e.get F.CPR_RST_CAUSE_CAUSE])))

/-- A failure of a rail that is monitored clears RAIL_GOOD, sets RAIL_UV and, with no reset and no failure in
progress, starts the power-fail sequence as PFI does: PFAIL, holds, no pending activation, the ember write, its
count and CPR_PFAIL with the rail's number, or 255 for PFI once it has been low for its filter's time. Overvoltage
sets RAIL_OV and raises CPR_RAIL_OV. VDD_AON's failure returns the device to power-on reset, MRAM and OTP kept. With
the ember sequence over, brownout reset follows 10 ms after failure and sequence, with BROWNOUT. RESET_N requests a
warm reset, its release ends the wait; where kindling restarts, a failure that joined and is still there starts its
sequence. Sixteen ticks without heartbeat request one; an expired host watchdog sets its flag and raises
CPR_HOST_WDT. The ember write's end lets a warm reset go on. (R205, R356, R357, R358, R359, R360, R362, R364, R365,
R509) -/
def Obligations.PowerAndResetEventsComplete : Prop :=
  (∀ (rail : Fin 7) (dt : Nat) (s : State), s.dev.awake = true → rail.val ≠ 6 → (rail.val = 4 → s.dev.cpr.sdm18 = true) →
    let d := (s.dev.advance dt).clrIn F.CPR_RAIL_GOOD rail
    let e := if rail.val = 5 then { d with dmp := { d.dmp with aonCopy := none } } else d
    let f := e.setIn F.CPR_RAIL_UV rail
    f.flag F.CPR_STATUS_PFAIL = false →
    let g := ({ f.put F.CPR_STATUS_PFAIL 1 with hrt := { f.hrt with act := none } }.holdUpdate.metEmber)
    exec (.railFailure rail dt) s = .next (s.after
      (((g.cprUp fun c => { c with failAt := g.time.now, emberAt := g.time.now, asked := none }).bump F.CPR_PFAIL_CNT).raise 0x0B05 [rail]))) ∧
  (∀ (low dt : Nat) (s : State), s.dev.awake = true →
    let filt := 125 * s.dev.get F.CPR_PFI_PFI_FILT
    (low < filt → exec (.pfiQualified ⟨low, dt⟩) s = .next (s.after (s.dev.advance dt))) ∧
    (filt ≤ low → s.dev.flag F.CPR_STATUS_PFAIL = false →
    let d := (s.dev.advance dt).advance filt
    let g := ({ d.put F.CPR_STATUS_PFAIL 1 with hrt := { d.hrt with act := none } }.holdUpdate.metEmber)
    exec (.pfiQualified ⟨low, dt⟩) s = .next (s.after
      (((g.cprUp fun c => { c with failAt := g.time.now, emberAt := g.time.now, asked := none }).bump F.CPR_PFAIL_CNT).raise 0x0B05 [255])))) ∧
  (∀ (rail : Fin 7) (dt : Nat) (s : State),
    let d := s.dev.advance dt
    d.cpr.por = false → (rail.val = 4 → d.cpr.sdm18 = true) →
    exec (.railOvervoltage rail dt) s = .next (s.after ((d.setIn F.CPR_RAIL_OV rail).raise 0x0B04 [rail]))) ∧
  (∀ (dt : Nat) (s : State),
    let d := s.dev.advance dt
    let e := s.after ({ d with dmp := { d.dmp with aonCopy := none } }).blank
    exec (.vddAonFail dt) s = .next e ∧ exec (.railFailure 6 dt) s = .next e) ∧
  (∀ s : State, s.dev.flag F.CPR_STATUS_PFAIL = true → s.dev.met.embering = none →
    let d := s.dev.advanceTo (max s.dev.cpr.failAt s.dev.cpr.emberAt + 5000000)
    exec .brownoutReset s = .next (s.after
      (((d.put F.CPR_RAIL_GOOD (if d.cpr.sdm18 then 0x7F else 0x6F)).raise 0x0B0B).warmReset 4))) ∧
  (∀ (dt : Nat) (s : State),
    let d := s.dev.advance dt
    exec (.resetNAssert dt) s = .next (s.after ((d.cprUp fun c => { c with resetN := true }).warmReset 1)) ∧
    ∀ still : Bool,
      let e := d.cprUp fun c => { c with resetN := false, waiting := false }
      exec (.resetNRelease ⟨still, dt⟩) s = .next (s.after (if d.cpr.waiting then e.kindleAgain still else e))) ∧
  (∀ s : State, 16 ≤ s.dev.cpr.beats → exec .hearthWatchdog s = .next (s.after (s.dev.warmReset 3))) ∧
  (∀ s : State, s.dev.awake = true → s.dev.cpr.hwdtOn = true →
    s.dev.get F.CPR_HWDT_TIMEOUT ≤ s.dev.cpr.hwdt →
    exec .cprHostWdt s = .next (s.after (((s.dev.cprUp fun c => { c with hwdtOn := false }).put F.CPR_STATUS_HWDT 1).raise 0x0B08))) ∧
  (∀ (still : Bool) (dt : Nat) (s : State),
    let d := (s.dev.advance dt).metEmberDone
    let e := d.cprUp fun c => { c with emberAt := d.time.now }
    exec (.emberWriteComplete ⟨still, dt⟩) s = .next (s.after
      (if e.cpr.warm && e.met.embering.isNone then e.warmWipe.kindleAgain still else e)))

/-- Outside power-on reset a request sets its cause's bit; while a warm reset is in progress or waits for RESET_N
that is all. Else the reset begins: no pending activation, every leg held, the ember record begun, and with none to
write the wipe at once. In power-on reset a request does nothing. (R360, R362) -/
def Obligations.WarmResetProceeds : Prop :=
  ∀ (d : Dev) (k : Nat),
    (d.cpr.por = true → d.warmReset k = d) ∧
    (d.cpr.por = false → (d.cpr.warm = true ∨ d.cpr.waiting = true) → d.warmReset k = d.setIn F.CPR_RST_CAUSE_CAUSE k) ∧
    (d.cpr.por = false → d.cpr.warm = false → d.cpr.waiting = false →
      let e := (d.setIn F.CPR_RST_CAUSE_CAUSE k).cprUp fun c => { c with warm := true, start := d.time.now, asked := none }
      let f := { e with hrt := { e.hrt with act := none } }.holdUpdate
      f.dmp.held = 0xFFF ∧
      (f.metEmber.met.embering.isSome = true → d.warmReset k = f.metEmber) ∧
      (f.metEmber.met.embering = none → d.warmReset k = f.metEmber.warmWipe))

/-- A bad window marks its domain and, the first of a run and not explained by free-run, sets CLK_FAIL and raises
CPR_CLK_FAIL; the sixteenth good one in a row ends the mark, and REF_OK follows REF's own. REF's loss goes to
free-run with CPR_REF_LOSS, both locks lost, its return relocks. An adopted spread begins. A good word ends a resend
of its direction, a bad one asks for it, the second loses the link, as silence does; the analog die's loss turns
bridges off; restored links end both. A tick advances to its millisecond and does what falls due. A tamper sensor
that resets sets its bit, counts and requests cause 6. A floor follows a version a week in force. A permitted JTAG
instruction is selected, else BYPASS, a blocked one raised once a tick. LC_COMMIT with seed, certificates and match
leaves VENDOR pending. (R32, R33, R350, R351, R353, R354, R474, R487, R508, R509, R510, R517) -/
def Obligations.ClockLinkTamperEventsComplete : Prop :=
  (∀ (dom : Fin 12) (dt : Nat) (s : State),
    let d := s.dev.advance dt
    d.cpr.por = false →
    (let e := if dom.val = 2 ∧ d.flag F.SDM_STATUS_MOD_LOCK = false ∧ d.cpr.rows.testBit 7 = true then d.modLock true else d
     let n := d.cpr.clkGood.getD dom 0 + 1
     let f := if dom.val = 11 ∧ 16 ≤ n ∧ d.cpr.freeRun = false ∧ d.cpr.rows.testBit 2 = true then e.put F.CPR_STATUS_REF_OK 1 else e
     exec (.clockMonitorWindow dom true dt) s = .next (s.after (f.cprUp fun c => { c with
      clkGood := c.clkGood.set dom (min n 16), clkBad := if 16 ≤ n then clrBit c.clkBad dom else c.clkBad }))) ∧
    (let e := d.cprUp fun c => { c with clkGood := c.clkGood.set dom 0, clkBad := setBit c.clkBad dom }
     let f := if dom.val = 2 ∧ e.flag F.SDM_STATUS_MOD_LOCK = true then e.modLock false else e
     d.cpr.clkBad.testBit dom = false → (f.cpr.freeRun = false ∨ dom.val = 6 ∨ dom.val = 10) →
     let g := if dom.val = 11 then f.put F.CPR_STATUS_REF_OK 0 else f
     exec (.clockMonitorWindow dom false dt) s = .next (s.after ((g.setIn F.CPR_CLK_FAIL_DOM dom).raise 0x0B02 [dom])))) ∧
  (∀ (dt : Nat) (s : State),
    let d := s.dev.advance dt
    (d.cpr.por = false → d.cpr.freeRun = false → exec (.cprRefLoss dt) s = .next (s.after
      ((((((d.put F.CPR_STATUS_REF_LOSS 1).put F.CPR_STATUS_REF_OK 0).put F.CPR_STATUS_CORE_LOCK 0).put F.CPR_STATUS_PWM_LOCK 0).cprUp
        fun c => { c with freeRun := true }).raise 0x0B03))) ∧
    (d.cpr.freeRun = true → exec (.refReturn dt) s = .next (s.after
      ((((d.put F.CPR_STATUS_REF_OK 1).putB F.CPR_STATUS_CORE_LOCK (d.cpr.rows.testBit 3)).putB F.CPR_STATUS_PWM_LOCK
        (d.cpr.rows.testBit 3)).cprUp fun c => { c with freeRun := false }))) ∧
    (s.dev.awake = true → ∀ n, d.cpr.sscNext = some n → exec (.cprSscChange dt) s = .next (s.after
      (((if d.fbx.running then d.landUpTo (d.frameClocks d.time.now) else d).profileBegin n).raise 0x0B0A [d.cpr.ssc, n]))) ∧
    (s.dev.awake = true →
      (∀ dir : Fin 2, exec (.d2dWordReceive ⟨dir, true⟩ dt) s = .next (s.after (d.cprUp fun c => { c with resend := clrBit c.resend dir }))) ∧
      (∀ dir : Fin 2, d.cpr.resend.testBit dir = false → exec (.d2dWordReceive ⟨dir, false⟩ dt) s = .next (s.after
        ((d.bump F.CPR_D2D_RETRY_CNT).cprUp fun c => { c with resend := setBit c.resend dir }))) ∧
      (d.cpr.d2dLost = false →
        let e := (d.cprUp fun c => { c with d2dLost := true, resend := 0 }).raise 0x0B01
        exec (.cprD2dLost dt) s = .next (s.after e) ∧
        (∀ dir : Fin 2, d.cpr.resend.testBit dir = true → exec (.d2dWordReceive ⟨dir, false⟩ dt) s = .next (s.after e)))) ∧
    exec (.analogLinkLoss dt) s = .next (s.after (({ d with gdr := { d.gdr with linkHold := true } }.gatesOff 0).gatesOff 1)) ∧
    exec (.d2dLinkRestored dt) s = .next (s.after
      { d with gdr := { d.gdr with linkHold := false }, cpr := { d.cpr with d2dLost := false, resend := 0 } })) ∧
  (∀ (temps : List Word) (heartbeat : Bool) (s : State), s.dev.awake = true →
    let d := s.dev.advanceTo (s.dev.time.tickAt + 500000)
    let e := { d with time := { d.time with tick := d.time.tick + 1, tickAt := d.time.now / 500000 * 500000 }, log := { d.log with tickCodes := [] } }
    let f := ((e.secUp fun y => { y with blocked := false }).hwdtTick).cprUp fun c => { c with beats := if heartbeat then 0 else c.beats + 1 }
    let g := ((f.sensorTick temps).mpptTick.metTick.forceTick.ppsTick.ptpTick)
    exec (.managementTick temps heartbeat) s = .next (s.after ((g.put F.HRT_TAMPER_CNT_CNT (min 15 g.tamperWindow.length)).floorTick.payBound))) ∧
  (∀ (dt : Nat) (s : State), s.dev.awake = true →
    let d := s.dev.advance dt
    let strike := fun (e : Dev) (bit : Nat) =>
      let a := (e.setIn F.HRT_TAMPER bit).raise 0x1003 [bit]
      let b := a.cprUp fun c => { c with tampers := a.tamperWindow ++ [a.time.tick] }
      (b.put F.HRT_TAMPER_CNT_CNT (min 15 b.cpr.tampers.length)).warmReset 6
    exec (.supplyGlitch dt) s = .next (s.after (strike d 0)) ∧ exec (.clockGlitch dt) s = .next (s.after (strike d 1)) ∧
    exec (.dieShieldCheck true dt) s = .next (s.after (d.cprUp fun c => { c with mesh := false })) ∧
    exec (.dieShieldCheck false dt) s = .next (s.after (strike (d.cprUp fun c => { c with mesh := true }) 3))) ∧
  (∀ (type : Fin 2) (k : Nat) (s : State), s.dev.awake = true → s.dev.inForce type = some k →
    let words := if type.val = 0 then s.dev.hrt.floorImg else s.dev.hrt.floorPkg
    let v := hVersion (s.dev.slot type k).data
    weekTicks ≤ (if type.val = 0 then s.dev.hrt.imgTicks else s.dev.hrt.pkgTicks) → s.dev.get (F.HRT_FLOOR.ix type) < v →
    words.length < 127 →
    exec (.hrtRollbackRaised type) s = .next (s.after (((s.dev.hrtUp fun h => if type.val = 0
      then { h with floorImg := v :: h.floorImg, fullImg := false } else { h with floorPkg := v :: h.floorPkg, fullPkg := false }).put
        (F.HRT_FLOOR.ix type) v).raise 0x100C [type, v]))) ∧
  (∀ (j : Jtag) (s : State),
    (jtagPermits s.dev.lc j = false → ∀ n, jtagPins j = some n → s.dev.sec.blocked = false →
      exec (.jtagInstruction j) s = .next (s.after ((s.dev.secUp fun y => { y with jtag := .bypass, blocked := true }).raise 0x1018 [n]))) ∧
    (jtagPermits s.dev.lc j = false → jtagPins j = none →
      exec (.jtagInstruction j) s = .next (s.after (s.dev.secUp fun y => { y with jtag := .bypass }))) ∧
    (jtagPermits s.dev.lc j = true → (j = .bypass ∨ j = .idcode ∨ j = .sample ∨ j = .highz ∨ (∃ w, j = .extest w) ∨ ∃ w, j = .clamp w) →
      exec (.jtagInstruction j) s = .next (s.after (s.dev.secUp fun y => { y with jtag := j }))) ∧
    (s.dev.lc = 0 →
      (∀ l, j = .certs l → exec (.jtagInstruction j) s = .next (s.after (s.dev.secUp fun y => { y with jtag := j, certs := l }))) ∧
      (∀ off bytes, j = .otp off bytes → exec (.jtagInstruction j) s = .next (s.after
        ((s.dev.secUp fun y => { y with jtag := j }).otpProgram off bytes))) ∧
      (∀ a v r ix, j = .register a v → rowAt a = some (r, ix) → exec (.jtagInstruction j) s = .next (s.after
        ((s.dev.secUp fun y => { y with jtag := j }).writeEntry false
          ⟨a, BitVec.ofNat 32 (r.rw ||| r.lc ||| r.w1c ||| r.act), v⟩).2.1)) ∧
      (∀ id off ws, j = .memory id off ws → memBad id off (4 * ws.length) = false → exec (.jtagInstruction j) s =
        .next (s.after ((s.dev.secUp fun y => { y with jtag := j }).memPut id (off / 4) ws))))) ∧
  (∀ (cert : Bool) (s : State), s.dev.lc = 0 → s.dev.identityOk cert = true →
    (∀ k, k = 1 ∨ k = 2 ∨ k = 3 → ∃ c ∈ s.dev.sec.certs, c.1 = k) →
    exec (.jtagLcCommit cert) s = .next (s.after
      ((s.dev.secUp fun y => { y with store := { y.store with pend := some 1 } }).warmReset 5)))

/-- In an awake device: a link of an enabled port comes up at the port's speed and goes down, its waiting frames
lost, with its event. A frame the MAC takes joins the duplicate list; a supervision frame notes its node among those
not forgotten; of the clock's domain a PTP path delay, an announcement where none was kept, a synchronization from
the master of the port followed, and a request for a path delay have their effect: an announcement decides the state
anew, a slave-only clock following the best port, a request is answered on its port. A GOOSE or SV frame of a
subscription that authenticates, is not simulated and matches its data set in sequence updates the stream, a change
recorded where asked. A layer-2 command to an enabled, free mailbox waits there. (R373, R376, R378, R380, R381,
R386, R387, R394) -/
def Obligations.NetworkReceptionCompletes : Prop :=
  (∀ (p : Fin 2) (giga : Bool) (dt : Nat) (s : State), s.dev.awake = true →
    let d := s.dev.advance dt
    (d.flag (F.NET_PORT_EN.ix p) = true → d.bitIn F.NET_STATUS_LINK p = false → d.flag (F.NET_PORT_SPEED.ix p) = !giga →
      exec (.ethLinkUp p giga dt) s = .next (s.after
      (((d.setIn F.NET_STATUS_LINK p).putIn F.NET_STATUS_SPD p giga).raise 0x0C02 [p, if giga then 1000 else 100]))) ∧
    (d.bitIn F.NET_STATUS_LINK p = true → exec (.ethLinkDown p dt) s = .next (s.after
      (((d.clrIn F.NET_STATUS_LINK p).netUp fun n => { n with tx := upd n.tx p fun _ => {} }).raise 0x0C01 [p])))) ∧
  (∀ (f : EthFrame) (node dt : Nat) (d : Dev) (s : State), s.dev.awake = true →
    (s.dev.advance dt).netQuiet.macReceive f = (d, true) →
    exec (.ethFrameReceive f dt) s = .next (s.after (d.dupAdd f)) ∧
    let e := d.dupAdd f
    let live := e.net.nodes.filter fun x => x.1 != node && decide (e.time.now < x.2 + 500000000 * e.get F.NET_RED_NODE_FORGET)
    exec (.supervisionFrameReceive f node dt) s = .next (s.after (e.netUp fun n =>
      { n with nodes := live.drop (live.length - 127) ++ [(node, e.time.now)] }))) ∧
  (∀ (f : EthFrame) (dt : Nat) (d : Dev) (s : State), s.dev.awake = true →
    (s.dev.advance dt).netQuiet.macReceive f = (d, true) → d.get F.NET_PTP_CFG_PROFILE ≠ 0 →
    let e := d.dupAdd f
    (∀ ns, exec (.ptpMessageReceive f (.pdelay ns) dt) s = .next (s.after (e.put (F.NET_PTP_PDELAY.ix f.port) ns))) ∧
    (∀ sender a, (d.get F.NET_PTP_CFG_PROFILE = 2 → a.tlv ≠ none) → e.net.ann.getD f.port none = none →
      let g := e.netUp fun n => { n with ann := n.ann.set f.port (some (e.time.now, sender, a)) }
      exec (.ptpMessageReceive f (.announce (e.get F.NET_PTP_CFG_DOMAIN) sender a) dt) s = .next (s.after g.ptpDecide) ∧
        ∀ p b, g.get F.NET_PTP_CFG_ROLE = 0 → g.bestPort = some (p, b) → g.ptpDecide = g.ptpFollow p b)) ∧
  (∀ (f : EthFrame) (t1 sender t dt : Nat) (corr : Int) (a : PtpAnnounce) (d : Dev) (s : State), s.dev.awake = true →
    (s.dev.advance dt).netQuiet.macReceive f (some corr) = (d, true) → d.get F.NET_PTP_CFG_PROFILE ≠ 0 →
    let e := d.dupAdd f
    e.get F.NET_STATUS_PTP_PORT = f.port → (e.get F.NET_STATUS_PTP_STATE = 2 ∨ e.get F.NET_STATUS_PTP_STATE = 3) →
    e.net.ann.getD f.port none = some (t, sender, a) →
    exec (.ptpMessageReceive f (.sync (e.get F.NET_PTP_CFG_DOMAIN) sender t1 corr) dt) s = .next (s.after
      (e.ptpOffset ((e.ptpNs : Int) - t1 - corr - e.get (F.NET_PTP_PDELAY.ix f.port))))) ∧
  (∀ (f : EthFrame) (dt : Nat) (d : Dev) (s : State), s.dev.awake = true →
    (s.dev.advance dt).netQuiet.macReceive f (some 0) = (d, true) → d.get F.NET_PTP_CFG_PROFILE ≠ 0 →
    let e := d.dupAdd f
    exec (.ptpMessageReceive f (.pdelayReq (e.get F.NET_PTP_CFG_DOMAIN)) dt) s = .next (s.after
      (e.netOwn 3 (some f.port) none none (.ptp (.pdelayResp (e.get F.NET_PTP_CFG_DOMAIN)))))) ∧
  (∀ (g : Goose) (dt i : Nat) (d : Dev) (s : State), s.dev.awake = true → g.sim = false →
    (s.dev.advance dt).netQuiet.macReceive g.eth = (d, true) → d.ctxMatch 1 g.eth g.appid g.gocbRef = some i →
    d.authReason i g.auth = 0 →
    let e := d.dupAdd g.eth
    e.datasetReason i g.datSet g.confRev g.nds g.mems = 0 → e.gooseSequence i g = 1 →
    let new := !e.flag (F.NET_CTX_STAT_SEEN.ix i) || e.get (F.NET_CTX_STAT_STNUM.ix i) != g.stNum
    let h := (((e.put (F.NET_CTX_STAT_STNUM.ix i) g.stNum).put (F.NET_CTX_STAT_SQNUM.ix i) g.sqNum).nctxUp i fun c =>
      { c with t := g.t }).streamAccept i g.mems g.ttl
    exec (.gooseFrameReceive g dt) s = .next (s.after
      (if new && h.flag (F.NET_CTX_REPORT.ix i) then h.subRecord i 0x5C01 g.stNum g.sqNum g.raw else h))) ∧
  (∀ (v : Sv) (dt i : Nat) (d : Dev) (s : State), s.dev.awake = true → v.sim = false →
    (s.dev.advance dt).netQuiet.macReceive v.eth = (d, true) → d.ctxMatch 3 v.eth v.appid v.svID = some i →
    d.authReason i v.auth = 0 →
    let e := d.dupAdd v.eth
    (∀ a ∈ v.asdus, e.datasetReason i v.datSet a.confRev false a.mems = 0) →
    exec (.svFrameReceive v dt) s = .next (s.after (v.asdus.foldl (fun x a => x.svAsdu i a) e))) ∧
  (∀ (f : EthFrame) (dt : Nat) (d : Dev) (s : State), s.dev.awake = true →
    (s.dev.advance dt).netQuiet.macReceive f = (d, true) →
    let e := d.dupAdd f
    let mbx := leAt f.payload 0 1
    let frame := f.payload.drop 4
    e.flag F.NET_CFG_L2CMD_EN = true → f.etype = 0x88B5 → f.dst = e.netMac → f.vid = e.get F.NET_CMD_VID_VID →
    4 ≤ f.payload.length → mbx ≤ 3 → leAt f.payload 1 1 = 0 → leAt f.payload 2 2 = frame.length → 16 ≤ frame.length →
    frame.length ≤ 1496 → (e.net.l2.getD mbx []).length < 4 →
    exec (.l2CommandFrame f dt) s = .next (s.after (e.netUp fun n =>
      { n with l2 := upd n.l2 mbx fun l => l ++ [⟨f.src, f.port, frame⟩] })))

/-- In an awake device: in PRP or HSR a supervision frame goes out when due and the next is due LIFE_CHECK later. A
port silent for three intervals while the other is not loses its path once. A stream whose time to live ends is
invalid, takes its failsafe values where acted on, counts and raises NET_TAL. A publisher whose members changed
sends at once with the next STNUM and SQNUM 0; a retransmission due sends with the next SQNUM, and the one after it
is due twice as late after the change, up to T0, and T0 later after that (log entry 127). An SV sample due joins its
frame, which goes out when full. A next key becomes current at its start; a key past its end is raised. With no
announcement for three intervals, or three seconds of listening, the port is left, the best master that the other
still hears decides the state anew, and with none PTP time is lost and a master-capable clock becomes master. A PPS
edge in a slave counts towards lock. A PPS pulse starts at each second with PPS_OUT_EN. (R378, R380, R381, R382,
R383, R387, R390, R391, R393, R505) -/
def Obligations.NetworkTimersComplete : Prop :=
  (∀ (s : State), s.dev.awake = true → s.dev.get F.NET_CFG_MODE ≠ 0 →
    let d := ((s.dev.advanceTo s.dev.net.superAt).netQuiet).netOwn 0 none none none .supervision
    exec .supervisionSend s = .next (s.after (d.netUp fun n =>
      { n with superAt := d.time.now + 500000000 * d.get F.NET_RED_LIFE_CHECK }))) ∧
  (∀ (p : Fin 2) (t u : Nat) (s : State), s.dev.awake = true →
    let w := 1500000000 * s.dev.get F.NET_RED_LIFE_CHECK
    let d := s.dev.advanceTo (t + w)
    s.dev.net.lastRx.getD p none = some t → d.net.lastRx.getD (1 - p) none = some u → t + w ≤ d.time.now → d.time.now < u + w →
    d.net.lostPath.testBit p = false →
    exec (.netPathLost p) s = .next (s.after
      (((d.netUp fun n => { n with lostPath := setBit n.lostPath p }).clrIn F.NET_STATUS_PATH_OK p).raise 0x0C03 [p]))) ∧
  (∀ (i : Fin 256) (t : Nat) (s : State), s.dev.awake = true → (s.dev.nctx i).expire = some t →
    let d := ((((s.dev.advanceTo t).nctxUp i fun c => { c with expire := none }).put (F.NET_CTX_STAT_VALID.ix i) 0).put
      (F.NET_CTX_STAT_LAST_ERR.ix i) 8).bump F.NET_TAL_CNT
    let fs := (List.range (d.get (F.NET_CTX_NMEM.ix i))).foldl (fun acc m =>
      if memUse (d.ctxMem i m) = 1 ∨ memUse (d.ctxMem i m) = 2 then putBit acc m (memFs (d.ctxMem i m)) else acc)
      (d.get (F.NET_CTX_STAT_VALUES.ix i))
    exec (.streamExpiry i) s = .next (s.after
      ((if d.flag (F.NET_CTX_ACT.ix i) then d.put (F.NET_CTX_STAT_VALUES.ix i) fs else d).linesUpdate.raise 0x0C0A [i]))) ∧
  (∀ (i : Fin 256) (s : State), s.dev.awake = true →
    let d := s.dev.netQuiet
    d.flag (F.NET_CTX_EN.ix i) = true →
    (d.get (F.NET_CTX_KIND.ix i) = 0 →
      let vals := d.memberVals i
      (d.nctx i).vals ≠ some vals →
      let n := d.get (F.NET_CTX_STAT_STNUM.ix i)
      let e := (d.put (F.NET_CTX_STAT_STNUM.ix i) (if n + 1 < 2 ^ 32 then n + 1 else 1)).put (F.NET_CTX_STAT_SQNUM.ix i) 0
      let f := e.nctxUp i fun c => { c with vals := some vals, t := e.ptpNs, offset := e.get (F.NET_CTX_T1.ix i) }
      exec (.gooseMemberChange i) s = .next (s.after (f.gooseSend i (f.get (F.NET_CTX_T1.ix i))))) ∧
    (d.get (F.NET_CTX_KIND.ix i) = 2 → ∀ m chans,
      d.svDue i = some (m, chans) →
      let e := (d.nctxUp i fun c => { c with sample := some m, asdus := c.asdus ++ [(m % d.svRate i, chans)] }).put
        (F.NET_CTX_STAT_SQNUM.ix i) (m % d.svRate i)
      let f := e.nctxUp i fun c => { c with asdus := [] }
      exec (.svSampleInstant i) s = .next (s.after
        (if (e.nctx i).asdus.length < (if d.svRate i = 4800 then 2 else 6) then e
         else if f.mayPublish i then f.publish i 2 (.sv i (if f.ptpOk then 2 else 0) (e.nctx i).asdus) else f)))) ∧
  (∀ (i : Fin 256) (t : Nat) (s : State), s.dev.awake = true → (s.dev.nctx i).sendAt = some t →
    let d := (s.dev.advanceTo t).netQuiet
    let q := d.get (F.NET_CTX_STAT_SQNUM.ix i)
    let e := d.put (F.NET_CTX_STAT_SQNUM.ix i) (if q + 1 < 2 ^ 32 then q + 1 else 1)
    exec (.gooseRetransmit i) s = .next (s.after
      ((e.nctxUp i fun c => { c with offset := nextOffset (e.nctx i).offset (e.get (F.NET_CTX_T0.ix i)) }).gooseSend i
        (nextOffset (e.nctx i).offset (e.get (F.NET_CTX_T0.ix i)) - (e.nctx i).offset)))) ∧
  (∀ (k : NetKey) (s : State), s.dev.awake = true →
    (∀ i : Fin 256, (s.dev.nctx i).next = some k → exec (.netKeyChange (some i)) s = .next (s.after
      ((((s.dev.toPtp (k.start * 1000000000)).nctxUp i fun c => { c with cur := some k, next := none, old := c.cur }).keyRegs i).raise
        0x0C0D [k.id]))) ∧
    (s.dev.flu.keyNext = some k → exec (.netKeyChange none) s = .next (s.after
      (((s.dev.toPtp (k.start * 1000000000)).fluUp fun f => { f with keyCur := some k, keyNext := none }).raise 0x0C0D [k.id]))) ∧
    (∀ i : Fin 256, (s.dev.nctx i).cur = some k → ((s.dev.toPtp (k.stop * 1000000000)).keyRegs i).keyLive (some k) = false →
      exec (.netKeyExpired (some i)) s = .next (s.after (((s.dev.toPtp (k.stop * 1000000000)).keyRegs i).raise 0x0C0E [k.id]))) ∧
    (s.dev.flu.keyCur = some k → (s.dev.toPtp (k.stop * 1000000000)).keyLive (some k) = false →
      exec (.netKeyExpired none) s = .next (s.after ((s.dev.toPtp (k.stop * 1000000000)).raise 0x0C0E [k.id])))) ∧
  (∀ (s : State), s.dev.awake = true → s.dev.get F.NET_PTP_CFG_PROFILE ≠ 0 → s.dev.get F.NET_STATUS_PTP_STATE ≠ 0 →
    s.dev.get F.NET_STATUS_PTP_STATE ≠ 4 →
    let p := s.dev.get F.NET_STATUS_PTP_PORT
    let d := (s.dev.advanceTo s.dev.announceDue).bump F.NET_PTP_TO_CNT
    let e := if p ≤ 1 then d.netUp fun n => { n with ann := n.ann.set p none } else d
    (e.bestPort.isSome = true → exec .ptpAnnounceTimeout s = .next (s.after e.ptpDecide)) ∧
    (e.bestPort = none →
      let f := (((e.put F.NET_STATUS_PTP_PORT 3).put F.NET_STATUS_PTP_STATE 1).netUp fun n =>
        { n with good := 0, listenAt := e.time.now }).ptpValid false
      exec .ptpAnnounceTimeout s = .next (s.after (if f.get F.NET_PTP_CFG_ROLE = 1 then f.ptpBecomeMaster else f)))) ∧
  (∀ (dt : Nat) (s : State), s.dev.awake = true →
    let d := s.dev.advance dt
    d.flag F.NET_PTP_CFG_PPS_IN_EN = true →
    let near := d.net.pps.any fun t => decide (500000000 ≤ d.time.now - t + 5000 ∧ d.time.now - t ≤ 500000000 + 5000)
    let n := if near then min 4 (d.net.ppsN + 1) else 1
    let e := (d.netUp fun x => { x with pps := some d.time.now, ppsN := n }).putB F.NET_STATUS_PPS_LOCK (decide (n = 4))
    e.ptpMaster = false →
    exec (.ppsInEdge dt) s = .next (s.after e)) ∧
  (∀ (s : State), s.dev.awake = true → s.dev.flag F.NET_PTP_CFG_PPS_OUT_EN = true →
    let d := s.dev.toPtp ((s.dev.ptpSec + 1) * 1000000000)
    exec .ppsOutSecond s = .next (s.after (d.netUp fun n =>
      { n with ppsOut := some (d.time.now + 500000 * d.get F.NET_PPS_WIDTH) })))

/-- In an awake device: a link comes up in a capable device, and goes down and loses what waits for it, with its
event. On a link that is up, a frame that fails CRC, tag or duplicate check is forwarded marked bad and counted as
its check says; one that passes is forwarded, and one not addressed to the device has no other effect. Addressed
here, its SEQ is taken, and a frame of no kind below does no more: a crown frame of an epoch not below the member's
own sets epoch, index, crown, live mask and standing of the member, waits for its boundary, and its commands act;
one of an epoch below is counted stale; a crown yields to a higher epoch, and at an equal one to a crown earlier in
the unit table. A member frame in time is noted, a stale one counted and noted without headroom and verdict. A
command waits in the inbox unless it is stale, a response answers its relay. A neighbour's time frame keeps time,
and sets the base on the time link of a device that is no crown. A join a crown admits gives position, offset and
live bit with FLU_JOINED, one it refuses FLU_JOIN_REFUSED. A shadow frame gives a standby the session, the response
or the group state. (R397, R400, R402, R403, R404, R405, R407, R410, R412, R417, R418, R466) -/
def Obligations.FlueFramesComplete : Prop :=
  (∀ (l : Fin 2) (dt : Nat) (s : State), s.dev.awake = true →
    let d := s.dev.advance dt
    (d.fluCapable = true → d.flag (linkFld l) = false → exec (.flueLinkUp l dt) s = .next (s.after ((d.put (linkFld l) 1).raise 0x0D02 [l]))) ∧
    (d.flag (linkFld l) = true → exec (.flueLinkDown l dt) s = .next (s.after
      (((d.put (linkFld l) 0).fluUp fun x => { x with ports := upd x.ports l fun _ => {} }).raise 0x0D01 [l])))) ∧
  (∀ (h : FlueHdr) (dt : Nat) (s : State), s.dev.awake = true →
    let a := (s.dev.advance dt).flueQuiet
    a.flag (linkFld h.link) = true →
    (∀ (c : CrownFrame) (m : MemberFrame) (y : BulkBody) (ns ps : Nat) (devId : List Byte) (strap sps cpc : Nat) (x : ShadowBody),
      ∀ p ∈ [(Instr.flueFrameReceive h dt, FlueFrame.other), (.crownFrameReceive h c dt, .crown c), (.memberFrameReceive h m dt, .member m),
        (.bulkFrameReceive h y dt, .bulk y), (.timeFrameReceive h ns ps dt, .time),
        (.joinFrameReceive h devId strap sps cpc dt, .join none devId), (.shadowFrameReceive h x dt, .shadow x)],
        (a.flueBad h = true → exec p.1 s = .next (s.after ((a.flueForward h p.2 true).flueDiscard h))) ∧
        (a.flueBad h = false → (a.flueForward h p.2 false).flueMine h = false →
          exec p.1 s = .next (s.after (a.flueForward h p.2 false)))) ∧
    (a.flueBad h = false →
      ((a.flueForward h .other false).flueMine h = true →
        exec (.flueFrameReceive h dt) s = .next (s.after ((a.flueForward h .other false).flueSeen h))) ∧
      (∀ f : CrownFrame,
        let b := a.flueForward h (.crown f) false
        let d := b.flueSeen h
        let place := fun p => d.ringDevs.findIdx fun e => e.pos == p
        b.flueMine h = true →
          (d.fluRole = 1 ∨ d.fluRole = 3 → d.get F.FLU_EPOCH ≤ h.epoch →
            let e := ((((d.put F.FLU_EPOCH h.epoch).put F.FLU_GFI h.gfi).put F.FLU_ROLE_CROWN_POS h.src).setLive f.liveMask).fluUp fun x =>
              { x with pend := some (h.gfi, h.epoch, f), fresh := true, missing := 0, bounds := 0, orphan := false }
            let g := { e with sup := { e.sup with rxBias := f.beta } }
            let k := if f.snapN ≠ 0 ∧ g.angSrc = 2 then g.setSnap (some (.announced f.snapN)) else g
            exec (.crownFrameReceive h f dt) s = .next (s.after (f.cmds.foldl (fun x c => (x.crownRecord c).txRecord c) k))) ∧
          (d.fluRole = 1 ∨ d.fluRole = 3 → h.epoch < d.get F.FLU_EPOCH →
            exec (.crownFrameReceive h f dt) s = .next (s.after ((d.bump F.FLU_STALE_CNT).raise 0x0D0C))) ∧
          (d.fluRole = 2 → d.get F.FLU_EPOCH < h.epoch ∨ (d.get F.FLU_EPOCH = h.epoch ∧ place h.src < place d.fluPos) →
            exec (.crownFrameReceive h f dt) s = .next (s.after (d.crownYields h)))) ∧
      (∀ f : MemberFrame,
        let b := a.flueForward h (.member f) false
        let d := b.flueSeen h
        b.flueMine h = true → d.fluRole = 2 ∨ d.fluRole = 3 →
        (d.get F.FLU_EPOCH ≤ h.epoch → exec (.memberFrameReceive h f dt) s = .next (s.after (d.memberNote h.src h.gfi f))) ∧
        (h.epoch < d.get F.FLU_EPOCH →
          let e := (d.bump F.FLU_STALE_CNT).raise 0x0D0C
          exec (.memberFrameReceive h f dt) s = .next (s.after (e.memberNote h.src h.gfi
            { f with head := ((e.flu.mem.getD h.src {}).frame.map MemberFrame.head).getD 0, verdict := 0 })))) ∧
      (∀ op uid role sid seq p,
        let f : BulkBody := .command op uid role sid seq p
        let b := a.flueForward h (.bulk f) false
        let d := b.flueSeen h
        b.flueMine h = true →
        (d.get F.FLU_EPOCH ≤ h.epoch →
          exec (.bulkFrameReceive h f dt) s = .next (s.after (d.fluUp fun x => { x with inbox := x.inbox ++ [(h.src, f)] }))) ∧
        (h.epoch < d.get F.FLU_EPOCH → exec (.bulkFrameReceive h f dt) s = .next (s.after ((d.bump F.FLU_STALE_CNT).raise 0x0D0C)))) ∧
      (∀ sid seq st p,
        let f : BulkBody := .response sid seq st p
        let b := a.flueForward h (.bulk f) false
        let d := b.flueSeen h
        b.flueMine h = true →
        (∀ e r, d.relayAnswer h.src sid seq st p = (e, some r) → exec (.bulkFrameReceive h f dt) s = .next (s.after (e.relayDone r))) ∧
        (∀ e, d.relayAnswer h.src sid seq st p = (e, none) → exec (.bulkFrameReceive h f dt) s = .next (s.after e))) ∧
      (∀ ns ps,
        let b := a.flueForward h .time false
        let d := b.flueSeen h
        let e := ((d.put (F.FLU_LINK_DLY.ix h.link) ps).fluUp fun x => { x with lastTime := some d.time.now }).put F.FLU_STATUS_TIME_OK 1
        b.flueMine h = true → h.hops = 63 →
        exec (.timeFrameReceive h ns ps dt) s = .next (s.after (if e.fluRole = 2 ∨ h.link ≠ e.timeLink then e
          else e.fluUp fun x => { x with base := (ns : Int) - 2 * e.time.now }))) ∧
      (∀ devId strap sps cpc,
        let b := a.flueForward h (.join none devId) false
        let d := b.flueSeen h
        b.flueMine h = true → d.fluRole = 2 →
        (∀ e, d.joinReason h devId strap sps cpc = (0, some e) →
          let g := ((d.fluUp fun x => { x with cmds := x.cmds ++ [.admission devId e.pos e.uid (d.offsetOf e)] }).joinStandby strap e.pos).fluUp
            fun x => { x with mem := x.mem.set e.pos {} }
          exec (.joinFrameReceive h devId strap sps cpc dt) s = .next (s.after
            (if g.liveMask.testBit e.pos then g else (g.setLive (setBit g.liveMask e.pos)).raise 0x0D05 [e.pos]))) ∧
        (∀ r x, r ≠ 0 → d.joinReason h devId strap sps cpc = (r, x) → exec (.joinFrameReceive h devId strap sps cpc dt) s = .next (s.after
          (d.raise 0x0D0E [leAt devId 0 4, r])))) ∧
      (∀ f : ShadowBody,
        let b := a.flueForward h (.shadow f) false
        let d := b.flueSeen h
        b.flueMine h = true → d.fluRole = 3 →
        exec (.shadowFrameReceive h f dt) s = .next (s.after
          (match f with
            | .session sid role serial notAfter key since => d.shadowed
                { sid := sid, role := role, serial := serial, notAfter := notAfter, key := key, since := since }
            | .response sid seq st payload => d.replyKept sid seq st payload
            | .group sp sh => d.shadowShares sp sh)))))

/-- In an awake device: a capable device sends its time frame when due and again a millisecond later. Ten
milliseconds without a time frame clear TIME_OK with FLU_TIME_LOST. A device not admitted with a link up sends its
join when due and again a millisecond later. The oldest relay that is not answered in 100 ms ends with TIMEOUT. A
group boundary moves time to it and does what falls due there; a transaction decided at it comes to pass, or not,
and its response is bound to the crown frame. At the deadline, 5 us before the boundary, a crown frame missing at an
admitted member or standby counts, and orphans it with FLU_ORPHAN at ORPHAN_GF; at a crown each other live position
without its frame counts, and leaves with FLU_MEMBER_LOST at its second in a row. (R402, R403, R404, R407, R413,
R414, R416, R418, R466) -/
def Obligations.FlueTimersComplete : Prop :=
  (∀ (s : State), s.dev.awake = true →
    (s.dev.fluCapable = true →
      let d := ((s.dev.advanceTo s.dev.flu.exchange).flueQuiet)
      exec .flueTimeExchange s = .next (s.after ((d.flueSend 0xFF .time).fluUp fun x => { x with exchange := d.time.now + 500000 }))) ∧
    (∀ t, s.dev.flu.lastTime = some t → exec .fluTimeLost s = .next (s.after
      ((((s.dev.advanceTo (t + 5000000)).fluUp fun x => { x with lastTime := none }).put F.FLU_STATUS_TIME_OK 0).raise 0x0D0D))) ∧
    (∀ t, s.dev.flu.joining = some t →
      let d := (s.dev.advanceTo t).flueQuiet
      d.fluAdmitted = false → (d.flag F.FLU_STATUS_LINK_E = true ∨ d.flag F.FLU_STATUS_LINK_W = true) →
      let e := d.flueSend 0xFF (.join d.flu.nonce d.devId)
      exec .joinFrameSend s = .next (s.after (e.fluUp fun x => { x with joining := some (d.time.now + 500000) }))) ∧
    (∀ r rest, s.dev.flu.relays = r :: rest → r.fail = none →
      let d := ((s.dev.advanceTo (r.sentAt + 50000000)).flueQuiet).fluUp fun x => { x with relays := rest }
      exec .relayTimeout s = .next (s.after (d.answer r.ask St.timeout
        ((d.unitAt ((bitList 64 r.waiting).headD 0)).elim 0 UnitEntry.uid) [])))) ∧
  (∀ (d : Dev) (s : State), s.dev.kindling 6 = true →
    (s.dev.flueBoundary = (d, none) → exec .groupFrameBoundary s = .next (s.after d)) ∧
    (∀ t st pos, s.dev.flueBoundary = (d, some (t, st, pos)) →
      (st ≠ 0 → exec .groupFrameBoundary s = .next (s.after (d.fluUp fun f =>
        { f with bound := f.bound ++ [⟨t.ask, st, (d.unitAt pos).elim 0 UnitEntry.uid, []⟩] }))) ∧
      (∀ r p e, st = 0 → d.goOn t.act (t.angle.getD 0) = (r, p, e) → exec .groupFrameBoundary s = .next (s.after (e.fluUp fun f =>
        { f with bound := f.bound ++ [⟨t.ask, r, e.selfUid, p⟩] }))))) ∧
  (∀ (s : State), s.dev.kindling 6 = true →
    let target := s.dev.flu.nextG * (2 ^ 48 / s.dev.G)
    let left := if target ≤ s.dev.time.phase then 0 else ceilDiv (target - s.dev.time.phase) (max 1 (s.dev.get F.ANG_INC))
    let d := (s.dev.advance (left - 2500)).flueQuiet
    (d.fluRole = 1 ∨ d.fluRole = 3 → d.fluAdmitted = true → d.flu.fresh = false →
      let e := d.fluUp fun x => { x with missing := x.missing + 1 }
      exec .memberFrameDeadline s = .next (s.after (if e.flu.missing = e.get F.FLU_CFG_ORPHAN_GF
        then (e.fluUp fun x => { x with orphan := true }).raise 0x0D09 else e))) ∧
    (d.fluRole = 2 → exec .memberFrameDeadline s = .next (s.after
      ((d.livePos.filter fun p => p != d.fluPos).foldl (fun d p =>
        let m := d.flu.mem.getD p {}
        if m.frame.isSome = true ∧ m.at_ = d.get F.FLU_GFI then d else
        let e := (d.bump F.FLU_MISS_CNT).fluUp fun x => { x with mem := upd x.mem p fun m => { m with miss := m.miss + 1 } }
        if m.miss = 1 then (e.fluUp fun x => { x with mem := upd x.mem p fun m => { m with leaving := 2, leaveAt := 0 } }).raise 0x0D04 [p] else e) d))))

/-- In an awake device, of an enabled controller not in BUS_OFF: a good frame brings it onto the bus and REC down,
then goes to the first matching buffer, else to the FIFO of the first matching filter, else counts as NOMATCH. The
start of a transmission offers the reference due, else the pending buffer of lowest identifier, now TRANSMITTING.
Its good end brings TEC down and the buffer to SENT, its failure counts an attempt. Errors count by rule and may
change the error state. Recovery ends in ERROR_ACTIVE with both counters 0 and CAN_BUS_ON. Adopted configuration
applies once no frame holds it back; a change of timing has the controller integrate afresh. A cycle of a time
master due counts and owes its reference; three periods without one lose SYNC. (R423, R424, R425, R427, R428, R429,
R431, R432, R433, R434, R436) -/
def Obligations.CanEventsComplete : Prop :=
  (∀ (c : Fin 2) (f : CanFrame) (len dt : Nat) (s : State), s.dev.awake = true →
    let a := s.dev.advance dt
    let d := if (a.canOf c).timing.any (fun t => decide (t + len < a.time.now)) then a.canTiming c else a
    d.canEn c = true → d.get (F.CAN_STATUS_STATE.ix c) ≠ 3 →
    (f.fdf = true → (d.canJoin c).canOn c (F.CAN_CFG_FD_EN.ix c) = false → exec (.canFrameReceive c f len dt) s = .next (s.after
      (((((d.canJoin c).bump (F.CAN_ERRFRM_CNT.ix c)).put (F.CAN_STATUS_LEC.ix c) 2).bump (F.CAN_STATUS_REC.ix c)).canErrState c))) ∧
    ((f.fdf = true → (d.canJoin c).canOn c (F.CAN_CFG_FD_EN.ix c) = true) →
    let e := ((d.canJoin c).canRecDown c).canErrState c
    let g := if c.val = 0 ∧ e.isRef f = true then e.refAccept f len else e
    (∀ m, (List.range 64).find? (g.canMatch c f) = some m →
      exec (.canFrameReceive c f len dt) s = .next (s.after (g.canStore c m f (e.ptpBefore len)))) ∧
    (∀ k, (List.range 64).find? (g.canMatch c f) = none → (List.range 16).find? (g.canFilter c f) = some k →
      exec (.canFrameReceive c f len dt) s = .next (s.after (g.canFifo c (g.canCfg c (mbF F.CAN_FLT_FIFO c k)) f (e.ptpBefore len)))) ∧
    ((List.range 64).find? (g.canMatch c f) = none → (List.range 16).find? (g.canFilter c f) = none →
      exec (.canFrameReceive c f len dt) s = .next (s.after (g.bump (F.CAN_NOMATCH_CNT.ix c)))))) ∧
  (∀ (c : Fin 2) (dt : Nat) (s : State), s.dev.awake = true →
    let d := (s.dev.advance dt).canTiming c
    d.canEn c = true → d.get (F.CAN_STATUS_STATE.ix c) ≠ 3 → (d.canOf c).tx = none →
    let e := d.canJoin c
    (c.val = 0 → (e.canOf 0).ref = true → exec (.canTxStart c dt) s = .next (s.after
      (e.canUp 0 fun x => { x with tx := some 64, offered := some e.refFrame }))) ∧
    (∀ m, (c.val = 1 ∨ (e.canOf 0).ref = false) → e.canOffer c = some m → exec (.canTxStart c dt) s = .next (s.after
      ((e.put (mbF F.CAN_MB_STATE c m) 2).canUp c fun x => { x with tx := some m, offered := some (e.canFrame c m) })))) ∧
  (∀ (c : Fin 2) (ok : Bool) (m dt : Nat) (s : State), s.dev.awake = true →
    let d := s.dev.advance dt
    (d.canOf c).tx = some m → m < 64 →
    let e := (d.canUp c fun x => { x with tx := none, tec := if ok then x.tec - 1 else x.tec }).canErrState c
    exec (.canTxEnd c ok dt) s = .next (s.after
      (if ok then (e.put (mbF F.CAN_MB_STATE c m) 3).canHeld c m else e.canFail c m))) ∧
  (∀ (c : Fin 2) (lec : Fin 6) (eight : Bool) (dt : Nat) (s : State), s.dev.awake = true →
    let d := s.dev.advance dt
    d.canEn c = true → d.get (F.CAN_STATUS_STATE.ix c) ≠ 3 →
    let e := ((d.canJoin c).bump (F.CAN_ERRFRM_CNT.ix c)).put (F.CAN_STATUS_LEC.ix c) (lec + 1)
    exec (.canBusError c lec false eight dt) s = .next (s.after
      ((e.bump (F.CAN_STATUS_REC.ix c) (if eight then 8 else 1)).canErrState c)) ∧
    (lec.val ≠ 2 ∨ e.get (F.CAN_STATUS_STATE.ix c) ≠ 2 → exec (.canBusError c lec true eight dt) s = .next (s.after
      ((e.canUp c fun x => { x with tec := x.tec + 8 }).canErrState c)))) ∧
  (∀ (c : Fin 2) (dt : Nat) (s : State), s.dev.awake = true →
    let d := s.dev.advance dt
    d.get (F.CAN_STATUS_STATE.ix c) = 3 → (d.canOn c (F.CAN_CFG_AUTO_REC.ix c) = true ∨ (d.canOf c).recover = true) →
    exec (.canBusOn c dt) s = .next (s.after (((((d.canUp c fun x => { x with tec := 0, recover := false }).put
      (F.CAN_STATUS_STATE.ix c) 1).put (F.CAN_STATUS_TEC.ix c) 0).put (F.CAN_STATUS_REC.ix c) 0).raiseCan c 0x0E03 [c]))) ∧
  (∀ (c : Fin 2) (t : Nat) (s : State), s.dev.awake = true → (s.dev.canOf c).timing = some t → (s.dev.canOf c).tx = none →
    let was := (s.dev.canOf c).old
    let d := s.dev.canUp c fun x => { x with
      old := [], timing := none, ref := x.ref && decide (s.dev.get (F.CAN_CFG_EN.ix c) = 1)
      mb := (List.range 64).map fun m => if ∃ o ∈ was, o.1 = (mbF F.CAN_MB_CFG_DIR c m).addr
        then { x.mb.getD m {} with storedAt := none, prev := none, before := none } else x.mb.getD m {} }
    exec (.canTimingApply c) s = .next (s.after
      (if d.get (F.CAN_STATUS_STATE.ix c) = 3 ∨ (d.canEn c = true ∧ s.dev.canRetimed c = false) then d
       else d.put (F.CAN_STATUS_STATE.ix c) 0))) ∧
  (∀ (s : State), s.dev.awake = true → s.dev.canCfg 0 (F.CAN_TM_CFG_TM_MODE.ix 0) = 1 → s.dev.canEn 0 = true →
    let per := max 1 (s.dev.canCfg 0 (F.CAN_TM_CFG_PERIOD.ix 0)) * 1000000
    let d := s.dev.toPtp ((s.dev.ptpNs / per + 1) * per)
    let e := if (d.canOf 0).ref then d.bump (F.CAN_TM_SKIP_CNT.ix 0) else d
    exec .canTmCycleStart s = .next (s.after ((e.wrapInc (F.CAN_TM_STAT_CYCLE.ix 0)).canUp 0 fun x => { x with ref := true, tx := if x.tx = some 64 then some 65 else x.tx }))) ∧
  (∀ (t : Nat) (s : State), s.dev.awake = true → (s.dev.canOf 0).lastRef = some t → s.dev.flag (F.CAN_TM_STAT_SYNC.ix 0) = true →
    let d := s.dev.advanceTo (t + 1500000 * s.dev.canCfg 0 (F.CAN_TM_CFG_PERIOD.ix 0))
    exec .canTmLost s = .next (s.after (((d.put (F.CAN_TM_STAT_SYNC.ix 0) 0).canUp 0 fun x => { x with accepted := 0 }).raiseCan 0 0x0E07 [0])))

/-- State.reset holds no waiting command. Power-on reset holds and no row of kindling is complete. Every register
reads the reset value its table gives (where a table gives none, the one log entry 10 names). GSV is OFF, no group
is latched, no contactor output is closed, no session is open, nothing is staged, the PWM balls are high-impedance.
The two invariants of the model, held outputs are off and the status fields show the state, hold there. (R13, R355,
R366, 15_clocks_power_reset.md) -/
def Obligations.ResetState : Prop :=
  State.reset.pending = [] ∧
  (∀ a : Nat, State.reset.dev.word a = resetWord a) ∧
  State.reset.dev.cpr.por = true ∧ State.reset.dev.cpr.rows = 0 ∧ State.reset.dev.gsv = 0 ∧
  State.reset.dev.latched = 0 ∧ State.reset.dev.dmp.latches = [] ∧ State.reset.dev.dmp.ctlOut = 0 ∧
  State.reset.dev.sec.sessions = [] ∧ State.reset.dev.stage = {} ∧ State.reset.dev.pwm.hiZ = true ∧
  State.reset.dev.heldOff ∧ State.reset.dev.showsTruth

/-- For every device and every field of a 32-bit register: a value put in the field reads back cut to its width; a
field of another address and a field of the same register with no bit in common keep their values; a register set
reads back and the others keep theirs; nothing but the register file changes. A saturating counter stops at the
greatest value of its field, a wrapping one continues at 0. (R3, R4, 00_scope.md) -/
def Obligations.RegisterFileLaws : Prop :=
  ∀ (d : Dev) (f : Fld), f.lo ≤ f.hi → f.hi < 32 →
    (∀ v, (d.put f v).get f = f.cut v) ∧
    (∀ (v : Nat) (g : Fld), g.addr ≠ f.addr → (d.put f v).get g = d.get g) ∧
    (∀ (v : Nat) (g : Fld), g.addr = f.addr → g.lo ≤ g.hi → g.hi < f.lo ∨ f.hi < g.lo → (d.put f v).get g = d.get g) ∧
    (∀ v, d.put f v = { d with regs := (d.put f v).regs }) ∧
    (∀ n, (d.bump f n).get f = min (2 ^ (f.hi - f.lo + 1) - 1) (d.get f + n)) ∧
    (∀ n, (d.wrapInc f n).get f = (d.get f + n) % 2 ^ (f.hi - f.lo + 1)) ∧
    (∀ (a : Nat) (w : Word), (d.setWord a w).word a = w ∧ ∀ b, b ≠ a → (d.setWord a w).word b = d.word b)

/-- The n bytes of a number are n in count, byte i is the number's bits [8i+7:8i], and they spell the number modulo
256^n; bytes spelled as a number and written again are the same bytes; a number inside a payload is read at its
offset. Words and their bytes agree both ways. (R5, 00_scope.md) -/
def Obligations.NumbersAreLittleEndian : Prop :=
  (∀ n v : Nat, (leBytes n v).length = n ∧ ofLE (leBytes n v) = v % 256 ^ n ∧
    ∀ i, i < n → ((leBytes n v).getD i 0).toNat = v / 256 ^ i % 256) ∧
  (∀ bs : List Byte, leBytes bs.length (ofLE bs) = bs) ∧
  (∀ (xs ys : List Byte) (n v : Nat), leAt (xs ++ leBytes n v ++ ys) xs.length n = v % 256 ^ n) ∧
  (∀ ws : List Word, wordsOf (bytesOf ws) = ws ∧ (bytesOf ws).length = 4 * ws.length)

/-- For every list of entries: where REG_WRITE ends with a status other than OK, no register, no staged field and no
other memory of the device is changed, and no warm reset follows; where REG_STAGE ends so, the device is the same. A
single register written is the list of one entry, and a refused one leaves every register and the staged set as they
were but for what a later settling shows. (R10) -/
def Obligations.RefusedWriteChangesNoField : Prop :=
  (∀ (d : Dev) (operator : Bool) (es : List RegEntry), (d.regWrite operator es).1 ≠ St.ok →
    (d.regWrite operator es).2.2.1 = { d with drt := (d.regWrite operator es).2.2.1.drt } ∧ (d.regWrite operator es).2.2.2 = false ∧
    ∀ f : Fld, (d.regWrite operator es).2.2.1.get f = d.get f) ∧
  (∀ (d : Dev) (sid : Nat) (es : List RegEntry), (d.regStage sid es).1 ≠ St.ok → (d.regStage sid es).2.2 = d) ∧
  (∀ (addr : Nat) (mask value : Word) (s : State), s.dev.hearthUp = true → addr < 0x1000000 →
    (s.dev.regWrite false [⟨addr, mask, value⟩]).1 ≠ St.ok →
    ∃ e : Dev, exec (.registerWrite addr mask value) s = .next (s.after e) ∧
      e.sec.out = some ((s.dev.regWrite false [⟨addr, mask, value⟩]).1, []) ∧ e.stage = s.dev.stage ∧ ∀ f : Fld, e.get f = s.dev.get f)

/-- An entry whose address is assigned to no register is BAD_ADDRESS. One that changes a bit of a read-only, staged
or package field against what the register reads, or that an OPERATOR may not write, is NOT_PERMITTED. One that
changes a bit writable in TEST and VENDOR only is LIFECYCLE in any other state. An accepted entry that sets no
acting bit: each bit of a read-write field in MASK takes the bit of VALUE, each W1C bit in MASK written 1 becomes 0,
every other bit keeps its value; a counter register with any bit in MASK takes its reset value; every other register
keeps its value. Registers whose write acts of itself (setpoints, KICK, PTP_SET) are stated with their commands.
(R4, R9, R11, R468, R469) -/
def Obligations.EntryOfARegisterWrite : Prop :=
  ∀ (d : Dev) (operator : Bool) (e : RegEntry),
    ((e.addr < 0x1000000 → rowAt e.addr = none) → d.writeEntry operator e = (St.badAddress, d, false)) ∧
    (∀ r ix, e.addr < 0x1000000 → rowAt e.addr = some (r, ix) →
      let old := d.liveWord e.addr
      let changed := (old ^^^ ((old &&& ~~~e.mask) ||| (e.value &&& e.mask))).toNat
      let wrong := (operator && !operatorMay e.addr) || (changed &&& (r.ro ||| r.st ||| r.oa)) != 0
      (wrong = true → d.writeEntry operator e = (St.notPermitted, d, false)) ∧
      (wrong = false → (changed &&& r.lc) ≠ 0 → 1 < d.lc → d.writeEntry operator e = (St.lifecycle, d, false)) ∧
      ((d.writeEntry operator e).1 ≠ St.ok → (d.writeEntry operator e).2 = (d, false)) ∧
      ((d.writeEntry operator e).1 = St.ok → ((e.mask &&& e.value).toNat &&& r.act) = 0 →
        e.addr ∉ [0x0A007C, 0x0A00FC, 0x0B0020, F.NET_PTP_SET.addr] →
        let w := (d.writeEntry operator e).2.1.word e.addr
        (r.clr = true → e.mask ≠ 0 → w = r.reset ix) ∧
        (r.clr = false ∨ e.mask = 0 → ∀ i, i < 32 → w.getLsbD i =
          if r.w1c.testBit i && e.mask.getLsbD i && e.value.getLsbD i then false
          else if (r.rw.testBit i || r.lc.testBit i) && !r.act.testBit i && e.mask.getLsbD i then e.value.getLsbD i
          else (d.word e.addr).getLsbD i) ∧
        ∀ a, a ≠ e.addr → (d.writeEntry operator e).2.1.word a = d.word a))

/-- REG_STAGE that completes with OK leaves its session the owner, and changes nothing in effect. While another
session owns the set, COMMIT and DISCARD_STAGE complete with BUSY, REG_STAGE with a status other than OK, and the
device is the same. The owner's DISCARD_STAGE, and the closing of its session, empty the set; the host parameters
buffered for the next frame are no part of it. The closing of another session leaves it. A DISCARD_STAGE of a set
whose adoption frame has begun completes with STATE. (R16, R20, R468, R471) -/
def Obligations.StagedSetHasOneOwner : Prop :=
  ∀ (d : Dev) (sid : Nat),
    (∀ es, (d.regStage sid es).1 = St.ok →
      (d.regStage sid es).2.2.stage.owner = some sid ∧
      (d.regStage sid es).2.2 = { d with stage := (d.regStage sid es).2.2.stage }) ∧
    (∀ o, d.stage.owner = some o → o ≠ sid →
      (∀ angle, d.commit sid angle = (St.busy, [], d)) ∧ d.discardStage sid = (St.busy, d) ∧
      (∀ es, (d.regStage sid es).1 ≠ St.ok ∧ (d.regStage sid es).2.2 = d) ∧
      (d.closeSession sid).stage = d.stage) ∧
    (d.stage.owner = some sid →
      d.discardStage sid = (St.ok, { d with stage := { host := d.stage.host, adopted := d.stage.adopted } }) ∧
      (d.closeSession sid).stage = { host := d.stage.host, adopted := d.stage.adopted }) ∧
    (∀ k, d.stage.owner = none → d.stage.adopted = some (sid, k) → d.get F.ANG_FCNT = k → d.discardStage sid = (St.state, d))

/-- A COMMIT that completes with OK fixes the adoption frame and changes nothing in effect; one that does not is
without effect. At the start of any other frame than the one fixed nothing is adopted. With the set in effect each
staged register holds its staged bits and its other bits as before, registers not staged keep their values, and
nothing else changes; at its frame the set becomes empty. (R18, R19, R21, R470) -/
def Obligations.StagedSetIsAdoptedWhole : Prop :=
  ∀ d : Dev,
    (∀ (sid : Nat) (angle : Option Nat),
      ((d.commit sid angle).1 ≠ St.ok → (d.commit sid angle).2.2 = d) ∧
      ((d.commit sid angle).1 = St.ok →
        (d.commit sid angle).2.2.stage.pending = some (d.adoptionFrame angle) ∧ (d.commit sid angle).2.2.stage.regs = d.stage.regs ∧
        (d.commit sid angle).2.2 = { d with stage := (d.commit sid angle).2.2.stage })) ∧
    (d.stage.pending = none → d.stageAdopt = d) ∧
    (∀ k c, d.stage.pending = some (k, c) → (d.get F.ANG_FCNT + 1) % 2 ^ 32 ≠ k → d.stageAdopt = d) ∧
    (∀ k c, d.stage.pending = some (k, c) → (d.get F.ANG_FCNT + 1) % 2 ^ 32 = k →
      d.stageAdopt.stage.owner = none ∧ d.stageAdopt.stage.regs = [] ∧ d.stageAdopt.stage.coef = [] ∧
      d.stageAdopt.stage.lut = [] ∧ d.stageAdopt.stage.pending = none) ∧
    ((d.stage.regs.map fun x => x.1).Nodup →
      d.withStaged = { d with regs := d.withStaged.regs } ∧
      (∀ a v m, (a, v, m) ∈ d.stage.regs → d.withStaged.word a = (d.word a &&& ~~~m) ||| (v &&& m)) ∧
      ∀ a, (∀ x ∈ d.stage.regs, x.1 ≠ a) → d.withStaged.word a = d.word a)

/-- While the PWM domain runs, n PWM clocks advance the accumulator by n times ANG_INC modulo 2^48, clock by clock;
the common angle is its bits [47:16]. In 2^48 clocks of 500 MHz the accumulator makes exactly ANG_INC turns, so its
frequency is ANG_INC x 500 MHz / 2^48, and one step of the increment is between 1.775 and 1.785 uHz. (R41) -/
def Obligations.CommonAngleAccumulator : Prop :=
  (∀ (d : Dev) (n : Nat), d.cpr.rows.testBit 3 = true →
    (d.advance n).time.phase % 2 ^ 48 = (d.time.phase % 2 ^ 48 + n * d.get F.ANG_INC) % 2 ^ 48 ∧
    (d.advance n).now = d.now + n ∧
    (d.advance (n + 1)).time.phase = ((d.advance n).advance 1).time.phase ∧
    ((d.advance (2 ^ 48)).time.phase - d.time.phase) / 2 ^ 48 = d.get F.ANG_INC) ∧
  (∀ d : Dev, d.theta = d.time.phase % 2 ^ 48 / 2 ^ 16 ∧ d.theta < 2 ^ 32) ∧
  second = 500000000 ∧ 1775 * 2 ^ 48 < second * 10 ^ 9 ∧ second * 10 ^ 9 < 1785 * 2 ^ 48

/-- A leg is held off exactly while a power failure or a warm reset holds everything, or some group names it in
LEG_MASK that is latched, or has a class C latch, or is named for the cessation hold while GSV holds. A Draught
bridge is held exactly while a power failure or a warm reset does, or some latched group names it in DRT_MASK: class
C and the cessation hold do not hold a bridge. (R261, R262, R282, R358, R360) -/
def Obligations.WhatIsHeldOff : Prop :=
  ∀ d : Dev,
    (∀ n, n < 12 → (d.heldLegs.testBit n = true ↔
      d.flag F.CPR_STATUS_PFAIL = true ∨ d.cpr.warm = true ∨
      ∃ g, g < 8 ∧ (d.get (F.DMP_GRP_LEG_MASK.ix g)).testBit n = true ∧
        (d.dmp.latchA.testBit g = true ∨ d.dmp.holdB.testBit g = true ∨ (∃ l ∈ d.dmp.latches, l.cls = .c ∧ l.grps.testBit g = true) ∨
          (d.flag F.GSV_STATUS_HOLD = true ∧ (d.get F.GSV_CFG_CEASE_GRP).testBit g = true)))) ∧
    (∀ b, b < 2 → (d.heldBridges.testBit b = true ↔
      d.flag F.CPR_STATUS_PFAIL = true ∨ d.cpr.warm = true ∨
      ∃ g, g < 8 ∧ (d.get (F.DMP_GRP_DRT_MASK.ix g)).testBit b = true ∧ (d.dmp.latchA.testBit g = true ∨ d.dmp.holdB.testBit g = true)))

/-- Whatever command of the table is executed in whatever state, the next state satisfies: the holds that Damper
acts on are those the latched groups, class C latches, cessation, power failure and warm reset call for; every leg
among them is in its safe sequence or off, never free; a Draught channel under a hold of Table 14-4 is in HELD,
where DRT_STAT shows the lowest row, or in LOST, and a channel in HELD has a hold. A step keeps this, on an empty
queue too. (R261, R262, R267, R282, R342, R358, R360) -/
def Obligations.HeldOutputsStayOff : Prop :=
  (∀ (c : Instr) (s t : State), exec c s = .next t → t.dev.heldOff) ∧
  (∀ s t : State, s.dev.heldOff → step s = .next t → t.dev.heldOff)

/-- Whatever command of the table is executed in whatever state, in the next state DMP_STATUS, DMP_LEG_OFF,
DMP_CTL_STATE.OUT, SDM_STATUS.CLK_OK, ANG_STATUS.PTP_VALID, PWM_STATUS.SYNC_ROLE, HRT_STATUS.ACT_PEND,
FBX_STATUS.LIVE_PEND, HRT_SESS_OPEN, CPR_STATUS.STEP, GDR_STATUS and the speed, reference and duty of both channels,
and HST_DEVSTAT in all sixteen pages, read what Damper, the modulators, the clocks, the sessions, kindling, the
bridges and Draught are in. A step keeps this, on an empty queue too. (R17, R262, R274, R320, R332, R366, R381,
19_host_interface.md) -/
def Obligations.ShownStatusIsTrue : Prop :=
  (∀ (c : Instr) (s t : State), exec c s = .next t → t.dev.showsTruth) ∧
  (∀ s t : State, s.dev.showsTruth → step s = .next t → t.dev.showsTruth)

/-- No buffer is offered exactly where none is pending. A buffer offered is pending, and no pending buffer has an
identifier that wins arbitration against its own, nor an equal one with a lower index. An identifier of 11 bits wins
against an extended one with the same base, a lower base wins against a higher one whatever follows. (R425) -/
def Obligations.CanOffersTheLowestIdentifier : Prop :=
  (∀ (d : Dev) (c : Nat),
    let key (m : Nat) : Nat := arbKey (d.get (mbF F.CAN_MB_ID c m)) (d.flag (mbF F.CAN_MB_IDE c m))
    (d.canOffer c = none ↔ ∀ m, m < 64 → d.mbState c m ≠ 1) ∧
    (∀ m, d.canOffer c = some m → m < 64 ∧ d.mbState c m = 1 ∧
      ∀ k, k < 64 → d.mbState c k = 1 → key m < key k ∨ (key m = key k ∧ m ≤ k))) ∧
  (∀ i j : Nat, i < 2 ^ 11 → j < 2 ^ 29 →
    (j / 2 ^ 18 = i → arbKey i false < arbKey j true) ∧
    (i < j / 2 ^ 18 → arbKey i false < arbKey j true) ∧ (j / 2 ^ 18 < i → arbKey j true < arbKey i false))

/-- An entry written to the normal region takes the number HRT_LOG_NEXT, which then counts on; it carries time,
angle and code, and its tag is the first 8 bytes of the hash over the tag before it (the genesis tag in an empty
region) and its own 24 bytes. The region holds at most 10,240 entries: full, its oldest one goes. The sticky region
is chained and numbered alike and holds at most 2,048; where it has no room, its oldest entry has not been exported;
where it is full and has room, the entry that goes has been exported. (R477, R478, R480) -/
def Obligations.EventLogIsAChain : Prop :=
  ∀ (d : Dev) (code : Nat) (items : List Nat) (time angle : Nat),
    (∃ e : LogEntry, e.num = d.get F.HRT_LOG_NEXT ∧ e.time = time ∧ e.angle = angle ∧ e.code = code ∧ e.data = items ∧
      e.head.length = 24 ∧ e.tag = (sha384 (d.lastTag 0 d.log.normal ++ e.head)).take 8 ∧
      (d.logNormal code items time angle).log.normal = (if d.log.normal.length < 10240 then d.log.normal else d.log.normal.tail) ++ [e] ∧
      (d.logNormal code items time angle).log.sticky = d.log.sticky ∧
      (d.logNormal code items time angle).lastTag 0 (d.logNormal code items time angle).log.normal = e.tag) ∧
    (d.logNormal code items time angle).get F.HRT_LOG_NEXT = (d.get F.HRT_LOG_NEXT + 1) % 2 ^ 32 ∧
    (d.log.normal.length ≤ 10240 → (d.logNormal code items time angle).log.normal.length ≤ 10240) ∧
    (∃ e : LogEntry, e.num = d.get F.HRT_STICKY_NEXT ∧ e.time = time ∧ e.angle = angle ∧ e.code = code ∧ e.data = items ∧
      e.tag = (sha384 (d.lastTag 1 d.log.sticky ++ e.head)).take 8 ∧
      (d.logSticky code items time angle).log.sticky = (if d.log.sticky.length < 2048 then d.log.sticky else d.log.sticky.tail) ++ [e] ∧
      (d.logSticky code items time angle).log.normal = d.log.normal) ∧
    (d.logSticky code items time angle).get F.HRT_STICKY_NEXT = (d.get F.HRT_STICKY_NEXT + 1) % 2 ^ 32 ∧
    (d.log.sticky.length ≤ 2048 → (d.logSticky code items time angle).log.sticky.length ≤ 2048) ∧
    (d.stickyRoom = false → 2048 ≤ d.log.sticky.length ∧ ∃ e ∈ d.log.sticky.head?, d.log.exported ≤ e.num) ∧
    (d.stickyRoom = true → 2048 ≤ d.log.sticky.length → ∃ e ∈ d.log.sticky.head?, e.num < d.log.exported)

/-- A vector is open exactly while Bus Master Enable is 1 outside D3hot, MSI-X is enabled and neither the function
mask nor the vector's own masks it. A condition on an open vector sends one message; on any other it sets the
pending bit, and no message leaves. Unmasking an open vector by the write of its control word sends the message that
is pending and clears the bit. Nothing else changes. (R439, R447) -/
def Obligations.MsixMessageOrPendingBit : Prop :=
  ∀ (d : Dev) (v : Nat),
    (d.vectorOpen v = true ↔ d.flag F.HST_STATUS_BME = true ∧ d.flag F.HST_STATUS_D3 = false ∧ d.hst.msixEn = true ∧
      d.hst.msixFmask = false ∧ d.hst.msixMask.testBit v = false) ∧
    (d.vectorOpen v = true → d.signal v = { d with hst := { d.hst with out := .msix v :: d.hst.out } }) ∧
    (d.vectorOpen v = false → (d.signal v).hst.msixPend.testBit v = true ∧
      (∀ u, u ≠ v → (d.signal v).hst.msixPend.testBit u = d.hst.msixPend.testBit u) ∧
      d.signal v = { d with hst := { d.hst with msixPend := (d.signal v).hst.msixPend } }) ∧
    (d.hst.msixPend.testBit v = false ∨ d.vectorOpen v = false → d.msixSend v = d) ∧
    (∀ w : Word, v < 32 → w.getLsbD 0 = false → d.flag F.HST_STATUS_BME = true → d.flag F.HST_STATUS_D3 = false →
      d.hst.msixEn = true → d.hst.msixFmask = false → d.hst.msixPend.testBit v = true →
      let e := d.msixWrite (4 * v + 3) w
      e.hst.out = .msix v :: d.hst.out ∧ e.hst.msixMask.testBit v = false ∧ e.hst.msixPend.testBit v = false ∧
      (∀ u, u ≠ v → e.hst.msixMask.testBit u = d.hst.msixMask.testBit u ∧ e.hst.msixPend.testBit u = d.hst.msixPend.testBit u) ∧
      e = { d with hst := { d.hst with out := e.hst.out, msixMask := e.hst.msixMask, msixPend := e.hst.msixPend } })

/-- An event resolves to the class and groups of the lowest enabled override entry that names it, else to its
default class and its block's groups; FBX_OVERRUN, FBX_MOD_NAN and CPR_PFAIL always to the latter. Raised with class
A it leaves class A in every one of its groups; with class B it leaves each of them latched, as class A in SERVICE;
with class C each of them has a class C latch. No raising of any event unlatches a group or turns class A into class
B. (R261, R263, R264, R266, R273) -/
def Obligations.RoutedEventLatchesItsGroups : Prop :=
  ∀ (d : Dev) (code : Nat) (items : List Nat),
    let dflt := (defaultClass code, d.get (F.DMP_BLK_GRP.ix (code / 256 - 1)))
    let named (i : Nat) : Prop := d.flag (F.DMP_EVT_OVR_EN.ix i) = true ∧ d.get (F.DMP_EVT_OVR_CODE.ix i) = code
    let e := d.raise code items
    (code ∈ fixedEvents → d.resolve code = dflt) ∧ ((∀ i, i < 64 → ¬ named i) → d.resolve code = dflt) ∧
    (∀ i, i < 64 → named i → (∀ j, j < i → ¬ named j) → code ∉ fixedEvents →
      d.resolve code = (TripClass.ofNum (d.get (F.DMP_EVT_OVR_CLASS.ix i)), d.get (F.DMP_EVT_OVR_GRP.ix i))) ∧
    (∀ g, g < 8 →
      (d.dmp.latchA.testBit g = true → e.dmp.latchA.testBit g = true) ∧
      (d.latched.testBit g = true → e.latched.testBit g = true) ∧
      ((d.resolve code).2.testBit g = true →
        ((d.resolve code).1 = .a → e.dmp.latchA.testBit g = true) ∧
        ((d.resolve code).1 = .b → e.latched.testBit g = true ∧ (d.service = true → e.dmp.latchA.testBit g = true)) ∧
        ((d.resolve code).1 = .c → e.cycleGroups.testBit g = true)))

/-- A record that fits the buffers read takes the least number j of them that holds it, at least one; the rest stay,
and HEAD moves on by j around the ring. Descriptor i of them is written back at BASE + 16 x its index + 8 with the
bytes it holds and the record's sequence number, SOP on the first and EOP on the last. The payload of a buffer goes
out in host writes of at most k bytes that follow each other without gap and together spell it. (R439, R449) -/
def Obligations.RecordFillsItsDescriptorsInTurn : Prop :=
  (∀ (k base size rseq head : Nat) (ds : List Desc) (bs : List Byte), head < size → ds ≠ [] →
    bs.length ≤ (ds.map Desc.len).sum →
    let r := recordWrites k base size rseq (ds.length + 1) head true ds bs
    ∃ j, 1 ≤ j ∧ j ≤ ds.length ∧ bs.length ≤ ((ds.take j).map Desc.len).sum ∧
      (j = 1 ∨ ((ds.take (j - 1)).map Desc.len).sum < bs.length) ∧
      r.2.2 = ds.drop j ∧ r.2.1 = (head + j) % size ∧
      ∀ i, i < j → ∃ x ∈ ds[i]?, HostOut.write (base + 16 * ((head + i) % size) + 8)
        (leBytes 4 (min x.len (bs.length - ((ds.take i).map Desc.len).sum)) ++
          leBytes 4 (rseq % 65536 + (if i = 0 then 65536 else 0) + (if i + 1 = j then 131072 else 0))) ∈ r.1) ∧
  (∀ (k addr n : Nat) (bs : List Byte), 0 < k → bs.length ≤ n * k →
    (chunks k addr n bs).reverse = (List.range ((bs.length + k - 1) / k)).map fun i => HostOut.write (addr + i * k) ((bs.drop (i * k)).take k))

/-- The word of the next ANA clock is Draught's, with what the link changes in it; its SEQ should count the clock. A
word is good where its CRC holds and its SEQ is that. A word that is not good leaves the previous word in force and
counts; the third in a row puts the bridge in fault, with LINK, GDR_LINK raised, unless it already is in one. A good
word commands each gate as its bit says, but drives both gates of a leg off that it commands both on, and then
raises GDR_XCOND. (R308) -/
def Obligations.DriveWordsAreJudged : Prop :=
  ∀ (d : Dev) (b err : Nat), b < 2 → b < d.gdr.br.length →
    let k := max (ceilDiv d.time.now 5) (d.bridge b).upTo
    let a := (d.advanceTo (5 * k)).wordsTo b (5 * k)
    let w := a.drtWord b k ^^^ err
    let x := a.bridge b
    let crc := crc4 (w % 4096) 12 0 == w / 4096 % 16
    let good := crc && w / 256 % 16 == k % 16
    let n := if x.badAt.any (fun j => decide (j + 1 = k)) then x.bad + 1 else 1
    let e := d.driveWord b err
    (a.drtGates b (5 * k) < 64 ∧ a.drtWord b k % 4096 = a.drtGates b (5 * k) + 256 * (k % 16) ∧
      crc4 (a.drtWord b k % 4096) 12 0 = a.drtWord b k / 4096 % 16) ∧
    (good = false → e.get F.GDR_LINK_CNT = min (2 ^ 32 - 1) (a.get F.GDR_LINK_CNT + 1) ∧ (e.bridge b).bad = n % 3 ∧
      (n < 3 → (e.bridge b).cmd = x.cmd) ∧
      (3 ≤ n → (e.bridge b).faulted = true ∧
        (x.faulted = false → (e.bridge b).cmd = 0 ∧ e.flag (F.GDR_FAULT_LINK.ix b) = true ∧ e.bitIn F.GDR_EVT_EVT 6 = true))) ∧
    (good = true → (e.bridge b).bad = 0 ∧
      ∀ l, l < 3 →
        let both := w.testBit (2 * l) && w.testBit (2 * l + 1)
        ((e.bridge b).cmd.testBit (2 * l) = (w.testBit (2 * l) && !both) ∧
          (e.bridge b).cmd.testBit (2 * l + 1) = (w.testBit (2 * l + 1) && !both)) ∧
        (both = true → e.bitIn F.GDR_EVT_EVT 7 = true))

/-- Where the word in force commands on no two gates of one leg, no two of them are on, and drive words keep it so;
a channel of Draught never commands both gates of a leg on. A gate commanded off is noted with its instant, and the
other gate of its leg is not on until 25 PWM clocks (50 ns) later. In a refresh the high side is off for 200 PWM
clocks (400 ns) and the low side on from clock 25 to clock 175 of them. Every gate is off on a held bridge. A sector
of Table 14-1 has three different legs. (R307, R309, R313, R325, R326) -/
def Obligations.GatesOfALegAreNeverOnTogether : Prop :=
  (∀ (d : Dev) (b l : Nat), l < 3 → ((d.bridge b).cmd.testBit (2 * l) && (d.bridge b).cmd.testBit (2 * l + 1)) = false →
    (d.gateOn b (2 * l) && d.gateOn b (2 * l + 1)) = false) ∧
  (∀ (d : Dev) (b err : Nat), (∀ l, l < 3 → ((d.bridge b).cmd.testBit (2 * l) && (d.bridge b).cmd.testBit (2 * l + 1)) = false) →
    ∀ l, l < 3 → (((d.driveWord b err).bridge b).cmd.testBit (2 * l) && ((d.driveWord b err).bridge b).cmd.testBit (2 * l + 1)) = false) ∧
  (∀ (d : Dev) (c t l : Nat), ((d.drtGates c t).testBit (2 * l) && (d.drtGates c t).testBit (2 * l + 1)) = false) ∧
  (∀ (d : Dev) (b g : Nat), d.bridgeHeld b = true → d.gateOn b g = false) ∧
  (∀ (x : Bridge) (t cmd g : Nat), g < 6 → x.cmd.testBit g = true → cmd.testBit g = false → (x.command t cmd).offAt.getD g 0 = t) ∧
  (∀ (d : Dev) (b g : Nat), d.refreshing b (g / 2) d.time.now = none →
    d.time.now < ((d.wordsTo b (d.time.now + 1)).bridge b).offAt.getD (g ^^^ 1) 0 + 25 → d.gateOn b g = false) ∧
  (∀ (d : Dev) (b l : Nat), (d.bridge b).refresh.testBit l = true → d.bridgeHeld b = false →
    (d.ch b).perAt ≤ d.time.now → d.time.now < (d.ch b).perAt + 200 →
    d.gateOn b (2 * l) = false ∧
    d.gateOn b (2 * l + 1) = decide ((d.ch b).perAt + 25 ≤ d.time.now ∧ d.time.now < (d.ch b).perAt + 175)) ∧
  (∀ s, s < 6 → ∃ h k, h < 3 ∧ k < 3 ∧ h ≠ k ∧ sectorLegs s = (h, k, 3 - h - k, (sectorLegs s).2.2.2))

/-- Raising an event sets its flag, and changes nothing but: event flags, the log with its numbers and counts, the
events ring, Damper's latches, holds and trip counters with the PWM edges they force, the recorders' notes, the
alarms of the next member frame, the pending activation a trip cancels. Every other register and every other part of
the state, time among them, is as before. (R14, R263, R273, R477, R483, R489) -/
def Obligations.RaisingAnEventChangesOnly : Prop :=
  ∀ (d : Dev) (code : Nat) (items : List Nat),
    d.raise code items = d.raisedFrom (d.raise code items) ∧
    (∀ a, a ∉ raiseWords → (d.raise code items).word a = d.word a) ∧
    (∀ f b, eventDefined code = true → evtFlag code 0 = some (f, b) → (d.raise code items).bitIn f b = true) ∧
    (∀ c, c < 2 → d.raiseCan c code items = d.raisedFrom (d.raiseCan c code items) ∧
      ∀ a, a ∉ raiseWords → (d.raiseCan c code items).word a = d.word a)

/-- What follows every command (a synchronisation pulse driven, lockouts that act, frames that leave their queues,
the holds of Draught and of the legs, the contactors and their feedback, Flue's time base, kindling's rows, the
status fields) changes no other register and no other part of the state: no time passes; the modulators, converters,
meters, angle, CAN, staged set, Firebox and Hearth's trust are as the command left them. A bridge's supplies, wire,
refresh and count of discarded words are as before, and its fault state too where no lockout is new. (R249, R262,
R267, R270, R277, R314, R342, R366, R379, R397, 01_architecture.md) -/
def Obligations.SettlingChangesOnly : Prop :=
  ∀ d : Dev,
    d.settle = d.settledFrom d.settle ∧
    (∀ b, let x := d.settle.bridge b
      let y := d.bridge b
      x.bad = y.bad ∧ x.badAt = y.badAt ∧ x.wire = y.wire ∧ x.warn = y.warn ∧ x.low = y.low ∧ x.extLow = y.extLow ∧ x.refresh = y.refresh ∧
      (d.awake = false ∨ andNot (d.lockedOut b) y.lockSeen = 0 →
        x.wait = y.wait ∧ x.latched = y.latched ∧ x.soft = y.soft ∧ x.joinTo = y.joinTo ∧ x.raised = y.raised ∧
        x.scLegs = y.scLegs ∧ x.ocLegs = y.ocLegs ∧ x.uvLegs = y.uvLegs)) ∧
    (∀ a, a ∉ raiseWords → a ∉ settleWords → d.settle.word a = d.word a)
end

