-- ==== Sys2Proof/Laws/Memory.lean ====
section
/-! SUPPORT. The sparse word memory: a read after a write, and that every operation keeps the canonical form. -/

namespace Sys2Proof.Machine

/-! ## Reading -/

@[simp] theorem Mem.getD_nil (a : Nat) (z : Word) : Mem.getD [] a z = z := rfl

theorem Mem.getD_cons (k a : Nat) (w z : Word) (m : Mem) : Mem.getD ((k, w) :: m) a z = if a = k then w else Mem.getD m a z := rfl

/-- An unlisted key reads the given value. -/
theorem Mem.getD_absent {m : Mem} {a : Nat} (h : ∀ x ∈ m, x.1 ≠ a) (z : Word) : Mem.getD m a z = z := by
  induction m with
  | nil => rfl
  | cons x m ih =>
    obtain ⟨k, w⟩ := x
    rw [Mem.getD_cons, if_neg fun e => h (k, w) (by simp) e.symm]
    exact ih fun y hy => h y (by simp [hy])

theorem Mem.erase_absent (m : Mem) (a : Nat) : ∀ x ∈ Mem.erase m a, x.1 ≠ a := by
  intro x hx
  simpa [Mem.erase] using (List.mem_filter.mp hx).2

@[simp] theorem Mem.getD_erase_same (m : Mem) (a : Nat) (z : Word) : Mem.getD (Mem.erase m a) a z = z :=
  Mem.getD_absent (Mem.erase_absent m a) z

theorem Mem.getD_erase_other (m : Mem) {a b : Nat} (h : b ≠ a) (z : Word) : Mem.getD (Mem.erase m a) b z = Mem.getD m b z := by
  induction m with
  | nil => rfl
  | cons x m ih =>
    obtain ⟨k, w⟩ := x
    by_cases hk : k = a
    · have : Mem.erase ((k, w) :: m) a = Mem.erase m a := by simp [Mem.erase, hk]
      rw [this, ih, Mem.getD_cons, if_neg (by omega)]
    · have : Mem.erase ((k, w) :: m) a = (k, w) :: Mem.erase m a := by simp [Mem.erase, hk]
      rw [this, Mem.getD_cons, Mem.getD_cons, ih]

/-- Inserting a key that is not listed sets it and leaves the others. -/
theorem Mem.getD_insert {m : Mem} {a : Nat} (h : ∀ x ∈ m, x.1 ≠ a) (b : Nat) (w z : Word) :
    Mem.getD (Mem.insert m a w) b z = if b = a then w else Mem.getD m b z := by
  induction m with
  | nil => rfl
  | cons x m ih =>
    obtain ⟨k, v⟩ := x
    have hk : k ≠ a := h (k, v) (by simp)
    simp only [Mem.insert]
    split
    · simp [Mem.getD_cons]
    · rw [Mem.getD_cons, ih (fun y hy => h y (by simp [hy])), Mem.getD_cons]
      by_cases hb : b = k
      · rw [if_pos hb, if_neg (by omega), if_pos hb]
      · rw [if_neg hb, if_neg hb]

@[simp] theorem Mem.getD_put_same (m : Mem) (a : Nat) (v : Option Word) (z : Word) : Mem.getD (Mem.put m a v) a z = v.getD z := by
  cases v with
  | none => simp [Mem.put]
  | some w => simp [Mem.put, Mem.getD_insert (Mem.erase_absent m a)]

theorem Mem.getD_put_other (m : Mem) {a b : Nat} (h : b ≠ a) (v : Option Word) (z : Word) :
    Mem.getD (Mem.put m a v) b z = Mem.getD m b z := by
  cases v with
  | none => exact Mem.getD_erase_other m h z
  | some w => simp [Mem.put, Mem.getD_insert (Mem.erase_absent m a), h, Mem.getD_erase_other m h z]

/-- A word written is read back. -/
@[simp] theorem Mem.getD_set_same (m : Mem) (a : Nat) (w z : Word) : Mem.getD (Mem.set m a w z) a z = w := by
  unfold Mem.set
  split
  · simp [*]
  · simp

/-- A write leaves every other word. -/
theorem Mem.getD_set_other (m : Mem) {a b : Nat} (h : b ≠ a) (w z y : Word) : Mem.getD (Mem.set m a w z) b y = Mem.getD m b y :=
  Mem.getD_put_other m h _ y

@[simp] theorem Mem.rd_wr_same (m : Mem) (a : Nat) (w : Word) : Mem.rd (Mem.wr m a w) a = w := Mem.getD_set_same m a w 0

theorem Mem.rd_wr_other (m : Mem) {a b : Nat} (h : b ≠ a) (w : Word) : Mem.rd (Mem.wr m a w) b = Mem.rd m b :=
  Mem.getD_set_other m h w 0 0

/-! ## The canonical form -/

/-- The canonical form: keys strictly rising, no entry at the value its key reads unlisted. -/
theorem Mem.wf_iff (m : Mem) (z : Nat → Word) : Mem.wf m z = true ↔ m.Pairwise (fun x y => x.1 < y.1) ∧ ∀ x ∈ m, x.2 ≠ z x.1 := by
  have chain : ∀ m : Mem, (m.zip m.tail).all (fun x => decide (x.1.1 < x.2.1)) = true ↔ m.Pairwise (fun x y => x.1 < y.1) := by
    intro m
    induction m with
    | nil => simp
    | cons x m ih =>
      cases m with
      | nil => simp
      | cons y m =>
        rw [List.tail_cons, List.zip_cons_cons, List.all_cons, Bool.and_eq_true, List.pairwise_cons]
        rw [show (y :: m).zip m = (y :: m).zip (y :: m).tail from rfl, ih]
        constructor
        · rintro ⟨h, hp⟩
          refine ⟨fun u hu => ?_, hp⟩
          rcases List.mem_cons.mp hu with rfl | hu
          · simpa using h
          · exact lt_trans (by simpa using h) ((List.pairwise_cons.mp hp).1 u hu)
        · rintro ⟨h, hp⟩
          exact ⟨by simpa using h y (by simp), hp⟩
  rw [Mem.wf, Bool.and_eq_true, chain]
  simp

/-- Nothing listed is canonical: the memories of State.reset are. -/
@[simp] theorem Mem.wf_nil (z : Nat → Word) : Mem.wf [] z = true := rfl

theorem Mem.erase_wf {m : Mem} {z : Nat → Word} (h : Mem.wf m z = true) (a : Nat) : Mem.wf (Mem.erase m a) z = true := by
  rw [Mem.wf_iff] at h ⊢
  exact ⟨h.1.filter _, fun x hx => h.2 x (List.mem_filter.mp hx).1⟩

theorem Mem.mem_insert {m : Mem} {a : Nat} {w : Word} {x : Nat × Word} : x ∈ Mem.insert m a w ↔ x = (a, w) ∨ x ∈ m := by
  induction m with
  | nil => simp [Mem.insert]
  | cons y m ih =>
    obtain ⟨k, v⟩ := y
    simp only [Mem.insert]
    split
    · simp
    · simp only [List.mem_cons, ih]
      tauto

theorem Mem.insert_wf {m : Mem} {z : Nat → Word} {a : Nat} {w : Word} (h : Mem.wf m z = true) (ha : ∀ x ∈ m, x.1 ≠ a) (hw : w ≠ z a) :
    Mem.wf (Mem.insert m a w) z = true := by
  rw [Mem.wf_iff] at h ⊢
  refine ⟨?_, fun x hx => ?_⟩
  · obtain ⟨hp, -⟩ := h
    induction m with
    | nil => simp [Mem.insert]
    | cons y m ih =>
      obtain ⟨k, v⟩ := y
      have hk : k ≠ a := ha (k, v) (by simp)
      rw [List.pairwise_cons] at hp
      simp only [Mem.insert]
      split
      · rename_i hlt
        refine List.pairwise_cons.mpr ⟨fun u hu => ?_, List.pairwise_cons.mpr hp⟩
        rcases List.mem_cons.mp hu with rfl | hu
        · exact hlt
        · exact lt_trans hlt (hp.1 u hu)
      · refine List.pairwise_cons.mpr ⟨fun u hu => ?_, ih (fun y hy => ha y (by simp [hy])) hp.2⟩
        rcases Mem.mem_insert.mp hu with rfl | hu
        · show k < a
          omega
        · exact hp.1 u hu
  · rcases Mem.mem_insert.mp hx with rfl | hx
    · exact hw
    · exact h.2 x hx

/-- A write keeps the canonical form. -/
theorem Mem.set_wf {m : Mem} {z : Nat → Word} (h : Mem.wf m z = true) (a : Nat) (w : Word) : Mem.wf (Mem.set m a w (z a)) z = true := by
  unfold Mem.set
  split
  · exact Mem.erase_wf h a
  · exact Mem.insert_wf (Mem.erase_wf h a) (Mem.erase_absent m a) (by assumption)

/-- So does one that names an entry or takes one away. -/
theorem Mem.put_wf {m : Mem} {z : Nat → Word} (h : Mem.wf m z = true) (a : Nat) (v : Option Word) (hv : ∀ w, v = some w → w ≠ z a) :
    Mem.wf (Mem.put m a v) z = true := by
  cases v with
  | none => exact Mem.erase_wf h a
  | some w => exact Mem.insert_wf (Mem.erase_wf h a) (Mem.erase_absent m a) (hv w rfl)

theorem Mem.wr_wf {m : Mem} (h : Mem.wf m (fun _ => 0) = true) (a : Nat) (w : Word) : Mem.wf (Mem.wr m a w) (fun _ => 0) = true :=
  Mem.set_wf h a w

theorem Mem.wrs_wf {m : Mem} (h : Mem.wf m (fun _ => 0) = true) (a : Nat) (ws : List Word) :
    Mem.wf (Mem.wrs m a ws) (fun _ => 0) = true := by
  induction ws generalizing m a with
  | nil => exact h
  | cons w ws ih => exact ih (Mem.wr_wf h a w) (a + 1)

/-- A memory made from its words is canonical. -/
theorem Mem.ofFn_wf (n : Nat) (f : Nat → Word) : Mem.wf (Mem.ofFn n f) (fun _ => 0) = true := by
  rw [Mem.wf_iff]
  refine ⟨?_, fun x hx => ?_⟩
  · unfold Mem.ofFn
    rw [List.pairwise_filterMap]
    refine List.pairwise_lt_range.imp fun {i j} hij x hx y hy => ?_
    split at hx <;> split at hy <;> simp_all
    rw [← hx, ← hy]
    exact hij
  · obtain ⟨i, -, hi⟩ := List.mem_filterMap.mp hx
    split at hi <;> simp_all
    rw [← hi]
    assumption

end Sys2Proof.Machine
end

