-- ==== Sys2Proof/Laws/State.lean ====
section
/-! SUPPORT. What each update of the device leaves of every field, field by field, so that no proof unfolds a record
update. A change of one part leaves the registers; a change of a register leaves every other part. -/

namespace Sys2Proof.Machine

@[simp] theorem State.after_dev (s : State) (d : Dev) : (s.after d).dev = d.settle := rfl
@[simp] theorem State.after_pending (s : State) (d : Dev) : (s.after d).pending = s.pending := rfl


/-! What leaves `time` -/

@[simp] theorem Dev.setWord_time (d : Dev) (a : Nat) (w : Word) : (d.setWord a w).time = d.time := rfl
@[simp] theorem Dev.angUp_time (d : Dev) (f : Ang → Ang) : (d.angUp f).time = d.time := rfl
@[simp] theorem Dev.cprUp_time (d : Dev) (f : Cpr → Cpr) : (d.cprUp f).time = d.time := rfl
@[simp] theorem Dev.put_time (d : Dev) (f : Fld) (v : Nat) : (d.put f v).time = d.time := rfl
@[simp] theorem Dev.secUp_time (d : Dev) (f : Sec → Sec) : (d.secUp f).time = d.time := rfl
@[simp] theorem Dev.hrtUp_time (d : Dev) (f : Hrt → Hrt) : (d.hrtUp f).time = d.time := rfl
@[simp] theorem Dev.putB_time (d : Dev) (f : Fld) (b : Bool) : (d.putB f b).time = d.time := rfl
@[simp] theorem Dev.dmpUp_time (d : Dev) (f : Dmp → Dmp) : (d.dmpUp f).time = d.time := rfl
@[simp] theorem Dev.fbxUp_time (d : Dev) (f : Fbx → Fbx) : (d.fbxUp f).time = d.time := rfl
@[simp] theorem Dev.putI_time (d : Dev) (f : Fld) (i : Int) : (d.putI f i).time = d.time := rfl
@[simp] theorem Dev.fluUp_time (d : Dev) (f : Flu → Flu) : (d.fluUp f).time = d.time := rfl
@[simp] theorem Dev.supUp_time (d : Dev) (f : Gsv → Gsv) : (d.supUp f).time = d.time := rfl
@[simp] theorem Dev.bump_time (d : Dev) (f : Fld) (n : Nat) : (d.bump f n).time = d.time := rfl
@[simp] theorem Dev.hstUp_time (d : Dev) (f : Hst → Hst) : (d.hstUp f).time = d.time := rfl
@[simp] theorem Dev.metUp_time (d : Dev) (f : Met → Met) : (d.metUp f).time = d.time := rfl
@[simp] theorem Dev.wrapInc_time (d : Dev) (f : Fld) (n : Nat) : (d.wrapInc f n).time = d.time := rfl
@[simp] theorem Dev.netUp_time (d : Dev) (f : Net → Net) : (d.netUp f).time = d.time := rfl
@[simp] theorem Dev.pwmUp_time (d : Dev) (f : Pwm → Pwm) : (d.pwmUp f).time = d.time := rfl
@[simp] theorem Dev.setIn_time (d : Dev) (f : Fld) (i : Nat) : (d.setIn f i).time = d.time := rfl
@[simp] theorem Dev.trcUp_time (d : Dev) (f : Trc → Trc) : (d.trcUp f).time = d.time := rfl
@[simp] theorem Dev.capUp_time (d : Dev) (f : Cap → Cap) : (d.capUp f).time = d.time := rfl
@[simp] theorem Dev.clrIn_time (d : Dev) (f : Fld) (i : Nat) : (d.clrIn f i).time = d.time := rfl
@[simp] theorem Dev.stageUp_time (d : Dev) (f : Stage → Stage) : (d.stageUp f).time = d.time := rfl
@[simp] theorem Dev.sarUp_time (d : Dev) (f : Sar → Sar) : (d.sarUp f).time = d.time := rfl
@[simp] theorem Dev.putIn_time (d : Dev) (f : Fld) (i : Nat) (b : Bool) : (d.putIn f i b).time = d.time := rfl
@[simp] theorem Dev.canUp_time (d : Dev) (c : Nat) (f : Can → Can) : (d.canUp c f).time = d.time := rfl
@[simp] theorem Dev.chUp_time (d : Dev) (c : Nat) (f : DrtCh → DrtCh) : (d.chUp c f).time = d.time := rfl
@[simp] theorem Dev.bridgeUp_time (d : Dev) (b : Nat) (f : Bridge → Bridge) : (d.bridgeUp b f).time = d.time := rfl

/-! What leaves `stage` -/

@[simp] theorem Dev.setWord_stage (d : Dev) (a : Nat) (w : Word) : (d.setWord a w).stage = d.stage := rfl
@[simp] theorem Dev.angUp_stage (d : Dev) (f : Ang → Ang) : (d.angUp f).stage = d.stage := rfl
@[simp] theorem Dev.cprUp_stage (d : Dev) (f : Cpr → Cpr) : (d.cprUp f).stage = d.stage := rfl
@[simp] theorem Dev.put_stage (d : Dev) (f : Fld) (v : Nat) : (d.put f v).stage = d.stage := rfl
@[simp] theorem Dev.secUp_stage (d : Dev) (f : Sec → Sec) : (d.secUp f).stage = d.stage := rfl
@[simp] theorem Dev.hrtUp_stage (d : Dev) (f : Hrt → Hrt) : (d.hrtUp f).stage = d.stage := rfl
@[simp] theorem Dev.putB_stage (d : Dev) (f : Fld) (b : Bool) : (d.putB f b).stage = d.stage := rfl
@[simp] theorem Dev.dmpUp_stage (d : Dev) (f : Dmp → Dmp) : (d.dmpUp f).stage = d.stage := rfl
@[simp] theorem Dev.fbxUp_stage (d : Dev) (f : Fbx → Fbx) : (d.fbxUp f).stage = d.stage := rfl
@[simp] theorem Dev.putI_stage (d : Dev) (f : Fld) (i : Int) : (d.putI f i).stage = d.stage := rfl
@[simp] theorem Dev.fluUp_stage (d : Dev) (f : Flu → Flu) : (d.fluUp f).stage = d.stage := rfl
@[simp] theorem Dev.supUp_stage (d : Dev) (f : Gsv → Gsv) : (d.supUp f).stage = d.stage := rfl
@[simp] theorem Dev.bump_stage (d : Dev) (f : Fld) (n : Nat) : (d.bump f n).stage = d.stage := rfl
@[simp] theorem Dev.hstUp_stage (d : Dev) (f : Hst → Hst) : (d.hstUp f).stage = d.stage := rfl
@[simp] theorem Dev.metUp_stage (d : Dev) (f : Met → Met) : (d.metUp f).stage = d.stage := rfl
@[simp] theorem Dev.wrapInc_stage (d : Dev) (f : Fld) (n : Nat) : (d.wrapInc f n).stage = d.stage := rfl
@[simp] theorem Dev.netUp_stage (d : Dev) (f : Net → Net) : (d.netUp f).stage = d.stage := rfl
@[simp] theorem Dev.pwmUp_stage (d : Dev) (f : Pwm → Pwm) : (d.pwmUp f).stage = d.stage := rfl
@[simp] theorem Dev.setIn_stage (d : Dev) (f : Fld) (i : Nat) : (d.setIn f i).stage = d.stage := rfl
@[simp] theorem Dev.trcUp_stage (d : Dev) (f : Trc → Trc) : (d.trcUp f).stage = d.stage := rfl
@[simp] theorem Dev.capUp_stage (d : Dev) (f : Cap → Cap) : (d.capUp f).stage = d.stage := rfl
@[simp] theorem Dev.clrIn_stage (d : Dev) (f : Fld) (i : Nat) : (d.clrIn f i).stage = d.stage := rfl
@[simp] theorem Dev.stageUp_stage (d : Dev) (f : Stage → Stage) : (d.stageUp f).stage = f d.stage := rfl
@[simp] theorem Dev.sarUp_stage (d : Dev) (f : Sar → Sar) : (d.sarUp f).stage = d.stage := rfl
@[simp] theorem Dev.putIn_stage (d : Dev) (f : Fld) (i : Nat) (b : Bool) : (d.putIn f i b).stage = d.stage := rfl
@[simp] theorem Dev.canUp_stage (d : Dev) (c : Nat) (f : Can → Can) : (d.canUp c f).stage = d.stage := rfl
@[simp] theorem Dev.chUp_stage (d : Dev) (c : Nat) (f : DrtCh → DrtCh) : (d.chUp c f).stage = d.stage := rfl
@[simp] theorem Dev.bridgeUp_stage (d : Dev) (b : Nat) (f : Bridge → Bridge) : (d.bridgeUp b f).stage = d.stage := rfl

/-! What leaves `dmp` -/

@[simp] theorem Dev.setWord_dmp (d : Dev) (a : Nat) (w : Word) : (d.setWord a w).dmp = d.dmp := rfl
@[simp] theorem Dev.angUp_dmp (d : Dev) (f : Ang → Ang) : (d.angUp f).dmp = d.dmp := rfl
@[simp] theorem Dev.cprUp_dmp (d : Dev) (f : Cpr → Cpr) : (d.cprUp f).dmp = d.dmp := rfl
@[simp] theorem Dev.put_dmp (d : Dev) (f : Fld) (v : Nat) : (d.put f v).dmp = d.dmp := rfl
@[simp] theorem Dev.secUp_dmp (d : Dev) (f : Sec → Sec) : (d.secUp f).dmp = d.dmp := rfl
@[simp] theorem Dev.hrtUp_dmp (d : Dev) (f : Hrt → Hrt) : (d.hrtUp f).dmp = d.dmp := rfl
@[simp] theorem Dev.putB_dmp (d : Dev) (f : Fld) (b : Bool) : (d.putB f b).dmp = d.dmp := rfl
@[simp] theorem Dev.dmpUp_dmp (d : Dev) (f : Dmp → Dmp) : (d.dmpUp f).dmp = f d.dmp := rfl
@[simp] theorem Dev.fbxUp_dmp (d : Dev) (f : Fbx → Fbx) : (d.fbxUp f).dmp = d.dmp := rfl
@[simp] theorem Dev.putI_dmp (d : Dev) (f : Fld) (i : Int) : (d.putI f i).dmp = d.dmp := rfl
@[simp] theorem Dev.fluUp_dmp (d : Dev) (f : Flu → Flu) : (d.fluUp f).dmp = d.dmp := rfl
@[simp] theorem Dev.supUp_dmp (d : Dev) (f : Gsv → Gsv) : (d.supUp f).dmp = d.dmp := rfl
@[simp] theorem Dev.bump_dmp (d : Dev) (f : Fld) (n : Nat) : (d.bump f n).dmp = d.dmp := rfl
@[simp] theorem Dev.hstUp_dmp (d : Dev) (f : Hst → Hst) : (d.hstUp f).dmp = d.dmp := rfl
@[simp] theorem Dev.metUp_dmp (d : Dev) (f : Met → Met) : (d.metUp f).dmp = d.dmp := rfl
@[simp] theorem Dev.wrapInc_dmp (d : Dev) (f : Fld) (n : Nat) : (d.wrapInc f n).dmp = d.dmp := rfl
@[simp] theorem Dev.netUp_dmp (d : Dev) (f : Net → Net) : (d.netUp f).dmp = d.dmp := rfl
@[simp] theorem Dev.pwmUp_dmp (d : Dev) (f : Pwm → Pwm) : (d.pwmUp f).dmp = d.dmp := rfl
@[simp] theorem Dev.setIn_dmp (d : Dev) (f : Fld) (i : Nat) : (d.setIn f i).dmp = d.dmp := rfl
@[simp] theorem Dev.trcUp_dmp (d : Dev) (f : Trc → Trc) : (d.trcUp f).dmp = d.dmp := rfl
@[simp] theorem Dev.capUp_dmp (d : Dev) (f : Cap → Cap) : (d.capUp f).dmp = d.dmp := rfl
@[simp] theorem Dev.clrIn_dmp (d : Dev) (f : Fld) (i : Nat) : (d.clrIn f i).dmp = d.dmp := rfl
@[simp] theorem Dev.stageUp_dmp (d : Dev) (f : Stage → Stage) : (d.stageUp f).dmp = d.dmp := rfl
@[simp] theorem Dev.sarUp_dmp (d : Dev) (f : Sar → Sar) : (d.sarUp f).dmp = d.dmp := rfl
@[simp] theorem Dev.putIn_dmp (d : Dev) (f : Fld) (i : Nat) (b : Bool) : (d.putIn f i b).dmp = d.dmp := rfl
@[simp] theorem Dev.canUp_dmp (d : Dev) (c : Nat) (f : Can → Can) : (d.canUp c f).dmp = d.dmp := rfl
@[simp] theorem Dev.chUp_dmp (d : Dev) (c : Nat) (f : DrtCh → DrtCh) : (d.chUp c f).dmp = d.dmp := rfl
@[simp] theorem Dev.bridgeUp_dmp (d : Dev) (b : Nat) (f : Bridge → Bridge) : (d.bridgeUp b f).dmp = d.dmp := rfl

/-! What leaves `log` -/

@[simp] theorem Dev.setWord_log (d : Dev) (a : Nat) (w : Word) : (d.setWord a w).log = d.log := rfl
@[simp] theorem Dev.angUp_log (d : Dev) (f : Ang → Ang) : (d.angUp f).log = d.log := rfl
@[simp] theorem Dev.cprUp_log (d : Dev) (f : Cpr → Cpr) : (d.cprUp f).log = d.log := rfl
@[simp] theorem Dev.put_log (d : Dev) (f : Fld) (v : Nat) : (d.put f v).log = d.log := rfl
@[simp] theorem Dev.secUp_log (d : Dev) (f : Sec → Sec) : (d.secUp f).log = d.log := rfl
@[simp] theorem Dev.hrtUp_log (d : Dev) (f : Hrt → Hrt) : (d.hrtUp f).log = d.log := rfl
@[simp] theorem Dev.putB_log (d : Dev) (f : Fld) (b : Bool) : (d.putB f b).log = d.log := rfl
@[simp] theorem Dev.dmpUp_log (d : Dev) (f : Dmp → Dmp) : (d.dmpUp f).log = d.log := rfl
@[simp] theorem Dev.fbxUp_log (d : Dev) (f : Fbx → Fbx) : (d.fbxUp f).log = d.log := rfl
@[simp] theorem Dev.putI_log (d : Dev) (f : Fld) (i : Int) : (d.putI f i).log = d.log := rfl
@[simp] theorem Dev.fluUp_log (d : Dev) (f : Flu → Flu) : (d.fluUp f).log = d.log := rfl
@[simp] theorem Dev.supUp_log (d : Dev) (f : Gsv → Gsv) : (d.supUp f).log = d.log := rfl
@[simp] theorem Dev.bump_log (d : Dev) (f : Fld) (n : Nat) : (d.bump f n).log = d.log := rfl
@[simp] theorem Dev.hstUp_log (d : Dev) (f : Hst → Hst) : (d.hstUp f).log = d.log := rfl
@[simp] theorem Dev.metUp_log (d : Dev) (f : Met → Met) : (d.metUp f).log = d.log := rfl
@[simp] theorem Dev.wrapInc_log (d : Dev) (f : Fld) (n : Nat) : (d.wrapInc f n).log = d.log := rfl
@[simp] theorem Dev.netUp_log (d : Dev) (f : Net → Net) : (d.netUp f).log = d.log := rfl
@[simp] theorem Dev.pwmUp_log (d : Dev) (f : Pwm → Pwm) : (d.pwmUp f).log = d.log := rfl
@[simp] theorem Dev.setIn_log (d : Dev) (f : Fld) (i : Nat) : (d.setIn f i).log = d.log := rfl
@[simp] theorem Dev.trcUp_log (d : Dev) (f : Trc → Trc) : (d.trcUp f).log = d.log := rfl
@[simp] theorem Dev.capUp_log (d : Dev) (f : Cap → Cap) : (d.capUp f).log = d.log := rfl
@[simp] theorem Dev.clrIn_log (d : Dev) (f : Fld) (i : Nat) : (d.clrIn f i).log = d.log := rfl
@[simp] theorem Dev.stageUp_log (d : Dev) (f : Stage → Stage) : (d.stageUp f).log = d.log := rfl
@[simp] theorem Dev.sarUp_log (d : Dev) (f : Sar → Sar) : (d.sarUp f).log = d.log := rfl
@[simp] theorem Dev.putIn_log (d : Dev) (f : Fld) (i : Nat) (b : Bool) : (d.putIn f i b).log = d.log := rfl
@[simp] theorem Dev.canUp_log (d : Dev) (c : Nat) (f : Can → Can) : (d.canUp c f).log = d.log := rfl
@[simp] theorem Dev.chUp_log (d : Dev) (c : Nat) (f : DrtCh → DrtCh) : (d.chUp c f).log = d.log := rfl
@[simp] theorem Dev.bridgeUp_log (d : Dev) (b : Nat) (f : Bridge → Bridge) : (d.bridgeUp b f).log = d.log := rfl

/-! What leaves `hst` -/

@[simp] theorem Dev.setWord_hst (d : Dev) (a : Nat) (w : Word) : (d.setWord a w).hst = d.hst := rfl
@[simp] theorem Dev.angUp_hst (d : Dev) (f : Ang → Ang) : (d.angUp f).hst = d.hst := rfl
@[simp] theorem Dev.cprUp_hst (d : Dev) (f : Cpr → Cpr) : (d.cprUp f).hst = d.hst := rfl
@[simp] theorem Dev.put_hst (d : Dev) (f : Fld) (v : Nat) : (d.put f v).hst = d.hst := rfl
@[simp] theorem Dev.secUp_hst (d : Dev) (f : Sec → Sec) : (d.secUp f).hst = d.hst := rfl
@[simp] theorem Dev.hrtUp_hst (d : Dev) (f : Hrt → Hrt) : (d.hrtUp f).hst = d.hst := rfl
@[simp] theorem Dev.putB_hst (d : Dev) (f : Fld) (b : Bool) : (d.putB f b).hst = d.hst := rfl
@[simp] theorem Dev.dmpUp_hst (d : Dev) (f : Dmp → Dmp) : (d.dmpUp f).hst = d.hst := rfl
@[simp] theorem Dev.fbxUp_hst (d : Dev) (f : Fbx → Fbx) : (d.fbxUp f).hst = d.hst := rfl
@[simp] theorem Dev.putI_hst (d : Dev) (f : Fld) (i : Int) : (d.putI f i).hst = d.hst := rfl
@[simp] theorem Dev.fluUp_hst (d : Dev) (f : Flu → Flu) : (d.fluUp f).hst = d.hst := rfl
@[simp] theorem Dev.supUp_hst (d : Dev) (f : Gsv → Gsv) : (d.supUp f).hst = d.hst := rfl
@[simp] theorem Dev.bump_hst (d : Dev) (f : Fld) (n : Nat) : (d.bump f n).hst = d.hst := rfl
@[simp] theorem Dev.hstUp_hst (d : Dev) (f : Hst → Hst) : (d.hstUp f).hst = f d.hst := rfl
@[simp] theorem Dev.metUp_hst (d : Dev) (f : Met → Met) : (d.metUp f).hst = d.hst := rfl
@[simp] theorem Dev.wrapInc_hst (d : Dev) (f : Fld) (n : Nat) : (d.wrapInc f n).hst = d.hst := rfl
@[simp] theorem Dev.netUp_hst (d : Dev) (f : Net → Net) : (d.netUp f).hst = d.hst := rfl
@[simp] theorem Dev.pwmUp_hst (d : Dev) (f : Pwm → Pwm) : (d.pwmUp f).hst = d.hst := rfl
@[simp] theorem Dev.setIn_hst (d : Dev) (f : Fld) (i : Nat) : (d.setIn f i).hst = d.hst := rfl
@[simp] theorem Dev.trcUp_hst (d : Dev) (f : Trc → Trc) : (d.trcUp f).hst = d.hst := rfl
@[simp] theorem Dev.capUp_hst (d : Dev) (f : Cap → Cap) : (d.capUp f).hst = d.hst := rfl
@[simp] theorem Dev.clrIn_hst (d : Dev) (f : Fld) (i : Nat) : (d.clrIn f i).hst = d.hst := rfl
@[simp] theorem Dev.stageUp_hst (d : Dev) (f : Stage → Stage) : (d.stageUp f).hst = d.hst := rfl
@[simp] theorem Dev.sarUp_hst (d : Dev) (f : Sar → Sar) : (d.sarUp f).hst = d.hst := rfl
@[simp] theorem Dev.putIn_hst (d : Dev) (f : Fld) (i : Nat) (b : Bool) : (d.putIn f i b).hst = d.hst := rfl
@[simp] theorem Dev.canUp_hst (d : Dev) (c : Nat) (f : Can → Can) : (d.canUp c f).hst = d.hst := rfl
@[simp] theorem Dev.chUp_hst (d : Dev) (c : Nat) (f : DrtCh → DrtCh) : (d.chUp c f).hst = d.hst := rfl
@[simp] theorem Dev.bridgeUp_hst (d : Dev) (b : Nat) (f : Bridge → Bridge) : (d.bridgeUp b f).hst = d.hst := rfl

/-! What leaves `fbx` -/

@[simp] theorem Dev.setWord_fbx (d : Dev) (a : Nat) (w : Word) : (d.setWord a w).fbx = d.fbx := rfl
@[simp] theorem Dev.angUp_fbx (d : Dev) (f : Ang → Ang) : (d.angUp f).fbx = d.fbx := rfl
@[simp] theorem Dev.cprUp_fbx (d : Dev) (f : Cpr → Cpr) : (d.cprUp f).fbx = d.fbx := rfl
@[simp] theorem Dev.put_fbx (d : Dev) (f : Fld) (v : Nat) : (d.put f v).fbx = d.fbx := rfl
@[simp] theorem Dev.secUp_fbx (d : Dev) (f : Sec → Sec) : (d.secUp f).fbx = d.fbx := rfl
@[simp] theorem Dev.hrtUp_fbx (d : Dev) (f : Hrt → Hrt) : (d.hrtUp f).fbx = d.fbx := rfl
@[simp] theorem Dev.putB_fbx (d : Dev) (f : Fld) (b : Bool) : (d.putB f b).fbx = d.fbx := rfl
@[simp] theorem Dev.dmpUp_fbx (d : Dev) (f : Dmp → Dmp) : (d.dmpUp f).fbx = d.fbx := rfl
@[simp] theorem Dev.fbxUp_fbx (d : Dev) (f : Fbx → Fbx) : (d.fbxUp f).fbx = f d.fbx := rfl
@[simp] theorem Dev.putI_fbx (d : Dev) (f : Fld) (i : Int) : (d.putI f i).fbx = d.fbx := rfl
@[simp] theorem Dev.fluUp_fbx (d : Dev) (f : Flu → Flu) : (d.fluUp f).fbx = d.fbx := rfl
@[simp] theorem Dev.supUp_fbx (d : Dev) (f : Gsv → Gsv) : (d.supUp f).fbx = d.fbx := rfl
@[simp] theorem Dev.bump_fbx (d : Dev) (f : Fld) (n : Nat) : (d.bump f n).fbx = d.fbx := rfl
@[simp] theorem Dev.hstUp_fbx (d : Dev) (f : Hst → Hst) : (d.hstUp f).fbx = d.fbx := rfl
@[simp] theorem Dev.metUp_fbx (d : Dev) (f : Met → Met) : (d.metUp f).fbx = d.fbx := rfl
@[simp] theorem Dev.wrapInc_fbx (d : Dev) (f : Fld) (n : Nat) : (d.wrapInc f n).fbx = d.fbx := rfl
@[simp] theorem Dev.netUp_fbx (d : Dev) (f : Net → Net) : (d.netUp f).fbx = d.fbx := rfl
@[simp] theorem Dev.pwmUp_fbx (d : Dev) (f : Pwm → Pwm) : (d.pwmUp f).fbx = d.fbx := rfl
@[simp] theorem Dev.setIn_fbx (d : Dev) (f : Fld) (i : Nat) : (d.setIn f i).fbx = d.fbx := rfl
@[simp] theorem Dev.trcUp_fbx (d : Dev) (f : Trc → Trc) : (d.trcUp f).fbx = d.fbx := rfl
@[simp] theorem Dev.capUp_fbx (d : Dev) (f : Cap → Cap) : (d.capUp f).fbx = d.fbx := rfl
@[simp] theorem Dev.clrIn_fbx (d : Dev) (f : Fld) (i : Nat) : (d.clrIn f i).fbx = d.fbx := rfl
@[simp] theorem Dev.stageUp_fbx (d : Dev) (f : Stage → Stage) : (d.stageUp f).fbx = d.fbx := rfl
@[simp] theorem Dev.sarUp_fbx (d : Dev) (f : Sar → Sar) : (d.sarUp f).fbx = d.fbx := rfl
@[simp] theorem Dev.putIn_fbx (d : Dev) (f : Fld) (i : Nat) (b : Bool) : (d.putIn f i b).fbx = d.fbx := rfl
@[simp] theorem Dev.canUp_fbx (d : Dev) (c : Nat) (f : Can → Can) : (d.canUp c f).fbx = d.fbx := rfl
@[simp] theorem Dev.chUp_fbx (d : Dev) (c : Nat) (f : DrtCh → DrtCh) : (d.chUp c f).fbx = d.fbx := rfl
@[simp] theorem Dev.bridgeUp_fbx (d : Dev) (b : Nat) (f : Bridge → Bridge) : (d.bridgeUp b f).fbx = d.fbx := rfl

/-! What leaves `sdm` -/

@[simp] theorem Dev.setWord_sdm (d : Dev) (a : Nat) (w : Word) : (d.setWord a w).sdm = d.sdm := rfl
@[simp] theorem Dev.angUp_sdm (d : Dev) (f : Ang → Ang) : (d.angUp f).sdm = d.sdm := rfl
@[simp] theorem Dev.cprUp_sdm (d : Dev) (f : Cpr → Cpr) : (d.cprUp f).sdm = d.sdm := rfl
@[simp] theorem Dev.put_sdm (d : Dev) (f : Fld) (v : Nat) : (d.put f v).sdm = d.sdm := rfl
@[simp] theorem Dev.secUp_sdm (d : Dev) (f : Sec → Sec) : (d.secUp f).sdm = d.sdm := rfl
@[simp] theorem Dev.hrtUp_sdm (d : Dev) (f : Hrt → Hrt) : (d.hrtUp f).sdm = d.sdm := rfl
@[simp] theorem Dev.putB_sdm (d : Dev) (f : Fld) (b : Bool) : (d.putB f b).sdm = d.sdm := rfl
@[simp] theorem Dev.dmpUp_sdm (d : Dev) (f : Dmp → Dmp) : (d.dmpUp f).sdm = d.sdm := rfl
@[simp] theorem Dev.fbxUp_sdm (d : Dev) (f : Fbx → Fbx) : (d.fbxUp f).sdm = d.sdm := rfl
@[simp] theorem Dev.putI_sdm (d : Dev) (f : Fld) (i : Int) : (d.putI f i).sdm = d.sdm := rfl
@[simp] theorem Dev.fluUp_sdm (d : Dev) (f : Flu → Flu) : (d.fluUp f).sdm = d.sdm := rfl
@[simp] theorem Dev.supUp_sdm (d : Dev) (f : Gsv → Gsv) : (d.supUp f).sdm = d.sdm := rfl
@[simp] theorem Dev.bump_sdm (d : Dev) (f : Fld) (n : Nat) : (d.bump f n).sdm = d.sdm := rfl
@[simp] theorem Dev.hstUp_sdm (d : Dev) (f : Hst → Hst) : (d.hstUp f).sdm = d.sdm := rfl
@[simp] theorem Dev.metUp_sdm (d : Dev) (f : Met → Met) : (d.metUp f).sdm = d.sdm := rfl
@[simp] theorem Dev.wrapInc_sdm (d : Dev) (f : Fld) (n : Nat) : (d.wrapInc f n).sdm = d.sdm := rfl
@[simp] theorem Dev.netUp_sdm (d : Dev) (f : Net → Net) : (d.netUp f).sdm = d.sdm := rfl
@[simp] theorem Dev.pwmUp_sdm (d : Dev) (f : Pwm → Pwm) : (d.pwmUp f).sdm = d.sdm := rfl
@[simp] theorem Dev.setIn_sdm (d : Dev) (f : Fld) (i : Nat) : (d.setIn f i).sdm = d.sdm := rfl
@[simp] theorem Dev.trcUp_sdm (d : Dev) (f : Trc → Trc) : (d.trcUp f).sdm = d.sdm := rfl
@[simp] theorem Dev.capUp_sdm (d : Dev) (f : Cap → Cap) : (d.capUp f).sdm = d.sdm := rfl
@[simp] theorem Dev.clrIn_sdm (d : Dev) (f : Fld) (i : Nat) : (d.clrIn f i).sdm = d.sdm := rfl
@[simp] theorem Dev.stageUp_sdm (d : Dev) (f : Stage → Stage) : (d.stageUp f).sdm = d.sdm := rfl
@[simp] theorem Dev.sarUp_sdm (d : Dev) (f : Sar → Sar) : (d.sarUp f).sdm = d.sdm := rfl
@[simp] theorem Dev.putIn_sdm (d : Dev) (f : Fld) (i : Nat) (b : Bool) : (d.putIn f i b).sdm = d.sdm := rfl
@[simp] theorem Dev.canUp_sdm (d : Dev) (c : Nat) (f : Can → Can) : (d.canUp c f).sdm = d.sdm := rfl
@[simp] theorem Dev.chUp_sdm (d : Dev) (c : Nat) (f : DrtCh → DrtCh) : (d.chUp c f).sdm = d.sdm := rfl
@[simp] theorem Dev.bridgeUp_sdm (d : Dev) (b : Nat) (f : Bridge → Bridge) : (d.bridgeUp b f).sdm = d.sdm := rfl

/-! What leaves `sar` -/

@[simp] theorem Dev.setWord_sar (d : Dev) (a : Nat) (w : Word) : (d.setWord a w).sar = d.sar := rfl
@[simp] theorem Dev.angUp_sar (d : Dev) (f : Ang → Ang) : (d.angUp f).sar = d.sar := rfl
@[simp] theorem Dev.cprUp_sar (d : Dev) (f : Cpr → Cpr) : (d.cprUp f).sar = d.sar := rfl
@[simp] theorem Dev.put_sar (d : Dev) (f : Fld) (v : Nat) : (d.put f v).sar = d.sar := rfl
@[simp] theorem Dev.secUp_sar (d : Dev) (f : Sec → Sec) : (d.secUp f).sar = d.sar := rfl
@[simp] theorem Dev.hrtUp_sar (d : Dev) (f : Hrt → Hrt) : (d.hrtUp f).sar = d.sar := rfl
@[simp] theorem Dev.putB_sar (d : Dev) (f : Fld) (b : Bool) : (d.putB f b).sar = d.sar := rfl
@[simp] theorem Dev.dmpUp_sar (d : Dev) (f : Dmp → Dmp) : (d.dmpUp f).sar = d.sar := rfl
@[simp] theorem Dev.fbxUp_sar (d : Dev) (f : Fbx → Fbx) : (d.fbxUp f).sar = d.sar := rfl
@[simp] theorem Dev.putI_sar (d : Dev) (f : Fld) (i : Int) : (d.putI f i).sar = d.sar := rfl
@[simp] theorem Dev.fluUp_sar (d : Dev) (f : Flu → Flu) : (d.fluUp f).sar = d.sar := rfl
@[simp] theorem Dev.supUp_sar (d : Dev) (f : Gsv → Gsv) : (d.supUp f).sar = d.sar := rfl
@[simp] theorem Dev.bump_sar (d : Dev) (f : Fld) (n : Nat) : (d.bump f n).sar = d.sar := rfl
@[simp] theorem Dev.hstUp_sar (d : Dev) (f : Hst → Hst) : (d.hstUp f).sar = d.sar := rfl
@[simp] theorem Dev.metUp_sar (d : Dev) (f : Met → Met) : (d.metUp f).sar = d.sar := rfl
@[simp] theorem Dev.wrapInc_sar (d : Dev) (f : Fld) (n : Nat) : (d.wrapInc f n).sar = d.sar := rfl
@[simp] theorem Dev.netUp_sar (d : Dev) (f : Net → Net) : (d.netUp f).sar = d.sar := rfl
@[simp] theorem Dev.pwmUp_sar (d : Dev) (f : Pwm → Pwm) : (d.pwmUp f).sar = d.sar := rfl
@[simp] theorem Dev.setIn_sar (d : Dev) (f : Fld) (i : Nat) : (d.setIn f i).sar = d.sar := rfl
@[simp] theorem Dev.trcUp_sar (d : Dev) (f : Trc → Trc) : (d.trcUp f).sar = d.sar := rfl
@[simp] theorem Dev.capUp_sar (d : Dev) (f : Cap → Cap) : (d.capUp f).sar = d.sar := rfl
@[simp] theorem Dev.clrIn_sar (d : Dev) (f : Fld) (i : Nat) : (d.clrIn f i).sar = d.sar := rfl
@[simp] theorem Dev.stageUp_sar (d : Dev) (f : Stage → Stage) : (d.stageUp f).sar = d.sar := rfl
@[simp] theorem Dev.sarUp_sar (d : Dev) (f : Sar → Sar) : (d.sarUp f).sar = f d.sar := rfl
@[simp] theorem Dev.putIn_sar (d : Dev) (f : Fld) (i : Nat) (b : Bool) : (d.putIn f i b).sar = d.sar := rfl
@[simp] theorem Dev.canUp_sar (d : Dev) (c : Nat) (f : Can → Can) : (d.canUp c f).sar = d.sar := rfl
@[simp] theorem Dev.chUp_sar (d : Dev) (c : Nat) (f : DrtCh → DrtCh) : (d.chUp c f).sar = d.sar := rfl
@[simp] theorem Dev.bridgeUp_sar (d : Dev) (b : Nat) (f : Bridge → Bridge) : (d.bridgeUp b f).sar = d.sar := rfl

/-! What leaves `met` -/

@[simp] theorem Dev.setWord_met (d : Dev) (a : Nat) (w : Word) : (d.setWord a w).met = d.met := rfl
@[simp] theorem Dev.angUp_met (d : Dev) (f : Ang → Ang) : (d.angUp f).met = d.met := rfl
@[simp] theorem Dev.cprUp_met (d : Dev) (f : Cpr → Cpr) : (d.cprUp f).met = d.met := rfl
@[simp] theorem Dev.put_met (d : Dev) (f : Fld) (v : Nat) : (d.put f v).met = d.met := rfl
@[simp] theorem Dev.secUp_met (d : Dev) (f : Sec → Sec) : (d.secUp f).met = d.met := rfl
@[simp] theorem Dev.hrtUp_met (d : Dev) (f : Hrt → Hrt) : (d.hrtUp f).met = d.met := rfl
@[simp] theorem Dev.putB_met (d : Dev) (f : Fld) (b : Bool) : (d.putB f b).met = d.met := rfl
@[simp] theorem Dev.dmpUp_met (d : Dev) (f : Dmp → Dmp) : (d.dmpUp f).met = d.met := rfl
@[simp] theorem Dev.fbxUp_met (d : Dev) (f : Fbx → Fbx) : (d.fbxUp f).met = d.met := rfl
@[simp] theorem Dev.putI_met (d : Dev) (f : Fld) (i : Int) : (d.putI f i).met = d.met := rfl
@[simp] theorem Dev.fluUp_met (d : Dev) (f : Flu → Flu) : (d.fluUp f).met = d.met := rfl
@[simp] theorem Dev.supUp_met (d : Dev) (f : Gsv → Gsv) : (d.supUp f).met = d.met := rfl
@[simp] theorem Dev.bump_met (d : Dev) (f : Fld) (n : Nat) : (d.bump f n).met = d.met := rfl
@[simp] theorem Dev.hstUp_met (d : Dev) (f : Hst → Hst) : (d.hstUp f).met = d.met := rfl
@[simp] theorem Dev.metUp_met (d : Dev) (f : Met → Met) : (d.metUp f).met = f d.met := rfl
@[simp] theorem Dev.wrapInc_met (d : Dev) (f : Fld) (n : Nat) : (d.wrapInc f n).met = d.met := rfl
@[simp] theorem Dev.netUp_met (d : Dev) (f : Net → Net) : (d.netUp f).met = d.met := rfl
@[simp] theorem Dev.pwmUp_met (d : Dev) (f : Pwm → Pwm) : (d.pwmUp f).met = d.met := rfl
@[simp] theorem Dev.setIn_met (d : Dev) (f : Fld) (i : Nat) : (d.setIn f i).met = d.met := rfl
@[simp] theorem Dev.trcUp_met (d : Dev) (f : Trc → Trc) : (d.trcUp f).met = d.met := rfl
@[simp] theorem Dev.capUp_met (d : Dev) (f : Cap → Cap) : (d.capUp f).met = d.met := rfl
@[simp] theorem Dev.clrIn_met (d : Dev) (f : Fld) (i : Nat) : (d.clrIn f i).met = d.met := rfl
@[simp] theorem Dev.stageUp_met (d : Dev) (f : Stage → Stage) : (d.stageUp f).met = d.met := rfl
@[simp] theorem Dev.sarUp_met (d : Dev) (f : Sar → Sar) : (d.sarUp f).met = d.met := rfl
@[simp] theorem Dev.putIn_met (d : Dev) (f : Fld) (i : Nat) (b : Bool) : (d.putIn f i b).met = d.met := rfl
@[simp] theorem Dev.canUp_met (d : Dev) (c : Nat) (f : Can → Can) : (d.canUp c f).met = d.met := rfl
@[simp] theorem Dev.chUp_met (d : Dev) (c : Nat) (f : DrtCh → DrtCh) : (d.chUp c f).met = d.met := rfl
@[simp] theorem Dev.bridgeUp_met (d : Dev) (b : Nat) (f : Bridge → Bridge) : (d.bridgeUp b f).met = d.met := rfl

/-! What leaves `ang` -/

@[simp] theorem Dev.setWord_ang (d : Dev) (a : Nat) (w : Word) : (d.setWord a w).ang = d.ang := rfl
@[simp] theorem Dev.angUp_ang (d : Dev) (f : Ang → Ang) : (d.angUp f).ang = f d.ang := rfl
@[simp] theorem Dev.cprUp_ang (d : Dev) (f : Cpr → Cpr) : (d.cprUp f).ang = d.ang := rfl
@[simp] theorem Dev.put_ang (d : Dev) (f : Fld) (v : Nat) : (d.put f v).ang = d.ang := rfl
@[simp] theorem Dev.secUp_ang (d : Dev) (f : Sec → Sec) : (d.secUp f).ang = d.ang := rfl
@[simp] theorem Dev.hrtUp_ang (d : Dev) (f : Hrt → Hrt) : (d.hrtUp f).ang = d.ang := rfl
@[simp] theorem Dev.putB_ang (d : Dev) (f : Fld) (b : Bool) : (d.putB f b).ang = d.ang := rfl
@[simp] theorem Dev.dmpUp_ang (d : Dev) (f : Dmp → Dmp) : (d.dmpUp f).ang = d.ang := rfl
@[simp] theorem Dev.fbxUp_ang (d : Dev) (f : Fbx → Fbx) : (d.fbxUp f).ang = d.ang := rfl
@[simp] theorem Dev.putI_ang (d : Dev) (f : Fld) (i : Int) : (d.putI f i).ang = d.ang := rfl
@[simp] theorem Dev.fluUp_ang (d : Dev) (f : Flu → Flu) : (d.fluUp f).ang = d.ang := rfl
@[simp] theorem Dev.supUp_ang (d : Dev) (f : Gsv → Gsv) : (d.supUp f).ang = d.ang := rfl
@[simp] theorem Dev.bump_ang (d : Dev) (f : Fld) (n : Nat) : (d.bump f n).ang = d.ang := rfl
@[simp] theorem Dev.hstUp_ang (d : Dev) (f : Hst → Hst) : (d.hstUp f).ang = d.ang := rfl
@[simp] theorem Dev.metUp_ang (d : Dev) (f : Met → Met) : (d.metUp f).ang = d.ang := rfl
@[simp] theorem Dev.wrapInc_ang (d : Dev) (f : Fld) (n : Nat) : (d.wrapInc f n).ang = d.ang := rfl
@[simp] theorem Dev.netUp_ang (d : Dev) (f : Net → Net) : (d.netUp f).ang = d.ang := rfl
@[simp] theorem Dev.pwmUp_ang (d : Dev) (f : Pwm → Pwm) : (d.pwmUp f).ang = d.ang := rfl
@[simp] theorem Dev.setIn_ang (d : Dev) (f : Fld) (i : Nat) : (d.setIn f i).ang = d.ang := rfl
@[simp] theorem Dev.trcUp_ang (d : Dev) (f : Trc → Trc) : (d.trcUp f).ang = d.ang := rfl
@[simp] theorem Dev.capUp_ang (d : Dev) (f : Cap → Cap) : (d.capUp f).ang = d.ang := rfl
@[simp] theorem Dev.clrIn_ang (d : Dev) (f : Fld) (i : Nat) : (d.clrIn f i).ang = d.ang := rfl
@[simp] theorem Dev.stageUp_ang (d : Dev) (f : Stage → Stage) : (d.stageUp f).ang = d.ang := rfl
@[simp] theorem Dev.sarUp_ang (d : Dev) (f : Sar → Sar) : (d.sarUp f).ang = d.ang := rfl
@[simp] theorem Dev.putIn_ang (d : Dev) (f : Fld) (i : Nat) (b : Bool) : (d.putIn f i b).ang = d.ang := rfl
@[simp] theorem Dev.canUp_ang (d : Dev) (c : Nat) (f : Can → Can) : (d.canUp c f).ang = d.ang := rfl
@[simp] theorem Dev.chUp_ang (d : Dev) (c : Nat) (f : DrtCh → DrtCh) : (d.chUp c f).ang = d.ang := rfl
@[simp] theorem Dev.bridgeUp_ang (d : Dev) (b : Nat) (f : Bridge → Bridge) : (d.bridgeUp b f).ang = d.ang := rfl

/-! What leaves `pwm` -/

@[simp] theorem Dev.setWord_pwm (d : Dev) (a : Nat) (w : Word) : (d.setWord a w).pwm = d.pwm := rfl
@[simp] theorem Dev.angUp_pwm (d : Dev) (f : Ang → Ang) : (d.angUp f).pwm = d.pwm := rfl
@[simp] theorem Dev.cprUp_pwm (d : Dev) (f : Cpr → Cpr) : (d.cprUp f).pwm = d.pwm := rfl
@[simp] theorem Dev.put_pwm (d : Dev) (f : Fld) (v : Nat) : (d.put f v).pwm = d.pwm := rfl
@[simp] theorem Dev.secUp_pwm (d : Dev) (f : Sec → Sec) : (d.secUp f).pwm = d.pwm := rfl
@[simp] theorem Dev.hrtUp_pwm (d : Dev) (f : Hrt → Hrt) : (d.hrtUp f).pwm = d.pwm := rfl
@[simp] theorem Dev.putB_pwm (d : Dev) (f : Fld) (b : Bool) : (d.putB f b).pwm = d.pwm := rfl
@[simp] theorem Dev.dmpUp_pwm (d : Dev) (f : Dmp → Dmp) : (d.dmpUp f).pwm = d.pwm := rfl
@[simp] theorem Dev.fbxUp_pwm (d : Dev) (f : Fbx → Fbx) : (d.fbxUp f).pwm = d.pwm := rfl
@[simp] theorem Dev.putI_pwm (d : Dev) (f : Fld) (i : Int) : (d.putI f i).pwm = d.pwm := rfl
@[simp] theorem Dev.fluUp_pwm (d : Dev) (f : Flu → Flu) : (d.fluUp f).pwm = d.pwm := rfl
@[simp] theorem Dev.supUp_pwm (d : Dev) (f : Gsv → Gsv) : (d.supUp f).pwm = d.pwm := rfl
@[simp] theorem Dev.bump_pwm (d : Dev) (f : Fld) (n : Nat) : (d.bump f n).pwm = d.pwm := rfl
@[simp] theorem Dev.hstUp_pwm (d : Dev) (f : Hst → Hst) : (d.hstUp f).pwm = d.pwm := rfl
@[simp] theorem Dev.metUp_pwm (d : Dev) (f : Met → Met) : (d.metUp f).pwm = d.pwm := rfl
@[simp] theorem Dev.wrapInc_pwm (d : Dev) (f : Fld) (n : Nat) : (d.wrapInc f n).pwm = d.pwm := rfl
@[simp] theorem Dev.netUp_pwm (d : Dev) (f : Net → Net) : (d.netUp f).pwm = d.pwm := rfl
@[simp] theorem Dev.pwmUp_pwm (d : Dev) (f : Pwm → Pwm) : (d.pwmUp f).pwm = f d.pwm := rfl
@[simp] theorem Dev.setIn_pwm (d : Dev) (f : Fld) (i : Nat) : (d.setIn f i).pwm = d.pwm := rfl
@[simp] theorem Dev.trcUp_pwm (d : Dev) (f : Trc → Trc) : (d.trcUp f).pwm = d.pwm := rfl
@[simp] theorem Dev.capUp_pwm (d : Dev) (f : Cap → Cap) : (d.capUp f).pwm = d.pwm := rfl
@[simp] theorem Dev.clrIn_pwm (d : Dev) (f : Fld) (i : Nat) : (d.clrIn f i).pwm = d.pwm := rfl
@[simp] theorem Dev.stageUp_pwm (d : Dev) (f : Stage → Stage) : (d.stageUp f).pwm = d.pwm := rfl
@[simp] theorem Dev.sarUp_pwm (d : Dev) (f : Sar → Sar) : (d.sarUp f).pwm = d.pwm := rfl
@[simp] theorem Dev.putIn_pwm (d : Dev) (f : Fld) (i : Nat) (b : Bool) : (d.putIn f i b).pwm = d.pwm := rfl
@[simp] theorem Dev.canUp_pwm (d : Dev) (c : Nat) (f : Can → Can) : (d.canUp c f).pwm = d.pwm := rfl
@[simp] theorem Dev.chUp_pwm (d : Dev) (c : Nat) (f : DrtCh → DrtCh) : (d.chUp c f).pwm = d.pwm := rfl
@[simp] theorem Dev.bridgeUp_pwm (d : Dev) (b : Nat) (f : Bridge → Bridge) : (d.bridgeUp b f).pwm = d.pwm := rfl

/-! What leaves `hrt` -/

@[simp] theorem Dev.setWord_hrt (d : Dev) (a : Nat) (w : Word) : (d.setWord a w).hrt = d.hrt := rfl
@[simp] theorem Dev.angUp_hrt (d : Dev) (f : Ang → Ang) : (d.angUp f).hrt = d.hrt := rfl
@[simp] theorem Dev.cprUp_hrt (d : Dev) (f : Cpr → Cpr) : (d.cprUp f).hrt = d.hrt := rfl
@[simp] theorem Dev.put_hrt (d : Dev) (f : Fld) (v : Nat) : (d.put f v).hrt = d.hrt := rfl
@[simp] theorem Dev.secUp_hrt (d : Dev) (f : Sec → Sec) : (d.secUp f).hrt = d.hrt := rfl
@[simp] theorem Dev.hrtUp_hrt (d : Dev) (f : Hrt → Hrt) : (d.hrtUp f).hrt = f d.hrt := rfl
@[simp] theorem Dev.putB_hrt (d : Dev) (f : Fld) (b : Bool) : (d.putB f b).hrt = d.hrt := rfl
@[simp] theorem Dev.dmpUp_hrt (d : Dev) (f : Dmp → Dmp) : (d.dmpUp f).hrt = d.hrt := rfl
@[simp] theorem Dev.fbxUp_hrt (d : Dev) (f : Fbx → Fbx) : (d.fbxUp f).hrt = d.hrt := rfl
@[simp] theorem Dev.putI_hrt (d : Dev) (f : Fld) (i : Int) : (d.putI f i).hrt = d.hrt := rfl
@[simp] theorem Dev.fluUp_hrt (d : Dev) (f : Flu → Flu) : (d.fluUp f).hrt = d.hrt := rfl
@[simp] theorem Dev.supUp_hrt (d : Dev) (f : Gsv → Gsv) : (d.supUp f).hrt = d.hrt := rfl
@[simp] theorem Dev.bump_hrt (d : Dev) (f : Fld) (n : Nat) : (d.bump f n).hrt = d.hrt := rfl
@[simp] theorem Dev.hstUp_hrt (d : Dev) (f : Hst → Hst) : (d.hstUp f).hrt = d.hrt := rfl
@[simp] theorem Dev.metUp_hrt (d : Dev) (f : Met → Met) : (d.metUp f).hrt = d.hrt := rfl
@[simp] theorem Dev.wrapInc_hrt (d : Dev) (f : Fld) (n : Nat) : (d.wrapInc f n).hrt = d.hrt := rfl
@[simp] theorem Dev.netUp_hrt (d : Dev) (f : Net → Net) : (d.netUp f).hrt = d.hrt := rfl
@[simp] theorem Dev.pwmUp_hrt (d : Dev) (f : Pwm → Pwm) : (d.pwmUp f).hrt = d.hrt := rfl
@[simp] theorem Dev.setIn_hrt (d : Dev) (f : Fld) (i : Nat) : (d.setIn f i).hrt = d.hrt := rfl
@[simp] theorem Dev.trcUp_hrt (d : Dev) (f : Trc → Trc) : (d.trcUp f).hrt = d.hrt := rfl
@[simp] theorem Dev.capUp_hrt (d : Dev) (f : Cap → Cap) : (d.capUp f).hrt = d.hrt := rfl
@[simp] theorem Dev.clrIn_hrt (d : Dev) (f : Fld) (i : Nat) : (d.clrIn f i).hrt = d.hrt := rfl
@[simp] theorem Dev.stageUp_hrt (d : Dev) (f : Stage → Stage) : (d.stageUp f).hrt = d.hrt := rfl
@[simp] theorem Dev.sarUp_hrt (d : Dev) (f : Sar → Sar) : (d.sarUp f).hrt = d.hrt := rfl
@[simp] theorem Dev.putIn_hrt (d : Dev) (f : Fld) (i : Nat) (b : Bool) : (d.putIn f i b).hrt = d.hrt := rfl
@[simp] theorem Dev.canUp_hrt (d : Dev) (c : Nat) (f : Can → Can) : (d.canUp c f).hrt = d.hrt := rfl
@[simp] theorem Dev.chUp_hrt (d : Dev) (c : Nat) (f : DrtCh → DrtCh) : (d.chUp c f).hrt = d.hrt := rfl
@[simp] theorem Dev.bridgeUp_hrt (d : Dev) (b : Nat) (f : Bridge → Bridge) : (d.bridgeUp b f).hrt = d.hrt := rfl

/-! What leaves `trc` -/

@[simp] theorem Dev.setWord_trc (d : Dev) (a : Nat) (w : Word) : (d.setWord a w).trc = d.trc := rfl
@[simp] theorem Dev.angUp_trc (d : Dev) (f : Ang → Ang) : (d.angUp f).trc = d.trc := rfl
@[simp] theorem Dev.cprUp_trc (d : Dev) (f : Cpr → Cpr) : (d.cprUp f).trc = d.trc := rfl
@[simp] theorem Dev.put_trc (d : Dev) (f : Fld) (v : Nat) : (d.put f v).trc = d.trc := rfl
@[simp] theorem Dev.secUp_trc (d : Dev) (f : Sec → Sec) : (d.secUp f).trc = d.trc := rfl
@[simp] theorem Dev.hrtUp_trc (d : Dev) (f : Hrt → Hrt) : (d.hrtUp f).trc = d.trc := rfl
@[simp] theorem Dev.putB_trc (d : Dev) (f : Fld) (b : Bool) : (d.putB f b).trc = d.trc := rfl
@[simp] theorem Dev.dmpUp_trc (d : Dev) (f : Dmp → Dmp) : (d.dmpUp f).trc = d.trc := rfl
@[simp] theorem Dev.fbxUp_trc (d : Dev) (f : Fbx → Fbx) : (d.fbxUp f).trc = d.trc := rfl
@[simp] theorem Dev.putI_trc (d : Dev) (f : Fld) (i : Int) : (d.putI f i).trc = d.trc := rfl
@[simp] theorem Dev.fluUp_trc (d : Dev) (f : Flu → Flu) : (d.fluUp f).trc = d.trc := rfl
@[simp] theorem Dev.supUp_trc (d : Dev) (f : Gsv → Gsv) : (d.supUp f).trc = d.trc := rfl
@[simp] theorem Dev.bump_trc (d : Dev) (f : Fld) (n : Nat) : (d.bump f n).trc = d.trc := rfl
@[simp] theorem Dev.hstUp_trc (d : Dev) (f : Hst → Hst) : (d.hstUp f).trc = d.trc := rfl
@[simp] theorem Dev.metUp_trc (d : Dev) (f : Met → Met) : (d.metUp f).trc = d.trc := rfl
@[simp] theorem Dev.wrapInc_trc (d : Dev) (f : Fld) (n : Nat) : (d.wrapInc f n).trc = d.trc := rfl
@[simp] theorem Dev.netUp_trc (d : Dev) (f : Net → Net) : (d.netUp f).trc = d.trc := rfl
@[simp] theorem Dev.pwmUp_trc (d : Dev) (f : Pwm → Pwm) : (d.pwmUp f).trc = d.trc := rfl
@[simp] theorem Dev.setIn_trc (d : Dev) (f : Fld) (i : Nat) : (d.setIn f i).trc = d.trc := rfl
@[simp] theorem Dev.trcUp_trc (d : Dev) (f : Trc → Trc) : (d.trcUp f).trc = f d.trc := rfl
@[simp] theorem Dev.capUp_trc (d : Dev) (f : Cap → Cap) : (d.capUp f).trc = d.trc := rfl
@[simp] theorem Dev.clrIn_trc (d : Dev) (f : Fld) (i : Nat) : (d.clrIn f i).trc = d.trc := rfl
@[simp] theorem Dev.stageUp_trc (d : Dev) (f : Stage → Stage) : (d.stageUp f).trc = d.trc := rfl
@[simp] theorem Dev.sarUp_trc (d : Dev) (f : Sar → Sar) : (d.sarUp f).trc = d.trc := rfl
@[simp] theorem Dev.putIn_trc (d : Dev) (f : Fld) (i : Nat) (b : Bool) : (d.putIn f i b).trc = d.trc := rfl
@[simp] theorem Dev.canUp_trc (d : Dev) (c : Nat) (f : Can → Can) : (d.canUp c f).trc = d.trc := rfl
@[simp] theorem Dev.chUp_trc (d : Dev) (c : Nat) (f : DrtCh → DrtCh) : (d.chUp c f).trc = d.trc := rfl
@[simp] theorem Dev.bridgeUp_trc (d : Dev) (b : Nat) (f : Bridge → Bridge) : (d.bridgeUp b f).trc = d.trc := rfl

/-! What leaves `cap` -/

@[simp] theorem Dev.setWord_cap (d : Dev) (a : Nat) (w : Word) : (d.setWord a w).cap = d.cap := rfl
@[simp] theorem Dev.angUp_cap (d : Dev) (f : Ang → Ang) : (d.angUp f).cap = d.cap := rfl
@[simp] theorem Dev.cprUp_cap (d : Dev) (f : Cpr → Cpr) : (d.cprUp f).cap = d.cap := rfl
@[simp] theorem Dev.put_cap (d : Dev) (f : Fld) (v : Nat) : (d.put f v).cap = d.cap := rfl
@[simp] theorem Dev.secUp_cap (d : Dev) (f : Sec → Sec) : (d.secUp f).cap = d.cap := rfl
@[simp] theorem Dev.hrtUp_cap (d : Dev) (f : Hrt → Hrt) : (d.hrtUp f).cap = d.cap := rfl
@[simp] theorem Dev.putB_cap (d : Dev) (f : Fld) (b : Bool) : (d.putB f b).cap = d.cap := rfl
@[simp] theorem Dev.dmpUp_cap (d : Dev) (f : Dmp → Dmp) : (d.dmpUp f).cap = d.cap := rfl
@[simp] theorem Dev.fbxUp_cap (d : Dev) (f : Fbx → Fbx) : (d.fbxUp f).cap = d.cap := rfl
@[simp] theorem Dev.putI_cap (d : Dev) (f : Fld) (i : Int) : (d.putI f i).cap = d.cap := rfl
@[simp] theorem Dev.fluUp_cap (d : Dev) (f : Flu → Flu) : (d.fluUp f).cap = d.cap := rfl
@[simp] theorem Dev.supUp_cap (d : Dev) (f : Gsv → Gsv) : (d.supUp f).cap = d.cap := rfl
@[simp] theorem Dev.bump_cap (d : Dev) (f : Fld) (n : Nat) : (d.bump f n).cap = d.cap := rfl
@[simp] theorem Dev.hstUp_cap (d : Dev) (f : Hst → Hst) : (d.hstUp f).cap = d.cap := rfl
@[simp] theorem Dev.metUp_cap (d : Dev) (f : Met → Met) : (d.metUp f).cap = d.cap := rfl
@[simp] theorem Dev.wrapInc_cap (d : Dev) (f : Fld) (n : Nat) : (d.wrapInc f n).cap = d.cap := rfl
@[simp] theorem Dev.netUp_cap (d : Dev) (f : Net → Net) : (d.netUp f).cap = d.cap := rfl
@[simp] theorem Dev.pwmUp_cap (d : Dev) (f : Pwm → Pwm) : (d.pwmUp f).cap = d.cap := rfl
@[simp] theorem Dev.setIn_cap (d : Dev) (f : Fld) (i : Nat) : (d.setIn f i).cap = d.cap := rfl
@[simp] theorem Dev.trcUp_cap (d : Dev) (f : Trc → Trc) : (d.trcUp f).cap = d.cap := rfl
@[simp] theorem Dev.capUp_cap (d : Dev) (f : Cap → Cap) : (d.capUp f).cap = f d.cap := rfl
@[simp] theorem Dev.clrIn_cap (d : Dev) (f : Fld) (i : Nat) : (d.clrIn f i).cap = d.cap := rfl
@[simp] theorem Dev.stageUp_cap (d : Dev) (f : Stage → Stage) : (d.stageUp f).cap = d.cap := rfl
@[simp] theorem Dev.sarUp_cap (d : Dev) (f : Sar → Sar) : (d.sarUp f).cap = d.cap := rfl
@[simp] theorem Dev.putIn_cap (d : Dev) (f : Fld) (i : Nat) (b : Bool) : (d.putIn f i b).cap = d.cap := rfl
@[simp] theorem Dev.canUp_cap (d : Dev) (c : Nat) (f : Can → Can) : (d.canUp c f).cap = d.cap := rfl
@[simp] theorem Dev.chUp_cap (d : Dev) (c : Nat) (f : DrtCh → DrtCh) : (d.chUp c f).cap = d.cap := rfl
@[simp] theorem Dev.bridgeUp_cap (d : Dev) (b : Nat) (f : Bridge → Bridge) : (d.bridgeUp b f).cap = d.cap := rfl

/-! What leaves `marks` -/

@[simp] theorem Dev.setWord_marks (d : Dev) (a : Nat) (w : Word) : (d.setWord a w).marks = d.marks := rfl
@[simp] theorem Dev.angUp_marks (d : Dev) (f : Ang → Ang) : (d.angUp f).marks = d.marks := rfl
@[simp] theorem Dev.cprUp_marks (d : Dev) (f : Cpr → Cpr) : (d.cprUp f).marks = d.marks := rfl
@[simp] theorem Dev.put_marks (d : Dev) (f : Fld) (v : Nat) : (d.put f v).marks = d.marks := rfl
@[simp] theorem Dev.secUp_marks (d : Dev) (f : Sec → Sec) : (d.secUp f).marks = d.marks := rfl
@[simp] theorem Dev.hrtUp_marks (d : Dev) (f : Hrt → Hrt) : (d.hrtUp f).marks = d.marks := rfl
@[simp] theorem Dev.putB_marks (d : Dev) (f : Fld) (b : Bool) : (d.putB f b).marks = d.marks := rfl
@[simp] theorem Dev.dmpUp_marks (d : Dev) (f : Dmp → Dmp) : (d.dmpUp f).marks = d.marks := rfl
@[simp] theorem Dev.fbxUp_marks (d : Dev) (f : Fbx → Fbx) : (d.fbxUp f).marks = d.marks := rfl
@[simp] theorem Dev.putI_marks (d : Dev) (f : Fld) (i : Int) : (d.putI f i).marks = d.marks := rfl
@[simp] theorem Dev.fluUp_marks (d : Dev) (f : Flu → Flu) : (d.fluUp f).marks = d.marks := rfl
@[simp] theorem Dev.supUp_marks (d : Dev) (f : Gsv → Gsv) : (d.supUp f).marks = d.marks := rfl
@[simp] theorem Dev.bump_marks (d : Dev) (f : Fld) (n : Nat) : (d.bump f n).marks = d.marks := rfl
@[simp] theorem Dev.hstUp_marks (d : Dev) (f : Hst → Hst) : (d.hstUp f).marks = d.marks := rfl
@[simp] theorem Dev.metUp_marks (d : Dev) (f : Met → Met) : (d.metUp f).marks = d.marks := rfl
@[simp] theorem Dev.wrapInc_marks (d : Dev) (f : Fld) (n : Nat) : (d.wrapInc f n).marks = d.marks := rfl
@[simp] theorem Dev.netUp_marks (d : Dev) (f : Net → Net) : (d.netUp f).marks = d.marks := rfl
@[simp] theorem Dev.pwmUp_marks (d : Dev) (f : Pwm → Pwm) : (d.pwmUp f).marks = d.marks := rfl
@[simp] theorem Dev.setIn_marks (d : Dev) (f : Fld) (i : Nat) : (d.setIn f i).marks = d.marks := rfl
@[simp] theorem Dev.trcUp_marks (d : Dev) (f : Trc → Trc) : (d.trcUp f).marks = d.marks := rfl
@[simp] theorem Dev.capUp_marks (d : Dev) (f : Cap → Cap) : (d.capUp f).marks = d.marks := rfl
@[simp] theorem Dev.clrIn_marks (d : Dev) (f : Fld) (i : Nat) : (d.clrIn f i).marks = d.marks := rfl
@[simp] theorem Dev.stageUp_marks (d : Dev) (f : Stage → Stage) : (d.stageUp f).marks = d.marks := rfl
@[simp] theorem Dev.sarUp_marks (d : Dev) (f : Sar → Sar) : (d.sarUp f).marks = d.marks := rfl
@[simp] theorem Dev.putIn_marks (d : Dev) (f : Fld) (i : Nat) (b : Bool) : (d.putIn f i b).marks = d.marks := rfl
@[simp] theorem Dev.canUp_marks (d : Dev) (c : Nat) (f : Can → Can) : (d.canUp c f).marks = d.marks := rfl
@[simp] theorem Dev.chUp_marks (d : Dev) (c : Nat) (f : DrtCh → DrtCh) : (d.chUp c f).marks = d.marks := rfl
@[simp] theorem Dev.bridgeUp_marks (d : Dev) (b : Nat) (f : Bridge → Bridge) : (d.bridgeUp b f).marks = d.marks := rfl

/-! What leaves `sup` -/

@[simp] theorem Dev.setWord_sup (d : Dev) (a : Nat) (w : Word) : (d.setWord a w).sup = d.sup := rfl
@[simp] theorem Dev.angUp_sup (d : Dev) (f : Ang → Ang) : (d.angUp f).sup = d.sup := rfl
@[simp] theorem Dev.cprUp_sup (d : Dev) (f : Cpr → Cpr) : (d.cprUp f).sup = d.sup := rfl
@[simp] theorem Dev.put_sup (d : Dev) (f : Fld) (v : Nat) : (d.put f v).sup = d.sup := rfl
@[simp] theorem Dev.secUp_sup (d : Dev) (f : Sec → Sec) : (d.secUp f).sup = d.sup := rfl
@[simp] theorem Dev.hrtUp_sup (d : Dev) (f : Hrt → Hrt) : (d.hrtUp f).sup = d.sup := rfl
@[simp] theorem Dev.putB_sup (d : Dev) (f : Fld) (b : Bool) : (d.putB f b).sup = d.sup := rfl
@[simp] theorem Dev.dmpUp_sup (d : Dev) (f : Dmp → Dmp) : (d.dmpUp f).sup = d.sup := rfl
@[simp] theorem Dev.fbxUp_sup (d : Dev) (f : Fbx → Fbx) : (d.fbxUp f).sup = d.sup := rfl
@[simp] theorem Dev.putI_sup (d : Dev) (f : Fld) (i : Int) : (d.putI f i).sup = d.sup := rfl
@[simp] theorem Dev.fluUp_sup (d : Dev) (f : Flu → Flu) : (d.fluUp f).sup = d.sup := rfl
@[simp] theorem Dev.supUp_sup (d : Dev) (f : Gsv → Gsv) : (d.supUp f).sup = f d.sup := rfl
@[simp] theorem Dev.bump_sup (d : Dev) (f : Fld) (n : Nat) : (d.bump f n).sup = d.sup := rfl
@[simp] theorem Dev.hstUp_sup (d : Dev) (f : Hst → Hst) : (d.hstUp f).sup = d.sup := rfl
@[simp] theorem Dev.metUp_sup (d : Dev) (f : Met → Met) : (d.metUp f).sup = d.sup := rfl
@[simp] theorem Dev.wrapInc_sup (d : Dev) (f : Fld) (n : Nat) : (d.wrapInc f n).sup = d.sup := rfl
@[simp] theorem Dev.netUp_sup (d : Dev) (f : Net → Net) : (d.netUp f).sup = d.sup := rfl
@[simp] theorem Dev.pwmUp_sup (d : Dev) (f : Pwm → Pwm) : (d.pwmUp f).sup = d.sup := rfl
@[simp] theorem Dev.setIn_sup (d : Dev) (f : Fld) (i : Nat) : (d.setIn f i).sup = d.sup := rfl
@[simp] theorem Dev.trcUp_sup (d : Dev) (f : Trc → Trc) : (d.trcUp f).sup = d.sup := rfl
@[simp] theorem Dev.capUp_sup (d : Dev) (f : Cap → Cap) : (d.capUp f).sup = d.sup := rfl
@[simp] theorem Dev.clrIn_sup (d : Dev) (f : Fld) (i : Nat) : (d.clrIn f i).sup = d.sup := rfl
@[simp] theorem Dev.stageUp_sup (d : Dev) (f : Stage → Stage) : (d.stageUp f).sup = d.sup := rfl
@[simp] theorem Dev.sarUp_sup (d : Dev) (f : Sar → Sar) : (d.sarUp f).sup = d.sup := rfl
@[simp] theorem Dev.putIn_sup (d : Dev) (f : Fld) (i : Nat) (b : Bool) : (d.putIn f i b).sup = d.sup := rfl
@[simp] theorem Dev.canUp_sup (d : Dev) (c : Nat) (f : Can → Can) : (d.canUp c f).sup = d.sup := rfl
@[simp] theorem Dev.chUp_sup (d : Dev) (c : Nat) (f : DrtCh → DrtCh) : (d.chUp c f).sup = d.sup := rfl
@[simp] theorem Dev.bridgeUp_sup (d : Dev) (b : Nat) (f : Bridge → Bridge) : (d.bridgeUp b f).sup = d.sup := rfl

/-! What leaves `gdr` -/

@[simp] theorem Dev.setWord_gdr (d : Dev) (a : Nat) (w : Word) : (d.setWord a w).gdr = d.gdr := rfl
@[simp] theorem Dev.angUp_gdr (d : Dev) (f : Ang → Ang) : (d.angUp f).gdr = d.gdr := rfl
@[simp] theorem Dev.cprUp_gdr (d : Dev) (f : Cpr → Cpr) : (d.cprUp f).gdr = d.gdr := rfl
@[simp] theorem Dev.put_gdr (d : Dev) (f : Fld) (v : Nat) : (d.put f v).gdr = d.gdr := rfl
@[simp] theorem Dev.secUp_gdr (d : Dev) (f : Sec → Sec) : (d.secUp f).gdr = d.gdr := rfl
@[simp] theorem Dev.hrtUp_gdr (d : Dev) (f : Hrt → Hrt) : (d.hrtUp f).gdr = d.gdr := rfl
@[simp] theorem Dev.putB_gdr (d : Dev) (f : Fld) (b : Bool) : (d.putB f b).gdr = d.gdr := rfl
@[simp] theorem Dev.dmpUp_gdr (d : Dev) (f : Dmp → Dmp) : (d.dmpUp f).gdr = d.gdr := rfl
@[simp] theorem Dev.fbxUp_gdr (d : Dev) (f : Fbx → Fbx) : (d.fbxUp f).gdr = d.gdr := rfl
@[simp] theorem Dev.putI_gdr (d : Dev) (f : Fld) (i : Int) : (d.putI f i).gdr = d.gdr := rfl
@[simp] theorem Dev.fluUp_gdr (d : Dev) (f : Flu → Flu) : (d.fluUp f).gdr = d.gdr := rfl
@[simp] theorem Dev.supUp_gdr (d : Dev) (f : Gsv → Gsv) : (d.supUp f).gdr = d.gdr := rfl
@[simp] theorem Dev.bump_gdr (d : Dev) (f : Fld) (n : Nat) : (d.bump f n).gdr = d.gdr := rfl
@[simp] theorem Dev.hstUp_gdr (d : Dev) (f : Hst → Hst) : (d.hstUp f).gdr = d.gdr := rfl
@[simp] theorem Dev.metUp_gdr (d : Dev) (f : Met → Met) : (d.metUp f).gdr = d.gdr := rfl
@[simp] theorem Dev.wrapInc_gdr (d : Dev) (f : Fld) (n : Nat) : (d.wrapInc f n).gdr = d.gdr := rfl
@[simp] theorem Dev.netUp_gdr (d : Dev) (f : Net → Net) : (d.netUp f).gdr = d.gdr := rfl
@[simp] theorem Dev.pwmUp_gdr (d : Dev) (f : Pwm → Pwm) : (d.pwmUp f).gdr = d.gdr := rfl
@[simp] theorem Dev.setIn_gdr (d : Dev) (f : Fld) (i : Nat) : (d.setIn f i).gdr = d.gdr := rfl
@[simp] theorem Dev.trcUp_gdr (d : Dev) (f : Trc → Trc) : (d.trcUp f).gdr = d.gdr := rfl
@[simp] theorem Dev.capUp_gdr (d : Dev) (f : Cap → Cap) : (d.capUp f).gdr = d.gdr := rfl
@[simp] theorem Dev.clrIn_gdr (d : Dev) (f : Fld) (i : Nat) : (d.clrIn f i).gdr = d.gdr := rfl
@[simp] theorem Dev.stageUp_gdr (d : Dev) (f : Stage → Stage) : (d.stageUp f).gdr = d.gdr := rfl
@[simp] theorem Dev.sarUp_gdr (d : Dev) (f : Sar → Sar) : (d.sarUp f).gdr = d.gdr := rfl
@[simp] theorem Dev.putIn_gdr (d : Dev) (f : Fld) (i : Nat) (b : Bool) : (d.putIn f i b).gdr = d.gdr := rfl
@[simp] theorem Dev.canUp_gdr (d : Dev) (c : Nat) (f : Can → Can) : (d.canUp c f).gdr = d.gdr := rfl
@[simp] theorem Dev.chUp_gdr (d : Dev) (c : Nat) (f : DrtCh → DrtCh) : (d.chUp c f).gdr = d.gdr := rfl

/-! What leaves `drt` -/

@[simp] theorem Dev.setWord_drt (d : Dev) (a : Nat) (w : Word) : (d.setWord a w).drt = d.drt := rfl
@[simp] theorem Dev.angUp_drt (d : Dev) (f : Ang → Ang) : (d.angUp f).drt = d.drt := rfl
@[simp] theorem Dev.cprUp_drt (d : Dev) (f : Cpr → Cpr) : (d.cprUp f).drt = d.drt := rfl
@[simp] theorem Dev.put_drt (d : Dev) (f : Fld) (v : Nat) : (d.put f v).drt = d.drt := rfl
@[simp] theorem Dev.secUp_drt (d : Dev) (f : Sec → Sec) : (d.secUp f).drt = d.drt := rfl
@[simp] theorem Dev.hrtUp_drt (d : Dev) (f : Hrt → Hrt) : (d.hrtUp f).drt = d.drt := rfl
@[simp] theorem Dev.putB_drt (d : Dev) (f : Fld) (b : Bool) : (d.putB f b).drt = d.drt := rfl
@[simp] theorem Dev.dmpUp_drt (d : Dev) (f : Dmp → Dmp) : (d.dmpUp f).drt = d.drt := rfl
@[simp] theorem Dev.fbxUp_drt (d : Dev) (f : Fbx → Fbx) : (d.fbxUp f).drt = d.drt := rfl
@[simp] theorem Dev.putI_drt (d : Dev) (f : Fld) (i : Int) : (d.putI f i).drt = d.drt := rfl
@[simp] theorem Dev.fluUp_drt (d : Dev) (f : Flu → Flu) : (d.fluUp f).drt = d.drt := rfl
@[simp] theorem Dev.supUp_drt (d : Dev) (f : Gsv → Gsv) : (d.supUp f).drt = d.drt := rfl
@[simp] theorem Dev.bump_drt (d : Dev) (f : Fld) (n : Nat) : (d.bump f n).drt = d.drt := rfl
@[simp] theorem Dev.hstUp_drt (d : Dev) (f : Hst → Hst) : (d.hstUp f).drt = d.drt := rfl
@[simp] theorem Dev.metUp_drt (d : Dev) (f : Met → Met) : (d.metUp f).drt = d.drt := rfl
@[simp] theorem Dev.wrapInc_drt (d : Dev) (f : Fld) (n : Nat) : (d.wrapInc f n).drt = d.drt := rfl
@[simp] theorem Dev.netUp_drt (d : Dev) (f : Net → Net) : (d.netUp f).drt = d.drt := rfl
@[simp] theorem Dev.pwmUp_drt (d : Dev) (f : Pwm → Pwm) : (d.pwmUp f).drt = d.drt := rfl
@[simp] theorem Dev.setIn_drt (d : Dev) (f : Fld) (i : Nat) : (d.setIn f i).drt = d.drt := rfl
@[simp] theorem Dev.trcUp_drt (d : Dev) (f : Trc → Trc) : (d.trcUp f).drt = d.drt := rfl
@[simp] theorem Dev.capUp_drt (d : Dev) (f : Cap → Cap) : (d.capUp f).drt = d.drt := rfl
@[simp] theorem Dev.clrIn_drt (d : Dev) (f : Fld) (i : Nat) : (d.clrIn f i).drt = d.drt := rfl
@[simp] theorem Dev.stageUp_drt (d : Dev) (f : Stage → Stage) : (d.stageUp f).drt = d.drt := rfl
@[simp] theorem Dev.sarUp_drt (d : Dev) (f : Sar → Sar) : (d.sarUp f).drt = d.drt := rfl
@[simp] theorem Dev.putIn_drt (d : Dev) (f : Fld) (i : Nat) (b : Bool) : (d.putIn f i b).drt = d.drt := rfl
@[simp] theorem Dev.canUp_drt (d : Dev) (c : Nat) (f : Can → Can) : (d.canUp c f).drt = d.drt := rfl
@[simp] theorem Dev.chUp_drt (d : Dev) (c : Nat) (f : DrtCh → DrtCh) : (d.chUp c f).drt = upd d.drt c f := rfl
@[simp] theorem Dev.bridgeUp_drt (d : Dev) (b : Nat) (f : Bridge → Bridge) : (d.bridgeUp b f).drt = d.drt := rfl

/-! What leaves `can` -/

@[simp] theorem Dev.setWord_can (d : Dev) (a : Nat) (w : Word) : (d.setWord a w).can = d.can := rfl
@[simp] theorem Dev.angUp_can (d : Dev) (f : Ang → Ang) : (d.angUp f).can = d.can := rfl
@[simp] theorem Dev.cprUp_can (d : Dev) (f : Cpr → Cpr) : (d.cprUp f).can = d.can := rfl
@[simp] theorem Dev.put_can (d : Dev) (f : Fld) (v : Nat) : (d.put f v).can = d.can := rfl
@[simp] theorem Dev.secUp_can (d : Dev) (f : Sec → Sec) : (d.secUp f).can = d.can := rfl
@[simp] theorem Dev.hrtUp_can (d : Dev) (f : Hrt → Hrt) : (d.hrtUp f).can = d.can := rfl
@[simp] theorem Dev.putB_can (d : Dev) (f : Fld) (b : Bool) : (d.putB f b).can = d.can := rfl
@[simp] theorem Dev.dmpUp_can (d : Dev) (f : Dmp → Dmp) : (d.dmpUp f).can = d.can := rfl
@[simp] theorem Dev.fbxUp_can (d : Dev) (f : Fbx → Fbx) : (d.fbxUp f).can = d.can := rfl
@[simp] theorem Dev.putI_can (d : Dev) (f : Fld) (i : Int) : (d.putI f i).can = d.can := rfl
@[simp] theorem Dev.fluUp_can (d : Dev) (f : Flu → Flu) : (d.fluUp f).can = d.can := rfl
@[simp] theorem Dev.supUp_can (d : Dev) (f : Gsv → Gsv) : (d.supUp f).can = d.can := rfl
@[simp] theorem Dev.bump_can (d : Dev) (f : Fld) (n : Nat) : (d.bump f n).can = d.can := rfl
@[simp] theorem Dev.hstUp_can (d : Dev) (f : Hst → Hst) : (d.hstUp f).can = d.can := rfl
@[simp] theorem Dev.metUp_can (d : Dev) (f : Met → Met) : (d.metUp f).can = d.can := rfl
@[simp] theorem Dev.wrapInc_can (d : Dev) (f : Fld) (n : Nat) : (d.wrapInc f n).can = d.can := rfl
@[simp] theorem Dev.netUp_can (d : Dev) (f : Net → Net) : (d.netUp f).can = d.can := rfl
@[simp] theorem Dev.pwmUp_can (d : Dev) (f : Pwm → Pwm) : (d.pwmUp f).can = d.can := rfl
@[simp] theorem Dev.setIn_can (d : Dev) (f : Fld) (i : Nat) : (d.setIn f i).can = d.can := rfl
@[simp] theorem Dev.trcUp_can (d : Dev) (f : Trc → Trc) : (d.trcUp f).can = d.can := rfl
@[simp] theorem Dev.capUp_can (d : Dev) (f : Cap → Cap) : (d.capUp f).can = d.can := rfl
@[simp] theorem Dev.clrIn_can (d : Dev) (f : Fld) (i : Nat) : (d.clrIn f i).can = d.can := rfl
@[simp] theorem Dev.stageUp_can (d : Dev) (f : Stage → Stage) : (d.stageUp f).can = d.can := rfl
@[simp] theorem Dev.sarUp_can (d : Dev) (f : Sar → Sar) : (d.sarUp f).can = d.can := rfl
@[simp] theorem Dev.putIn_can (d : Dev) (f : Fld) (i : Nat) (b : Bool) : (d.putIn f i b).can = d.can := rfl
@[simp] theorem Dev.canUp_can (d : Dev) (c : Nat) (f : Can → Can) : (d.canUp c f).can = upd d.can c f := rfl
@[simp] theorem Dev.chUp_can (d : Dev) (c : Nat) (f : DrtCh → DrtCh) : (d.chUp c f).can = d.can := rfl
@[simp] theorem Dev.bridgeUp_can (d : Dev) (b : Nat) (f : Bridge → Bridge) : (d.bridgeUp b f).can = d.can := rfl

/-! What leaves `net` -/

@[simp] theorem Dev.setWord_net (d : Dev) (a : Nat) (w : Word) : (d.setWord a w).net = d.net := rfl
@[simp] theorem Dev.angUp_net (d : Dev) (f : Ang → Ang) : (d.angUp f).net = d.net := rfl
@[simp] theorem Dev.cprUp_net (d : Dev) (f : Cpr → Cpr) : (d.cprUp f).net = d.net := rfl
@[simp] theorem Dev.put_net (d : Dev) (f : Fld) (v : Nat) : (d.put f v).net = d.net := rfl
@[simp] theorem Dev.secUp_net (d : Dev) (f : Sec → Sec) : (d.secUp f).net = d.net := rfl
@[simp] theorem Dev.hrtUp_net (d : Dev) (f : Hrt → Hrt) : (d.hrtUp f).net = d.net := rfl
@[simp] theorem Dev.putB_net (d : Dev) (f : Fld) (b : Bool) : (d.putB f b).net = d.net := rfl
@[simp] theorem Dev.dmpUp_net (d : Dev) (f : Dmp → Dmp) : (d.dmpUp f).net = d.net := rfl
@[simp] theorem Dev.fbxUp_net (d : Dev) (f : Fbx → Fbx) : (d.fbxUp f).net = d.net := rfl
@[simp] theorem Dev.putI_net (d : Dev) (f : Fld) (i : Int) : (d.putI f i).net = d.net := rfl
@[simp] theorem Dev.fluUp_net (d : Dev) (f : Flu → Flu) : (d.fluUp f).net = d.net := rfl
@[simp] theorem Dev.supUp_net (d : Dev) (f : Gsv → Gsv) : (d.supUp f).net = d.net := rfl
@[simp] theorem Dev.bump_net (d : Dev) (f : Fld) (n : Nat) : (d.bump f n).net = d.net := rfl
@[simp] theorem Dev.hstUp_net (d : Dev) (f : Hst → Hst) : (d.hstUp f).net = d.net := rfl
@[simp] theorem Dev.metUp_net (d : Dev) (f : Met → Met) : (d.metUp f).net = d.net := rfl
@[simp] theorem Dev.wrapInc_net (d : Dev) (f : Fld) (n : Nat) : (d.wrapInc f n).net = d.net := rfl
@[simp] theorem Dev.netUp_net (d : Dev) (f : Net → Net) : (d.netUp f).net = f d.net := rfl
@[simp] theorem Dev.pwmUp_net (d : Dev) (f : Pwm → Pwm) : (d.pwmUp f).net = d.net := rfl
@[simp] theorem Dev.setIn_net (d : Dev) (f : Fld) (i : Nat) : (d.setIn f i).net = d.net := rfl
@[simp] theorem Dev.trcUp_net (d : Dev) (f : Trc → Trc) : (d.trcUp f).net = d.net := rfl
@[simp] theorem Dev.capUp_net (d : Dev) (f : Cap → Cap) : (d.capUp f).net = d.net := rfl
@[simp] theorem Dev.clrIn_net (d : Dev) (f : Fld) (i : Nat) : (d.clrIn f i).net = d.net := rfl
@[simp] theorem Dev.stageUp_net (d : Dev) (f : Stage → Stage) : (d.stageUp f).net = d.net := rfl
@[simp] theorem Dev.sarUp_net (d : Dev) (f : Sar → Sar) : (d.sarUp f).net = d.net := rfl
@[simp] theorem Dev.putIn_net (d : Dev) (f : Fld) (i : Nat) (b : Bool) : (d.putIn f i b).net = d.net := rfl
@[simp] theorem Dev.canUp_net (d : Dev) (c : Nat) (f : Can → Can) : (d.canUp c f).net = d.net := rfl
@[simp] theorem Dev.chUp_net (d : Dev) (c : Nat) (f : DrtCh → DrtCh) : (d.chUp c f).net = d.net := rfl
@[simp] theorem Dev.bridgeUp_net (d : Dev) (b : Nat) (f : Bridge → Bridge) : (d.bridgeUp b f).net = d.net := rfl

/-! What leaves `flu` -/

@[simp] theorem Dev.setWord_flu (d : Dev) (a : Nat) (w : Word) : (d.setWord a w).flu = d.flu := rfl
@[simp] theorem Dev.angUp_flu (d : Dev) (f : Ang → Ang) : (d.angUp f).flu = d.flu := rfl
@[simp] theorem Dev.cprUp_flu (d : Dev) (f : Cpr → Cpr) : (d.cprUp f).flu = d.flu := rfl
@[simp] theorem Dev.put_flu (d : Dev) (f : Fld) (v : Nat) : (d.put f v).flu = d.flu := rfl
@[simp] theorem Dev.secUp_flu (d : Dev) (f : Sec → Sec) : (d.secUp f).flu = d.flu := rfl
@[simp] theorem Dev.hrtUp_flu (d : Dev) (f : Hrt → Hrt) : (d.hrtUp f).flu = d.flu := rfl
@[simp] theorem Dev.putB_flu (d : Dev) (f : Fld) (b : Bool) : (d.putB f b).flu = d.flu := rfl
@[simp] theorem Dev.dmpUp_flu (d : Dev) (f : Dmp → Dmp) : (d.dmpUp f).flu = d.flu := rfl
@[simp] theorem Dev.fbxUp_flu (d : Dev) (f : Fbx → Fbx) : (d.fbxUp f).flu = d.flu := rfl
@[simp] theorem Dev.putI_flu (d : Dev) (f : Fld) (i : Int) : (d.putI f i).flu = d.flu := rfl
@[simp] theorem Dev.fluUp_flu (d : Dev) (f : Flu → Flu) : (d.fluUp f).flu = f d.flu := rfl
@[simp] theorem Dev.supUp_flu (d : Dev) (f : Gsv → Gsv) : (d.supUp f).flu = d.flu := rfl
@[simp] theorem Dev.bump_flu (d : Dev) (f : Fld) (n : Nat) : (d.bump f n).flu = d.flu := rfl
@[simp] theorem Dev.hstUp_flu (d : Dev) (f : Hst → Hst) : (d.hstUp f).flu = d.flu := rfl
@[simp] theorem Dev.metUp_flu (d : Dev) (f : Met → Met) : (d.metUp f).flu = d.flu := rfl
@[simp] theorem Dev.wrapInc_flu (d : Dev) (f : Fld) (n : Nat) : (d.wrapInc f n).flu = d.flu := rfl
@[simp] theorem Dev.netUp_flu (d : Dev) (f : Net → Net) : (d.netUp f).flu = d.flu := rfl
@[simp] theorem Dev.pwmUp_flu (d : Dev) (f : Pwm → Pwm) : (d.pwmUp f).flu = d.flu := rfl
@[simp] theorem Dev.setIn_flu (d : Dev) (f : Fld) (i : Nat) : (d.setIn f i).flu = d.flu := rfl
@[simp] theorem Dev.trcUp_flu (d : Dev) (f : Trc → Trc) : (d.trcUp f).flu = d.flu := rfl
@[simp] theorem Dev.capUp_flu (d : Dev) (f : Cap → Cap) : (d.capUp f).flu = d.flu := rfl
@[simp] theorem Dev.clrIn_flu (d : Dev) (f : Fld) (i : Nat) : (d.clrIn f i).flu = d.flu := rfl
@[simp] theorem Dev.stageUp_flu (d : Dev) (f : Stage → Stage) : (d.stageUp f).flu = d.flu := rfl
@[simp] theorem Dev.sarUp_flu (d : Dev) (f : Sar → Sar) : (d.sarUp f).flu = d.flu := rfl
@[simp] theorem Dev.putIn_flu (d : Dev) (f : Fld) (i : Nat) (b : Bool) : (d.putIn f i b).flu = d.flu := rfl
@[simp] theorem Dev.canUp_flu (d : Dev) (c : Nat) (f : Can → Can) : (d.canUp c f).flu = d.flu := rfl
@[simp] theorem Dev.chUp_flu (d : Dev) (c : Nat) (f : DrtCh → DrtCh) : (d.chUp c f).flu = d.flu := rfl
@[simp] theorem Dev.bridgeUp_flu (d : Dev) (b : Nat) (f : Bridge → Bridge) : (d.bridgeUp b f).flu = d.flu := rfl

/-! What leaves `cpr` -/

@[simp] theorem Dev.setWord_cpr (d : Dev) (a : Nat) (w : Word) : (d.setWord a w).cpr = d.cpr := rfl
@[simp] theorem Dev.angUp_cpr (d : Dev) (f : Ang → Ang) : (d.angUp f).cpr = d.cpr := rfl
@[simp] theorem Dev.cprUp_cpr (d : Dev) (f : Cpr → Cpr) : (d.cprUp f).cpr = f d.cpr := rfl
@[simp] theorem Dev.put_cpr (d : Dev) (f : Fld) (v : Nat) : (d.put f v).cpr = d.cpr := rfl
@[simp] theorem Dev.secUp_cpr (d : Dev) (f : Sec → Sec) : (d.secUp f).cpr = d.cpr := rfl
@[simp] theorem Dev.hrtUp_cpr (d : Dev) (f : Hrt → Hrt) : (d.hrtUp f).cpr = d.cpr := rfl
@[simp] theorem Dev.putB_cpr (d : Dev) (f : Fld) (b : Bool) : (d.putB f b).cpr = d.cpr := rfl
@[simp] theorem Dev.dmpUp_cpr (d : Dev) (f : Dmp → Dmp) : (d.dmpUp f).cpr = d.cpr := rfl
@[simp] theorem Dev.fbxUp_cpr (d : Dev) (f : Fbx → Fbx) : (d.fbxUp f).cpr = d.cpr := rfl
@[simp] theorem Dev.putI_cpr (d : Dev) (f : Fld) (i : Int) : (d.putI f i).cpr = d.cpr := rfl
@[simp] theorem Dev.fluUp_cpr (d : Dev) (f : Flu → Flu) : (d.fluUp f).cpr = d.cpr := rfl
@[simp] theorem Dev.supUp_cpr (d : Dev) (f : Gsv → Gsv) : (d.supUp f).cpr = d.cpr := rfl
@[simp] theorem Dev.bump_cpr (d : Dev) (f : Fld) (n : Nat) : (d.bump f n).cpr = d.cpr := rfl
@[simp] theorem Dev.hstUp_cpr (d : Dev) (f : Hst → Hst) : (d.hstUp f).cpr = d.cpr := rfl
@[simp] theorem Dev.metUp_cpr (d : Dev) (f : Met → Met) : (d.metUp f).cpr = d.cpr := rfl
@[simp] theorem Dev.wrapInc_cpr (d : Dev) (f : Fld) (n : Nat) : (d.wrapInc f n).cpr = d.cpr := rfl
@[simp] theorem Dev.netUp_cpr (d : Dev) (f : Net → Net) : (d.netUp f).cpr = d.cpr := rfl
@[simp] theorem Dev.pwmUp_cpr (d : Dev) (f : Pwm → Pwm) : (d.pwmUp f).cpr = d.cpr := rfl
@[simp] theorem Dev.setIn_cpr (d : Dev) (f : Fld) (i : Nat) : (d.setIn f i).cpr = d.cpr := rfl
@[simp] theorem Dev.trcUp_cpr (d : Dev) (f : Trc → Trc) : (d.trcUp f).cpr = d.cpr := rfl
@[simp] theorem Dev.capUp_cpr (d : Dev) (f : Cap → Cap) : (d.capUp f).cpr = d.cpr := rfl
@[simp] theorem Dev.clrIn_cpr (d : Dev) (f : Fld) (i : Nat) : (d.clrIn f i).cpr = d.cpr := rfl
@[simp] theorem Dev.stageUp_cpr (d : Dev) (f : Stage → Stage) : (d.stageUp f).cpr = d.cpr := rfl
@[simp] theorem Dev.sarUp_cpr (d : Dev) (f : Sar → Sar) : (d.sarUp f).cpr = d.cpr := rfl
@[simp] theorem Dev.putIn_cpr (d : Dev) (f : Fld) (i : Nat) (b : Bool) : (d.putIn f i b).cpr = d.cpr := rfl
@[simp] theorem Dev.canUp_cpr (d : Dev) (c : Nat) (f : Can → Can) : (d.canUp c f).cpr = d.cpr := rfl
@[simp] theorem Dev.chUp_cpr (d : Dev) (c : Nat) (f : DrtCh → DrtCh) : (d.chUp c f).cpr = d.cpr := rfl
@[simp] theorem Dev.bridgeUp_cpr (d : Dev) (b : Nat) (f : Bridge → Bridge) : (d.bridgeUp b f).cpr = d.cpr := rfl

/-! What leaves `sec` -/

@[simp] theorem Dev.setWord_sec (d : Dev) (a : Nat) (w : Word) : (d.setWord a w).sec = d.sec := rfl
@[simp] theorem Dev.angUp_sec (d : Dev) (f : Ang → Ang) : (d.angUp f).sec = d.sec := rfl
@[simp] theorem Dev.cprUp_sec (d : Dev) (f : Cpr → Cpr) : (d.cprUp f).sec = d.sec := rfl
@[simp] theorem Dev.put_sec (d : Dev) (f : Fld) (v : Nat) : (d.put f v).sec = d.sec := rfl
@[simp] theorem Dev.secUp_sec (d : Dev) (f : Sec → Sec) : (d.secUp f).sec = f d.sec := rfl
@[simp] theorem Dev.hrtUp_sec (d : Dev) (f : Hrt → Hrt) : (d.hrtUp f).sec = d.sec := rfl
@[simp] theorem Dev.putB_sec (d : Dev) (f : Fld) (b : Bool) : (d.putB f b).sec = d.sec := rfl
@[simp] theorem Dev.dmpUp_sec (d : Dev) (f : Dmp → Dmp) : (d.dmpUp f).sec = d.sec := rfl
@[simp] theorem Dev.fbxUp_sec (d : Dev) (f : Fbx → Fbx) : (d.fbxUp f).sec = d.sec := rfl
@[simp] theorem Dev.putI_sec (d : Dev) (f : Fld) (i : Int) : (d.putI f i).sec = d.sec := rfl
@[simp] theorem Dev.fluUp_sec (d : Dev) (f : Flu → Flu) : (d.fluUp f).sec = d.sec := rfl
@[simp] theorem Dev.supUp_sec (d : Dev) (f : Gsv → Gsv) : (d.supUp f).sec = d.sec := rfl
@[simp] theorem Dev.bump_sec (d : Dev) (f : Fld) (n : Nat) : (d.bump f n).sec = d.sec := rfl
@[simp] theorem Dev.hstUp_sec (d : Dev) (f : Hst → Hst) : (d.hstUp f).sec = d.sec := rfl
@[simp] theorem Dev.metUp_sec (d : Dev) (f : Met → Met) : (d.metUp f).sec = d.sec := rfl
@[simp] theorem Dev.wrapInc_sec (d : Dev) (f : Fld) (n : Nat) : (d.wrapInc f n).sec = d.sec := rfl
@[simp] theorem Dev.netUp_sec (d : Dev) (f : Net → Net) : (d.netUp f).sec = d.sec := rfl
@[simp] theorem Dev.pwmUp_sec (d : Dev) (f : Pwm → Pwm) : (d.pwmUp f).sec = d.sec := rfl
@[simp] theorem Dev.setIn_sec (d : Dev) (f : Fld) (i : Nat) : (d.setIn f i).sec = d.sec := rfl
@[simp] theorem Dev.trcUp_sec (d : Dev) (f : Trc → Trc) : (d.trcUp f).sec = d.sec := rfl
@[simp] theorem Dev.capUp_sec (d : Dev) (f : Cap → Cap) : (d.capUp f).sec = d.sec := rfl
@[simp] theorem Dev.clrIn_sec (d : Dev) (f : Fld) (i : Nat) : (d.clrIn f i).sec = d.sec := rfl
@[simp] theorem Dev.stageUp_sec (d : Dev) (f : Stage → Stage) : (d.stageUp f).sec = d.sec := rfl
@[simp] theorem Dev.sarUp_sec (d : Dev) (f : Sar → Sar) : (d.sarUp f).sec = d.sec := rfl
@[simp] theorem Dev.putIn_sec (d : Dev) (f : Fld) (i : Nat) (b : Bool) : (d.putIn f i b).sec = d.sec := rfl
@[simp] theorem Dev.canUp_sec (d : Dev) (c : Nat) (f : Can → Can) : (d.canUp c f).sec = d.sec := rfl
@[simp] theorem Dev.chUp_sec (d : Dev) (c : Nat) (f : DrtCh → DrtCh) : (d.chUp c f).sec = d.sec := rfl
@[simp] theorem Dev.bridgeUp_sec (d : Dev) (b : Nat) (f : Bridge → Bridge) : (d.bridgeUp b f).sec = d.sec := rfl

/-! `angUp` and the registers -/

@[simp] theorem Dev.angUp_regs (d : Dev) (f : Ang → Ang) : (d.angUp f).regs = d.regs := rfl
@[simp] theorem Dev.angUp_word (d : Dev) (f : Ang → Ang) (k : Nat) : (d.angUp f).word k = d.word k := rfl
@[simp] theorem Dev.angUp_get (d : Dev) (f : Ang → Ang) (g : Fld) : (d.angUp f).get g = d.get g := rfl
@[simp] theorem Dev.angUp_flag (d : Dev) (f : Ang → Ang) (g : Fld) : (d.angUp f).flag g = d.flag g := rfl

/-! `cprUp` and the registers -/

@[simp] theorem Dev.cprUp_regs (d : Dev) (f : Cpr → Cpr) : (d.cprUp f).regs = d.regs := rfl
@[simp] theorem Dev.cprUp_word (d : Dev) (f : Cpr → Cpr) (k : Nat) : (d.cprUp f).word k = d.word k := rfl
@[simp] theorem Dev.cprUp_get (d : Dev) (f : Cpr → Cpr) (g : Fld) : (d.cprUp f).get g = d.get g := rfl
@[simp] theorem Dev.cprUp_flag (d : Dev) (f : Cpr → Cpr) (g : Fld) : (d.cprUp f).flag g = d.flag g := rfl

/-! `secUp` and the registers -/

@[simp] theorem Dev.secUp_regs (d : Dev) (f : Sec → Sec) : (d.secUp f).regs = d.regs := rfl
@[simp] theorem Dev.secUp_word (d : Dev) (f : Sec → Sec) (k : Nat) : (d.secUp f).word k = d.word k := rfl
@[simp] theorem Dev.secUp_get (d : Dev) (f : Sec → Sec) (g : Fld) : (d.secUp f).get g = d.get g := rfl
@[simp] theorem Dev.secUp_flag (d : Dev) (f : Sec → Sec) (g : Fld) : (d.secUp f).flag g = d.flag g := rfl

/-! `hrtUp` and the registers -/

@[simp] theorem Dev.hrtUp_regs (d : Dev) (f : Hrt → Hrt) : (d.hrtUp f).regs = d.regs := rfl
@[simp] theorem Dev.hrtUp_word (d : Dev) (f : Hrt → Hrt) (k : Nat) : (d.hrtUp f).word k = d.word k := rfl
@[simp] theorem Dev.hrtUp_get (d : Dev) (f : Hrt → Hrt) (g : Fld) : (d.hrtUp f).get g = d.get g := rfl
@[simp] theorem Dev.hrtUp_flag (d : Dev) (f : Hrt → Hrt) (g : Fld) : (d.hrtUp f).flag g = d.flag g := rfl

/-! `dmpUp` and the registers -/

@[simp] theorem Dev.dmpUp_regs (d : Dev) (f : Dmp → Dmp) : (d.dmpUp f).regs = d.regs := rfl
@[simp] theorem Dev.dmpUp_word (d : Dev) (f : Dmp → Dmp) (k : Nat) : (d.dmpUp f).word k = d.word k := rfl
@[simp] theorem Dev.dmpUp_get (d : Dev) (f : Dmp → Dmp) (g : Fld) : (d.dmpUp f).get g = d.get g := rfl
@[simp] theorem Dev.dmpUp_flag (d : Dev) (f : Dmp → Dmp) (g : Fld) : (d.dmpUp f).flag g = d.flag g := rfl

/-! `fbxUp` and the registers -/

@[simp] theorem Dev.fbxUp_regs (d : Dev) (f : Fbx → Fbx) : (d.fbxUp f).regs = d.regs := rfl
@[simp] theorem Dev.fbxUp_word (d : Dev) (f : Fbx → Fbx) (k : Nat) : (d.fbxUp f).word k = d.word k := rfl
@[simp] theorem Dev.fbxUp_get (d : Dev) (f : Fbx → Fbx) (g : Fld) : (d.fbxUp f).get g = d.get g := rfl
@[simp] theorem Dev.fbxUp_flag (d : Dev) (f : Fbx → Fbx) (g : Fld) : (d.fbxUp f).flag g = d.flag g := rfl

/-! `fluUp` and the registers -/

@[simp] theorem Dev.fluUp_regs (d : Dev) (f : Flu → Flu) : (d.fluUp f).regs = d.regs := rfl
@[simp] theorem Dev.fluUp_word (d : Dev) (f : Flu → Flu) (k : Nat) : (d.fluUp f).word k = d.word k := rfl
@[simp] theorem Dev.fluUp_get (d : Dev) (f : Flu → Flu) (g : Fld) : (d.fluUp f).get g = d.get g := rfl
@[simp] theorem Dev.fluUp_flag (d : Dev) (f : Flu → Flu) (g : Fld) : (d.fluUp f).flag g = d.flag g := rfl

/-! `supUp` and the registers -/

@[simp] theorem Dev.supUp_regs (d : Dev) (f : Gsv → Gsv) : (d.supUp f).regs = d.regs := rfl
@[simp] theorem Dev.supUp_word (d : Dev) (f : Gsv → Gsv) (k : Nat) : (d.supUp f).word k = d.word k := rfl
@[simp] theorem Dev.supUp_get (d : Dev) (f : Gsv → Gsv) (g : Fld) : (d.supUp f).get g = d.get g := rfl
@[simp] theorem Dev.supUp_flag (d : Dev) (f : Gsv → Gsv) (g : Fld) : (d.supUp f).flag g = d.flag g := rfl

/-! `hstUp` and the registers -/

@[simp] theorem Dev.hstUp_regs (d : Dev) (f : Hst → Hst) : (d.hstUp f).regs = d.regs := rfl
@[simp] theorem Dev.hstUp_word (d : Dev) (f : Hst → Hst) (k : Nat) : (d.hstUp f).word k = d.word k := rfl
@[simp] theorem Dev.hstUp_get (d : Dev) (f : Hst → Hst) (g : Fld) : (d.hstUp f).get g = d.get g := rfl
@[simp] theorem Dev.hstUp_flag (d : Dev) (f : Hst → Hst) (g : Fld) : (d.hstUp f).flag g = d.flag g := rfl

/-! `metUp` and the registers -/

@[simp] theorem Dev.metUp_regs (d : Dev) (f : Met → Met) : (d.metUp f).regs = d.regs := rfl
@[simp] theorem Dev.metUp_word (d : Dev) (f : Met → Met) (k : Nat) : (d.metUp f).word k = d.word k := rfl
@[simp] theorem Dev.metUp_get (d : Dev) (f : Met → Met) (g : Fld) : (d.metUp f).get g = d.get g := rfl
@[simp] theorem Dev.metUp_flag (d : Dev) (f : Met → Met) (g : Fld) : (d.metUp f).flag g = d.flag g := rfl

/-! `netUp` and the registers -/

@[simp] theorem Dev.netUp_regs (d : Dev) (f : Net → Net) : (d.netUp f).regs = d.regs := rfl
@[simp] theorem Dev.netUp_word (d : Dev) (f : Net → Net) (k : Nat) : (d.netUp f).word k = d.word k := rfl
@[simp] theorem Dev.netUp_get (d : Dev) (f : Net → Net) (g : Fld) : (d.netUp f).get g = d.get g := rfl
@[simp] theorem Dev.netUp_flag (d : Dev) (f : Net → Net) (g : Fld) : (d.netUp f).flag g = d.flag g := rfl

/-! `pwmUp` and the registers -/

@[simp] theorem Dev.pwmUp_regs (d : Dev) (f : Pwm → Pwm) : (d.pwmUp f).regs = d.regs := rfl
@[simp] theorem Dev.pwmUp_word (d : Dev) (f : Pwm → Pwm) (k : Nat) : (d.pwmUp f).word k = d.word k := rfl
@[simp] theorem Dev.pwmUp_get (d : Dev) (f : Pwm → Pwm) (g : Fld) : (d.pwmUp f).get g = d.get g := rfl
@[simp] theorem Dev.pwmUp_flag (d : Dev) (f : Pwm → Pwm) (g : Fld) : (d.pwmUp f).flag g = d.flag g := rfl

/-! `trcUp` and the registers -/

@[simp] theorem Dev.trcUp_regs (d : Dev) (f : Trc → Trc) : (d.trcUp f).regs = d.regs := rfl
@[simp] theorem Dev.trcUp_word (d : Dev) (f : Trc → Trc) (k : Nat) : (d.trcUp f).word k = d.word k := rfl
@[simp] theorem Dev.trcUp_get (d : Dev) (f : Trc → Trc) (g : Fld) : (d.trcUp f).get g = d.get g := rfl
@[simp] theorem Dev.trcUp_flag (d : Dev) (f : Trc → Trc) (g : Fld) : (d.trcUp f).flag g = d.flag g := rfl

/-! `capUp` and the registers -/

@[simp] theorem Dev.capUp_regs (d : Dev) (f : Cap → Cap) : (d.capUp f).regs = d.regs := rfl
@[simp] theorem Dev.capUp_word (d : Dev) (f : Cap → Cap) (k : Nat) : (d.capUp f).word k = d.word k := rfl
@[simp] theorem Dev.capUp_get (d : Dev) (f : Cap → Cap) (g : Fld) : (d.capUp f).get g = d.get g := rfl
@[simp] theorem Dev.capUp_flag (d : Dev) (f : Cap → Cap) (g : Fld) : (d.capUp f).flag g = d.flag g := rfl

/-! `stageUp` and the registers -/

@[simp] theorem Dev.stageUp_regs (d : Dev) (f : Stage → Stage) : (d.stageUp f).regs = d.regs := rfl
@[simp] theorem Dev.stageUp_word (d : Dev) (f : Stage → Stage) (k : Nat) : (d.stageUp f).word k = d.word k := rfl
@[simp] theorem Dev.stageUp_get (d : Dev) (f : Stage → Stage) (g : Fld) : (d.stageUp f).get g = d.get g := rfl
@[simp] theorem Dev.stageUp_flag (d : Dev) (f : Stage → Stage) (g : Fld) : (d.stageUp f).flag g = d.flag g := rfl

/-! `sarUp` and the registers -/

@[simp] theorem Dev.sarUp_regs (d : Dev) (f : Sar → Sar) : (d.sarUp f).regs = d.regs := rfl
@[simp] theorem Dev.sarUp_word (d : Dev) (f : Sar → Sar) (k : Nat) : (d.sarUp f).word k = d.word k := rfl
@[simp] theorem Dev.sarUp_get (d : Dev) (f : Sar → Sar) (g : Fld) : (d.sarUp f).get g = d.get g := rfl
@[simp] theorem Dev.sarUp_flag (d : Dev) (f : Sar → Sar) (g : Fld) : (d.sarUp f).flag g = d.flag g := rfl

/-! `canUp` and the registers -/

@[simp] theorem Dev.canUp_regs (d : Dev) (c : Nat) (f : Can → Can) : (d.canUp c f).regs = d.regs := rfl
@[simp] theorem Dev.canUp_word (d : Dev) (c : Nat) (f : Can → Can) (k : Nat) : (d.canUp c f).word k = d.word k := rfl
@[simp] theorem Dev.canUp_get (d : Dev) (c : Nat) (f : Can → Can) (g : Fld) : (d.canUp c f).get g = d.get g := rfl
@[simp] theorem Dev.canUp_flag (d : Dev) (c : Nat) (f : Can → Can) (g : Fld) : (d.canUp c f).flag g = d.flag g := rfl

/-! `chUp` and the registers -/

@[simp] theorem Dev.chUp_regs (d : Dev) (c : Nat) (f : DrtCh → DrtCh) : (d.chUp c f).regs = d.regs := rfl
@[simp] theorem Dev.chUp_word (d : Dev) (c : Nat) (f : DrtCh → DrtCh) (k : Nat) : (d.chUp c f).word k = d.word k := rfl
@[simp] theorem Dev.chUp_get (d : Dev) (c : Nat) (f : DrtCh → DrtCh) (g : Fld) : (d.chUp c f).get g = d.get g := rfl
@[simp] theorem Dev.chUp_flag (d : Dev) (c : Nat) (f : DrtCh → DrtCh) (g : Fld) : (d.chUp c f).flag g = d.flag g := rfl

/-! `bridgeUp` and the registers -/

@[simp] theorem Dev.bridgeUp_regs (d : Dev) (b : Nat) (f : Bridge → Bridge) : (d.bridgeUp b f).regs = d.regs := rfl
@[simp] theorem Dev.bridgeUp_word (d : Dev) (b : Nat) (f : Bridge → Bridge) (k : Nat) : (d.bridgeUp b f).word k = d.word k := rfl
@[simp] theorem Dev.bridgeUp_get (d : Dev) (b : Nat) (f : Bridge → Bridge) (g : Fld) : (d.bridgeUp b f).get g = d.get g := rfl
@[simp] theorem Dev.bridgeUp_flag (d : Dev) (b : Nat) (f : Bridge → Bridge) (g : Fld) : (d.bridgeUp b f).flag g = d.flag g := rfl

end Sys2Proof.Machine
end

