-- ==== Sys2Proof/Laws/Ops.lean ====
section
/-! SUPPORT. What the shared operations do, said once: bits of masks, registers as words, time, the guards of a command,
and the queue. -/

namespace Sys2Proof.Machine

/-! ## Bits -/

@[simp] theorem testBit_setBit (m i j : Nat) : (setBit m i).testBit j = (m.testBit j || decide (i = j)) := by
  simp [setBit, Nat.testBit_or, Nat.testBit_two_pow]

@[simp] theorem testBit_clrBit (m i j : Nat) : (clrBit m i).testBit j = (m.testBit j && !decide (i = j)) := by
  unfold clrBit
  split
  · rename_i h
    rw [Nat.testBit_xor, Nat.testBit_two_pow]
    by_cases e : i = j
    · subst e; simp [h]
    · simp [e]
  · rename_i h
    by_cases e : i = j
    · subst e; simp at h; simp [h]
    · simp [e]

@[simp] theorem testBit_putBit (m i j : Nat) (b : Bool) : (putBit m i b).testBit j = if i = j then b else m.testBit j := by
  unfold putBit
  by_cases e : i = j <;> cases b <;> simp [e]

@[simp] theorem testBit_andNot (a b j : Nat) : (andNot a b).testBit j = (a.testBit j && !b.testBit j) := by
  simp only [andNot, Nat.testBit_xor, Nat.testBit_and]
  cases a.testBit j <;> cases b.testBit j <;> rfl

/-- The indices of the set bits below n. -/
@[simp] theorem mem_bitList (n m i : Nat) : i ∈ bitList n m ↔ i < n ∧ m.testBit i = true := by
  simp [bitList, List.mem_filter]

/-! ## Registers as words -/

@[simp] theorem Dev.word_setWord_same (d : Dev) (a : Nat) (w : Word) : (d.setWord a w).word a = w :=
  Mem.getD_set_same d.regs a w (resetWord a)

theorem Dev.word_setWord_other (d : Dev) {a b : Nat} (h : b ≠ a) (w : Word) : (d.setWord a w).word b = d.word b :=
  Mem.getD_set_other d.regs h w (resetWord a) (resetWord b)

/-- Setting a register keeps the register file canonical. -/
theorem Dev.setWord_wf {d : Dev} (h : Mem.wf d.regs resetWord = true) (a : Nat) (w : Word) : Mem.wf (d.setWord a w).regs resetWord = true :=
  Mem.set_wf h a w

theorem Dev.put_wf {d : Dev} (h : Mem.wf d.regs resetWord = true) (f : Fld) (v : Nat) : Mem.wf (d.put f v).regs resetWord = true :=
  Dev.setWord_wf h _ _

/-- The register file right after reset is canonical: nothing differs from its reset value. -/
theorem reset_regs_wf : Mem.wf State.reset.dev.regs resetWord = true := rfl

@[simp] theorem Dev.word_put_self (d : Dev) (f : Fld) (v : Nat) : (d.put f v).word f.addr = wset (d.word f.addr) f.hi f.lo v :=
  Dev.word_setWord_same d _ _

theorem Dev.word_put_other (d : Dev) (f : Fld) (v : Nat) {b : Nat} (h : b ≠ f.addr) : (d.put f v).word b = d.word b :=
  Dev.word_setWord_other d h _

/-! ## List elements changed -/

theorem getD_upd_same {α : Type} (l : List α) (i : Nat) (f : α → α) (z : α) (h : i < l.length) : (upd l i f).getD i z = f (l.getD i z) := by
  simp [upd, List.getD_eq_getElem?_getD, h]

theorem getD_upd_other {α : Type} (l : List α) {i j : Nat} (f : α → α) (z : α) (h : j ≠ i) : (upd l i f).getD j z = l.getD j z := by
  simp [upd, List.getD_eq_getElem?_getD, Ne.symm h]

@[simp] theorem length_upd {α : Type} (l : List α) (i : Nat) (f : α → α) : (upd l i f).length = l.length := by simp [upd]

/-! ## Time -/

@[simp] theorem Dev.advance_zero (d : Dev) : d.advance 0 = d := rfl

theorem Dev.advance_eq (d : Dev) (n : Nat) : d.advance n = { d with time := (d.advance n).time } := by
  unfold Dev.advance
  split <;> rfl

/-- Time passing changes no register. -/
@[simp] theorem Dev.advance_regs (d : Dev) (n : Nat) : (d.advance n).regs = d.regs := by rw [Dev.advance_eq]
@[simp] theorem Dev.advance_word (d : Dev) (n k : Nat) : (d.advance n).word k = d.word k := by simp [Dev.word]
@[simp] theorem Dev.advance_get (d : Dev) (n : Nat) (g : Fld) : (d.advance n).get g = d.get g := by simp [Dev.get]
@[simp] theorem Dev.advance_flag (d : Dev) (n : Nat) (g : Fld) : (d.advance n).flag g = d.flag g := by simp [Dev.flag]
@[simp] theorem Dev.advance_cpr (d : Dev) (n : Nat) : (d.advance n).cpr = d.cpr := by rw [Dev.advance_eq]
@[simp] theorem Dev.advance_dmp (d : Dev) (n : Nat) : (d.advance n).dmp = d.dmp := by rw [Dev.advance_eq]
@[simp] theorem Dev.advance_gdr (d : Dev) (n : Nat) : (d.advance n).gdr = d.gdr := by rw [Dev.advance_eq]
@[simp] theorem Dev.advance_drt (d : Dev) (n : Nat) : (d.advance n).drt = d.drt := by rw [Dev.advance_eq]
@[simp] theorem Dev.advance_can (d : Dev) (n : Nat) : (d.advance n).can = d.can := by rw [Dev.advance_eq]
@[simp] theorem Dev.advance_net (d : Dev) (n : Nat) : (d.advance n).net = d.net := by rw [Dev.advance_eq]
@[simp] theorem Dev.advance_flu (d : Dev) (n : Nat) : (d.advance n).flu = d.flu := by rw [Dev.advance_eq]
@[simp] theorem Dev.advance_hst (d : Dev) (n : Nat) : (d.advance n).hst = d.hst := by rw [Dev.advance_eq]
@[simp] theorem Dev.advance_sec (d : Dev) (n : Nat) : (d.advance n).sec = d.sec := by rw [Dev.advance_eq]
@[simp] theorem Dev.advance_awake (d : Dev) (n : Nat) : (d.advance n).awake = d.awake := by simp [Dev.awake]
@[simp] theorem Dev.advance_kindling (d : Dev) (n r : Nat) : (d.advance n).kindling r = d.kindling r := by simp [Dev.kindling]

theorem Dev.advance_now (d : Dev) (n : Nat) : (d.advance n).now = d.now + n := by
  unfold Dev.advance Dev.now
  split <;> simp_all

@[simp] theorem Dev.advanceTo_awake (d : Dev) (t : Nat) : (d.advanceTo t).awake = d.awake := Dev.advance_awake d _

/-! ## Commands: their guards and the queue -/

/-- A command of an awake device has its effect. -/
theorem run_whenAwake {f : Dev → Dev} {s : State} (h : s.dev.awake = true) : run (whenAwake f) s = .next (s.after (f s.dev)) := by
  simp [run, whenAwake, h, State.after]

/-- One of a device held in reset has none. -/
theorem run_whenAwake_not {f : Dev → Dev} {s : State} (h : s.dev.awake = false) : run (whenAwake f) s = .next (s.after s.dev) := by
  simp [run, whenAwake, h, State.after]

theorem run_whenPaced {f : Dev → Dev} {s : State} (h : s.dev.kindling 6 = true) : run (whenPaced f) s = .next (s.after (f s.dev)) := by
  simp [run, whenPaced, h, State.after]

theorem run_whenPowered {f : Dev → Dev} {s : State} (h : s.dev.cpr.por = false) : run (whenPowered f) s = .next (s.after (f s.dev)) := by
  simp [run, whenPowered, h, State.after]

theorem run_eq (f : Dev → Dev) (s : State) : run f s = .next (s.after (f s.dev)) := rfl

/-- A device in which Hearth takes commands is awake. -/
theorem Dev.awake_of_hearthUp {d : Dev} (h : d.hearthUp = true) : d.awake = true := by
  simp only [Dev.hearthUp, Bool.and_eq_true] at h
  simp [Dev.awake, h.1.1.1.1, h.1.1.1.2, h.1.1.2]

/-- Kindling that goes on finds the device awake. -/
theorem Dev.awake_of_kindling {d : Dev} {r : Nat} (h : d.kindling r = true) : d.awake = true := by
  simp only [Dev.kindling, Bool.and_eq_true] at h
  simp [Dev.awake, h.1.1.1.1.1, h.1.1.1.1.2, h.1.1.1.2]

end Sys2Proof.Machine
end

