-- ==== Sys2Proof/Machine/Balls.lean ====
section
/-! DEFINITION. The signal balls of Table 24-8: direction, supply, internal pull, and what the device puts on each ball in
a state (R538), its reset state with it. The balls of the device's own supplies and grounds carry no signal. -/

namespace Sys2Proof.Machine

/-- The signals of Table 24-8, numbered as the manual numbers them; `FLU` port 0 is E, and the lines of a bus are
one signal each. -/
inductive Signal where
  | pwm (o : Fin 24)
  | vswFb (n : Fin 12)
  | fltN (n : Fin 12)
  | sdmD (n : Fin 24)
  | sdmClk (g : Fin 6)
  | syncOut
  | syncIn
  | ethTx (p : Fin 2)
  | ethRx (p : Fin 2)
  | fluTx (p : Fin 2)
  | fluRx (p : Fin 2)
  | pcieTx (l : Fin 2)
  | pcieRx (l : Fin 2)
  | refclk
  | perstN
  | ctlOut (k : Fin 8)
  | ctlFb (k : Fin 8)
  | canTx (c : Fin 2)
  | canRx (c : Fin 2)
  | ppsIn
  | ppsOut
  | resetN
  | refMode
  | hostMode (i : Fin 2)
  | tck
  | trstN
  | tms
  | tdi
  | tdo
  | xtalIn
  | xtalOut
  | pfi
  | ainA (n : Fin 15)
  | ainB (n : Fin 15)
  | ainSh
  | vrefIn
  | cmpIn (n : Fin 16)
  | gh (n : Fin 6)
  | gl (n : Fin 6)
  | sw (n : Fin 6)
  | bst (n : Fin 6)
  | vmot (b : Fin 2)
  | vhsExt (b : Fin 2)
  | ishP (n : Fin 6)
  | ishM (n : Fin 6)
  deriving DecidableEq, Repr

/-- Directions of Table 24-8. -/
inductive BallDir where
  | input
  | output
  | either
  | analog
  deriving DecidableEq, Repr

/-- Supplies of Table 24-8; a gate's high side hangs on its bootstrap. -/
inductive BallSupply where
  | ioPwm
  | ioSdm
  | ioGen
  | v1V8
  | sds
  | aon
  | vdda
  | bst (n : Nat)
  | vdrv
  | none
  deriving DecidableEq, Repr

/-- What holds a ball that nothing drives: an internal pull of 50 kΩ, the termination of SYNC_IN, or nothing. -/
inductive BallPull where
  | up
  | down
  | term
  | none
  deriving DecidableEq, Repr

/-- What the device puts on a ball: nothing, a level (a differential 1 or 0), the electrical idle of a serial
transmitter, or the stream of its link or bus. -/
inductive BallState where
  | highZ
  | level (b : Bool)
  | idle
  | stream
  deriving DecidableEq, Repr

/-- Direction (Table 24-8). -/
def Signal.dir : Signal → BallDir
  | .pwm _ | .syncOut | .ethTx _ | .fluTx _ | .pcieTx _ | .ctlOut _ | .canTx _ | .ppsOut | .tdo | .gh _ | .gl _ => .output
  | .vswFb _ | .fltN _ | .sdmD _ | .syncIn | .ethRx _ | .fluRx _ | .pcieRx _ | .refclk | .perstN | .ctlFb _ | .canRx _
  | .ppsIn | .resetN | .refMode | .hostMode _ | .tck | .trstN | .tms | .tdi => .input
  | .sdmClk _ => .either
  | .xtalIn | .xtalOut | .pfi | .ainA _ | .ainB _ | .ainSh | .vrefIn | .cmpIn _ | .sw _ | .bst _ | .vmot _ | .vhsExt _
  | .ishP _ | .ishM _ => .analog

/-- Supply (Table 24-8). -/
def Signal.supply : Signal → BallSupply
  | .pwm _ | .vswFb _ | .fltN _ => .ioPwm
  | .sdmD _ | .sdmClk _ => .ioSdm
  | .syncOut | .syncIn | .xtalIn | .xtalOut => .v1V8
  | .ethTx _ | .ethRx _ | .fluTx _ | .fluRx _ | .pcieTx _ | .pcieRx _ | .refclk => .sds
  | .perstN | .ctlOut _ | .ctlFb _ | .canTx _ | .canRx _ | .ppsIn | .ppsOut | .resetN | .refMode | .hostMode _ | .tck
  | .trstN | .tms | .tdi | .tdo => .ioGen
  | .pfi => .aon
  | .ainA _ | .ainB _ | .ainSh | .vrefIn | .cmpIn _ | .ishP _ | .ishM _ => .vdda
  | .gh n => .bst n
  | .gl _ => .vdrv
  | .sw _ | .bst _ | .vmot _ | .vhsExt _ => .none

/-- Internal pull (Table 24-8). -/
def Signal.pull : Signal → BallPull
  | .fltN _ | .canRx _ | .resetN | .tms | .tdi => .up
  | .ctlFb _ | .ppsIn | .refMode | .hostMode _ | .tck | .trstN => .down
  | .syncIn => .term
  | _ => .none

/-- A differential pair has two balls. -/
def Signal.balls : Signal → Nat
  | .syncOut | .syncIn | .ethTx _ | .ethRx _ | .fluTx _ | .fluRx _ | .pcieTx _ | .pcieRx _ | .refclk => 2
  | _ => 1

/-- Every signal of Table 24-8, in its order. -/
def Signal.all : List Signal :=
  (List.finRange 24).map .pwm ++ (List.finRange 12).map .vswFb ++ (List.finRange 12).map .fltN ++ (List.finRange 24).map .sdmD
    ++ (List.finRange 6).map .sdmClk ++ [.syncOut, .syncIn] ++ (List.finRange 2).flatMap (fun p => [.ethTx p, .ethRx p])
    ++ (List.finRange 2).flatMap (fun p => [.fluTx p, .fluRx p]) ++ (List.finRange 2).flatMap (fun p => [.pcieTx p, .pcieRx p])
    ++ [.refclk, .perstN] ++ (List.finRange 8).map .ctlOut ++ (List.finRange 8).map .ctlFb ++ (List.finRange 2).map .canTx
    ++ (List.finRange 2).map .canRx ++ [.ppsIn, .ppsOut, .resetN, .refMode] ++ (List.finRange 2).map .hostMode
    ++ [.tck, .trstN, .tms, .tdi, .tdo, .xtalIn, .xtalOut, .pfi] ++ (List.finRange 15).map .ainA ++ (List.finRange 15).map .ainB
    ++ [.ainSh, .vrefIn] ++ (List.finRange 16).map .cmpIn ++ (List.finRange 6).map .gh ++ (List.finRange 6).map .gl
    ++ (List.finRange 6).map .sw ++ (List.finRange 6).map .bst ++ (List.finRange 2).map .vmot ++ (List.finRange 2).map .vhsExt
    ++ (List.finRange 6).map .ishP ++ (List.finRange 6).map .ishM

/-! ## Levels -/

/-- The configuration store is loaded: the "cfg" fields are in force (Table 15-5). -/
def Dev.storeUp (d : Dev) : Bool := d.cpr.rows.testBit 6

/-- SYNC_OUT at its balls now: differential 1 within a pulse (R249); an ns is 64 taps. -/
def Dev.syncLevel (d : Dev) : Bool :=
  d.pwm.syncOut.any fun (t, w) => decide (t ≤ 128 * (d.now : Int)) && decide (128 * (d.now : Int) < t + 64 * w)

/-- What a function puts on its ball in this state (R231, R249, R383, Tables 6-1 and 24-8): an input is never driven, and
a CAN transmitter is recessive unless a frame of its controller is on the bus. -/
def Dev.function (d : Dev) : Signal → BallState
  | .pwm o => (d.pwmPin o (128 * d.now)).elim .highZ .level
  | .sdmClk g =>
    if !d.storeUp || d.get (F.SDM_GRP_MODE.ix g) = 2 then .highZ else .level (d.clkLevel g)
  | .syncOut => if d.storeUp then .level d.syncLevel else .highZ
  | .ethTx p => if d.flag (F.NET_PORT_EN.ix p) then .stream else .idle
  | .fluTx _ => if d.storeUp && d.get F.FLU_ROLE_HOST_MODE % 3 != 0 then .stream else .idle
  | .pcieTx _ => .stream
  | .ctlOut k => .level (d.dmp.ctlOut.testBit k)
  | .canTx c => if (d.canOf c).tx.isSome then .stream else .level true
  | .ppsOut => .level (d.net.ppsOut.any fun t => decide (d.now < t))
  | .gh n => .level (d.gateOn (n / 3) (2 * (n % 3)))
  | .gl n => .level (d.gateOn (n / 3) (2 * (n % 3) + 1))
  | _ => .highZ

/-- Place of a pin that EXTEST and CLAMP drive in the levels they carry: PWM[23:0], CTL_OUT[7:0], GH[5:0], GL[5:0], from
bit 0 on. (DESIGN CHOICE, log entry 160.) -/
def Signal.scanBit : Signal → Option Nat
  | .pwm o => some o
  | .ctlOut k => some (24 + k)
  | .gh n => some (32 + n)
  | .gl n => some (38 + n)
  | _ => none

/-- What the device puts on a ball: its function, unless a JTAG instruction drives the pin (R517) or floats every output. -/
def Dev.ball (d : Dev) (s : Signal) : BallState :=
  match d.sec.jtag with
  | .highz => .highZ
  | .extest w | .clamp w => s.scanBit.elim (d.function s) fun i => .level (w.testBit i)
  | _ => d.function s

end Sys2Proof.Machine
end

