-- ==== Sys2Proof/WellFormed.lean ====
section
/-! DEFINITION. Which commands are well formed: the operand bounds that the spec gives and the types of Input.lean do not
carry. A refused term stands for nothing the hardware can meet. -/

namespace Sys2Proof

/-- A host command frame's fields (Table 20-1): OPCODE apart, VER, LEN, UID, SID and SEQ fit their widths. -/
def CmdHdr.wf (h : CmdHdr) : Bool :=
  h.ver < 256 && h.len < 65536 && h.uid < 65536 && h.sid < 65536 && h.seq < 2 ^ 64 && h.role < 32

/-- A request: its header fits and its frame is no longer than a request area (R457). -/
def requestWf (h : CmdHdr) (p : List Byte) : Bool := h.wf && p.length ≤ 2048

/-- Data bytes of a DLC (ISO 11898-1; Table 18-5). -/
def dlcLen (dlc : Nat) : Nat :=
  if dlc ≤ 8 then dlc else [12, 16, 20, 24, 32, 48, 64].getD (dlc - 9) 64

/-- A CAN frame: identifier within its format, DLC of 4 bits, as many data bytes as the DLC names, none beyond 8 in a
classical frame. -/
def CanFrame.wf (f : CanFrame) : Bool :=
  f.id < (if f.ide then 2 ^ 29 else 2 ^ 11) && f.dlc < 16
    && f.data.length ≤ dlcLen f.dlc && (f.fdf || f.data.length ≤ 8) && (f.fdf || !f.brs)

/-- An Ethernet frame at one of the two ports, addresses of 48 bits, an EtherType of 16 bits, a VLAN of 12 and its
priority of 3. -/
def EthFrame.wf (f : EthFrame) : Bool :=
  f.port < 2 && f.src < 2 ^ 48 && f.dst < 2 ^ 48 && f.etype < 65536 && f.vid < 4096 && f.pcp < 8 && f.payload.length ≤ f.len

/-- A GOOSE frame: APPID of 16 bits, stNum and sqNum of 32, references of the length a context can hold. -/
def Goose.wf (g : Goose) : Bool :=
  g.eth.wf && g.appid < 65536 && g.stNum < 2 ^ 32 && g.sqNum < 2 ^ 32 && g.confRev < 2 ^ 32

/-- A sampled-values frame: APPID of 16 bits, smpCnt of 16 bits in each ASDU. -/
def Sv.wf (v : Sv) : Bool :=
  v.eth.wf && v.appid < 65536 && v.asdus.all fun a => a.smpCnt < 65536 && a.confRev < 2 ^ 32

/-- A PTP message: a domain of 8 bits, identities of 64 bits, and a data set in its field widths. -/
def PtpMsg.wf : PtpMsg → Bool
  | .announce d s a => d < 256 && s < 2 ^ 64 && a.prio1 < 256 && a.cls < 256 && a.acc < 256 && a.var < 65536 && a.prio2 < 256
      && a.gm < 2 ^ 64 && a.steps < 65536
  | .sync d s _ _ => d < 256 && s < 2 ^ 64
  | .pdelayReq d => d < 256
  | .pdelay _ => true

/-- A Flue header (Table 17-1): a link of two, ring positions of 6 bits, or every position. -/
def FlueHdr.wf (h : FlueHdr) : Bool :=
  h.link < 2 && h.src < 64 && h.epoch < 2 ^ 32 && h.seq < 2 ^ 64 && h.gfi < 2 ^ 32 && h.dst < 256 && h.hops < 64

/-- A crown frame (Table 17-2): fields of their widths, 24 sums, 8 maxima, a share for each of 64 positions. -/
def CrownFrame.wf (f : CrownFrame) : Bool :=
  f.inc < 2 ^ 32 && f.theta < 2 ^ 32 && f.ftime < 2 ^ 64 && f.flags < 256 && f.live < 256 && f.liveMask < 2 ^ 64
    && f.hGfi < 2 ^ 32 && f.sums.length == 24 && f.maxs.length == 8 && f.shares.length == 64

/-- A member frame (Table 17-3). -/
def MemberFrame.wf (f : MemberFrame) : Bool :=
  f.mgfi < 2 ^ 32 && f.state < 2 ^ 16 && f.rpt.length == 32 && f.verdict < 2 ^ 24 && f.alarm.length ≤ 8

/-- A bulk frame (R410): fields of Table 20-1's widths. -/
def BulkBody.wf : BulkBody → Bool
  | .command op uid role sid seq _ => op < 256 && uid < 65536 && role < 32 && sid < 65536 && seq < 2 ^ 64
  | .response sid seq status _ => sid < 65536 && seq < 2 ^ 64 && status < 256

/-- A shadow frame (R417). -/
def ShadowBody.wf : ShadowBody → Bool
  | .session sid role _ _ _ _ => sid < 65536 && role < 32
  | .response sid seq status _ => sid < 65536 && seq < 2 ^ 64 && status < 256
  | .group sp _ => sp.length ≤ 5

/-- A descriptor (Table 19-5): an address of 64 bits and a length of 31. -/
def DescIn.wf (d : DescIn) : Bool := d.addr < 2 ^ 64 && d.len < 2 ^ 31

/-- A JTAG instruction (Table 22-10). -/
def Jtag.wf : Jtag → Bool
  | .bypass => true
  | .idcode => true
  | .sample => true
  | .extest _ => true
  | .clamp _ => true
  | .highz => true
  | .scan => true
  | .register addr _ => addr < 2 ^ 24
  | .memory id off words => id < 256 && off + 4 * words.length ≤ 2 ^ 24
  | .otp off bytes => off + bytes.length ≤ 4096
  | .certs _ => true

/-- The checks of kindling: one verdict for each image slot and each package slot (R493). -/
def KindleChecks.wf (k : KindleChecks) : Bool := k.sigs.length == 4

/-- A command of the host, with its header and payload. -/
def Instr.request? : Instr → Option (CmdHdr × List Byte)
  | .echo h p | .identify h p | .sessionOpen h p | .sessionClose h p | .sessionRekey h p | .regRead h p
  | .regWrite h p | .regStage h p | .commit h p | .discardStage h p | .memRead h p | .memWrite h p
  | .stateRequest h p | .setpoint h p | .curtail h p | .trip h p | .clearTrip h p | .lockoutReset h p | .imgWrite h p
  | .imgVerify h p | .imgActivate h p | .imgStatus h p | .imgErase h p | .meterRecord h p | .meterRead h p
  | .meterSave h p | .pqRead h p | .traceArm h p | .traceStop h p | .traceForce h p | .traceStatus h p
  | .captureArm h p | .captureStop h p | .captureTrigger h p | .captureStatus h p | .ringStatus h p
  | .eventFilter h p | .groupStatus h p | .groupMeasure h p | .roleSet h p | .unitRead h p | .keyDeliver h p
  | .ctxStatus h p | .timeRead h p | .canSend h p | .canRead h p | .logRead h p | .logExport h p | .sensorRead h p
  | .lcTransition h p | .provision h p | .attest h p | .draught h p => some (h, p)
  | _ => none

/-- What an event's operands keep to beyond their types; the types say all of it for the events not named. -/
def Instr.operandsOk : Instr → Bool
  | .registerWrite addr _ _ => addr < 2 ^ 32 && addr % 4 == 0
  | .requestAreaWrite _ _ bytes => bytes.length ≤ 2048
  | .descriptorFetchDone _ xs _ => xs.all DescIn.wf
  | .slotIssue i => i < 4096
  | .slotResultWrite i => i < 4096
  | .pwmSyncMeas diffs => diffs.length == 64
  | .driveWord _ err => err < 2 ^ 16
  | .hearthKindleVerify k _ => k.wf
  | .jtagInstruction j => j.wf
  | .ethFrameReceive f _ => f.wf
  | .gooseFrameReceive g _ => g.wf
  | .svFrameReceive v _ => v.wf
  | .ptpMessageReceive f m _ => f.wf && m.wf
  | .supervisionFrameReceive f _ _ => f.wf
  | .l2CommandFrame f _ => f.wf
  | .flueFrameReceive hd _ => hd.wf
  | .crownFrameReceive hd f _ => hd.wf && f.wf
  | .memberFrameReceive hd f _ => hd.wf && f.wf
  | .bulkFrameReceive hd b _ => hd.wf && b.wf
  | .timeFrameReceive hd _ _ _ => hd.wf
  | .joinFrameReceive hd _ _ _ _ _ => hd.wf
  | .shadowFrameReceive hd b _ => hd.wf && b.wf
  | .canFrameReceive _ f _ _ => f.wf
  | _ => true

/-- A command is well formed. -/
def Instr.wf (i : Instr) : Bool := (i.request?.all fun (h, p) => requestWf h p) && i.operandsOk

end Sys2Proof
end

