-- ==== Sys2Proof/Tests/Slice0.lean ====
section
/-! SUPPORT. Witnesses for the hypotheses of the claims, and small tests of single steps. -/

open Sys2Proof Sys2Proof.Machine

namespace Sys2Proof.Tests

set_option Elab.async false

/-! ## Small states and requests -/

/-- Register fields given values. -/
def put (l : List (Fld × Nat)) (d : Dev) : Dev := l.foldl (fun (d : Dev) (x : Fld × Nat) => d.put x.1 x.2) d

/-- A kindled device in OWNED with session 1, its registers as given, and what `f` makes of it. -/
def litBy (l : List (Fld × Nat)) (f : Dev → Dev) : State :=
  { dev := f (put ([(F.HRT_LC_STATE, 2), (F.CPR_STATUS_STEP, 13)] ++ l)
      { cpr := { por := false, resetN := true, rows := 16382 }
        sec := { sessions := [{ sid := 1, role := 3, serial := 7, notAfter := 100 }] } }) }

/-- The same, with nothing more done to it. -/
def lit (l : List (Fld × Nat)) : State := litBy l id

/-- The header of a request of session 1 in mailbox 0 with a payload, all its verdicts good. -/
def rq (p : List Byte) : CmdHdr := ⟨.mbx 0, 1, 0, 1, 1, p.length, 32 + p.length, true, true, true, true, 0⟩

/-- A payload from 32-bit words; from bytes. -/
def ws (l : List Nat) : List Byte := l.flatMap (leBytes 4)
def bs (l : List Nat) : List Byte := l.map (BitVec.ofNat 8)

/-- A payload with its owner authorisation block (Table 20-5). -/
def owned (op : Nat) (q : List Byte) : List Byte :=
  q ++ zeros 16 ++ leBytes 1 op ++ zeros 3 ++ leBytes 4 5 ++ sha384 q ++ zeros 96

/-- A credential of 332 bytes with a role (R463). -/
def cred (role : Nat) : List Byte :=
  leBytes 4 0x435A4C50 ++ leBytes 2 1 ++ leBytes 1 role ++ zeros 17 ++ leBytes 8 0 ++ leBytes 8 100 ++ leBytes 4 9 ++ zeros 288

/-- An image in force that binds two host parameters: setpoint 1 and the curtailment. -/
def img : Image :=
  { slot := 0, version := 3, s := 512, c := 512, fMax := 0, ssc := 0, legMask := 0, legMode := 0, budget := 0, deadline := 0
    hash := zeros 32, slots := [], ports := [], hostpars := [⟨0x300, 0, 1⟩, ⟨0x301, 0, 5⟩] }

/-- An owner setting package of four records, written to a slot: metering channels, VNOM and UDIN. -/
def pkgSlot : MramSlot :=
  MramSlot.write { st := 1 } 0 (wordsOf (ws [0x505A4C50, 0x00200001, 64, 1, 0, 0, 0, 0,
    0x06000801, 0x00020100, 0x06000C01, 0x00050403, 0x03000801, 0x3F800000, 0x06200401, 0x3F800000] ++ zeros 96))

/-- Channels 0 to 5 of the modulators enabled, their groups clocked from this device. -/
def sixChannels : List (Fld × Nat) :=
  (List.range 6).map (fun n => (F.SDM_CH_EN.ix n, 1)) ++ [(F.SDM_GRP_MODE.ix 0, 1), (F.SDM_GRP_MODE.ix 1, 1)]

/-- `HostReady` from its checks as a computation. -/
def readyB (d : Dev) (op : Nat) (h : CmdHdr) (p : List Byte) : Bool :=
  !isRelay h.path && d.hearthUp && !lengthBad h p && decide (h.ver = 1)
    && !d.netQuiet.flueQuiet.authBad op h
    && (d.netQuiet.flueQuiet.session h.sid).all (fun x => x.judge h.seq == .accept)
    && (!(d.received h).cpr.stopped || [0x02, 0x80, 0x81].contains op)
    && lifecycleOk (d.received h).lc op p
    && !(d.received h).roleBad op h p
    && (d.received h).resolve7 op h == .here
    && (!ownerOps.contains op || (d.received h).ownerOk op h p)
    && !(d.admitted op h p).memberSetpoint op .here
    && ((d.admitted op h p).layoutRefusal op h (ownPart op p)).isNone

theorem hostReady_of (d : Dev) (op : Nat) (h : CmdHdr) (p : List Byte) (hb : readyB d op h p = true) : HostReady d op h p := by
  simp only [readyB, Bool.and_eq_true, Bool.not_eq_true', decide_eq_true_eq, beq_iff_eq, Bool.or_eq_true, List.contains_iff_mem,
    Option.isNone_iff_eq_none] at hb
  obtain ⟨⟨⟨⟨⟨⟨⟨⟨⟨⟨⟨⟨a, b⟩, c⟩, e⟩, f⟩, g⟩, i⟩, j⟩, k⟩, l⟩, m⟩, n⟩, o⟩ := hb
  refine ⟨a, b, c, e, f, ?_, ?_, j, k, l, ?_, n, o⟩
  · intro x hx; rw [hx] at g; simpa using g
  · rcases i with i | i
    · left; simpa using i
    · right; simpa using i
  · intro hm
    rcases m with m | m
    · rw [hm] at m; cases m
    · exact m

theorem pair_eq {α β : Type} {x : α × β} {a : α} (h : x.1 = a) : x = (a, x.2) := h ▸ rfl

theorem pair_eq_snd {α β : Type} {x : α × β} {b : β} (h : x.2 = b) : x = (x.1, b) := h ▸ rfl

theorem none_all {α : Type} {o : Option α} {P : α → Prop} (h : o = none) : ∀ q, o = some q → P q := by
  intro q hq; rw [h] at hq; cases hq

theorem some_of {α : Type} {o : Option α} (z : α) (h : o.isSome = true) : o = some (o.getD z) := by
  cases o with
  | none => cases h
  | some x => rfl

theorem some_pair {α β : Type} {o : Option (α × β)} (z : α × β) (h : o.isSome = true) : o = some ((o.getD z).1, (o.getD z).2) := by
  cases o with
  | none => cases h
  | some x => rfl

theorem identity_ok {d : Dev} {cert : Bool} {seed : Nat} (h : d.sec.otp.seed = some seed) (h2 : d.sec.otp.devId = identityId seed)
    (h3 : (cert && d.sec.certs.any fun c => c.1 == 1) = true) : d.identityOk cert = true := by
  simp only [Bool.and_eq_true] at h3
  simp [Dev.identityOk, h, h2, h3.1, h3.2]

/-- A die in TEST with its seed, its identifier and its three certificates. -/
def vendorReady : State :=
  { State.reset with dev := { State.reset.dev with sec := { otp := { seed := some 7, devId := identityId 7 }, certs := [(1, []), (2, []), (3, [])] } } }

theorem vendor_ready : vendorReady.dev.identityOk true = true :=
  identity_ok (seed := 7) (by simp only [vendorReady]) (by simp only [vendorReady]) (by simp [vendorReady])

/-- The next state of an outcome. -/
def nextOf : Host.Outcome State Fault Refusal → State
  | .next t => t
  | _ => State.reset

theorem answers {o : Host.Outcome State Fault Refusal} (h : (match o with | .next _ => true | _ => false) = true) : o = .next (nextOf o) := by
  cases o with
  | next t => rfl
  | fault r => cases h
  | refused r => cases h

/-- Firebox in a frame of an image whose one slot is of unit `u`. -/
def fire (u : Nat) : State :=
  litBy [] fun d => d.fbxUp fun x => { x with active := some { img with slots := [⟨u, 0, 0, 0, 0, 4, 0, 0x100, 0x101, 0x102, 0x200⟩] }, running := true }

/-- A frame of a type at port 0, from address 2 to the group address 1. -/
def eth (etype : Nat) : EthFrame := { port := 0, len := 64, fcs := true, src := 2, dst := 1, etype := etype }

/-- An announcement with a data set of class 6. -/
def announced : PtpAnnounce := ⟨1, 6, 1, 0, 1, 7, 0, none, 1⟩

/-- A port of the network whose link is up, with more registers. -/
def wired (l : List (Fld × Nat)) : State := lit ([(F.NET_STATUS_LINK, 1)] ++ l)

/-- A Flue header of position 5 at its first hop, for every position; a crown frame and a member frame of zeros. -/
def hdr : FlueHdr := ⟨0, 5, 3, 7, 9, 0xFF, 63, true, true⟩
def crown0 : CrownFrame := ⟨0, 0, 0, 0, 0, 0, 1, 1, 0, List.replicate 24 0, List.replicate 8 0, 0, 0, List.replicate 64 (0, 0, 0), []⟩
def member0 : MemberFrame := ⟨0, 0, 0, 0, 0, 0, 0, List.replicate 32 0, 0, []⟩

/-! ## Well-formedness: for each check a term it refuses, beside one it accepts -/

/-- A header field beyond its width (Table 20-1) and a request beyond its area (R457). -/
theorem test_wf_request :
    requestWf (rq []) [] = true ∧
    [{ rq [] with ver := 256 }, { rq [] with len := 65536 }, { rq [] with uid := 65536 }, { rq [] with sid := 65536 },
     { rq [] with seq := 2 ^ 64 }, { rq [] with role := 32 }].all (fun h => !requestWf h []) = true ∧
    (Instr.echo (rq []) (List.replicate 2049 0)).wf = false := by decide +kernel

/-- An identifier beyond its format, a DLC beyond 4 bits, more bytes than the DLC names, more than 8 in a classical frame,
a classical frame with the rate switched (Table 18-5). -/
theorem test_wf_can :
    (Instr.canFrameReceive 0 { id := 0x7FF, dlc := 1, data := bs [1] } 1 0).wf = true ∧
    [({ id := 0x800, dlc := 0, data := [] } : CanFrame), { id := 2 ^ 29, ide := true, dlc := 0, data := [] },
     { id := 1, fdf := true, dlc := 16, data := [] }, { id := 1, dlc := 1, data := bs [1, 2] },
     { id := 1, dlc := 9, data := List.replicate 9 0 }, { id := 1, brs := true, dlc := 0, data := [] }].all
      (fun f => !(Instr.canFrameReceive 0 f 1 0).wf) = true := by decide +kernel

/-- A port, an address, a type, a VLAN or a length that no Ethernet frame has; an unknown verdict; a stream's numbers. -/
theorem test_wf_eth :
    let f : EthFrame := { port := 0, len := 64, fcs := true, src := 2, dst := 1, etype := 0x88B8 }
    let g : Goose := ⟨f, ⟨false, 0, 0, false⟩, 9, [], [], 0, 1000, 1, 0, false, false, 0, [], []⟩
    let v : Sv := ⟨f, ⟨false, 0, 0, false⟩, 9, [], [], false, [⟨5, 0, [], []⟩]⟩
    (Instr.ethFrameReceive f 0).wf = true ∧ (Instr.gooseFrameReceive g 0).wf = true ∧ (Instr.svFrameReceive v 0).wf = true ∧
    [{ f with port := 2 }, { f with src := 2 ^ 48 }, { f with dst := 2 ^ 48 }, { f with etype := 65536 }, { f with vid := 4096 }, { f with pcp := 8 },
     { f with payload := zeros 65 }].all (fun f => !(Instr.ethFrameReceive f 0).wf) = true ∧
    (Instr.ptpMessageReceive f (.announce 256 0 ⟨1, 6, 1, 0, 1, 7, 0, none, 1⟩) 0).wf = false ∧
    [{ g with appid := 65536 }, { g with stNum := 2 ^ 32 }, { g with sqNum := 2 ^ 32 }, { g with confRev := 2 ^ 32 }].all
      (fun g => !(Instr.gooseFrameReceive g 0).wf) = true ∧
    [{ v with appid := 65536 }, { v with asdus := [⟨65536, 0, [], []⟩] }, { v with asdus := [⟨5, 2 ^ 32, [], []⟩] }].all
      (fun v => !(Instr.svFrameReceive v 0).wf) = true := by decide +kernel

/-- A Flue header field beyond its width, and a frame of each kind with a field or a list of the wrong size (Tables 17-1
to 17-3, R410, R417). -/
theorem test_wf_flue :
    let h : FlueHdr := hdr
    let f : CrownFrame := crown0
    let m : MemberFrame := member0
    (Instr.crownFrameReceive h f 0).wf = true ∧ (Instr.memberFrameReceive h m 0).wf = true ∧
    [{ h with link := 2 }, { h with src := 64 }, { h with epoch := 2 ^ 32 }, { h with seq := 2 ^ 64 }, { h with gfi := 2 ^ 32 },
     { h with dst := 256 }, { h with hops := 64 }].all (fun h => !(Instr.flueFrameReceive h 0).wf) = true ∧
    [{ f with inc := 2 ^ 32 }, { f with theta := 2 ^ 32 }, { f with ftime := 2 ^ 64 }, { f with flags := 256 }, { f with live := 256 },
     { f with liveMask := 2 ^ 64 }, { f with hGfi := 2 ^ 32 }, { f with sums := [] }, { f with maxs := [] },
     { f with shares := [] }].all (fun f => !(Instr.crownFrameReceive h f 0).wf) = true ∧
    [{ m with mgfi := 2 ^ 32 }, { m with state := 65536 }, { m with rpt := [] }, { m with verdict := 2 ^ 24 },
     { m with alarm := List.replicate 9 1 }].all (fun m => !(Instr.memberFrameReceive h m 0).wf) = true ∧
    [BulkBody.command 256 1 1 1 1 [], .command 1 65536 1 1 1 [], .command 1 1 32 1 1 [], .command 1 1 1 65536 1 [],
     .command 1 1 1 1 (2 ^ 64) [], .response 65536 1 0 [], .response 1 (2 ^ 64) 0 [], .response 1 1 256 []].all
      (fun b => !(Instr.bulkFrameReceive h b 0).wf) = true ∧
    [ShadowBody.session 65536 1 1 1 1 1, .session 1 32 1 1 1 1, .response 65536 1 0 [], .response 1 (2 ^ 64) 0 [],
     .response 1 1 256 [], .group (List.replicate 6 0) []].all (fun b => !(Instr.shadowFrameReceive h b 0).wf) = true := by
  decide +kernel

/-- Single operands: a register address off its grid or beyond 32 bits, request-area bytes, a descriptor, a slot, the
measured pulses, a drive word, kindling's verdicts, JTAG accesses. -/
theorem test_wf_operands :
    [Instr.registerWrite 2 1 1, .registerWrite (2 ^ 32) 1 1, .requestAreaWrite 0 0 (List.replicate 2049 none),
     .descriptorFetchDone 0 [⟨2 ^ 64, 1, true⟩] 0, .descriptorFetchDone 0 [⟨0, 2 ^ 31, true⟩] 0, .slotIssue 4096, .slotResultWrite 4096,
     .pwmSyncMeas [], .driveWord 0 65536, .hearthKindleVerify ⟨true, true, false, false, []⟩ 0,
     .jtagInstruction (.register (2 ^ 24) 0), .jtagInstruction (.otp 4096 [0])].all (fun i => !i.wf) = true ∧
    [Instr.registerWrite 0x010050 1 1, .slotIssue 4095, .driveWord 1 65535, .angSnap,
     .jtagInstruction (.otp 4095 [0])].all Instr.wf = true := by decide +kernel

/-! ## Values from the manual's examples and the standards it names -/

/-- The increments at 50 Hz and 60 Hz (the example under R41). -/
theorem test_increment : incOf (f64.ofInt 50) = 28147498 ∧ incOf (f64.ofInt 60) = 33776997 := by decide +kernel

/-- The arrivals of Table 20-3. -/
theorem test_sequence_numbers :
    let x : Session := { sid := 1, role := 1, serial := 1, notAfter := 1, top := 1000 }
    let y := (x.take 1002).take 1001
    x.judge 1002 = .accept ∧ (x.take 1002).top = 1002 ∧ (x.take 1002).judge 1001 = .accept ∧ y.judge 1002 = .duplicate ∧
    y.judge 938 = .replay ∧ y.judge 950 = .accept := by decide +kernel

/-- SHA-256 and SHA-384 of "abc" (FIPS 180-4), their first bytes. -/
theorem test_sha :
    (sha256 (bs [0x61, 0x62, 0x63])).take 8 = bs [0xBA, 0x78, 0x16, 0xBF, 0x8F, 0x01, 0xCF, 0xEA] ∧
    (sha384 (bs [0x61, 0x62, 0x63])).take 8 = bs [0xCB, 0x00, 0x75, 0x3F, 0x45, 0xA3, 0x5E, 0x8B] := by decide +kernel

/-- Three descriptors of 4 bytes take a record of 9: USED and CTRL as in the example under R449, RSEQ 1, CTRL of the first
with SOP and of the last with EOP. -/
theorem test_record_controls :
    (recordWrites 128 0x1000 16 1 4 3 true [⟨0x2000, 4⟩, ⟨0x3000, 4⟩, ⟨0x4000, 4⟩] (zeros 9)).1.filter
        (fun x => match x with | .write a _ => a < 0x2000 | _ => false) =
      [.write 0x1058 (leBytes 4 1 ++ leBytes 4 0x20001), .write 0x1048 (leBytes 4 4 ++ leBytes 4 1),
       .write 0x1038 (leBytes 4 4 ++ leBytes 4 0x10001)] := by decide +kernel

/-- A stray doorbell to a device that is not up does nothing: the command before kindling answers the settled state. -/
theorem test_step_before_kindling :
    (match step { State.reset with pending := [.mbxAck 3, .angSnap] } with
      | .next t => t.pending == [.angSnap] && t.dev == State.reset.dev.settle
      | _ => false) = true := by decide +kernel

/-- Table 24-7: 231 signal balls; those of Table 24-8 are one list without a repeat. -/
theorem test_signal_balls : (Signal.all.map Signal.balls).sum = 231 ∧ Signal.all.Nodup := by decide +kernel

/-- Reset states of Table 24-8. -/
theorem test_reset_balls :
    [Signal.pwm 3, .sdmClk 1, .syncOut, .ethTx 0, .ctlOut 7, .canTx 1, .ppsOut, .gh 5].map State.reset.dev.ball
      = [.highZ, .highZ, .highZ, .idle, .level false, .level true, .level false, .level false] := by decide +kernel

/-- A snap command word of no bits: the table's words spell no command. -/
theorem test_words_spell_nothing : decodeTableWord 16 0x1234 = none ∧ State.reset.withFetchWord 16 0x1234 = State.reset := by
  decide +kernel

/-! ## Witnesses: for each claim, states and operands that meet the hypotheses of each of its clauses -/

theorem witness_StepRunsTheFrontCommand :
  let c : Instr := .angSnap
  let rest : List Instr := [.carrierStart]
  let s : State := { lit [] with pending := [.angSnap, .carrierStart] }
  s.pending = c :: rest := by decide +kernel

theorem witness_IdleStepChangesNothing :
  let s : State := lit []
  s.pending = [] := by decide +kernel

theorem witness_HostRequestIsCheckedInOrder :
    (let i : Instr := .echo (({ rq (zeros 4) with len := 8 })) ((zeros 4))
     let op : Nat := 0x01
     let h : CmdHdr := { rq (zeros 4) with len := 8 }
     let p : List Byte := zeros 4
     let s : State := lit []
     hostOf i = some (op, h, p) ∧ s.dev.hearthUp = true ∧ isRelay h.path = false ∧ lengthBad h p = true) ∧
    (let i : Instr := .echo (({ rq (zeros 4) with ver := 2 })) ((zeros 4))
     let op : Nat := 0x01
     let h : CmdHdr := { rq (zeros 4) with ver := 2 }
     let p : List Byte := zeros 4
     let s : State := lit []
     hostOf i = some (op, h, p) ∧ s.dev.hearthUp = true ∧ isRelay h.path = false ∧ lengthBad h p = false ∧ h.ver ≠ 1) ∧
    (let i : Instr := .echo (({ rq (zeros 4) with tag := false })) ((zeros 4))
     let op : Nat := 0x01
     let h : CmdHdr := { rq (zeros 4) with tag := false }
     let p : List Byte := zeros 4
     let s : State := lit []
     let q := s.dev.netQuiet.flueQuiet
     hostOf i = some (op, h, p) ∧ s.dev.hearthUp = true ∧ isRelay h.path = false ∧ lengthBad h p = false ∧ h.ver = 1 ∧ q.authBad op h = true) ∧
    (let i : Instr := .echo (({ rq (zeros 4) with seq := 0 })) ((zeros 4))
     let op : Nat := 0x01
     let h : CmdHdr := { rq (zeros 4) with seq := 0 }
     let p : List Byte := zeros 4
     let s : State := lit []
     let q := s.dev.netQuiet.flueQuiet
     let x := ({ sid := 1, role := 3, serial := 7, notAfter := 100 } : Session)
     hostOf i = some (op, h, p) ∧ s.dev.hearthUp = true ∧ isRelay h.path = false ∧ lengthBad h p = false ∧ h.ver = 1 ∧ q.authBad op h = false ∧
         q.session h.sid = some x ∧ (h.seq = 0 ∨ h.seq + 64 ≤ x.top)) ∧
    (let i : Instr := .regRead ((rq ((ws [0, 1])))) ((ws [0, 1]))
     let op : Nat := 0x10
     let h : CmdHdr := rq ((ws [0, 1]))
     let p : List Byte := ws [0, 1]
     let s : State := lit [(F.HRT_LC_STATE, 0)]
     let q := s.dev.netQuiet.flueQuiet
     let r := s.dev.received h
     hostOf i = some (op, h, p) ∧ s.dev.hearthUp = true ∧ isRelay h.path = false ∧ lengthBad h p = false ∧ h.ver = 1 ∧ q.authBad op h = false ∧
         (∀ x, q.session h.sid = some x → x.judge h.seq = .accept) ∧ r.cpr.stopped = false ∧ lifecycleOk r.lc op p = false) ∧
    (let i : Instr := .regWrite ((rq ((ws [0, 1])))) ((ws [0, 1]))
     let op : Nat := 0x11
     let h : CmdHdr := rq ((ws [0, 1]))
     let p : List Byte := ws [0, 1]
     let s : State := litBy [] fun d => d.secUp fun x => { x with sessions := [{ sid := 1, role := 1, serial := 7, notAfter := 100 }] }
     let q := s.dev.netQuiet.flueQuiet
     let r := s.dev.received h
     hostOf i = some (op, h, p) ∧ s.dev.hearthUp = true ∧ isRelay h.path = false ∧ lengthBad h p = false ∧ h.ver = 1 ∧ q.authBad op h = false ∧
         (∀ x, q.session h.sid = some x → x.judge h.seq = .accept) ∧ r.cpr.stopped = false ∧ lifecycleOk r.lc op p = true ∧ r.roleBad op h p = true) := by
  iterate 4 refine ⟨by decide +kernel, ?_⟩
  exact ⟨⟨by decide +kernel, by decide +kernel, by decide +kernel, by decide +kernel, by decide +kernel, by decide +kernel, by intro x hx; revert x; decide +kernel, by decide +kernel, by decide +kernel⟩,
   by decide +kernel⟩

theorem witness_SequenceNumberRule :
    (let x : Session := { sid := 1, role := 3, serial := 7, notAfter := 100, top := 100, cache := [(99, some (0, []))] }
     let q : Nat := 36
     (q = 0 ∨ q + 64 ≤ x.top)) ∧
    (let x : Session := { sid := 1, role := 3, serial := 7, notAfter := 100, top := 100, cache := [(99, some (0, []))] }
     let q : Nat := 99
     q ≠ 0 ∧ x.top < q + 64 ∧ (∃ c ∈ x.cache, c.1 = q)) ∧
    (let x : Session := { sid := 1, role := 3, serial := 7, notAfter := 100, top := 100, cache := [(99, some (0, []))] }
     let q : Nat := 98
     q ≠ 0 ∧ x.top < q + 64 ∧ (∀ c ∈ x.cache, c.1 ≠ q)) ∧
    (let x : Session := { sid := 1, role := 3, serial := 7, notAfter := 100, top := 100, cache := [(99, some (0, []))] }
     let q : Nat := 101
     x.top < q) ∧
    (let x : Session := { sid := 1, role := 3, serial := 7, notAfter := 100, top := 100, cache := [(99, some (0, []))] }
     let q : Nat := 100
     q ≤ x.top) ∧
    (let x : Session := { sid := 1, role := 3, serial := 7, notAfter := 100, top := 100, cache := [(99, some (0, []))] }
     let q : Nat := 98
     x.judge q = .accept) := by
  and_intros <;> decide +kernel

theorem witness_LifecyclePermission :
  let lc := 1
  lc < 2 := by decide +kernel

theorem witness_LocalCommandsComplete :
    (let h : CmdHdr := rq ((zeros 8))
     let p : List Byte := zeros 8
     let s : State := litBy [] (fun d => d.secUp fun x => { x with otp := { x.otp with owner := some (zeros 48) } })
     HostReady s.dev 0x01 h p) ∧
    (let h : CmdHdr := rq (([]))
     let p : List Byte := []
     let s : State := litBy [] (fun d => d.secUp fun x => { x with otp := { x.otp with owner := some (zeros 48) } })
     HostReady s.dev 0x02 h p) ∧
    (let h : CmdHdr := rq ((zeros 96 ++ ws [332] ++ cred 2))
     let p : List Byte := zeros 96 ++ ws [332] ++ cred 2
     let s : State := litBy [(F.HRT_LC_IDENT_OK, 1)] (fun d => d.secUp fun x => { x with otp := { x.otp with owner := some (zeros 48) } })
     let d := s.dev.admitted 0x03 h p
     let c := p.drop 100
     HostReady s.dev 0x03 h p ∧ h.good = true ∧ d.hrt.hotTicks < 2 ∧ d.credReason h (leAt p 96 4) c = 0 ∧ d.sec.sessions.length < 16) ∧
    (let h : CmdHdr := rq (([]))
     let p : List Byte := []
     let s : State := litBy [] (fun d => d.secUp fun x => { x with otp := { x.otp with owner := some (zeros 48) } })
     HostReady s.dev 0x04 h p) ∧
    (let h : CmdHdr := rq ((zeros 96))
     let p : List Byte := zeros 96
     let s : State := litBy [] (fun d => d.secUp fun x => { x with otp := { x.otp with owner := some (zeros 48) } })
     let d := s.dev.admitted 0x05 h p
     let k := d.freshKey (p.take 96) "PLZ REKEY"
     let e := k.2.2.sessUp h.sid fun x => { x with oldKey := x.key, oldUsed := x.used, key := k.2.1, used := 0, since := h.seq }
     let x := (e.session h.sid).getD { sid := 0, role := 0, serial := 0, notAfter := 0 }
     HostReady s.dev 0x05 h p ∧ h.good = true ∧ e.session h.sid = some x) := 
  ⟨hostReady_of _ _ _ _ (by decide +kernel),
   hostReady_of _ _ _ _ (by decide +kernel),
   ⟨hostReady_of _ _ _ _ (by decide +kernel), by and_intros <;> decide +kernel⟩,
   hostReady_of _ _ _ _ (by decide +kernel),
   ⟨hostReady_of _ _ _ _ (by decide +kernel), by decide +kernel, some_of _ (by decide +kernel)⟩⟩

theorem witness_RegisterCommandsComplete :
    (let h : CmdHdr := rq ((ws [0x0A0000, 2]))
     let p : List Byte := ws [0x0A0000, 2]
     let s : State := lit []
     let ws := (((s.dev.admitted 0x10 h p).readRun false 0x0A0000 2).getD ([], {})).1
     let e := (((s.dev.admitted 0x10 h p).readRun false 0x0A0000 2).getD ([], {})).2
     HostReady s.dev 0x10 h p ∧ leAt p 0 4 < 2 ^ 24 ∧ 1 ≤ leAt p 4 2 ∧ leAt p 4 2 ≤ 480 ∧
         (s.dev.admitted 0x10 h p).readRun ((leAt p 6 2).testBit 0) (leAt p 0 4) (leAt p 4 2) = some (ws, e)) ∧
    (let h : CmdHdr := rq ((ws [1, 0x080190, 0xFFFFFFFF, 0]))
     let p : List Byte := ws [1, 0x080190, 0xFFFFFFFF, 0]
     let s : State := lit []
     let d := s.dev.admitted 0x11 h p
     let st := (d.regWrite (d.roleOf h == 2) (entriesOf p)).1
     let i := (d.regWrite (d.roleOf h == 2) (entriesOf p)).2.1
     let e := (d.regWrite (d.roleOf h == 2) (entriesOf p)).2.2.1
     let warm := (d.regWrite (d.roleOf h == 2) (entriesOf p)).2.2.2
     HostReady s.dev 0x11 h p ∧ 1 ≤ leAt p 0 4 ∧ leAt p 0 4 ≤ 160 ∧ d.regWrite (d.roleOf h == 2) (entriesOf p) = (st, i, e, warm)) ∧
    (let h : CmdHdr := rq ((ws [1, 0x0A0000, 1, 1]))
     let p : List Byte := ws [1, 0x0A0000, 1, 1]
     let s : State := lit []
     let st := ((s.dev.admitted 0x12 h p).regStage h.sid (entriesOf p)).1
     let i := ((s.dev.admitted 0x12 h p).regStage h.sid (entriesOf p)).2.1
     let e := ((s.dev.admitted 0x12 h p).regStage h.sid (entriesOf p)).2.2
     HostReady s.dev 0x12 h p ∧ 1 ≤ leAt p 0 4 ∧ leAt p 0 4 ≤ 160 ∧ (s.dev.admitted 0x12 h p).regStage h.sid (entriesOf p) = (st, i, e)) ∧
    (let h : CmdHdr := rq ((ws [1, 77]))
     let p : List Byte := ws [1, 77]
     let s : State := lit []
     let st := ((s.dev.admitted 0x13 h p).commit h.sid (if leAt p 0 4 = 0 then none else some (leAt p 4 4))).1
     let pay := ((s.dev.admitted 0x13 h p).commit h.sid (if leAt p 0 4 = 0 then none else some (leAt p 4 4))).2.1
     let e := ((s.dev.admitted 0x13 h p).commit h.sid (if leAt p 0 4 = 0 then none else some (leAt p 4 4))).2.2
     HostReady s.dev 0x13 h p ∧ leAt p 0 4 ≤ 1 ∧ (s.dev.admitted 0x13 h p).commit h.sid (if leAt p 0 4 = 0 then none else some (leAt p 4 4)) = (st, pay, e)) ∧
    (let h : CmdHdr := rq (([]))
     let p : List Byte := []
     let s : State := lit []
     let st := ((s.dev.admitted 0x14 h p).discardStage h.sid).1
     let e := ((s.dev.admitted 0x14 h p).discardStage h.sid).2
     HostReady s.dev 0x14 h p ∧ (s.dev.admitted 0x14 h p).discardStage h.sid = (st, e)) ∧
    (let h : CmdHdr := rq ((ws [2, 0, 8, 0]))
     let p : List Byte := ws [2, 0, 8, 0]
     let s : State := lit []
     HostReady s.dev 0x15 h p ∧ memBad (leAt p 0 1) (leAt p 4 4) (leAt p 8 4) = false ∧ leAt p 8 4 ≤ 1920) ∧
    (let h : CmdHdr := rq ((ws [1, 4 * 0x300, 4, 5]))
     let p : List Byte := ws [1, 4 * 0x300, 4, 5]
     let s : State := litBy [] fun d => d.fbxUp fun x => { x with active := some img }
     let d := s.dev.admitted 0x16 h p
     let ws := runOf (leAt p 4 4 / 4) (wordsOf (p.drop 12))
     HostReady s.dev 0x16 h p ∧ memBad (leAt p 0 1) (leAt p 4 4) (leAt p 8 4) = false ∧ leAt p 8 4 ≤ 1984 ∧ leAt p 0 1 = 1 ∧
         (∀ x ∈ ws, d.hostBound x.1 = true)) ∧
    (let h : CmdHdr := rq ((ws [2, 8, 4, 5]))
     let p : List Byte := ws [2, 8, 4, 5]
     let s : State := lit []
     let d := s.dev.admitted 0x16 h p
     HostReady s.dev 0x16 h p ∧ memBad (leAt p 0 1) (leAt p 4 4) (leAt p 8 4) = false ∧ leAt p 8 4 ≤ 1984 ∧ leAt p 0 1 = 2 ∧
         d.stageHeld h.sid = false ∧ d.stage.pending = none) ∧
    (let h : CmdHdr := rq ((ws [3, 8, 4, 5]))
     let p : List Byte := ws [3, 8, 4, 5]
     let s : State := lit []
     let d := s.dev.admitted 0x16 h p
     HostReady s.dev 0x16 h p ∧ memBad (leAt p 0 1) (leAt p 4 4) (leAt p 8 4) = false ∧ leAt p 8 4 ≤ 1984 ∧ leAt p 0 1 = 3 ∧
         d.stageHeld h.sid = false ∧ d.stage.pending = none) := 
  ⟨⟨hostReady_of _ _ _ _ (by decide +kernel), by decide +kernel, by decide +kernel, by decide +kernel, rfl⟩,
   ⟨hostReady_of _ _ _ _ (by decide +kernel), by decide +kernel, by decide +kernel, rfl⟩,
   ⟨hostReady_of _ _ _ _ (by decide +kernel), by decide +kernel, by decide +kernel, rfl⟩,
   ⟨hostReady_of _ _ _ _ (by decide +kernel), by decide +kernel, rfl⟩,
   ⟨hostReady_of _ _ _ _ (by decide +kernel), rfl⟩,
   ⟨hostReady_of _ _ _ _ (by decide +kernel), by decide +kernel, by decide +kernel⟩,
   ⟨hostReady_of _ _ _ _ (by decide +kernel), by and_intros <;> decide +kernel⟩,
   ⟨hostReady_of _ _ _ _ (by decide +kernel), by and_intros <;> decide +kernel⟩,
   ⟨hostReady_of _ _ _ _ (by decide +kernel), by and_intros <;> decide +kernel⟩⟩

theorem witness_OperationCommandsComplete :
    (let h : CmdHdr := rq ((ws [1]))
     let p : List Byte := ws [1]
     let s : State := lit [(F.GSV_STATUS_STATE, 1), (F.GSV_PERMIT_EN, 0)]
     let d := s.dev.admitted 0x20 h p
     HostReady s.dev 0x20 h p ∧ leAt p 0 4 = 1 ∧ d.startRefused = false) ∧
    (let h : CmdHdr := rq ((ws [2]))
     let p : List Byte := ws [2]
     let s : State := lit []
     let d := s.dev.admitted 0x20 h p
     HostReady s.dev 0x20 h p ∧ leAt p 0 4 = 2 ∧ d.gsv ≤ 1) ∧
    (let h : CmdHdr := rq ((ws [2]))
     let p : List Byte := ws [2]
     let s : State := lit [(F.GSV_STATUS_STATE, 5)]
     let d := s.dev.admitted 0x20 h p
     HostReady s.dev 0x20 h p ∧ leAt p 0 4 = 2 ∧ 1 < d.gsv ∧ d.gsv < 7) ∧
    (let h : CmdHdr := rq ((ws [1, 1, 0x3F800000]))
     let p : List Byte := ws [1, 1, 0x3F800000]
     let s : State := litBy [] fun d => d.fbxUp fun x => { x with active := some img }
     let d := s.dev.admitted 0x21 h p
     HostReady s.dev 0x21 h p ∧ 1 ≤ leAt p 0 4 ∧ leAt p 0 4 ≤ 4 ∧ (∀ x ∈ setpoints p, 1 ≤ x.1 ∧ x.1 ≤ 4 ∧ f32.finite x.2.toNat = true ∧
         (d.tagNode x.1).isSome = true)) ∧
    (let h : CmdHdr := rq ((ws [0x3F800000]))
     let p : List Byte := ws [0x3F800000]
     let s : State := litBy [] (fun d => d.fbxUp fun x => { x with active := some img })
     let d := s.dev.admitted 0x22 h p
     let n := 0x301
     HostReady s.dev 0x22 h p ∧ f32.finite (leAt p 0 4) = true ∧ d.tagNode 5 = some n) ∧
    (let h : CmdHdr := rq ((bs [1, 0, 0, 0]))
     let p : List Byte := bs [1, 0, 0, 0]
     let s : State := lit []
     HostReady s.dev 0x23 h p ∧ leAt p 1 1 ≤ 1) ∧
    (let h : CmdHdr := rq ((bs [1, 0, 0, 0]))
     let p : List Byte := bs [1, 0, 0, 0]
     let s : State := litBy [] fun d => d.dmpUp fun x => { x with latchA := 1, latches := [⟨.manual, .a, 1⟩] }
     let d := s.dev.admitted 0x24 h p
     HostReady s.dev 0x24 h p ∧ d.clearRefused (leAt p 0 1) = false) ∧
    (let h : CmdHdr := rq ((owned 0x25 []))
     let p : List Byte := owned 0x25 []
     let s : State := litBy [(F.GSV_STATUS_STATE, 8)] fun d => d.secUp fun x => { x with otp := { x.otp with owner := some (zeros 48) } }
     let d := s.dev.admitted 0x25 h p
     HostReady s.dev 0x25 h p ∧ d.gsv = 8) := 
  ⟨⟨hostReady_of _ _ _ _ (by decide +kernel), by decide +kernel, by decide +kernel⟩,
   ⟨hostReady_of _ _ _ _ (by decide +kernel), by decide +kernel, by decide +kernel⟩,
   ⟨hostReady_of _ _ _ _ (by decide +kernel), by and_intros <;> decide +kernel⟩,
   ⟨hostReady_of _ _ _ _ (by decide +kernel), by and_intros <;> decide +kernel⟩,
   ⟨hostReady_of _ _ _ _ (by decide +kernel), by decide +kernel, by decide +kernel⟩,
   ⟨hostReady_of _ _ _ _ (by decide +kernel), by decide +kernel⟩,
   ⟨hostReady_of _ _ _ _ (by decide +kernel), by decide +kernel⟩,
   ⟨hostReady_of _ _ _ _ (by decide +kernel), by decide +kernel⟩⟩

theorem witness_ImageCommandsComplete :
    (let h : CmdHdr := rq ((bs [0, 1, 0, 0] ++ ws [0, 7]))
     let p : List Byte := bs [0, 1, 0, 0] ++ ws [0, 7]
     let s : State := lit []
     let st := ((s.dev.admitted 0x30 h p).imgWrite (leAt p 0 1) (leAt p 1 1) (leAt p 4 4) (p.drop 8)).1
     let e := ((s.dev.admitted 0x30 h p).imgWrite (leAt p 0 1) (leAt p 1 1) (leAt p 4 4) (p.drop 8)).2
     HostReady s.dev 0x30 h p ∧ slotBad p = false ∧ p.length ≤ 1992 ∧
         (s.dev.admitted 0x30 h p).imgWrite (leAt p 0 1) (leAt p 1 1) (leAt p 4 4) (p.drop 8) = (st, e)) ∧
    (let h : CmdHdr := rq ((bs [1, 1, 0, 0]))
     let p : List Byte := bs [1, 1, 0, 0]
     let s : State := litBy sixChannels (fun d => (d.slotUp 1 1 fun _ => pkgSlot).secUp fun x => { x with otp := { x.otp with owner := some (zeros 48) } })
     let e := ((s.dev.admitted 0x31 h p).slotVerify (leAt p 0 1) (leAt p 1 1) h.sig h.sig2).2
     HostReady s.dev 0x31 h p ∧ slotBad p = false ∧ (s.dev.admitted 0x31 h p).slotVerify (leAt p 0 1) (leAt p 1 1) h.sig h.sig2 = (none, e)) ∧
    (let h : CmdHdr := rq ((bs [0, 1, 0, 0]))
     let p : List Byte := bs [0, 1, 0, 0]
     let s : State := lit []
     let e := ((s.dev.admitted 0x31 h p).slotVerify (leAt p 0 1) (leAt p 1 1) h.sig h.sig2).2
     let r := 0x01
     let src := 1
     let i := 0
     HostReady s.dev 0x31 h p ∧ slotBad p = false ∧ (s.dev.admitted 0x31 h p).slotVerify (leAt p 0 1) (leAt p 1 1) h.sig h.sig2 = (some (r, src, i), e)) ∧
    (let h : CmdHdr := rq ((bs [0, 1, 0, 0] ++ ws [0, 0]))
     let p : List Byte := bs [0, 1, 0, 0] ++ ws [0, 0]
     let s : State := lit []
     let st := ((s.dev.admitted 0x32 h p).imgActivate (leAt p 0 1) (leAt p 1 1) (leAt p 2 1 == 1) (if leAt p 4 4 = 0 then none else some (leAt p 8 4))).1
     let pay := ((s.dev.admitted 0x32 h p).imgActivate (leAt p 0 1) (leAt p 1 1) (leAt p 2 1 == 1) (if leAt p 4 4 = 0 then none else some (leAt p 8 4))).2.1
     let e := ((s.dev.admitted 0x32 h p).imgActivate (leAt p 0 1) (leAt p 1 1) (leAt p 2 1 == 1) (if leAt p 4 4 = 0 then none else some (leAt p 8 4))).2.2
     HostReady s.dev 0x32 h p ∧ slotBad p = false ∧ leAt p 2 1 ≤ 1 ∧ leAt p 4 4 ≤ 1 ∧
         (s.dev.admitted 0x32 h p).imgActivate (leAt p 0 1) (leAt p 1 1) (leAt p 2 1 == 1) (if leAt p 4 4 = 0 then none else some (leAt p 8 4)) = (st, pay, e)) ∧
    (let h : CmdHdr := rq (([]))
     let p : List Byte := []
     let s : State := lit []
     HostReady s.dev 0x33 h p) ∧
    (let h : CmdHdr := rq ((bs [0, 1, 0, 0]))
     let p : List Byte := bs [0, 1, 0, 0]
     let s : State := lit []
     let st := ((s.dev.admitted 0x34 h p).imgErase (leAt p 0 1) (leAt p 1 1)).1
     let e := ((s.dev.admitted 0x34 h p).imgErase (leAt p 0 1) (leAt p 1 1)).2
     HostReady s.dev 0x34 h p ∧ slotBad p = false ∧ (s.dev.admitted 0x34 h p).imgErase (leAt p 0 1) (leAt p 1 1) = (st, e)) := 
  ⟨⟨hostReady_of _ _ _ _ (by decide +kernel), by decide +kernel, by decide +kernel, rfl⟩,
   ⟨hostReady_of _ _ _ _ (by decide +kernel), by decide +kernel, pair_eq (by decide +kernel)⟩,
   ⟨hostReady_of _ _ _ _ (by decide +kernel), by decide +kernel, pair_eq (by decide +kernel)⟩,
   ⟨hostReady_of _ _ _ _ (by decide +kernel), by decide +kernel, by decide +kernel, by decide +kernel, rfl⟩,
   hostReady_of _ _ _ _ (by decide +kernel),
   ⟨hostReady_of _ _ _ _ (by decide +kernel), by decide +kernel, rfl⟩⟩

theorem witness_MeterCommandsComplete :
    (let h : CmdHdr := rq ((zeros 16))
     let p : List Byte := zeros 16
     let s : State := litBy [(F.HRT_LC_IDENT_OK, 1)] (fun d => d.metUp fun x => { x with run := true })
     let d := s.dev.admitted 0x40 h p
     HostReady s.dev 0x40 h p ∧ d.flag F.HRT_LC_IDENT_OK = true) ∧
    (let h : CmdHdr := rq (([]))
     let p : List Byte := []
     let s : State := litBy [(F.HRT_LC_IDENT_OK, 1)] (fun d => d.metUp fun x => { x with run := true })
     HostReady s.dev 0x41 h p) ∧
    (let h : CmdHdr := rq (([]))
     let p : List Byte := []
     let s : State := litBy [(F.HRT_LC_IDENT_OK, 1)] (fun d => d.metUp fun x => { x with run := true })
     let d := s.dev.admitted 0x42 h p
     HostReady s.dev 0x42 h p ∧ d.met.run = true ∧ d.met.saving = none) ∧
    (let h : CmdHdr := rq (([]))
     let p : List Byte := []
     let s : State := litBy [(F.HRT_LC_IDENT_OK, 1)] (fun d => d.metUp fun x => { x with run := true })
     HostReady s.dev 0x43 h p) := 
  ⟨⟨hostReady_of _ _ _ _ (by decide +kernel), by decide +kernel⟩,
   hostReady_of _ _ _ _ (by decide +kernel),
   ⟨hostReady_of _ _ _ _ (by decide +kernel), by decide +kernel, by decide +kernel⟩,
   hostReady_of _ _ _ _ (by decide +kernel)⟩

theorem witness_RecorderCommandsComplete :
    (let h : CmdHdr := rq ((ws [3]))
     let p : List Byte := ws [3]
     let s : State := lit []
     let st := ((s.dev.admitted 0x50 h p).regWrite false [⟨F.TRC_CTRL_ARM.addr, 0x19, BitVec.ofNat 32 (1 + 8 * (leAt p 0 4 % 2) + 16 * (leAt p 0 4 / 2 % 2))⟩]).1
     let i := ((s.dev.admitted 0x50 h p).regWrite false [⟨F.TRC_CTRL_ARM.addr, 0x19, BitVec.ofNat 32 (1 + 8 * (leAt p 0 4 % 2) + 16 * (leAt p 0 4 / 2 % 2))⟩]).2.1
     let e := ((s.dev.admitted 0x50 h p).regWrite false [⟨F.TRC_CTRL_ARM.addr, 0x19, BitVec.ofNat 32 (1 + 8 * (leAt p 0 4 % 2) + 16 * (leAt p 0 4 / 2 % 2))⟩]).2.2.1
     let w := ((s.dev.admitted 0x50 h p).regWrite false [⟨F.TRC_CTRL_ARM.addr, 0x19, BitVec.ofNat 32 (1 + 8 * (leAt p 0 4 % 2) + 16 * (leAt p 0 4 / 2 % 2))⟩]).2.2.2
     HostReady s.dev 0x50 h p ∧ (s.dev.admitted 0x50 h p).regWrite false [⟨F.TRC_CTRL_ARM.addr, 0x19, BitVec.ofNat 32 (1 + 8 * (leAt p 0 4 % 2) + 16 * (leAt p 0 4 / 2 % 2))⟩] = (st, i, e, w)) ∧
    (let h : CmdHdr := rq (([]))
     let p : List Byte := []
     let s : State := lit []
     let st := ((s.dev.admitted 0x51 h p).regWrite false [⟨F.TRC_CTRL_ARM.addr, 2, 2⟩]).1
     let i := ((s.dev.admitted 0x51 h p).regWrite false [⟨F.TRC_CTRL_ARM.addr, 2, 2⟩]).2.1
     let e := ((s.dev.admitted 0x51 h p).regWrite false [⟨F.TRC_CTRL_ARM.addr, 2, 2⟩]).2.2.1
     let w := ((s.dev.admitted 0x51 h p).regWrite false [⟨F.TRC_CTRL_ARM.addr, 2, 2⟩]).2.2.2
     HostReady s.dev 0x51 h p ∧ (s.dev.admitted 0x51 h p).regWrite false [⟨F.TRC_CTRL_ARM.addr, 2, 2⟩] = (st, i, e, w)) ∧
    (let h : CmdHdr := rq (([]))
     let p : List Byte := []
     let s : State := lit []
     let st := ((s.dev.admitted 0x52 h p).regWrite false [⟨F.TRC_CTRL_ARM.addr, 4, 4⟩]).1
     let i := ((s.dev.admitted 0x52 h p).regWrite false [⟨F.TRC_CTRL_ARM.addr, 4, 4⟩]).2.1
     let e := ((s.dev.admitted 0x52 h p).regWrite false [⟨F.TRC_CTRL_ARM.addr, 4, 4⟩]).2.2.1
     let w := ((s.dev.admitted 0x52 h p).regWrite false [⟨F.TRC_CTRL_ARM.addr, 4, 4⟩]).2.2.2
     HostReady s.dev 0x52 h p ∧ (s.dev.admitted 0x52 h p).regWrite false [⟨F.TRC_CTRL_ARM.addr, 4, 4⟩] = (st, i, e, w)) ∧
    (let h : CmdHdr := rq (([]))
     let p : List Byte := []
     let s : State := lit []
     HostReady s.dev 0x53 h p) ∧
    (let h : CmdHdr := rq ((ws [1]))
     let p : List Byte := ws [1]
     let s : State := lit []
     let st := ((s.dev.admitted 0x54 h p).regWrite false [⟨F.CAP_CTRL_ARM.addr, 9, BitVec.ofNat 32 (1 + 8 * (leAt p 0 4 % 2))⟩]).1
     let i := ((s.dev.admitted 0x54 h p).regWrite false [⟨F.CAP_CTRL_ARM.addr, 9, BitVec.ofNat 32 (1 + 8 * (leAt p 0 4 % 2))⟩]).2.1
     let e := ((s.dev.admitted 0x54 h p).regWrite false [⟨F.CAP_CTRL_ARM.addr, 9, BitVec.ofNat 32 (1 + 8 * (leAt p 0 4 % 2))⟩]).2.2.1
     let w := ((s.dev.admitted 0x54 h p).regWrite false [⟨F.CAP_CTRL_ARM.addr, 9, BitVec.ofNat 32 (1 + 8 * (leAt p 0 4 % 2))⟩]).2.2.2
     HostReady s.dev 0x54 h p ∧ (s.dev.admitted 0x54 h p).regWrite false [⟨F.CAP_CTRL_ARM.addr, 9, BitVec.ofNat 32 (1 + 8 * (leAt p 0 4 % 2))⟩] = (st, i, e, w)) ∧
    (let h : CmdHdr := rq (([]))
     let p : List Byte := []
     let s : State := lit []
     let st := ((s.dev.admitted 0x55 h p).regWrite false [⟨F.CAP_CTRL_ARM.addr, 2, 2⟩]).1
     let i := ((s.dev.admitted 0x55 h p).regWrite false [⟨F.CAP_CTRL_ARM.addr, 2, 2⟩]).2.1
     let e := ((s.dev.admitted 0x55 h p).regWrite false [⟨F.CAP_CTRL_ARM.addr, 2, 2⟩]).2.2.1
     let w := ((s.dev.admitted 0x55 h p).regWrite false [⟨F.CAP_CTRL_ARM.addr, 2, 2⟩]).2.2.2
     HostReady s.dev 0x55 h p ∧ (s.dev.admitted 0x55 h p).regWrite false [⟨F.CAP_CTRL_ARM.addr, 2, 2⟩] = (st, i, e, w)) ∧
    (let h : CmdHdr := rq (([]))
     let p : List Byte := []
     let s : State := lit []
     let st := ((s.dev.admitted 0x56 h p).regWrite false [⟨F.CAP_CTRL_ARM.addr, 4, 4⟩]).1
     let i := ((s.dev.admitted 0x56 h p).regWrite false [⟨F.CAP_CTRL_ARM.addr, 4, 4⟩]).2.1
     let e := ((s.dev.admitted 0x56 h p).regWrite false [⟨F.CAP_CTRL_ARM.addr, 4, 4⟩]).2.2.1
     let w := ((s.dev.admitted 0x56 h p).regWrite false [⟨F.CAP_CTRL_ARM.addr, 4, 4⟩]).2.2.2
     HostReady s.dev 0x56 h p ∧ (s.dev.admitted 0x56 h p).regWrite false [⟨F.CAP_CTRL_ARM.addr, 4, 4⟩] = (st, i, e, w)) ∧
    (let h : CmdHdr := rq (([]))
     let p : List Byte := []
     let s : State := lit []
     HostReady s.dev 0x57 h p) ∧
    (let h : CmdHdr := rq ((ws [3]))
     let p : List Byte := ws [3]
     let s : State := lit []
     HostReady s.dev 0x58 h p ∧ leAt p 0 4 ≤ 15) ∧
    (let h : CmdHdr := rq ((ws [2, 0xFF]))
     let p : List Byte := ws [2, 0xFF]
     let s : State := lit []
     HostReady s.dev 0x59 h p ∧ leAt p 0 1 ≤ 3) := 
  ⟨⟨hostReady_of _ _ _ _ (by decide +kernel), rfl⟩,
   ⟨hostReady_of _ _ _ _ (by decide +kernel), rfl⟩,
   ⟨hostReady_of _ _ _ _ (by decide +kernel), rfl⟩,
   hostReady_of _ _ _ _ (by decide +kernel),
   ⟨hostReady_of _ _ _ _ (by decide +kernel), rfl⟩,
   ⟨hostReady_of _ _ _ _ (by decide +kernel), rfl⟩,
   ⟨hostReady_of _ _ _ _ (by decide +kernel), rfl⟩,
   hostReady_of _ _ _ _ (by decide +kernel),
   ⟨hostReady_of _ _ _ _ (by decide +kernel), by decide +kernel⟩,
   ⟨hostReady_of _ _ _ _ (by decide +kernel), by decide +kernel⟩⟩

theorem witness_GroupCommandsComplete :
    (let h : CmdHdr := rq (([]))
     let p : List Byte := []
     let s : State := lit []
     HostReady s.dev 0x60 h p) ∧
    (let h : CmdHdr := rq (([]))
     let p : List Byte := []
     let s : State := lit []
     HostReady s.dev 0x61 h p) ∧
    (let h : CmdHdr := rq ((ws [1, 0]))
     let p : List Byte := ws [1, 0]
     let s : State := lit [(F.FLU_STATUS_ROLE, 2), (F.FLU_ROLE_STANDBY_EN, 1), (F.FLU_ROLE_STANDBY_POS, 3)]
     let d := s.dev.admitted 0x62 h p
     HostReady s.dev 0x62 h p ∧ d.fluRole = 2 ∧ leAt p 0 4 = 1 ∧ d.flag F.FLU_ROLE_STANDBY_EN = true) ∧
    (let h : CmdHdr := rq ((ws [2, 3]))
     let p : List Byte := ws [2, 3]
     let s : State := litBy [(F.FLU_STATUS_ROLE, 2), (F.FLU_LIVE_LO, 9)] fun d => d.fluUp fun f => { f with unit := [(4, 0x00010005), (5, 0x00040301)] }
     let d := s.dev.admitted 0x62 h p
     HostReady s.dev 0x62 h p ∧ d.fluRole = 2 ∧ leAt p 0 4 = 2 ∧ d.liveMask.testBit (leAt p 4 4) = true ∧ leAt p 4 4 ≠ d.fluPos ∧
         (d.unitAt (leAt p 4 4)).any (fun e => e.flags.testBit 2) = true) ∧
    (let h : CmdHdr := rq ((ws [5]))
     let p : List Byte := ws [5]
     let s : State := litBy [(F.FLU_STATUS_ROLE, 2), (F.FLU_LIVE_LO, 9)] fun d => d.fluUp fun f => { f with unit := [(4, 0x00010005), (5, 0x00040301)] }
     let d := s.dev.admitted 0x63 h p
     let i := 1
     HostReady s.dev 0x63 h p ∧ d.fluRole = 2 ∧ ((List.range 4096).find? fun k => (unitEntry d.flu.unit k).kind != 0 && (unitEntry d.flu.unit k).uid == leAt p 0 2) = some i) := 
  ⟨hostReady_of _ _ _ _ (by decide +kernel),
   hostReady_of _ _ _ _ (by decide +kernel),
   ⟨hostReady_of _ _ _ _ (by decide +kernel), by and_intros <;> decide +kernel⟩,
   ⟨hostReady_of _ _ _ _ (by decide +kernel), by and_intros <;> decide +kernel⟩,
   ⟨hostReady_of _ _ _ _ (by decide +kernel), by decide +kernel, by decide +kernel⟩⟩

theorem witness_NetworkCommandsComplete :
    (let h : CmdHdr := rq ((owned 0x70 (ws [6, 0, 0, 0, 0, 0, 0, 0, 77, 1] ++ zeros 56)))
     let p : List Byte := owned 0x70 (ws [6, 0, 0, 0, 0, 0, 0, 0, 77, 1] ++ zeros 56)
     let s : State := litBy [] (fun d => d.secUp fun x => { x with otp := { x.otp with owner := some (zeros 48) } })
     HostReady s.dev 0x70 h p ∧ 1 ≤ leAt p 36 1 ∧ leAt p 36 1 ≤ 3 ∧ h.good = true ∧ leAt p 0 32 ≠ 0) ∧
    (let h : CmdHdr := rq ((owned 0x70 (ws [0, 0, 0, 0, 0, 0, 0, 0, 77, 3] ++ zeros 56)))
     let p : List Byte := owned 0x70 (ws [0, 0, 0, 0, 0, 0, 0, 0, 77, 3] ++ zeros 56)
     let s : State := litBy [] (fun d => d.secUp fun x => { x with otp := { x.otp with owner := some (zeros 48) } })
     HostReady s.dev 0x70 h p ∧ 1 ≤ leAt p 36 1 ∧ leAt p 36 1 ≤ 3 ∧ h.good = true ∧ leAt p 0 32 = 0 ∧ leAt p 36 1 = 3) ∧
    (let h : CmdHdr := rq ((ws [200]))
     let p : List Byte := ws [200]
     let s : State := litBy [] (fun d => d.secUp fun x => { x with otp := { x.otp with owner := some (zeros 48) } })
     HostReady s.dev 0x71 h p ∧ leAt p 0 4 ≤ 255) ∧
    (let h : CmdHdr := rq (([]))
     let p : List Byte := []
     let s : State := litBy [] (fun d => d.secUp fun x => { x with otp := { x.otp with owner := some (zeros 48) } })
     HostReady s.dev 0x72 h p) ∧
    (let h : CmdHdr := rq ((bs [1, 3, 0, 0] ++ ws [0x123, 4, 9]))
     let p : List Byte := bs [1, 3, 0, 0] ++ ws [0x123, 4, 9]
     let s : State := lit [(mbF F.CAN_MB_CFG_DIR 1 3, 1)]
     let c := leAt p 0 1
     let m := leAt p 1 1
     let e := ((s.dev.admitted 0x78 h p).canRequest c m).1
     HostReady s.dev 0x78 h p ∧ c ≤ 1 ∧ m ≤ 63 ∧ (s.dev.admitted 0x78 h p).canRequest c m = (e, 0)) ∧
    (let h : CmdHdr := rq ((bs [1, 3, 0, 0]))
     let p : List Byte := bs [1, 3, 0, 0]
     let s : State := litBy [] (fun d => d.secUp fun x => { x with otp := { x.otp with owner := some (zeros 48) } })
     let c := leAt p 0 1
     let m := leAt p 1 1
     HostReady s.dev 0x79 h p ∧ c ≤ 1 ∧ m ≤ 63) := 
  ⟨⟨hostReady_of _ _ _ _ (by decide +kernel), by and_intros <;> decide +kernel⟩,
   ⟨hostReady_of _ _ _ _ (by decide +kernel), by and_intros <;> decide +kernel⟩,
   ⟨hostReady_of _ _ _ _ (by decide +kernel), by decide +kernel⟩,
   hostReady_of _ _ _ _ (by decide +kernel),
   ⟨hostReady_of _ _ _ _ (by decide +kernel), by decide +kernel, by decide +kernel, pair_eq_snd (by decide +kernel)⟩,
   ⟨hostReady_of _ _ _ _ (by decide +kernel), by decide +kernel, by decide +kernel⟩⟩

theorem witness_TrustCommandsComplete :
    (let h : CmdHdr := rq ((bs [0, 0, 0, 0] ++ ws [0, 10]))
     let p : List Byte := bs [0, 0, 0, 0] ++ ws [0, 10]
     let s : State := lit [(F.HRT_LC_IDENT_OK, 1), (F.HST_RING_EN.ix 2, 1), (F.HST_RING_USE.ix 2, 4)]
     HostReady s.dev 0x80 h p ∧ leAt p 0 1 ≤ 1 ∧ leAt p 8 4 ≤ 60) ∧
    (let h : CmdHdr := rq ((bs [1, 0, 0, 0] ++ ws [0, 10]))
     let p : List Byte := bs [1, 0, 0, 0] ++ ws [0, 10]
     let s : State := lit [(F.HRT_LC_IDENT_OK, 1), (F.HST_RING_EN.ix 2, 1), (F.HST_RING_USE.ix 2, 4)]
     let d := s.dev.admitted 0x81 h p
     let r := 2
     HostReady s.dev 0x81 h p ∧ leAt p 0 1 ≤ 1 ∧ 1 ≤ leAt p 8 4 ∧ leAt p 8 4 ≤ 1024 ∧ d.flag F.HRT_LC_IDENT_OK = true ∧ d.ringOfUse 4 = some r) ∧
    (let h : CmdHdr := rq (([]))
     let p : List Byte := []
     let s : State := lit [(F.HRT_LC_IDENT_OK, 1), (F.HST_RING_EN.ix 2, 1), (F.HST_RING_USE.ix 2, 4)]
     HostReady s.dev 0x82 h p) ∧
    (let h : CmdHdr := rq ((owned 0x90 (bs [3, 0, 0, 0])))
     let p : List Byte := owned 0x90 (bs [3, 0, 0, 0])
     let s : State := litBy [] (fun d => d.secUp fun x => { x with otp := { x.otp with owner := some (zeros 48) } })
     let d := s.dev.admitted 0x90 h p
     let c := true
     HostReady s.dev 0x90 h p ∧ leAt p 0 1 ≤ 4 ∧ lcRow d.lc (leAt p 0 1) = some c ∧ (c = true → d.gsv ≤ 1 ∨ 7 ≤ d.gsv)) ∧
    (let h : CmdHdr := rq ((zeros 192))
     let p : List Byte := zeros 192
     let s : State := lit [(F.HRT_LC_STATE, 1)]
     let d := s.dev.admitted 0x91 h p
     HostReady s.dev 0x91 h p ∧ h.good = true ∧ d.lc = 1 ∧ h.sig = true) ∧
    (let h : CmdHdr := rq ((zeros 16))
     let p : List Byte := zeros 16
     let s : State := lit [(F.HRT_LC_IDENT_OK, 1), (F.HST_RING_EN.ix 2, 1), (F.HST_RING_USE.ix 2, 4)]
     let d := s.dev.admitted 0x92 h p
     HostReady s.dev 0x92 h p ∧ d.lc ≠ 4 ∧ d.flag F.HRT_LC_IDENT_OK = true) ∧
    (let h : CmdHdr := rq ((zeros 16))
     let p : List Byte := zeros 16
     let s : State := lit [(F.HRT_LC_STATE, 4)]
     let d := s.dev.admitted 0x92 h p
     HostReady s.dev 0x92 h p ∧ d.lc = 4) ∧
    (let h : CmdHdr := rq ((bs [0, 1, 0, 0] ++ ws [0]))
     let p : List Byte := bs [0, 1, 0, 0] ++ ws [0]
     let s : State := lit [(F.HRT_LC_IDENT_OK, 1), (F.HST_RING_EN.ix 2, 1), (F.HST_RING_USE.ix 2, 4)]
     let d := s.dev.admitted 0x98 h p
     let c := leAt p 0 1
     HostReady s.dev 0x98 h p ∧ c ≤ 1 ∧ leAt p 1 1 = 1 ∧ (d.drtStart c).2 = false) ∧
    (let h : CmdHdr := rq ((bs [0, 2, 0, 0] ++ ws [0]))
     let p : List Byte := bs [0, 2, 0, 0] ++ ws [0]
     let s : State := lit [(F.HRT_LC_IDENT_OK, 1), (F.HST_RING_EN.ix 2, 1), (F.HST_RING_USE.ix 2, 4)]
     let c := leAt p 0 1
     HostReady s.dev 0x98 h p ∧ c ≤ 1 ∧ leAt p 1 1 = 2) ∧
    (let h : CmdHdr := rq ((bs [0, 3, 0, 0] ++ ws [0]))
     let p : List Byte := bs [0, 3, 0, 0] ++ ws [0]
     let s : State := lit [(F.HRT_LC_IDENT_OK, 1), (F.HST_RING_EN.ix 2, 1), (F.HST_RING_USE.ix 2, 4)]
     let c := leAt p 0 1
     HostReady s.dev 0x98 h p ∧ c ≤ 1 ∧ leAt p 1 1 = 3) ∧
    (let h : CmdHdr := rq ((bs [0, 4, 0, 0] ++ ws [0x42000000]))
     let p : List Byte := bs [0, 4, 0, 0] ++ ws [0x42000000]
     let s : State := lit [(F.HRT_LC_IDENT_OK, 1), (F.HST_RING_EN.ix 2, 1), (F.HST_RING_USE.ix 2, 4)]
     let c := leAt p 0 1
     HostReady s.dev 0x98 h p ∧ c ≤ 1 ∧ leAt p 1 1 = 4) := 
  ⟨⟨hostReady_of _ _ _ _ (by decide +kernel), by decide +kernel, by decide +kernel⟩,
   ⟨hostReady_of _ _ _ _ (by decide +kernel), by and_intros <;> decide +kernel⟩,
   hostReady_of _ _ _ _ (by decide +kernel),
   ⟨hostReady_of _ _ _ _ (by decide +kernel), by and_intros <;> decide +kernel⟩,
   ⟨hostReady_of _ _ _ _ (by decide +kernel), by and_intros <;> decide +kernel⟩,
   ⟨hostReady_of _ _ _ _ (by decide +kernel), by decide +kernel, by decide +kernel⟩,
   ⟨hostReady_of _ _ _ _ (by decide +kernel), by decide +kernel⟩,
   ⟨hostReady_of _ _ _ _ (by decide +kernel), by and_intros <;> decide +kernel⟩,
   ⟨hostReady_of _ _ _ _ (by decide +kernel), by decide +kernel, by decide +kernel⟩,
   ⟨hostReady_of _ _ _ _ (by decide +kernel), by decide +kernel, by decide +kernel⟩,
   ⟨hostReady_of _ _ _ _ (by decide +kernel), by decide +kernel, by decide +kernel⟩⟩

theorem witness_MailboxCommandsComplete :
    (let m : Fin 16 := 3
     let dt : Nat := 7
     let s : State := lit [(F.MBX_STAT_REQ_FREE.ix 3, 1)]
     let d := s.dev.advance dt
     s.dev.awake = true ∧ d.flag (F.MBX_STAT_REQ_FREE.ix m) = true) ∧
    (let m : Fin 16 := 3
     let dt : Nat := 7
     let len : Nat := 16
     let tag : Nat := 9
     let s : State := litBy [] fun d => d.mbxUp 3 fun x => { x with req := [(0, 0x101)], copying := some (16, 9) }
     let d := s.dev.advance dt
     let frame := Mem.bytes (d.mbx m).req 0 len
     s.dev.awake = true ∧ (d.mbx m).copying = some (len, tag) ∧ len ≤ 2048 ∧ frameStatus frame 2048 = none) ∧
    (let m : Fin 16 := 3
     let tag : Nat := 9
     let frame : List Byte := zeros 16
     let r : List Byte := zeros 20
     let rest : List MbxCmd := []
     let s : State := litBy [] fun d => d.mbxUp 3 fun x => { x with inflight := [⟨9, zeros 16, some (zeros 20)⟩] }
     let d := s.dev.payBound
     s.dev.cpr.por = false ∧ d.flag (F.MBX_RSP_VALID.ix m) = false ∧ (d.mbx m).inflight = ⟨tag, frame, some r⟩ :: rest
       ∧ d.cpr.asked = none) ∧
    (let m : Fin 16 := 3
     let tag : Nat := 9
     let frame : List Byte := zeros 16
     let r : List Byte := zeros 20
     let rest : List MbxCmd := []
     let a : ResetAsk := ⟨2, 3, none⟩
     let s : State := litBy [] fun d => (d.mbxUp 3 fun x => { x with inflight := [⟨9, zeros 16, some (zeros 20)⟩] }).cprUp
       fun x => { x with asked := some ⟨2, 3, none⟩ }
     let d := s.dev.payBound
     s.dev.cpr.por = false ∧ d.flag (F.MBX_RSP_VALID.ix m) = false ∧ (d.mbx m).inflight = ⟨tag, frame, some r⟩ :: rest
       ∧ d.cpr.asked = some a ∧ a.mbx = m ∧ ∀ c ∈ rest, c.resp = none) ∧
    (let m : Fin 16 := 3
     let s : State := lit [(F.MBX_RSP_VALID.ix 3, 1), (F.MBX_STAT_INFLIGHT.ix 3, 4)]
     s.dev.awake = true ∧ s.dev.flag (F.MBX_RSP_VALID.ix m) = true) ∧
    (let m : Fin 16 := 3
     let off : Fin 2048 := 2047
     let bytes : List (Option Byte) := [some 7]
     let s : State := lit [(F.MBX_STAT_REQ_FREE.ix 3, 1)]
     s.dev.awake = true ∧ s.dev.flag (F.MBX_STAT_REQ_FREE.ix m) = true ∧ off + bytes.length ≤ 2048) ∧
    (let s : State := lit []
     s.dev.awake = true) := by
  and_intros <;> decide +kernel

theorem witness_MsixAndRingCommandsComplete :
    (let v : Fin 32 := 31
     let s : State := litBy [(F.HST_STATUS_BME, 1)] fun d => d.hstUp fun h => { h with msixMask := 0, msixEn := true, msixPend := 2 ^ 31 }
     s.dev.awake = true ∧ s.dev.hst.msixPend.testBit v = true ∧ s.dev.vectorOpen v = true) ∧
    (let r : Fin 16 := 2
     let w : Word := 5
     let s : State := lit [(F.HST_RING_EN.ix 2, 1)]
     let d := s.dev
     let v := wbits w 7 0
     s.dev.awake = true ∧ v < d.ringSize r ∧ d.ringOwned r ≤ (v + d.ringSize r - d.get (F.RING_HEAD_HEAD.ix r)) % d.ringSize r) ∧
    (let s : State := lit [(F.HST_RING_EN.ix 2, 1)]
     s.dev.awake = true) ∧
    (let r : Fin 16 := 2
     let xs : List DescIn := [⟨256, 128, true⟩]
     let dt : Nat := 3
     let s : State := lit [(F.HST_STATUS_BME, 1), (F.HST_RING_EN.ix 2, 1), (F.RING_STAT_STATE.ix 2, 1), (F.RING_TAIL_TAIL.ix 2, 3)]
     let d := s.dev.advance dt
     let ys := xs.take (min 16 (d.ringOwned r - (d.ring r).fetched.length))
     s.dev.awake = true ∧ d.mayIssue = true ∧ (d.get (F.RING_STAT_STATE.ix r) = 1 ∨ d.get (F.RING_STAT_STATE.ix r) = 2) ∧ (∀ x ∈ ys, x.own = true ∧
         64 ≤ x.len ∧ x.len ≤ 65536 ∧ x.len % 64 = 0 ∧ x.addr % 64 = 0)) ∧
    (let r : Fin 16 := 2
     let dt : Nat := 3
     let s : State := litBy [(F.HST_STATUS_BME, 1), (F.HST_RING_EN.ix 2, 1), (F.RING_STAT_STATE.ix 2, 1), (F.RING_TAIL_TAIL.ix 2, 1)] fun d => d.ringUp 2 fun g => { g with fetched := [⟨256, 128⟩], waiting := [⟨.events, zeros 64⟩] }
     let x : Rec := ⟨.events, zeros 64⟩
     let rest : List Rec := []
     let ws : List HostOut := [.write 8 (leBytes 4 64 ++ leBytes 4 0x30000), .write 256 (zeros 64)]
     let head : Nat := 1
     let left : List Desc := []
     let d := s.dev.advance dt
     let g := d.ring r
     s.dev.awake = true ∧ d.mayIssue = true ∧ d.get (F.RING_STAT_STATE.ix r) ≠ 3 ∧ d.flag (F.HST_RING_EN.ix r) = true ∧ g.waiting = x :: rest ∧
         (takeBuffers (g.fetched.map Desc.len) x.bytes.length).isSome = true ∧
         recordWrites (min d.hst.maxPayload 256) (d.get (F.HST_RING_BASE_LO.ix r) + d.get (F.HST_RING_BASE_HI.ix r) * 2 ^ 32) (d.ringSize r) (d.get (F.HST_RING_RECORDS.ix r)) (g.fetched.length + 1) (d.get (F.RING_HEAD_HEAD.ix r)) true g.fetched x.bytes = (ws, head, left)) ∧
    (let r : Fin 16 := 2
     let t : Nat := 5
     let s : State := litBy [(F.RING_IRQ_TIME.ix 2, 3), (F.RING_IRQ_EN.ix 2, 1)] fun d => d.ringUp 2 fun g => { g with firstUnsig := some 5 }
     let d := s.dev.advanceTo (t + s.dev.get (F.RING_IRQ_TIME.ix r) * 500)
     s.dev.awake = true ∧ (s.dev.ring r).firstUnsig = some t ∧ s.dev.get (F.RING_IRQ_TIME.ix r) ≠ 0 ∧ d.flag (F.RING_IRQ_EN.ix r) = true) := by
  and_intros <;> decide +kernel

theorem witness_LinkAndErrorCommandsComplete :
    (let s : State := lit []
     s.dev.awake = true) ∧
    (let r : Fin 16 := 2
     let dt : Nat := 3
     let s : State := lit []
     let d := s.dev.advance dt
     s.dev.awake = true ∧ d.get (F.RING_STAT_STATE.ix r) ≠ 3) ∧
    (let s : State := lit []
     s.dev.awake = true) ∧
    (let dt : Nat := 3
     let s : State := lit []
     let r : Fin 16 := 2
     s.dev.awake = true ∧ (s.dev.advance dt).get (F.RING_STAT_STATE.ix r) ≠ 3) ∧
    (let s : State := lit []
     s.dev.awake = true) ∧
    (let cause : Fin 4 := 3
     let dt : Nat := 3
     let s : State := lit []
     let d := s.dev.advance dt
     s.dev.awake = true ∧ (cause.val ≠ 2 ∨ d.flag F.HST_STATUS_LINK = false)) ∧
    (let s : State := lit []
     s.dev.awake = true) := by
  and_intros <;> decide +kernel

theorem witness_SingleRegisterWritesComplete :
    (let addr : Nat := 0x050010
     let mask : Word := 0x2F
     let value : Word := 0x25
     let e : Dev := ((lit []).dev.writeEntry false ⟨addr, mask, value⟩).2.1
     let warm : Bool := ((lit []).dev.writeEntry false ⟨addr, mask, value⟩).2.2
     let s : State := lit []
     s.dev.hearthUp = true ∧ addr < 0x1000000 ∧ s.dev.writeEntry false ⟨addr, mask, value⟩ = (St.ok, e, warm)) ∧
    (let s : State := lit []
     s.dev.hearthUp = true) ∧
    (let s : State := lit []
     s.dev.hearthUp = true) ∧
    (let x : Fin 2 := 1
     let ch : Fin 32 := 5
     let s : State := lit [(F.SAR_CFG_EN_B, 1)]
     s.dev.hearthUp = true ∧ s.dev.sarEn x = true ∧ sarReserved ch = false ∧ s.dev.flag (F.SAR_REG_PEND.ix x) = false) ∧
    (let s : State := lit []
     s.dev.hearthUp = true ∧ s.dev.stopped = true) ∧
    (let b : Fin 2 := 1
     let s : State := litBy [] fun d => d.bridgeUp 1 fun x => { x with latched := true }
     s.dev.hearthUp = true ∧ (s.dev.bridge b).latched = true ∧ s.dev.gdrCause b = false) ∧
    (let s : State := lit []
     s.dev.hearthUp = true ∧ s.dev.resetRefused = false) ∧
    (let s : State := lit []
     s.dev.hearthUp = true) ∧
    (let s : State := lit [(F.NET_PTP_CFG_ROLE, 2)]
     s.dev.hearthUp = true ∧ s.dev.get F.NET_PTP_CFG_ROLE ≠ 0) := 
  ⟨⟨by decide +kernel, by decide +kernel, pair_eq (by decide +kernel)⟩,
   by and_intros <;> decide +kernel⟩

theorem witness_ChannelAndBufferWritesComplete :
    (let c : Fin 2 := 1
     let s : State := lit []
     s.dev.hearthUp = true ∧ s.dev.drtState c = 0) ∧
    (let c : Fin 2 := 1
     let s : State := lit [(F.DRT_STAT_STATE.ix 1, 5)]
     s.dev.hearthUp = true ∧ 1 ≤ s.dev.drtState c ∧ s.dev.drtState c ≤ 6) ∧
    (let s : State := lit []
     s.dev.hearthUp = true) ∧
    (let c : Fin 2 := 1
     let s : State := lit [(F.DRT_STAT_STATE.ix 1, 8)]
     s.dev.hearthUp = true ∧ s.dev.drtState c = 8) ∧
    (let s : State := lit [(F.DRT_CFG_SRC.ix 1, 1)]
     s.dev.hearthUp = true) ∧
    (let c : Fin 2 := 1
     let s : State := lit [(F.CAN_STATUS_STATE.ix 1, 3)]
     s.dev.hearthUp = true ∧ s.dev.get (F.CAN_STATUS_STATE.ix c) = 3) ∧
    (let c : Fin 2 := 1
     let m : Fin 64 := 9
     let s : State := lit [(mbF F.CAN_MB_CFG_DIR 1 9, 1)]
     s.dev.hearthUp = true ∧ s.dev.get (mbF F.CAN_MB_CFG_DIR c m) = 1 ∧ s.dev.flag (mbF F.CAN_MB_CFG_PORT_EN c m) = false ∧ s.dev.mbState c m ≠ 1 ∧
         s.dev.mbState c m ≠ 2) ∧
    (let c : Fin 2 := 1
     let m : Fin 64 := 9
     let s : State := lit [(mbF F.CAN_MB_STATE 1 9, 1)]
     s.dev.hearthUp = true ∧ s.dev.mbState c m = 1) ∧
    (let c : Fin 2 := 1
     let m : Fin 64 := 9
     let s : State := lit [(mbF F.CAN_MB_STATE 1 9, 2)]
     s.dev.hearthUp = true ∧ s.dev.mbState c m = 2) := by
  and_intros <;> decide +kernel

theorem witness_FrameAndAdoptionEventsComplete :
    (let s : State := lit [(F.ANG_INC, 28147498)]
     s.dev.kindling 6 = true) ∧
    (let k : Nat := 1
     let c : Nat := 1
     let s : State := litBy [(F.ANG_INC, 28147498)] fun d => d.stageUp fun x => { x with owner := some 1, regs := [(0x0A0000, 1, 1)], pending := some (1, 1) }
     s.dev.kindling 6 = true ∧ s.dev.stage.pending = some (k, c) ∧ (s.dev.get F.ANG_FCNT + 1) % 2 ^ 32 = k) ∧
    (let a : ActPend := ⟨false, 1, false, 1, 1⟩
     let s : State := litBy [(F.ANG_INC, 28147498)] fun d => d.hrtUp fun x => { x with act := some ⟨false, 1, false, 1, 1⟩ }
     s.dev.kindling 6 = true ∧ s.dev.actDue false = some a) ∧
    (let a : ActPend := ⟨true, 1, false, 1, 1⟩
     let s : State := litBy [(F.ANG_INC, 28147498)] fun d => (d.hrtUp fun x => { x with act := some ⟨true, 1, false, 1, 1⟩ }).slotUp 1 1 fun _ => pkgSlot
     s.dev.kindling 6 = true ∧ s.dev.actDue true = some a) := by
  refine ⟨?_, ?_, ?_, ?_⟩ <;> decide +kernel

theorem witness_FireboxEventsComplete :
    (let i : Nat := 0
     let img : Image := (fire 2).dev.fbx.active.getD img
     let x : Slot := ⟨2, 0, 0, 0, 0, 4, 0, 0x100, 0x101, 0x102, 0x200⟩
     let s : State := fire 2
     s.dev.kindling 6 = true ∧ s.dev.fbx.active = some img ∧ img.slots[i]? = some x ∧ s.dev.fbx.running = true ∧ s.dev.fbx.abandoned = false ∧
         x.selected s.dev.fbx.fcnt = true ∧ s.dev.fbx.issued.contains i = false ∧ s.dev.fbx.unitHeld img.slots x = false ∧ x.unit < 8) ∧
    (let i : Nat := 0
     let img : Image := (fire 8).dev.fbx.active.getD img
     let x : Slot := ⟨8, 0, 0, 0, 0, 4, 0, 0x100, 0x101, 0x102, 0x200⟩
     let s : State := fire 8
     s.dev.kindling 6 = true ∧ s.dev.fbx.active = some img ∧ img.slots[i]? = some x ∧ s.dev.fbx.running = true ∧ s.dev.fbx.abandoned = false ∧
         x.selected s.dev.fbx.fcnt = true ∧ s.dev.fbx.issued.contains i = false ∧ s.dev.fbx.unitHeld img.slots x = false ∧ 8 ≤ x.unit ∧ x.unit < 10) ∧
    (let i : Nat := 0
     let img : Image := (fire 10).dev.fbx.active.getD img
     let x : Slot := ⟨10, 0, 0, 0, 0, 4, 0, 0x100, 0x101, 0x102, 0x200⟩
     let s : State := fire 10
     s.dev.kindling 6 = true ∧ s.dev.fbx.active = some img ∧ img.slots[i]? = some x ∧ s.dev.fbx.running = true ∧ s.dev.fbx.abandoned = false ∧
         x.selected s.dev.fbx.fcnt = true ∧ s.dev.fbx.issued.contains i = false ∧ s.dev.fbx.unitHeld img.slots x = false ∧ 10 ≤ x.unit ∧ x.unit < 14) ∧
    (let i : Nat := 0
     let img : Image := (fire 14).dev.fbx.active.getD img
     let x : Slot := ⟨14, 0, 0, 0, 0, 4, 0, 0x100, 0x101, 0x102, 0x200⟩
     let s : State := fire 14
     s.dev.kindling 6 = true ∧ s.dev.fbx.active = some img ∧ img.slots[i]? = some x ∧ s.dev.fbx.running = true ∧ s.dev.fbx.abandoned = false ∧
         x.selected s.dev.fbx.fcnt = true ∧ s.dev.fbx.issued.contains i = false ∧ s.dev.fbx.unitHeld img.slots x = false ∧ x.unit = 14) ∧
    (let i : Nat := 0
     let img : Image := (fire 15).dev.fbx.active.getD img
     let x : Slot := ⟨15, 0, 0, 0, 0, 4, 0, 0x100, 0x101, 0x102, 0x200⟩
     let s : State := fire 15
     s.dev.kindling 6 = true ∧ s.dev.fbx.active = some img ∧ img.slots[i]? = some x ∧ s.dev.fbx.running = true ∧ s.dev.fbx.abandoned = false ∧
         x.selected s.dev.fbx.fcnt = true ∧ s.dev.fbx.issued.contains i = false ∧ s.dev.fbx.unitHeld img.slots x = false ∧ 14 < x.unit) ∧
    (let i : Nat := 2
     let f : Flight := { slot := 2, lands := 10 }
     let s : State := litBy [] fun d => d.fbxUp fun x => { x with flight := [{ slot := 2, lands := 10 }] }
     s.dev.kindling 6 = true ∧ s.dev.fbx.flight.find? (fun g => g.slot == i) = some f) ∧
    (let n : Fin 12 := 3
     let f : Flight := { slot := 2, lands := 10, legs := [(3, ⟨0, 0, 0, 0⟩)] }
     let s : State := litBy [] fun d => d.fbxUp fun x => { x with flight := [{ slot := 2, lands := 10, legs := [(3, ⟨0, 0, 0, 0⟩)] }] }
     s.dev.kindling 6 = true ∧ s.dev.fbx.flight.find? (fun g => g.legs.any fun l => l.1 == n.val) = some f) ∧
    (let s : State := fire 2
     let a := s.dev.landUpTo (s.dev.frameClocks s.dev.time.now)
     s.dev.kindling 6 = true ∧ s.dev.fbx.active.isSome = true ∧ s.dev.fbx.running = true ∧ a.fbx.overrun = false) ∧
    (let s : State := lit []
     s.dev.kindling 6 = true) := by
  and_intros <;> decide +kernel

theorem witness_AngleEventsComplete :
    (let s : State := lit [(F.ANG_INC, 28147498)]
     s.dev.kindling 6 = true) ∧
    (let s : State := litBy [(F.ANG_INC, 28147498), (F.ANG_STATUS_LOCK, 1), (F.ANG_STATUS_SRC, 0)] fun d => ({ d with time := { d.time with nextFrame := 512 } } : Dev).angUp fun a => { a with snap := some (.announced 3) }
     let target := s.dev.frameTarget
     let n := 3
     s.dev.kindling 6 = true ∧ s.dev.angLock ≤ 1 ∧ s.dev.angSrc ≠ 1 ∧ s.dev.snapBoundary = true ∧ s.dev.ang.snapAfter < target ∧
         s.dev.time.nextSample * (2 ^ 48 / s.dev.S) ≠ target ∧
         s.dev.ang.snap = some (.announced n)) ∧
    (let s : State := litBy [(F.ANG_INC, 28147498), (F.ANG_STATUS_LOCK, 1), (F.ANG_STATUS_SRC, 0)] fun d => ({ d with time := { d.time with nextFrame := 512 } } : Dev).angUp fun a => { a with snap := some (.measured 3) }
     let target := s.dev.frameTarget
     let e := 3
     s.dev.kindling 6 = true ∧ s.dev.angLock ≤ 1 ∧ s.dev.angSrc ≠ 1 ∧ s.dev.snapBoundary = true ∧ s.dev.ang.snapAfter < target ∧
         s.dev.time.nextSample * (2 ^ 48 / s.dev.S) ≠ target ∧
         s.dev.ang.snap = some (.measured e)) ∧
    (let s : State := litBy [(F.ANG_INC, 28147498), (F.ANG_STATUS_LOCK, 1), (F.ANG_STATUS_SRC, 0)] fun d => ({ d with time := { d.time with nextFrame := 512 } } : Dev).angUp fun a => { a with snap := some .now, started := true }
     let target := s.dev.frameTarget
     s.dev.kindling 6 = true ∧ s.dev.angLock ≤ 1 ∧ s.dev.angSrc ≠ 1 ∧ s.dev.snapBoundary = true ∧ s.dev.ang.snapAfter < target ∧
         s.dev.time.nextSample * (2 ^ 48 / s.dev.S) ≠ target ∧ s.dev.ang.snap = some .now ∧ s.dev.angSrc = 0 ∧
         s.dev.get F.FLU_STATUS_ROLE ≠ 2 ∧ s.dev.ang.started = true) ∧
    (let s : State := lit [(F.ANG_STATUS_LOCK, 2), (F.ANG_HOLD_HOLD_MAX, 3), (F.ANG_STATUS_HOLD_CYC, 3)]
     s.dev.kindling 6 = true ∧ s.dev.angLock = 2 ∧ s.dev.get F.ANG_HOLD_HOLD_MAX ≠ 0 ∧
         s.dev.get F.ANG_HOLD_HOLD_MAX ≤ s.dev.get F.ANG_STATUS_HOLD_CYC ∧ s.dev.ang.expired = false) ∧
    (let s : State := lit [(F.ANG_SRC_SEL, 1), (F.ANG_STATUS_SRC, 0)]
     let sel := s.dev.get F.ANG_SRC_SEL
     s.dev.kindling 6 = true ∧ s.dev.get F.ANG_SRC_SEL ≠ s.dev.angSrc ∧ s.dev.get F.ANG_SRC_SEL ≠ 3 ∧ s.dev.ang.cycAt = s.dev.time.now ∧ sel = 1) ∧
    (let s : State := lit [(F.ANG_SRC_SEL, 2), (F.ANG_STATUS_SRC, 0)]
     let sel := s.dev.get F.ANG_SRC_SEL
     s.dev.kindling 6 = true ∧ s.dev.get F.ANG_SRC_SEL ≠ s.dev.angSrc ∧ s.dev.get F.ANG_SRC_SEL ≠ 3 ∧ s.dev.ang.cycAt = s.dev.time.now ∧ sel ≠ 1) ∧
    (let d : Dev := ((lit [(F.ANG_INC, 28147498)])).dev.angCrossing.1
     let s : State := lit [(F.ANG_INC, 28147498)]
     s.dev.kindling 6 = true ∧ s.dev.angCrossing = (d, true)) ∧
    (let d : Dev := ((litBy [(F.ANG_INC, 28147498)] (fun d => d.angUp fun a => { a with cycSnap := true }))).dev.angCrossing.1
     let s : State := litBy [(F.ANG_INC, 28147498)] (fun d => d.angUp fun a => { a with cycSnap := true })
     s.dev.kindling 6 = true ∧ s.dev.angCrossing = (d, false)) ∧
    (let s : State := lit [(F.ANG_INC, 28147498), (F.ANG_PHR_CFG_EN, 1)]
     s.dev.kindling 6 = true ∧ s.dev.flag F.ANG_PHR_CFG_EN = true) := by
  iterate 7 refine ⟨by decide +kernel, ?_⟩
  exact ⟨⟨by decide +kernel, pair_eq_snd (by decide +kernel)⟩,
   ⟨by decide +kernel, pair_eq_snd (by decide +kernel)⟩,
   by decide +kernel⟩

theorem witness_MeterAndSettingsEventsComplete :
    (let c : MetCycle := {}
     let s : State := litBy [] fun d => d.metUp fun m => { m with closed := some {} }
     s.dev.kindling 6 = true ∧ s.dev.met.closed = some c) ∧
    (let s : State := litBy [] fun d => d.metUp fun m => { m with cfgPend := true, run := true, opening := true }
     s.dev.kindling 6 = true ∧ s.dev.met.cfgPend = true ∧ s.dev.met.run = true ∧ s.dev.ang.cycAt = s.dev.time.now ∧
         s.dev.met.opening = true) ∧
    (let s : State := litBy [] fun d => d.metUp fun m => { m with cfgPend := true, run := true }
     s.dev.kindling 6 = true ∧ s.dev.met.cfgPend = true ∧ s.dev.met.run = true ∧ s.dev.ang.cycAt = s.dev.time.now ∧
         s.dev.mget F.MET_CFG_EN ≠ 1) ∧
    (let r : MetSave := ⟨false, 1, 2, 3, 4, 5, 6, [], 7, 8, 9, 10, false⟩
     let s : State := litBy [] fun d => d.metUp fun m => { m with run := true, save := some ⟨false, 1, 2, 3, 4, 5, 6, [], 7, 8, 9, 10, false⟩ }
     s.dev.kindling 6 = true ∧ s.dev.met.run = true ∧ s.dev.met.saving = none ∧ s.dev.met.save = some r) ∧
    (let j : Nat := 5
     let r : MetSave := ⟨false, 1, 2, 3, 4, 5, 6, [], 7, 8, 9, 10, false⟩
     let s : State := litBy [] fun d => d.metUp fun m => { m with saving := some (5, ⟨false, 1, 2, 3, 4, 5, 6, [], 7, 8, 9, 10, false⟩) }
     s.dev.awake = true ∧ s.dev.met.saving = some (j, r)) ∧
    (let ws : List (Nat × Word) := [(F.GSV_VNOM.addr, 0x43000000)]
     let s : State := litBy [] fun d => d.supUp fun g => { g with pend := some [(F.GSV_VNOM.addr, 0x43000000)], sampleAt := some 0 }
     s.dev.kindling 6 = true ∧ s.dev.sup.pend = some ws ∧ s.dev.gsv ≠ 5 ∧ s.dev.gsv ≠ 6 ∧
         s.dev.sup.sampleAt = some s.dev.time.now) := by
  and_intros <;> decide +kernel

theorem witness_PwmEventsComplete :
    (let s : State := lit [(F.ANG_INC, 28147498)]
     s.dev.kindling 6 = true) ∧
    (let s : State := lit [(F.ANG_INC, 28147498), (F.PWM_CFG_HALF, 1)]
     s.dev.kindling 6 = true ∧ s.dev.flag F.PWM_CFG_HALF = true) ∧
    (let n : Fin 12 := 4
     let rising : Bool := true
     let dt : Nat := 1280
     let e : PwmEdge := ⟨9, 100, false⟩
     let s : State := litBy [(F.PWM_LEG_CFG_MODE.ix 4, 1), (F.PWM_LEG_CFG_ADAPT.ix 4, 1), (F.PWM_DT_NOW_DT_BA.ix 4, 2000)] fun d => (d.fbxUp fun x => { x with active := some img }).pwmUp fun p => { p with edges := [⟨9, 100, false⟩] }
     let t := s.dev.nowTaps + dt
     let d := s.dev.advance (dt / 128)
     let up := rising != d.flag (F.PWM_LEG_CFG_VSW_INV.ix n)
     let l := d.leg n
     s.dev.kindling 6 = true ∧ d.adapts n = true ∧ lastOff d.pwm.edges (if up then 2 * n + 1 else 2 * n) t = some e ∧
         (if up then l.seenBA else l.seenAB) ≠ some e.tap ∧ t < d.incomingEdge n up e) ∧
    (let n : Fin 12 := 4
     let s : State := litBy [(F.PWM_LEG_CFG_MODE.ix 4, 1), (F.PWM_LEG_CFG_ADAPT.ix 4, 1)] fun d => d.fbxUp fun x => { x with active := some img }
     s.dev.kindling 6 = true ∧ s.dev.adapts n = true) ∧
    (let s : State := lit [(F.ANG_INC, 28147498)]
     s.dev.kindling 6 = true) ∧
    (let g : Fin 4 := 1
     let s : State := lit [(F.ANG_INC, 28147498)]
     let d := s.dev.advanceTo (s.dev.pwm.swapAt.getD g 0 + 2000000)
     s.dev.kindling 6 = true ∧ d.bitIn F.PWM_STATUS_DL_STALE g = false) ∧
    (let g : Fin 4 := 1
     let s : State := lit [(F.ANG_INC, 28147498)]
     let d := s.dev.advanceTo (s.dev.pwm.calAt.getD g 0 + 8000000)
     s.dev.kindling 6 = true ∧ s.dev.pwm.spare.getD g false = false ∧ d.bitIn F.PWM_STATUS_DL_FAIL g = false) ∧
    (let width : Nat := 40
     let dt : Nat := 0
     let s : State := litBy [(F.ANG_INC, 28147498), (F.PWM_SYNC_CFG_ROLE, 3), (F.ANG_STATUS_SRC, 2), (F.ANG_STATUS_LOCK, 0), (F.PWM_SYNC_DLY_VALID, 1)] fun d => d.pwmUp fun p => { p with hiZ := false }
     let t : Int := s.dev.nowTaps + dt
     let b := s.dev.advance (dt / 128)
     let missed := b.pwm.syncAt.any fun x => decide (3 * (b.predictedPeriod : Int) < 2 * (t - x))
     let d := (b.pwmUp fun p => { p with syncAt := some t, syncGood := if missed then 0 else p.syncGood }).put F.PWM_STATUS_SYNC_IN_OK 1
     let sub := d.flag F.PWM_STATUS_SYNC_SUBST
     let e := if sub then d else d.pwmUp fun p => { p with syncOut := [(t + 512, width)] }
     s.dev.kindling 6 = true ∧ 20 ≤ width ∧ width ≤ 200 ∧ b.syncRole = 2 ∧ e.syncCompares = true) ∧
    (let width : Nat := 40
     let dt : Nat := 0
     let s : State := litBy [(F.ANG_INC, 28147498), (F.PWM_SYNC_CFG_ROLE, 3)] fun d => d.pwmUp fun p => { p with hiZ := false }
     let t : Int := s.dev.nowTaps + dt
     let b := s.dev.advance (dt / 128)
     let missed := b.pwm.syncAt.any fun x => decide (3 * (b.predictedPeriod : Int) < 2 * (t - x))
     let d := (b.pwmUp fun p => { p with syncAt := some t, syncGood := if missed then 0 else p.syncGood }).put F.PWM_STATUS_SYNC_IN_OK 1
     let sub := d.flag F.PWM_STATUS_SYNC_SUBST
     let e := if sub then d else d.pwmUp fun p => { p with syncOut := [(t + 512, width)] }
     s.dev.kindling 6 = true ∧ 20 ≤ width ∧ width ≤ 200 ∧ b.syncRole = 2 ∧ e.syncCompares = false ∧ sub = false) ∧
    (let width : Nat := 40
     let dt : Nat := 0
     let s : State := litBy [(F.ANG_INC, 28147498), (F.PWM_SYNC_CFG_ROLE, 3), (F.PWM_STATUS_SYNC_SUBST, 1)] fun d => d.pwmUp fun p => { p with hiZ := false }
     let t : Int := s.dev.nowTaps + dt
     let b := s.dev.advance (dt / 128)
     let missed := b.pwm.syncAt.any fun x => decide (3 * (b.predictedPeriod : Int) < 2 * (t - x))
     let d := (b.pwmUp fun p => { p with syncAt := some t, syncGood := if missed then 0 else p.syncGood }).put F.PWM_STATUS_SYNC_IN_OK 1
     let sub := d.flag F.PWM_STATUS_SYNC_SUBST
     let e := if sub then d else d.pwmUp fun p => { p with syncOut := [(t + 512, width)] }
     s.dev.kindling 6 = true ∧ 20 ≤ width ∧ width ≤ 200 ∧ b.syncRole = 2 ∧ e.syncCompares = false ∧ sub = true) ∧
    (let s : State := litBy [(F.ANG_INC, 28147498), (F.PWM_SYNC_CFG_ROLE, 3)] fun d => d.pwmUp fun p => { p with hiZ := false }
     s.dev.kindling 6 = true ∧ s.dev.syncRole = 2 ∧ s.dev.flag F.PWM_STATUS_SYNC_SUBST = false) ∧
    (let diffs : List Nat := List.replicate 64 3
     let s : State := litBy [] fun d => d.pwmUp fun p => { p with meas := true }
     s.dev.kindling 6 = true ∧ s.dev.pwm.meas = true ∧ diffs.length = 64) := by
  and_intros <;> decide +kernel

theorem witness_SenseEventsComplete :
    (let s : State := lit []
     s.dev.awake = true) ∧
    (let n : Fin 24 := 5
     let s : State := lit [(F.SDM_CH_EN.ix 5, 1), (F.SDM_GRP_MODE.ix 1, 3)]
     s.dev.awake = true ∧ s.dev.schOn n = true ∧ s.dev.schMode n = 3 ∧ (s.dev.sch n).viol ≠ 7) ∧
    (let n : Fin 24 := 5
     let s : State := litBy [(F.SDM_CH_EN.ix 5, 1), (F.SDM_GRP_MODE.ix 1, 3)] fun d => d.schUp 5 fun c => { c with viol := 7 }
     s.dev.awake = true ∧ s.dev.schOn n = true ∧ s.dev.schMode n = 3 ∧ (s.dev.sch n).viol = 7) ∧
    (let n : Fin 24 := 5
     let bits : List Bool := [true]
     let s : State := lit [(F.SDM_CH_EN.ix 5, 1), (F.SDM_GRP_MODE.ix 1, 3)]
     s.dev.awake = true ∧ bits ≠ [] ∧ (s.dev.schOn n = true ∨ s.dev.f3On n = true) ∧
       (s.dev.schMode n = 1 → s.dev.clkRuns (n / 4) = true)) ∧
    (let n : Fin 24 := 5
     let bits : List Bool := [true]
     let s : State := litBy [(F.SDM_CH_EN.ix 5, 1), (F.SDM_GRP_MODE.ix 1, 1)] fun d => { d with sdm := { d.sdm with run := 2 } }
     s.dev.awake = true ∧ bits ≠ [] ∧ s.dev.schMode n = 1 ∧ (s.dev.schOn n = true ∨ s.dev.f3On n = true) ∧ s.dev.clkRuns (n / 4) = true) ∧
    (let n : Fin 24 := 5
     let bits : List Bool := [true]
     let s : State := litBy [(F.SDM_STATUS_MOD_LOCK, 1), (F.SDM_CH_EN.ix 5, 1), (F.SDM_GRP_MODE.ix 1, 1)] fun d => { d with sdm := { d.sdm with run := 2 } }
     let back := (if s.dev.schMode n = 3 then [n.val] else (List.range 4).map fun i => n / 4 * 4 + i).foldl
       (fun e i => e.schUp i fun c => { c with clk := false }) s.dev
     s.dev.awake = true ∧ bits ≠ [] ∧ (back.schOn n = true ∨ back.f3On n = true) ∧ back.clkRuns (n / 4) = true ∧ s.dev.schMode n = 1 ∧
       s.dev.modLost = false) ∧
    (let n : Fin 24 := 5
     let bits : List Bool := [true]
     let dt : Nat := 3
     let s : State := lit [(F.SDM_CH_EN.ix 5, 1), (F.SDM_GRP_MODE.ix 1, 2)]
     let d := s.dev.advance dt
     s.dev.awake = true ∧ bits ≠ [] ∧ (d.schOn n = true ∨ d.f3On n = true) ∧ (d.schMode n = 1 → d.clkRuns (n / 4) = true)) ∧
    (let x : Fin 2 := 1
     let i : Fin 64 := 2
     let s : State := litBy [(F.SAR_CFG_EN_B, 1), (F.SAR_CFG_LEN_B, 4)] fun d => d.sarUp fun y => { y with pass := some 3, next := [0, 2] }
     s.dev.kindling 6 = true ∧ s.dev.sarEn x = true ∧ s.dev.sar.pass.isSome = true ∧ i.val < s.dev.sarLen x ∧ s.dev.sar.next.getD x 0 = i.val) ∧
    (let k : Nat := 3
     let s : State := litBy [(F.SAR_CFG_EN_B, 1), (F.SAR_CFG_LEN_B, 4)] fun d => d.sarUp fun y => { y with pass := some 3, next := [0, 4] }
     s.dev.kindling 6 = true ∧ s.dev.cpr.d2dLost = false ∧ s.dev.sarThrough = true ∧ s.dev.sar.pass = some k) ∧
    (let x : Fin 2 := 1
     let edge : Nat := 0
     let s : State := lit [(F.ANG_INC, 28147498), (F.SAR_REG_PEND.ix 1, 1)]
     s.dev.awake = true ∧ s.dev.flag (F.SAR_REG_PEND.ix x) = true ∧ s.dev.sarRegEdge x = some edge) ∧
    (let s : State := lit []
     s.dev.awake = true) := by
  and_intros <;> decide +kernel

theorem witness_DamperEventsComplete :
    (let j : Fin 16 := 4
     let uv : Nat := 2000000
     let dt : Nat := 3
     let s : State := lit [(F.DMP_CMP_EN.ix 4, 1), (F.DMP_CMP_THR.ix 4, 100)]
     let d := s.dev.advance dt
     let w := d.cmpEntry j
     let e := d.dmpUp fun x => { x with cmpOut := setBit x.cmpOut j }
     s.dev.awake = true ∧ cmpOn w 0 = true ∧ cmpOutput w uv (d.dmp.cmpOut.testBit j) = true ∧ d.dmp.asserted.testBit j = false ∧ e.blankEnd w = none) ∧
    (let j : Fin 16 := 4
     let uv : Nat := 2000000
     let dt : Nat := 3
     let s : State := litBy [(F.DMP_CMP_EN.ix 4, 1), (F.DMP_CMP_THR.ix 4, 100), (F.DMP_CMP_BLANK.ix 4, 50)] fun d => d.pwmUp fun p => { p with edges := [⟨0, -640, true⟩] }
     let d := s.dev.advance dt
     let w := d.cmpEntry j
     let e := d.dmpUp fun x => { x with cmpOut := setBit x.cmpOut j }
     let t := ((e.blankEnd w).getD 0)
     s.dev.awake = true ∧ cmpOn w 0 = true ∧ cmpOutput w uv (d.dmp.cmpOut.testBit j) = true ∧ d.dmp.asserted.testBit j = false ∧ e.blankEnd w = some t) ∧
    (let s : State := lit []
     s.dev.awake = true) ∧
    (let j : Fin 16 := 4
     let t : Nat := 99
     let s : State := litBy [] fun d => d.dmpUp fun x => { x with blank := x.blank.set 4 (some 99), cmpOut := 16 }
     s.dev.awake = true ∧ s.dev.dmp.blank.getD j none = some t) ∧
    (let s : State := lit []
     s.dev.awake = true) ∧
    (let i : Fin 86 := 4
     let uv : Nat := 0
     let dt : Nat := 3
     let s : State := lit [(F.DMP_CMP_EN.ix 4, 1), (F.DMP_CMP_THR.ix 4, 100)]
     let d := s.dev.advance dt
     s.dev.awake = true ∧ i.val < 16 ∧ cmpOn (d.cmpEntry i) 0 = true ∧ cmpOutput (d.cmpEntry i) uv (d.dmp.cmpOut.testBit i) = false) ∧
    (let i : Fin 86 := 27
     let s : State := lit []
     s.dev.awake = true ∧ 16 ≤ i.val ∧ i.val < 28) ∧
    (let n : Fin 12 := 11
     let t : Nat := 99
     let s : State := litBy [] fun d => d.dmpUp fun x => { x with legs := x.legs.set 11 (.seq 99) }
     s.dev.awake = true ∧ s.dev.dmp.legs.getD n .free = .seq t) ∧
    (let k : Fin 8 := 7
     let x : Nat × Nat := (7, 99)
     let s : State := litBy [] fun d => d.dmpUp fun x => { x with opening := [(7, 99)] }
     s.dev.awake = true ∧ s.dev.dmp.opening.find? (fun y => y.1 == k.val) = some x) ∧
    (let g : Fin 8 := 7
     let t : Nat := 99
     let s : State := litBy [] fun d => d.dmpUp fun x => { x with bWait := x.bWait.set 7 (some 99), holdB := 128, latches := [⟨.hw 3, .b, 128⟩], asserted := 8 }
     let d := (s.dev.advanceTo t).dropLatches g fun l => l.cls == .b && !(s.dev.advanceTo t).latchUp l
     s.dev.awake = true ∧ s.dev.dmp.bWait.getD g none = some t ∧ d.bAsserted g = true) ∧
    (let g : Fin 8 := 7
     let t : Nat := 99
     let s : State := litBy [] fun d => d.dmpUp fun x => { x with bWait := x.bWait.set 7 (some 99), holdB := 128, latches := [⟨.hw 3, .b, 128⟩] }
     let d := (s.dev.advanceTo t).dropLatches g fun l => l.cls == .b && !(s.dev.advanceTo t).latchUp l
     s.dev.awake = true ∧ s.dev.dmp.bWait.getD g none = some t ∧ d.bAsserted g = false) ∧
    (let t : Nat := 99
     let ts : List Nat := []
     let s : State := litBy [] fun d => d.dmpUp fun x => { x with lockTimes := [99] }
     s.dev.awake = true ∧ s.dev.dmp.lockTimes = t :: ts ∧ s.dev.dmp.lockout = false) ∧
    (let s : State := lit []
     s.dev.awake = true) ∧
    (let k : Fin 8 := 7
     let t : Nat := 99
     let s : State := litBy [] fun d => d.dmpUp fun x => { x with disagree := (List.range 8).map fun _ => some 99 }
     let d := s.dev.advanceTo (t + 500000 * s.dev.get (F.DMP_CTL_FB_TIME.ix k))
     s.dev.awake = true ∧ s.dev.dmp.disagree.getD k none = some t ∧ d.bitIn F.DMP_CTL_STATE_MISMATCH k = false) := by
  and_intros <;> decide +kernel

theorem witness_SequenceTimersComplete :
    (let s : State := lit [(F.GSV_STATUS_STATE, 2)]
     s.dev.kindling 6 = true ∧ s.dev.gsv = 2 ∧ s.dev.sup.step = 0 ∧ s.dev.sup.preFail = false) ∧
    (let s : State := litBy [(F.GSV_STATUS_STATE, 2)] fun d => d.supUp fun g => { g with step := 1 }
     s.dev.kindling 6 = true ∧ s.dev.gsv = 2 ∧ s.dev.sup.step = 1) ∧
    (let s : State := litBy [(F.GSV_STATUS_STATE, 3)] fun d => d.supUp fun g => { g with closeAt := some 99 }
     let t := 99
     s.dev.kindling 6 = true ∧ s.dev.gsv = 3 ∧ s.dev.sup.closeAt = some t) ∧
    (let s : State := litBy [(F.GSV_STATUS_STATE, 5)] fun d => d.supUp fun g => { g with stopAt := some 99 }
     let t := 99
     s.dev.kindling 6 = true ∧ s.dev.gsv ≠ 3 ∧ s.dev.sup.stopAt = some t) ∧
    (let s : State := lit [(F.GSV_STATUS_STATE, 3), (F.GSV_SEQ_T_SYNC_TIME, 4)]
     s.dev.kindling 6 = true ∧ s.dev.gsv = 3 ∧ s.dev.get F.GSV_SEQ_T_SYNC_TIME ≠ 0) := by
  refine ⟨?_, ?_, ?_, ?_, ?_⟩ <;> decide +kernel

theorem witness_GateDriverEventsComplete :
    (let b : Fin 2 := 0
     let err : Nat := 0
     let s : State := lit []
     let k := max (anaEdge s.dev.time.now) (s.dev.bridge b).upTo
     let d := (s.dev.advanceTo (5 * k)).wordsTo b (5 * k)
     let w := d.drtWord b k ^^^ err
     s.dev.awake = true ∧ wordGood w k = true) ∧
    (let b : Fin 2 := 0
     let err : Nat := 1
     let s : State := lit []
     let k := max (anaEdge s.dev.time.now) (s.dev.bridge b).upTo
     let d := (s.dev.advanceTo (5 * k)).wordsTo b (5 * k)
     let w := d.drtWord b k ^^^ err
     let n := if (d.bridge b).badAt.any (fun j => j + 1 == k) then (d.bridge b).bad + 1 else 1
     s.dev.awake = true ∧ wordGood w k = false ∧ n < 3) ∧
    (let b : Fin 2 := 0
     let err : Nat := 1
     let s : State := litBy [] fun d => d.bridgeUp 0 fun x => { x with upTo := 5, bad := 2, badAt := some 4 }
     let k := max (anaEdge s.dev.time.now) (s.dev.bridge b).upTo
     let d := (s.dev.advanceTo (5 * k)).wordsTo b (5 * k)
     let w := d.drtWord b k ^^^ err
     let e := d.bridgeUp b fun x => { x with upTo := k + 1 }
     let n := if (d.bridge b).badAt.any (fun j => j + 1 == k) then (d.bridge b).bad + 1 else 1
     let g := (e.bump F.GDR_LINK_CNT).bridgeUp b fun x => { x with bad := n % 3, badAt := some k }
     s.dev.awake = true ∧ wordGood w k = false ∧ 3 ≤ n ∧ (g.bridge b).faulted = false) ∧
    (let n : Fin 6 := 4
     let mv : Nat := 7000
     let dt : Nat := 3
     let s : State := lit []
     let d := s.dev.advance dt
     let b := n.val / 3
     let l := n.val % 3
     s.dev.awake = true ∧ mv < 8500 ∧ (d.bridge b).warn.testBit l = false) ∧
    (let mv : Nat := 9001
     let s : State := lit []
     s.dev.awake = true ∧ 9000 < mv) ∧
    (let n : Fin 6 := 4
     let mv : Nat := 7000
     let dt : Nat := 3
     let s : State := lit []
     let d := s.dev.advance dt
     let b := n.val / 3
     let l := n.val % 3
     let ext : Bool := false
     let e := d.bridgeUp b fun x => if ext then { x with extLow := true } else { x with low := setBit x.low l }
     let new := andNot (e.lockedOut b) (e.bridge b).lockSeen
     let f := (e.bridgeUp b fun x => { x with lockSeen := e.lockedOut b }).bump F.GDR_UV_CNT (popCount 3 new)
     let g := f.put (F.GDR_FAULT_UV.ix b) (f.get (F.GDR_FAULT_UV.ix b) ||| new)
     s.dev.awake = true ∧ (if ext then mv < 9000 else mv < 7500) ∧ new ≠ 0 ∧ (g.bridge b).faulted = false) ∧
    (let n : Fin 6 := 4
     let mv : Nat := 7000
     let dt : Nat := 3
     let s : State := litBy [] fun d => d.bridgeUp 1 fun x => { x with latched := true }
     let d := s.dev.advance dt
     let b := n.val / 3
     let l := n.val % 3
     let ext : Bool := false
     let e := d.bridgeUp b fun x => if ext then { x with extLow := true } else { x with low := setBit x.low l }
     let new := andNot (e.lockedOut b) (e.bridge b).lockSeen
     let f := (e.bridgeUp b fun x => { x with lockSeen := e.lockedOut b }).bump F.GDR_UV_CNT (popCount 3 new)
     let g := f.put (F.GDR_FAULT_UV.ix b) (f.get (F.GDR_FAULT_UV.ix b) ||| new)
     s.dev.awake = true ∧ (if ext then mv < 9000 else mv < 7500) ∧ new ≠ 0 ∧ (g.bridge b).faulted = true ∧ g.joinsFault b = false) ∧
    (let n : Fin 6 := 4
     let mv : Nat := 7000
     let dt : Nat := 3
     let s : State := litBy [] fun d => d.bridgeUp 1 fun x => { x with latched := true, joinTo := 10 }
     let d := s.dev.advance dt
     let b := n.val / 3
     let l := n.val % 3
     let ext : Bool := false
     let e := d.bridgeUp b fun x => if ext then { x with extLow := true } else { x with low := setBit x.low l }
     let new := andNot (e.lockedOut b) (e.bridge b).lockSeen
     let f := (e.bridgeUp b fun x => { x with lockSeen := e.lockedOut b }).bump F.GDR_UV_CNT (popCount 3 new)
     let g := f.put (F.GDR_FAULT_UV.ix b) (f.get (F.GDR_FAULT_UV.ix b) ||| new)
     s.dev.awake = true ∧ (if ext then mv < 9000 else mv < 7500) ∧ new ≠ 0 ∧ g.joinsFault b = true) ∧
    (let mv : Nat := 9000
     let s : State := lit []
     let ext : Bool := true
     s.dev.awake = true ∧ if ext then 9000 ≤ mv else 8000 < mv) ∧
    (let mv : Nat := 7000
     let dt : Nat := 3
     let s : State := lit []
     let d := s.dev.advance dt
     s.dev.awake = true ∧ mv < 9800 ∧ d.gdr.vdrvLow = false) ∧
    (let mv : Nat := 10201
     let s : State := lit []
     s.dev.awake = true ∧ 10200 < mv) ∧
    (let n : Fin 6 := 4
     let x : Nat := 1000001
     let dt : Nat := 3
     let s : State := lit []
     let d := s.dev.advance dt
     let b := n.val / 3
     s.dev.awake = true ∧ 1000 * (d.get (F.GDR_SC_SC_SLEW.ix b) + 1) < x) ∧
    (let n : Fin 6 := 4
     let x : Nat := 400000
     let dt : Nat := 3
     let s : State := lit [(F.GDR_CFG_OC_EN.ix 1, 1), (F.GDR_SC_OC_THR.ix 1, 3)]
     let d := s.dev.advance dt
     let b := n.val / 3
     s.dev.awake = true ∧ d.flag (F.GDR_CFG_OC_EN.ix b) = true ∧ 20000 * d.get (F.GDR_SC_OC_THR.ix b) < x ∧ d.ocBlankEnd n = none) ∧
    (let n : Fin 6 := 4
     let x : Nat := 400000
     let stay : Nat := 5
     let dt : Nat := 3
     let t : Nat := 51
     let s : State := litBy [(F.GDR_CFG_OC_EN.ix 1, 1), (F.GDR_SC_OC_THR.ix 1, 3), (F.GDR_SC_OC_BLANK.ix 1, 10)] fun d =>
       d.bridgeUp 1 fun x => { x with upTo := 1, cmd := 8, lowOn := [none, some 1, none] }
     let d := s.dev.advance dt
     let b := n.val / 3
     s.dev.awake = true ∧ d.flag (F.GDR_CFG_OC_EN.ix b) = true ∧ 20000 * d.get (F.GDR_SC_OC_THR.ix b) < x ∧ d.ocBlankEnd n = some t ∧
       d.time.now + stay < t) ∧
    (let n : Fin 6 := 4
     let x : Nat := 400000
     let stay : Nat := 50
     let dt : Nat := 3
     let t : Nat := 51
     let s : State := litBy [(F.GDR_CFG_OC_EN.ix 1, 1), (F.GDR_SC_OC_THR.ix 1, 3), (F.GDR_SC_OC_BLANK.ix 1, 10)] fun d =>
       d.bridgeUp 1 fun x => { x with upTo := 1, cmd := 8, lowOn := [none, some 1, none] }
     let d := s.dev.advance dt
     let b := n.val / 3
     s.dev.awake = true ∧ d.flag (F.GDR_CFG_OC_EN.ix b) = true ∧ 20000 * d.get (F.GDR_SC_OC_THR.ix b) < x ∧ d.ocBlankEnd n = some t ∧
       t ≤ d.time.now + stay ∧ (d.advanceTo t).ocBlankEnd n = none) ∧
    (let b : Fin 2 := 0
     let t : Nat := 99
     let s : State := litBy [] fun d => d.bridgeUp 0 fun x => { x with soft := some (99, 5) }
     let on := 5
     s.dev.awake = true ∧ (s.dev.bridge b).soft = some (t, on)) ∧
    (let b : Fin 2 := 0
     let t : Nat := 99
     let s : State := litBy [] fun d => { d.bridgeUp 0 fun x => { x with wait := some 99 } with gdr := { (d.bridgeUp 0 fun x => { x with wait := some 99 }).gdr with vdrvLow := true } }
     let d := s.dev.advanceTo t
     s.dev.awake = true ∧ (s.dev.bridge b).wait = some t ∧ d.gdrCause b = true) ∧
    (let b : Fin 2 := 0
     let t : Nat := 99
     let s : State := litBy [] fun d => d.bridgeUp 0 fun x => { x with wait := some 99, latched := true }
     let d := s.dev.advanceTo t
     s.dev.awake = true ∧ (s.dev.bridge b).wait = some t ∧ d.gdrCause b = false) ∧
    (let b : Fin 2 := 0
     let t : Nat := 99
     let s : State := litBy [] fun d => d.bridgeUp 0 fun x => { x with driveSince := some 99 }
     s.dev.awake = true ∧ (s.dev.bridge b).driveSince = some t) ∧
    (let b : Fin 2 := 0
     let dt : Nat := 3
     let s : State := litBy [] fun d => { d with dmp := { d.dmp with drtHeld := 1 } }
     let d := s.dev.advance dt
     s.dev.awake = true ∧ d.dmp.drtHeld.testBit b = true) ∧
    (let b : Fin 2 := 0
     let dt : Nat := 3
     let s : State := lit []
     let d := s.dev.advance dt
     s.dev.awake = true ∧ d.dmp.drtHeld.testBit b = false) := by
  and_intros <;> decide +kernel

theorem witness_DraughtRunningEventsComplete :
    (let s : State := lit [(F.DRT_STAT_STATE.ix 1, 5)]
     s.dev.awake = true) ∧
    (let c : Fin 2 := 1
     let t : Nat := 99
     let s : State := litBy [(F.DRT_STAT_STATE.ix 1, 5)] fun d => d.chUp 1 fun x => { x with next := some 99 }
     s.dev.awake = true ∧ (s.dev.ch c).next = some t) ∧
    (let c : Fin 2 := 1
     let s : State := litBy [(F.DRT_STAT_STATE.ix 1, 5)] fun d => d.chUp 1 fun x => { x with miss := 2 }
     let d := ((s.dev.advanceTo ((s.dev.ch c).window 0).2).bump F.DRT_MISS_CNT).chUp c fun x => { x with miss := x.miss + 1, zcAt := none }
     s.dev.awake = true ∧ s.dev.drtState c = 5 ∧ (s.dev.ch c).seen = false ∧ 3 ≤ (d.ch c).miss) ∧
    (let c : Fin 2 := 1
     let s : State := lit [(F.DRT_STAT_STATE.ix 1, 5)]
     let d := ((s.dev.advanceTo ((s.dev.ch c).window 0).2).bump F.DRT_MISS_CNT).chUp c fun x => { x with miss := x.miss + 1, zcAt := none }
     s.dev.awake = true ∧ s.dev.drtState c = 5 ∧ (s.dev.ch c).seen = false ∧ (d.ch c).miss < 3) ∧
    (let c : Fin 2 := 1
     let uv : Nat := 8000000
     let dt : Nat := 3
     let s : State := lit [(F.DRT_STAT_STATE.ix 1, 5)]
     let d := s.dev.advance dt
     let st := d.drtState c
     s.dev.awake = true ∧ 2 ≤ st ∧ st ≤ 5 ∧ 20000 * d.drtCfg c (if st = 2 then F.DRT_LIM_BRK_ILIM else F.DRT_LIM_RUN_ILIM) < uv ∧
         (d.ch c).limAt = none) ∧
    (let c : Fin 2 := 1
     let uv : Nat := 8000000
     let dt : Nat := 3
     let s : State := lit [(F.DRT_STAT_STATE.ix 1, 5)]
     let d := s.dev.advance dt
     let e := d.wordsTo c d.time.now
     let st := d.drtState c
     let t : Nat := 100
     s.dev.awake = true ∧ 2 ≤ st ∧ st ≤ 5 ∧ 20000 * d.drtCfg c (if st = 2 then F.DRT_LIM_BRK_ILIM else F.DRT_LIM_RUN_ILIM) < uv ∧
         (d.ch c).limAt = none ∧ c.val < d.drt.length ∧ 5 * anaEdge e.time.now ≤ t ∧ 3 ≤ st) ∧
    (let c : Fin 2 := 1
     let uv : Nat := 8000000
     let dt : Nat := 3
     let s : State := lit [(F.DRT_STAT_STATE.ix 1, 2)]
     let d := s.dev.advance dt
     let e := d.wordsTo c d.time.now
     let st := d.drtState c
     let t : Nat := 100
     s.dev.awake = true ∧ 2 ≤ st ∧ st ≤ 5 ∧ 20000 * d.drtCfg c (if st = 2 then F.DRT_LIM_BRK_ILIM else F.DRT_LIM_RUN_ILIM) < uv ∧
         (d.ch c).limAt = none ∧ c.val < d.drt.length ∧ 5 * anaEdge e.time.now ≤ t ∧ st = 2) ∧
    (let c : Fin 2 := 1
     let s : State := lit [(F.DRT_STAT_STATE.ix 1, 5)]
     s.dev.awake = true ∧ s.dev.drtState c = 5) ∧
    (let c : Fin 2 := 1
     let s : State := lit [(F.DRT_STAT_STATE.ix 1, 5)]
     s.dev.awake = true ∧ s.dev.drtState c = 5) := by
  and_intros <;> decide +kernel

theorem witness_DraughtStartingEventsComplete :
    (let c : Fin 2 := 1
     let s : State := lit [(F.DRT_STAT_STATE.ix 1, 1)]
     s.dev.awake = true ∧ s.dev.drtState c = 1) ∧
    (let c : Fin 2 := 1
     let ph : Fin 3 := 1
     let rising : Bool := true
     let stay : Nat := 10000
     let vmot : Word := 0x41C00000
     let dt : Nat := 3
     let s : State := lit [(F.DRT_STAT_STATE.ix 1, 1)]
     let b := s.dev.advance dt
     let at_ := ((b.observeSamples c stay).getD (0, 0)).1
     let t := ((b.observeSamples c stay).getD (0, 0)).2
     let d := b.advanceTo t
     let e := (d.chUp c fun x => { x with obs := ⟨ph, rising, at_⟩ :: x.obs }).put (F.DRT_VMOT.ix c) vmot.toNat
     s.dev.awake = true ∧ (b.drtState c = 1 ∨ b.drtState c = 6) ∧ b.observeSamples c stay = some (at_, t) ∧
       (∀ o, (b.ch c).obs.find? (fun o => o.phase == ph.val) = some o → o.rising ≠ rising) ∧ e.drtObserved c = none) ∧
    (let c : Fin 2 := 1
     let ph : Fin 3 := 0
     let rising : Bool := false
     let stay : Nat := 10000
     let vmot : Word := 0x41C00000
     let dt : Nat := 3
     let s : State := litBy [(F.DRT_STAT_STATE.ix 1, 6)] fun d => (d.chUp 1 fun x => { x with obs := [⟨1, true, 0⟩] })
     let b := s.dev.advance dt
     let at_ := ((b.observeSamples c stay).getD (0, 0)).1
     let t := ((b.observeSamples c stay).getD (0, 0)).2
     let d := b.advanceTo t
     let e := (d.chUp c fun x => { x with obs := ⟨ph, rising, at_⟩ :: x.obs }).put (F.DRT_VMOT.ix c) vmot.toNat
     let fwd := true
     let ints := [(100 : Nat)]
     let sec := 2
     let zc := 500
     s.dev.awake = true ∧ (b.drtState c = 1 ∨ b.drtState c = 6) ∧ b.observeSamples c stay = some (at_, t) ∧
       (∀ o, (b.ch c).obs.find? (fun o => o.phase == ph.val) = some o → o.rising ≠ rising) ∧
       e.drtObserved c = some (fwd, ints, sec, zc)) ∧
    (let c : Fin 2 := 1
     let s : State := lit [(F.DRT_STAT_STATE.ix 1, 2)]
     s.dev.awake = true ∧ s.dev.drtState c = 2) ∧
    (let c : Fin 2 := 1
     let s : State := lit [(F.DRT_STAT_STATE.ix 1, 3)]
     s.dev.awake = true ∧ s.dev.drtState c = 3) ∧
    (let c : Fin 2 := 1
     let s : State := lit [(F.DRT_STAT_STATE.ix 1, 4)]
     s.dev.awake = true ∧ s.dev.drtState c = 4) ∧
    (let c : Fin 2 := 1
     let s : State := lit [(F.DRT_STAT_STATE.ix 1, 6)]
     s.dev.awake = true ∧ s.dev.drtState c = 6) := by
  refine ⟨by decide +kernel, ⟨by decide +kernel, by decide +kernel, some_pair (0, 0) (by decide +kernel),
    none_all (by decide +kernel), by decide +kernel⟩, ⟨by decide +kernel, by decide +kernel, some_pair (0, 0) (by decide +kernel),
    none_all (by decide +kernel), by decide +kernel⟩, by and_intros <;> decide +kernel⟩

theorem witness_PowerOnAndKindlingComplete :
    (let dt : Nat := 3
     let s : State := State.reset
     let d := s.dev.advance dt
     d.cpr.por = true) ∧
    (let dt : Nat := 3
     let s : State := { State.reset with dev := State.reset.dev.cprUp fun c => { c with por := false, rows := 2 } }
     let d := s.dev.advance dt
     d.kindling 1 = true) ∧
    (let dt : Nat := 3
     let s : State := { State.reset with dev := State.reset.dev.cprUp fun c => { c with por := false, rows := 6 } }
     let d := s.dev.advance dt
     d.kindling 2 = true ∧ d.cpr.freeRun = false) ∧
    (let dt : Nat := 3
     let s : State := { State.reset with dev := State.reset.dev.cprUp fun c => { c with por := false, rows := 14 } }
     let d := s.dev.advance dt
     d.kindling 3 = true) ∧
    (let dt : Nat := 3
     let s : State := { State.reset with dev := State.reset.dev.cprUp fun c => { c with por := false, rows := 30 } }
     let d := s.dev.advance dt
     d.kindling 4 = true) ∧
    (let dt : Nat := 3
     let s : State := { State.reset with dev := State.reset.dev.cprUp fun c => { c with por := false, rows := 30 } }
     let d := s.dev.advance dt
     let row := fun (e : Dev) (n : Nat) => e.cprUp fun c => { c with rows := setBit c.rows n }
     d.kindling 4 = true ∧ (row d 5).tamperWindow.length < 8) ∧
    (let dt : Nat := 3
     let s : State := { State.reset with dev := State.reset.dev.cprUp fun c => { c with por := false, rows := 30, tampers := [0, 0, 0, 0, 0, 0, 0, 0] } }
     let d := s.dev.advance dt
     let row := fun (e : Dev) (n : Nat) => e.cprUp fun c => { c with rows := setBit c.rows n }
     d.kindling 4 = true ∧ 8 ≤ (row d 5).tamperWindow.length) ∧
    (let dt : Nat := 3
     let s : State := { State.reset with dev := State.reset.dev.cprUp fun c => { c with por := false, rows := 126 } }
     let d := s.dev.advance dt
     d.kindling 6 = true) ∧
    (let dt : Nat := 3
     let s : State := { State.reset with dev := State.reset.dev.cprUp fun c => { c with por := false, rows := 126 } }
     let d := s.dev.advance dt
     d.kindling 6 = true ∧ d.cpr.rows.testBit 10 = false) ∧
    (let dt : Nat := 3
     let s : State := { State.reset with dev := State.reset.dev.cprUp fun c => { c with por := false, rows := 62 } }
     let d := s.dev.advance dt
     d.kindling 5 = true ∧ d.sec.store.pend = none) ∧
    (let k : KindleChecks := ⟨false, true, false, false, []⟩
     let dt : Nat := 3
     let s : State := litBy [] fun d => d.cprUp fun c => { c with rows := 126 }
     let d := s.dev.advance dt
     let e := ((d.repairRegion 0 k.tornNormal).repairRegion 1 k.tornSticky).drawSeed k.health
     let ok := e.identityOk k.cert
     let f := e.putB F.HRT_LC_IDENT_OK ok
     let g := if ok || f.sec.otp.seed.isNone then f else f.raise 0x1011
     let h := if g.cpr.mesh then ({ g with net := { g.net with ctx := [] }, flu := { g.flu with keyCur := none, keyNext := none } }).raise 0x1016 else g
     let p : Option Nat := (h.kindleVerify 1 k.sigs).1
     let i : Option Nat := ((match (h.kindleVerify 1 k.sigs).1 with | some q => (h.kindleVerify 1 k.sigs).2.pkgForce q | none => (h.kindleVerify 1 k.sigs).2.pkgSettings []).kindleVerify 0 k.sigs).1
     let a : Dev := (h.kindleVerify 1 k.sigs).2
     let b : Dev := ((match (h.kindleVerify 1 k.sigs).1 with | some q => (h.kindleVerify 1 k.sigs).2.pkgForce q | none => (h.kindleVerify 1 k.sigs).2.pkgSettings []).kindleVerify 0 k.sigs).2
     d.kindling 6 = true ∧ d.cpr.rows.testBit 11 = false ∧ h.kindleVerify 1 k.sigs = (p, a) ∧
         (match p with | some q => a.pkgForce q | none => a.pkgSettings []).kindleVerify 0 k.sigs = (i, b)) ∧
    (let s : State := { State.reset with dev := put [(F.GSV_STATUS_STATE, 1)] (State.reset.dev.cprUp fun c => { c with por := false, rows := 8190 }) }
     let d := s.dev.kindleRows
     d.kindling 9 = true ∧ d.kindling 11 = true ∧ d.kindling 12 = true ∧ d.gsv = 1 ∧ d.cpr.rows.testBit 13 = false) := by
  iterate 10 refine ⟨by decide +kernel, ?_⟩
  exact ⟨⟨by decide +kernel, by decide +kernel, pair_eq rfl, pair_eq rfl⟩,
   by decide +kernel⟩

theorem witness_PowerAndResetEventsComplete :
    (let rail : Fin 7 := 2
     let dt : Nat := 3
     let s : State := lit []
     let d := (s.dev.advance dt).clrIn F.CPR_RAIL_GOOD rail
     let e := if rail.val = 5 then { d with dmp := { d.dmp with aonCopy := none } } else d
     let f := e.setIn F.CPR_RAIL_UV rail
     s.dev.awake = true ∧ rail.val ≠ 6 ∧ (rail.val = 4 → s.dev.cpr.sdm18 = true) ∧ f.flag F.CPR_STATUS_PFAIL = false) ∧
    (let rail : Fin 7 := 4
     let dt : Nat := 3
     let s : State := litBy [] fun d => d.cprUp fun c => { c with sdm18 := true }
     let d := (s.dev.advance dt).clrIn F.CPR_RAIL_GOOD rail
     let e := if rail.val = 5 then { d with dmp := { d.dmp with aonCopy := none } } else d
     let f := e.setIn F.CPR_RAIL_UV rail
     s.dev.awake = true ∧ rail.val ≠ 6 ∧ (rail.val = 4 → s.dev.cpr.sdm18 = true) ∧ f.flag F.CPR_STATUS_PFAIL = false) ∧
    (let low : Nat := 3
     let s : State := lit [(F.CPR_PFI_PFI_FILT, 1)]
     let filt := 125 * s.dev.get F.CPR_PFI_PFI_FILT
     s.dev.awake = true ∧ low < filt) ∧
    (let low : Nat := 125
     let s : State := lit [(F.CPR_PFI_PFI_FILT, 1)]
     let filt := 125 * s.dev.get F.CPR_PFI_PFI_FILT
     s.dev.awake = true ∧ filt ≤ low ∧ s.dev.flag F.CPR_STATUS_PFAIL = false) ∧
    (let rail : Fin 7 := 4
     let dt : Nat := 3
     let s : State := litBy [] fun d => d.cprUp fun c => { c with sdm18 := true }
     let d := s.dev.advance dt
     d.cpr.por = false ∧ (rail.val = 4 → d.cpr.sdm18 = true)) ∧
    (let s : State := lit [(F.CPR_STATUS_PFAIL, 1)]
     s.dev.flag F.CPR_STATUS_PFAIL = true ∧ s.dev.met.embering = none) ∧
    (let s : State := litBy [] fun d => d.cprUp fun c => { c with beats := 16 }
     16 ≤ s.dev.cpr.beats) ∧
    (let s : State := litBy [(F.CPR_HWDT_EN, 1), (F.CPR_HWDT_TIMEOUT, 0)] fun d => d.cprUp fun c => { c with hwdtOn := true }
     s.dev.awake = true ∧ s.dev.cpr.hwdtOn = true ∧ s.dev.get F.CPR_HWDT_TIMEOUT ≤ s.dev.cpr.hwdt) := by
  and_intros <;> decide +kernel

theorem witness_WarmResetProceeds :
    (let d : Dev := State.reset.dev
     d.cpr.por = true) ∧
    (let d : Dev := ((lit []).dev.cprUp fun c => { c with waiting := true })
     d.cpr.por = false ∧ (d.cpr.warm = true ∨ d.cpr.waiting = true)) ∧
    (let d : Dev := (lit []).dev
     d.cpr.por = false ∧ d.cpr.warm = false ∧ d.cpr.waiting = false) ∧
    (let d : Dev := (litBy [] fun d => d.metUp fun m => { m with run := true }).dev
     let k : Nat := 2
     let e := (d.setIn F.CPR_RST_CAUSE_CAUSE k).cprUp fun c => { c with warm := true, start := d.time.now, asked := none }
     let f := { e with hrt := { e.hrt with act := none } }.holdUpdate
     d.cpr.por = false ∧ d.cpr.warm = false ∧ d.cpr.waiting = false ∧ f.metEmber.met.embering.isSome = true) ∧
    (let d : Dev := (lit []).dev
     let k : Nat := 2
     let e := (d.setIn F.CPR_RST_CAUSE_CAUSE k).cprUp fun c => { c with warm := true, start := d.time.now, asked := none }
     let f := { e with hrt := { e.hrt with act := none } }.holdUpdate
     d.cpr.por = false ∧ d.cpr.warm = false ∧ d.cpr.waiting = false ∧ f.metEmber.met.embering = none) := by
  refine ⟨?_, ?_, ?_, ?_, ?_⟩ <;> decide +kernel

theorem witness_ClockLinkTamperEventsComplete :
    (let dt : Nat := 3
     let s : State := lit []
     let d := s.dev.advance dt
     d.cpr.por = false) ∧
    (let dom : Fin 12 := 2
     let dt : Nat := 3
     let s : State := lit []
     let d := s.dev.advance dt
     let e := d.cprUp fun c => { c with clkGood := c.clkGood.set dom 0, clkBad := setBit c.clkBad dom }
     let f := if dom.val = 2 ∧ e.flag F.SDM_STATUS_MOD_LOCK = true then e.modLock false else e
     d.cpr.por = false ∧ d.cpr.clkBad.testBit dom = false ∧ (f.cpr.freeRun = false ∨ dom.val = 6 ∨ dom.val = 10)) ∧
    (let dt : Nat := 3
     let s : State := lit []
     let d := s.dev.advance dt
     d.cpr.por = false ∧ d.cpr.freeRun = false) ∧
    (let dt : Nat := 3
     let s : State := litBy [] fun d => d.cprUp fun c => { c with freeRun := true }
     let d := s.dev.advance dt
     d.cpr.freeRun = true) ∧
    (let dt : Nat := 3
     let s : State := litBy [] fun d => d.cprUp fun c => { c with sscNext := some 2 }
     let d := s.dev.advance dt
     let n := 2
     s.dev.awake = true ∧ d.cpr.sscNext = some n) ∧
    (let s : State := lit []
     s.dev.awake = true) ∧
    (let dt : Nat := 3
     let s : State := lit []
     let d := s.dev.advance dt
     let dir : Fin 2 := 1
     s.dev.awake = true ∧ d.cpr.resend.testBit dir = false) ∧
    (let dt : Nat := 3
     let s : State := lit []
     let d := s.dev.advance dt
     s.dev.awake = true ∧ d.cpr.d2dLost = false) ∧
    (let dt : Nat := 3
     let dir : Fin 2 := 1
     let s : State := litBy [] fun d => d.cprUp fun c => { c with resend := 2 }
     let d := s.dev.advance dt
     s.dev.awake = true ∧ d.cpr.d2dLost = false ∧ d.cpr.resend.testBit dir = true) ∧
    (let s : State := lit []
     s.dev.awake = true) ∧
    (let s : State := lit []
     s.dev.awake = true) ∧
    (let type : Fin 2 := 0
     let k : Nat := 0
     let s : State := litBy [] fun d => d.hrtUp fun h => { h with imgForce := some 0, imgTicks := weekTicks, img := [{ data := [(3, 5)], st := 2 }, {}] }
     let words := if type.val = 0 then s.dev.hrt.floorImg else s.dev.hrt.floorPkg
     let v := hVersion (s.dev.slot type k).data
     s.dev.awake = true ∧ s.dev.inForce type = some k ∧ weekTicks ≤ (if type.val = 0 then s.dev.hrt.imgTicks else s.dev.hrt.pkgTicks) ∧
         s.dev.get (F.HRT_FLOOR.ix type) < v ∧ words.length < 127) ∧
    (let j : Jtag := .extest 5
     let s : State := lit []
     let n := 3
     jtagPermits s.dev.lc j = false ∧ jtagPins j = some n ∧ s.dev.sec.blocked = false) ∧
    (let j : Jtag := .scan
     let s : State := lit []
     jtagPermits s.dev.lc j = false ∧ jtagPins j = none) ∧
    (let j : Jtag := .bypass
     let s : State := lit []
     jtagPermits s.dev.lc j = true ∧ (j = .bypass ∨ j = .idcode ∨ j = .sample ∨ j = .highz ∨ (∃ w, j = .extest w) ∨ ∃ w, j = .clamp w)) ∧
    (let j : Jtag := .certs [(1, [7])]
     let s : State := State.reset
     let l := [(1, [7])]
     s.dev.lc = 0 ∧ j = .certs l) ∧
    (let j : Jtag := .otp 4 [7]
     let s : State := State.reset
     let off := 4
     let bytes := [7]
     s.dev.lc = 0 ∧ j = .otp off bytes) ∧
    (let j : Jtag := .register 0x0B0020 5
     let s : State := State.reset
     let a := 0x0B0020
     let v := 5
     let r := ((rowAt 0x0B0020).get (by decide +kernel)).1
     let ix := ((rowAt 0x0B0020).get (by decide +kernel)).2
     s.dev.lc = 0 ∧ j = .register a v ∧ rowAt a = some (r, ix)) ∧
    (let j : Jtag := .memory 6 8 [7]
     let s : State := State.reset
     let id := 6
     let off := 8
     let ws : List Word := [7]
     s.dev.lc = 0 ∧ j = .memory id off ws ∧ memBad id off (4 * ws.length) = false) ∧
    (let cert : Bool := true
     let s : State := vendorReady
     s.dev.lc = 0 ∧ s.dev.identityOk cert = true ∧ (∀ k, k = 1 ∨ k = 2 ∨ k = 3 → ∃ c ∈ s.dev.sec.certs, c.1 = k)) := by
  iterate 14 refine ⟨by decide +kernel, ?_⟩
  refine ⟨⟨by decide +kernel, Or.inl rfl⟩, ?_⟩
  iterate 4 refine ⟨by decide +kernel, ?_⟩
  exact ⟨by decide +kernel, vendor_ready, fun k hk => by rcases hk with rfl | rfl | rfl <;> decide +kernel⟩

theorem witness_NetworkReceptionCompletes :
    (let p : Fin 2 := 0
     let giga : Bool := true
     let dt : Nat := 3
     let s : State := lit [(F.NET_PORT_EN.ix 0, 1), (F.NET_PORT_SPEED.ix 0, 0)]
     let d := s.dev.advance dt
     s.dev.awake = true ∧ d.flag (F.NET_PORT_EN.ix p) = true ∧ d.bitIn F.NET_STATUS_LINK p = false ∧ d.flag (F.NET_PORT_SPEED.ix p) = !giga) ∧
    (let p : Fin 2 := 0
     let dt : Nat := 3
     let s : State := wired []
     let d := s.dev.advance dt
     s.dev.awake = true ∧ d.bitIn F.NET_STATUS_LINK p = true) ∧
    (let f : EthFrame := eth 0x88F7
     let dt : Nat := 3
     let s : State := wired []
     let d : Dev := ((s.dev.advance dt).netQuiet.macReceive f).1
     s.dev.awake = true ∧ (s.dev.advance dt).netQuiet.macReceive f = (d, true)) ∧
    (let f : EthFrame := eth 0x88F7
     let dt : Nat := 3
     let s : State := wired [(F.NET_PTP_CFG_PROFILE, 1)]
     let d : Dev := ((s.dev.advance dt).netQuiet.macReceive f).1
     s.dev.awake = true ∧ (s.dev.advance dt).netQuiet.macReceive f = (d, true) ∧ d.get F.NET_PTP_CFG_PROFILE ≠ 0) ∧
    (let f : EthFrame := eth 0x88F7
     let dt : Nat := 3
     let sender : Nat := 7
     let a : PtpAnnounce := announced
     let s : State := wired [(F.NET_PTP_CFG_PROFILE, 1), (F.NET_PTP_CFG_ROLE, 0)]
     let d : Dev := ((s.dev.advance dt).netQuiet.macReceive f).1
     let e := d.dupAdd f
     let g := e.netUp fun n => { n with ann := n.ann.set f.port (some (e.time.now, sender, a)) }
     let p := (g.bestPort.getD (0, a)).1
     let b := (g.bestPort.getD (0, a)).2
     s.dev.awake = true ∧ (s.dev.advance dt).netQuiet.macReceive f = (d, true) ∧ d.get F.NET_PTP_CFG_PROFILE ≠ 0 ∧
         (d.get F.NET_PTP_CFG_PROFILE = 2 → a.tlv ≠ none) ∧ e.net.ann.getD f.port none = none ∧ g.get F.NET_PTP_CFG_ROLE = 0 ∧
         g.bestPort = some (p, b)) ∧
    (let f : EthFrame := eth 0x88F7
     let dt : Nat := 3
     let sender : Nat := 7
     let t : Nat := 0
     let corr : Int := 5
     let a : PtpAnnounce := announced
     let s : State := litBy [(F.NET_STATUS_LINK, 1), (F.NET_PTP_CFG_PROFILE, 1), (F.NET_STATUS_PTP_PORT, 0), (F.NET_STATUS_PTP_STATE, 2)] fun d =>
       d.netUp fun n => { n with ann := [some (0, 7, announced), none] }
     let d : Dev := ((s.dev.advance dt).netQuiet.macReceive f (some corr)).1
     let e := d.dupAdd f
     s.dev.awake = true ∧ (s.dev.advance dt).netQuiet.macReceive f (some corr) = (d, true) ∧ d.get F.NET_PTP_CFG_PROFILE ≠ 0 ∧
         e.get F.NET_STATUS_PTP_PORT = f.port ∧ (e.get F.NET_STATUS_PTP_STATE = 2 ∨ e.get F.NET_STATUS_PTP_STATE = 3) ∧
         e.net.ann.getD f.port none = some (t, sender, a)) ∧
    (let f : EthFrame := eth 0x88F7
     let dt : Nat := 3
     let s : State := wired [(F.NET_PTP_CFG_PROFILE, 1)]
     let d : Dev := ((s.dev.advance dt).netQuiet.macReceive f (some 0)).1
     s.dev.awake = true ∧ (s.dev.advance dt).netQuiet.macReceive f (some 0) = (d, true) ∧ d.get F.NET_PTP_CFG_PROFILE ≠ 0) ∧
    (let g : Goose := ⟨eth 0x88B8, ⟨false, 0, 0, false⟩, 9, [], [], 0, 1000, 1, 0, false, false, 0, [⟨0, 1⟩], []⟩
     let dt : Nat := 3
     let i : Nat := 2
     let s : State := wired [(F.NET_CTX_EN.ix 2, 1), (F.NET_CTX_KIND.ix 2, 1), (F.NET_CTX_MAC_LO.ix 2, 1), (F.NET_CTX_APPID.ix 2, 9), (F.NET_CTX_NMEM.ix 2, 1)]
     let d : Dev := ((s.dev.advance dt).netQuiet.macReceive g.eth).1
     let e := d.dupAdd g.eth
     s.dev.awake = true ∧ g.sim = false ∧ (s.dev.advance dt).netQuiet.macReceive g.eth = (d, true) ∧
         d.ctxMatch 1 g.eth g.appid g.gocbRef = some i ∧ d.authReason i g.auth = 0 ∧ e.datasetReason i g.datSet g.confRev g.nds g.mems = 0 ∧
         e.gooseSequence i g = 1) ∧
    (let v : Sv := ⟨eth 0x88BA, ⟨false, 0, 0, false⟩, 9, [], [], false, [⟨5, 0, [⟨0, 1⟩], []⟩]⟩
     let dt : Nat := 3
     let i : Nat := 2
     let s : State := wired [(F.NET_CTX_EN.ix 2, 1), (F.NET_CTX_KIND.ix 2, 3), (F.NET_CTX_MAC_LO.ix 2, 1), (F.NET_CTX_APPID.ix 2, 9), (F.NET_CTX_NMEM.ix 2, 1)]
     let d : Dev := ((s.dev.advance dt).netQuiet.macReceive v.eth).1
     let e := d.dupAdd v.eth
     s.dev.awake = true ∧ v.sim = false ∧ (s.dev.advance dt).netQuiet.macReceive v.eth = (d, true) ∧ d.ctxMatch 3 v.eth v.appid v.svID = some i ∧
         d.authReason i v.auth = 0 ∧ (∀ a ∈ v.asdus, e.datasetReason i v.datSet a.confRev false a.mems = 0)) ∧
    (let f : EthFrame := { eth 0x88B5 with src := 3, dst := 2, payload := bs [0, 0, 16, 0] ++ zeros 16 }
     let dt : Nat := 3
     let s : State := wired [(F.NET_CFG_L2CMD_EN, 1), (F.NET_MAC_LO, 2)]
     let d : Dev := ((s.dev.advance dt).netQuiet.macReceive f).1
     let e := d.dupAdd f
     let mbx := leAt f.payload 0 1
     let frame := f.payload.drop 4
     s.dev.awake = true ∧ (s.dev.advance dt).netQuiet.macReceive f = (d, true) ∧ e.flag F.NET_CFG_L2CMD_EN = true ∧ f.etype = 0x88B5 ∧
         f.dst = e.netMac ∧ f.vid = e.get F.NET_CMD_VID_VID ∧ 4 ≤ f.payload.length ∧ mbx ≤ 3 ∧ leAt f.payload 1 1 = 0 ∧
         leAt f.payload 2 2 = frame.length ∧ 16 ≤ frame.length ∧ frame.length ≤ 1496 ∧ (e.net.l2.getD mbx []).length < 4) :=
  ⟨by decide +kernel,
   by decide +kernel,
   ⟨by decide +kernel, pair_eq_snd (by decide +kernel)⟩,
   ⟨by decide +kernel, pair_eq_snd (by decide +kernel), by decide +kernel⟩,
   ⟨by decide +kernel, pair_eq_snd (by decide +kernel), by
     iterate 4 refine ⟨by decide +kernel, ?_⟩
     exact some_pair _ (by decide +kernel)⟩,
   ⟨by decide +kernel, pair_eq_snd (by decide +kernel), by and_intros <;> decide +kernel⟩,
   ⟨by decide +kernel, pair_eq_snd (by decide +kernel), by decide +kernel⟩,
   ⟨by decide +kernel, by decide +kernel, pair_eq_snd (by decide +kernel), by and_intros <;> decide +kernel⟩,
   ⟨by decide +kernel, by decide +kernel, pair_eq_snd (by decide +kernel), by and_intros <;> decide +kernel⟩,
   ⟨by decide +kernel, pair_eq_snd (by decide +kernel), by and_intros <;> decide +kernel⟩⟩

theorem witness_NetworkTimersComplete :
    (let s : State := lit [(F.NET_CFG_MODE, 1)]
     s.dev.awake = true ∧ s.dev.get F.NET_CFG_MODE ≠ 0) ∧
    (let p : Fin 2 := 0
     let t : Nat := 5
     let u : Nat := 9
     let s : State := litBy [(F.NET_RED_LIFE_CHECK, 1)] fun d => d.netUp fun n => { n with lastRx := [some 5, some 9] }
     let w := 1500000000 * s.dev.get F.NET_RED_LIFE_CHECK
     let d := s.dev.advanceTo (t + w)
     s.dev.awake = true ∧ s.dev.net.lastRx.getD p none = some t ∧ d.net.lastRx.getD (1 - p) none = some u ∧ t + w ≤ d.time.now ∧
         d.time.now < u + w ∧ d.net.lostPath.testBit p = false) ∧
    (let i : Fin 256 := 3
     let t : Nat := 99
     let s : State := litBy [] fun d => d.nctxUp 3 fun c => { c with expire := some 99 }
     s.dev.awake = true ∧ (s.dev.nctx i).expire = some t) ∧
    (let i : Fin 256 := 3
     let s : State := lit [(F.NET_CTX_EN.ix 3, 1), (F.NET_CTX_KIND.ix 3, 0), (F.NET_CTX_NMEM.ix 3, 1)]
     let d := s.dev.netQuiet
     let vals := (List.range (d.get (F.NET_CTX_NMEM.ix i))).map fun m => d.memberValue (d.ctxMem i m)
     s.dev.awake = true ∧ d.flag (F.NET_CTX_EN.ix i) = true ∧ d.get (F.NET_CTX_KIND.ix i) = 0 ∧ (d.nctx i).vals ≠ some vals) ∧
    (let i : Fin 256 := 3
     let s : State := litBy [(F.NET_CTX_EN.ix 3, 1), (F.NET_CTX_KIND.ix 3, 2)] fun d =>
       d.netUp fun n => { n with taken := [500000, 400000, 300000, 200000, 100000].map fun x => ⟨[], x * 2 ^ 32, false⟩ }
     let d := s.dev.netQuiet
     let m := ((d.svDue i).getD (0, [])).1
     let chans := ((d.svDue i).getD (0, [])).2
     s.dev.awake = true ∧ d.flag (F.NET_CTX_EN.ix i) = true ∧ d.get (F.NET_CTX_KIND.ix i) = 2 ∧ d.svDue i = some (m, chans)) ∧
    (let i : Fin 256 := 3
     let t : Nat := 99
     let s : State := litBy [] fun d => d.nctxUp 3 fun c => { c with sendAt := some 99 }
     s.dev.awake = true ∧ (s.dev.nctx i).sendAt = some t) ∧
    (let k : NetKey := ⟨5, 1, 0, 10, []⟩
     let s : State := litBy [] fun d => d.nctxUp 3 fun c => { c with next := some ⟨5, 1, 0, 10, []⟩ }
     let i : Fin 256 := 3
     s.dev.awake = true ∧ (s.dev.nctx i).next = some k) ∧
    (let k : NetKey := ⟨5, 1, 0, 10, []⟩
     let s : State := litBy [] fun d => d.fluUp fun f => { f with keyNext := some ⟨5, 1, 0, 10, []⟩ }
     s.dev.awake = true ∧ s.dev.flu.keyNext = some k) ∧
    (let k : NetKey := ⟨5, 1, 0, 10, []⟩
     let s : State := litBy [] fun d => d.nctxUp 3 fun c => { c with cur := some ⟨5, 1, 0, 10, []⟩ }
     let i : Fin 256 := 3
     s.dev.awake = true ∧ (s.dev.nctx i).cur = some k ∧ ((s.dev.toPtp (k.stop * 1000000000)).keyRegs i).keyLive (some k) = false) ∧
    (let k : NetKey := ⟨5, 1, 0, 10, []⟩
     let s : State := litBy [] fun d => d.fluUp fun f => { f with keyCur := some ⟨5, 1, 0, 10, []⟩ }
     s.dev.awake = true ∧ s.dev.flu.keyCur = some k ∧ (s.dev.toPtp (k.stop * 1000000000)).keyLive (some k) = false) ∧
    (let s : State := litBy [(F.NET_PTP_CFG_PROFILE, 1), (F.NET_STATUS_PTP_STATE, 3), (F.NET_STATUS_PTP_PORT, 0)] fun d =>
       d.netUp fun n => { n with ann := [some (5, 7, announced), some (900000000, 8, { announced with interval := 1000 })] }
     let p := s.dev.get F.NET_STATUS_PTP_PORT
     let d := (s.dev.advanceTo s.dev.announceDue).bump F.NET_PTP_TO_CNT
     let e := if p ≤ 1 then d.netUp fun n => { n with ann := n.ann.set p none } else d
     s.dev.awake = true ∧ s.dev.get F.NET_PTP_CFG_PROFILE ≠ 0 ∧ s.dev.get F.NET_STATUS_PTP_STATE ≠ 0 ∧
         s.dev.get F.NET_STATUS_PTP_STATE ≠ 4 ∧ e.bestPort.isSome = true) ∧
    (let s : State := lit [(F.NET_PTP_CFG_PROFILE, 1), (F.NET_STATUS_PTP_STATE, 3), (F.NET_STATUS_PTP_PORT, 0)]
     let p := s.dev.get F.NET_STATUS_PTP_PORT
     let d := (s.dev.advanceTo s.dev.announceDue).bump F.NET_PTP_TO_CNT
     let e := if p ≤ 1 then d.netUp fun n => { n with ann := n.ann.set p none } else d
     s.dev.awake = true ∧ s.dev.get F.NET_PTP_CFG_PROFILE ≠ 0 ∧ s.dev.get F.NET_STATUS_PTP_STATE ≠ 0 ∧
         s.dev.get F.NET_STATUS_PTP_STATE ≠ 4 ∧ e.bestPort = none) ∧
    (let dt : Nat := 3
     let s : State := lit [(F.NET_PTP_CFG_PPS_IN_EN, 1)]
     let d := s.dev.advance dt
     let near := d.net.pps.any fun t => decide (500000000 ≤ d.time.now - t + 5000 ∧ d.time.now - t ≤ 500000000 + 5000)
     let n := if near then min 4 (d.net.ppsN + 1) else 1
     let e := (d.netUp fun x => { x with pps := some d.time.now, ppsN := n }).putB F.NET_STATUS_PPS_LOCK (decide (n = 4))
     s.dev.awake = true ∧ d.flag F.NET_PTP_CFG_PPS_IN_EN = true ∧ e.ptpMaster = false) ∧
    (let s : State := lit [(F.NET_PTP_CFG_PPS_OUT_EN, 1)]
     s.dev.awake = true ∧ s.dev.flag F.NET_PTP_CFG_PPS_OUT_EN = true) := by
  iterate 4 refine ⟨by decide +kernel, ?_⟩
  exact ⟨⟨by decide +kernel, by decide +kernel, by decide +kernel, some_pair (0, []) (by decide +kernel)⟩,
   by and_intros <;> decide +kernel⟩

theorem witness_FlueFramesComplete :
    (let l : Fin 2 := 0
     let dt : Nat := 3
     let s : State := lit [(F.FLU_ROLE_HOST_MODE, 1)]
     let d := s.dev.advance dt
     s.dev.awake = true ∧ d.fluCapable = true ∧ d.flag (linkFld l) = false) ∧
    (let l : Fin 2 := 0
     let dt : Nat := 3
     let s : State := lit [(F.FLU_STATUS_LINK_E, 1)]
     let d := s.dev.advance dt
     s.dev.awake = true ∧ d.flag (linkFld l) = true) ∧
    (let h : FlueHdr := { hdr with crc := false }
     let dt : Nat := 3
     let s : State := lit [(F.FLU_STATUS_LINK_E, 1)]
     let a := (s.dev.advance dt).flueQuiet
     let f : CrownFrame := crown0
     let p : Instr × FlueFrame := (.crownFrameReceive h f dt, .crown f)
     s.dev.awake = true ∧ a.flag (linkFld h.link) = true ∧ a.flueBad h = true ∧ p.2 = .crown f) ∧
    (let h : FlueHdr := { hdr with dst := 40 }
     let dt : Nat := 3
     let s : State := lit [(F.FLU_STATUS_LINK_E, 1)]
     let a := (s.dev.advance dt).flueQuiet
     let p : Instr × FlueFrame := (.flueFrameReceive h dt, .other)
     s.dev.awake = true ∧ a.flag (linkFld h.link) = true ∧ a.flueBad h = false ∧ (a.flueForward h p.2 false).flueMine h = false) ∧
    (let h : FlueHdr := hdr
     let dt : Nat := 3
     let s : State := lit [(F.FLU_STATUS_LINK_E, 1)]
     let a := (s.dev.advance dt).flueQuiet
     s.dev.awake = true ∧ a.flag (linkFld h.link) = true ∧ a.flueBad h = false ∧ (a.flueForward h .other false).flueMine h = true) ∧
    (let h : FlueHdr := hdr
     let dt : Nat := 3
     let s : State := lit [(F.FLU_STATUS_LINK_E, 1), (F.FLU_STATUS_ROLE, 1)]
     let a := (s.dev.advance dt).flueQuiet
     let f : CrownFrame := crown0
     let b := a.flueForward h (.crown f) false
     let d := b.flueSeen h
     s.dev.awake = true ∧ a.flag (linkFld h.link) = true ∧ a.flueBad h = false ∧ b.flueMine h = true ∧ (d.fluRole = 1 ∨ d.fluRole = 3) ∧ d.get F.FLU_EPOCH ≤ h.epoch) ∧
    (let h : FlueHdr := hdr
     let dt : Nat := 3
     let s : State := lit [(F.FLU_STATUS_LINK_E, 1), (F.FLU_STATUS_ROLE, 1), (F.FLU_EPOCH, 9)]
     let a := (s.dev.advance dt).flueQuiet
     let f : CrownFrame := crown0
     let b := a.flueForward h (.crown f) false
     let d := b.flueSeen h
     s.dev.awake = true ∧ a.flag (linkFld h.link) = true ∧ a.flueBad h = false ∧ b.flueMine h = true ∧ (d.fluRole = 1 ∨ d.fluRole = 3) ∧ h.epoch < d.get F.FLU_EPOCH) ∧
    (let h : FlueHdr := hdr
     let dt : Nat := 3
     let s : State := lit [(F.FLU_STATUS_LINK_E, 1), (F.FLU_STATUS_ROLE, 2)]
     let a := (s.dev.advance dt).flueQuiet
     let f : CrownFrame := crown0
     let b := a.flueForward h (.crown f) false
     let d := b.flueSeen h
     s.dev.awake = true ∧ a.flag (linkFld h.link) = true ∧ a.flueBad h = false ∧ b.flueMine h = true ∧ d.fluRole = 2 ∧ d.get F.FLU_EPOCH < h.epoch) ∧
    (let h : FlueHdr := hdr
     let dt : Nat := 3
     let s : State := litBy [(F.FLU_STATUS_LINK_E, 1), (F.FLU_STATUS_ROLE, 2), (F.FLU_EPOCH, 3)] fun d => d.fluUp fun x => { x with unit := [(0, 1), (1, 0x40501), (2, 7), (4, 2), (5, 0x40001), (6, 8)] }
     let a := (s.dev.advance dt).flueQuiet
     let f : CrownFrame := crown0
     let b := a.flueForward h (.crown f) false
     let d := b.flueSeen h
     let place := fun p => d.ringDevs.findIdx fun e => e.pos == p
     s.dev.awake = true ∧ a.flag (linkFld h.link) = true ∧ a.flueBad h = false ∧ b.flueMine h = true ∧ d.fluRole = 2 ∧ d.get F.FLU_EPOCH = h.epoch ∧
       place h.src < place d.fluPos) ∧
    (let h : FlueHdr := hdr
     let dt : Nat := 3
     let s : State := lit [(F.FLU_STATUS_LINK_E, 1), (F.FLU_STATUS_ROLE, 2)]
     let a := (s.dev.advance dt).flueQuiet
     let f : MemberFrame := member0
     let b := a.flueForward h (.member f) false
     let d := b.flueSeen h
     s.dev.awake = true ∧ a.flag (linkFld h.link) = true ∧ a.flueBad h = false ∧ b.flueMine h = true ∧ (d.fluRole = 2 ∨ d.fluRole = 3) ∧ d.get F.FLU_EPOCH ≤ h.epoch) ∧
    (let h : FlueHdr := hdr
     let dt : Nat := 3
     let s : State := lit [(F.FLU_STATUS_LINK_E, 1), (F.FLU_STATUS_ROLE, 2), (F.FLU_EPOCH, 9)]
     let a := (s.dev.advance dt).flueQuiet
     let f : MemberFrame := member0
     let b := a.flueForward h (.member f) false
     let d := b.flueSeen h
     s.dev.awake = true ∧ a.flag (linkFld h.link) = true ∧ a.flueBad h = false ∧ b.flueMine h = true ∧ (d.fluRole = 2 ∨ d.fluRole = 3) ∧ h.epoch < d.get F.FLU_EPOCH) ∧
    (let h : FlueHdr := hdr
     let dt : Nat := 3
     let s : State := lit [(F.FLU_STATUS_LINK_E, 1)]
     let a := (s.dev.advance dt).flueQuiet
     let f : BulkBody := .command 1 1 1 4 6 []
     let b := a.flueForward h (.bulk f) false
     let d := b.flueSeen h
     s.dev.awake = true ∧ a.flag (linkFld h.link) = true ∧ a.flueBad h = false ∧ b.flueMine h = true ∧ d.get F.FLU_EPOCH ≤ h.epoch) ∧
    (let h : FlueHdr := hdr
     let dt : Nat := 3
     let s : State := lit [(F.FLU_STATUS_LINK_E, 1), (F.FLU_EPOCH, 9)]
     let a := (s.dev.advance dt).flueQuiet
     let f : BulkBody := .command 1 1 1 4 6 []
     let b := a.flueForward h (.bulk f) false
     let d := b.flueSeen h
     s.dev.awake = true ∧ a.flag (linkFld h.link) = true ∧ a.flueBad h = false ∧ b.flueMine h = true ∧ h.epoch < d.get F.FLU_EPOCH) ∧
    (let h : FlueHdr := hdr
     let dt : Nat := 3
     let s : State := litBy [(F.FLU_STATUS_LINK_E, 1)] fun d => d.fluUp fun x => { x with relays := [⟨⟨.mbx 0, 1, 4, 6⟩, 2, 32, none, [], 0⟩] }
     let a := (s.dev.advance dt).flueQuiet
     let f : BulkBody := .response 4 6 0 []
     let b := a.flueForward h (.bulk f) false
     let d := b.flueSeen h
     let e := (d.relayAnswer h.src 4 6 0 []).1
     let r : Relay := ⟨⟨.mbx 0, 1, 4, 6⟩, 2, 0, none, [], 0⟩
     s.dev.awake = true ∧ a.flag (linkFld h.link) = true ∧ a.flueBad h = false ∧ b.flueMine h = true ∧ d.relayAnswer h.src 4 6 0 [] = (e, some r)) ∧
    (let h : FlueHdr := hdr
     let dt : Nat := 3
     let s : State := lit [(F.FLU_STATUS_LINK_E, 1)]
     let a := (s.dev.advance dt).flueQuiet
     let f : BulkBody := .response 4 6 0 []
     let b := a.flueForward h (.bulk f) false
     let d := b.flueSeen h
     let e := (d.relayAnswer h.src 4 6 0 []).1
     s.dev.awake = true ∧ a.flag (linkFld h.link) = true ∧ a.flueBad h = false ∧ b.flueMine h = true ∧ d.relayAnswer h.src 4 6 0 [] = (e, none)) ∧
    (let h : FlueHdr := hdr
     let dt : Nat := 3
     let s : State := lit [(F.FLU_STATUS_LINK_E, 1)]
     let a := (s.dev.advance dt).flueQuiet
     let b := a.flueForward h .time false
     s.dev.awake = true ∧ a.flag (linkFld h.link) = true ∧ a.flueBad h = false ∧ b.flueMine h = true ∧ h.hops = 63) ∧
    (let h : FlueHdr := hdr
     let dt : Nat := 3
     let s : State := litBy [(F.FLU_STATUS_LINK_E, 1), (F.FLU_STATUS_ROLE, 2)] fun d => d.fluUp fun x => { x with unit := [(0, 1), (1, 0x40001), (2, 7)] }
     let a := (s.dev.advance dt).flueQuiet
     let devId : List Byte := bs [7, 0, 0, 0, 0, 0] ++ zeros 10
     let b := a.flueForward h (.join none devId) false
     let d := b.flueSeen h
     let e : UnitEntry := ⟨1, 0, 1, 0, 4, 7, 0⟩
     s.dev.awake = true ∧ a.flag (linkFld h.link) = true ∧ a.flueBad h = false ∧ b.flueMine h = true ∧ d.fluRole = 2 ∧ d.joinReason h devId 2 d.S d.C = (0, some e)) ∧
    (let h : FlueHdr := hdr
     let dt : Nat := 3
     let s : State := litBy [(F.FLU_STATUS_LINK_E, 1), (F.FLU_STATUS_ROLE, 2)] fun d => d.fluUp fun x => { x with unit := [(0, 1), (1, 0x40001), (2, 7)] }
     let a := (s.dev.advance dt).flueQuiet
     let devId : List Byte := bs [8, 0, 0, 0, 0, 0] ++ zeros 10
     let b := a.flueForward h (.join none devId) false
     let d := b.flueSeen h
     let r : Nat := 1
     s.dev.awake = true ∧ a.flag (linkFld h.link) = true ∧ a.flueBad h = false ∧ b.flueMine h = true ∧ d.fluRole = 2 ∧ r ≠ 0 ∧ d.joinReason h devId 2 d.S d.C = (r, none)) ∧
    (let h : FlueHdr := hdr
     let dt : Nat := 3
     let s : State := lit [(F.FLU_STATUS_LINK_E, 1), (F.FLU_STATUS_ROLE, 3)]
     let a := (s.dev.advance dt).flueQuiet
     let f : ShadowBody := .session 4 1 1 1 0 0
     let b := a.flueForward h (.shadow f) false
     let d := b.flueSeen h
     s.dev.awake = true ∧ a.flag (linkFld h.link) = true ∧ a.flueBad h = false ∧ b.flueMine h = true ∧ d.fluRole = 3) :=
  ⟨by decide +kernel,
   by decide +kernel,
   ⟨by decide +kernel, by decide +kernel, by decide +kernel, rfl⟩,
   by
     iterate 10 refine ⟨by decide +kernel, ?_⟩
     exact ⟨⟨by decide +kernel, by decide +kernel, by decide +kernel, by decide +kernel, pair_eq_snd (by decide +kernel)⟩,
   ⟨by decide +kernel, by decide +kernel, by decide +kernel, by decide +kernel, pair_eq_snd (by decide +kernel)⟩,
   by and_intros <;> decide +kernel⟩⟩

theorem witness_FlueTimersComplete :
    (let s : State := lit [(F.FLU_ROLE_HOST_MODE, 1)]
     s.dev.awake = true ∧ s.dev.fluCapable = true) ∧
    (let s : State := litBy [] fun d => d.fluUp fun x => { x with lastTime := some 5 }
     let t := 5
     s.dev.awake = true ∧ s.dev.flu.lastTime = some t) ∧
    (let s : State := litBy [(F.FLU_STATUS_LINK_E, 1)] fun d => d.fluUp fun x => { x with joining := some 5 }
     let t := 5
     let d := (s.dev.advanceTo t).flueQuiet
     s.dev.awake = true ∧ s.dev.flu.joining = some t ∧ d.fluAdmitted = false ∧ (d.flag F.FLU_STATUS_LINK_E = true ∨ d.flag F.FLU_STATUS_LINK_W = true)) ∧
    (let s : State := litBy [] fun d => d.fluUp fun x => { x with relays := [⟨⟨.mbx 0, 1, 4, 6⟩, 2, 32, none, [], 0⟩] }
     let r := (⟨⟨.mbx 0, 1, 4, 6⟩, 2, 32, none, [], 0⟩ : Relay)
     let rest := []
     s.dev.awake = true ∧ s.dev.flu.relays = r :: rest ∧ r.fail = none) ∧
    (let d : Dev := (lit []).dev.flueBoundary.1
     let s : State := lit []
     s.dev.kindling 6 = true ∧ s.dev.flueBoundary = (d, none)) ∧
    (let d : Dev := (litBy [(F.FLU_STATUS_ROLE, 2), (F.FLU_GFI, 5), (F.FLU_LIVE_LO, 1)] fun d => d.fluUp fun x => { x with tx := some ⟨5, none, none, some 0, 9, ⟨.mbx 0, 1, 4, 6⟩⟩ }).dev.flueBoundary.1
     let s : State := litBy [(F.FLU_STATUS_ROLE, 2), (F.FLU_GFI, 5), (F.FLU_LIVE_LO, 1)] fun d => d.fluUp fun x => { x with tx := some ⟨5, none, none, some 0, 9, ⟨.mbx 0, 1, 4, 6⟩⟩ }
     let t := (⟨5, none, none, some 0, 9, ⟨.mbx 0, 1, 4, 6⟩⟩ : GroupTx)
     let st := 9
     let pos := 0
     s.dev.kindling 6 = true ∧ s.dev.flueBoundary = (d, some (t, st, pos)) ∧ st ≠ 0) ∧
    (let s : State := litBy [(F.FLU_STATUS_ROLE, 2), (F.FLU_GFI, 5), (F.FLU_LIVE_LO, 1)] fun d => d.fluUp fun x => { x with tx := some ⟨5, none, none, some 0, 0, ⟨.mbx 0, 1, 4, 6⟩⟩ }
     let d := s.dev.flueBoundary.1
     let t := (s.dev.flueBoundary.2.getD (⟨0, none, none, none, 0, ⟨.mbx 0, 1, 4, 6⟩⟩, 9, 0)).1
     let st := (s.dev.flueBoundary.2.getD (⟨0, none, none, none, 0, ⟨.mbx 0, 1, 4, 6⟩⟩, 9, 0)).2.1
     let pos := (s.dev.flueBoundary.2.getD (⟨0, none, none, none, 0, ⟨.mbx 0, 1, 4, 6⟩⟩, 9, 0)).2.2
     let r := (d.goOn t.act (t.angle.getD 0)).1
     let p := (d.goOn t.act (t.angle.getD 0)).2.1
     let e := (d.goOn t.act (t.angle.getD 0)).2.2
     s.dev.kindling 6 = true ∧ s.dev.flueBoundary = (d, some (t, st, pos)) ∧ st = 0 ∧ d.goOn t.act (t.angle.getD 0) = (r, p, e)) ∧
    (let s : State := lit [(F.FLU_STATUS_ROLE, 1), (F.FLU_STATUS_ADMITTED, 1)]
     let target := s.dev.flu.nextG * (2 ^ 48 / s.dev.G)
     let left := if target ≤ s.dev.time.phase then 0 else ceilDiv (target - s.dev.time.phase) (max 1 (s.dev.get F.ANG_INC))
     let d := (s.dev.advance (left - 2500)).flueQuiet
     s.dev.kindling 6 = true ∧ d.fluRole = 1 ∧ d.fluAdmitted = true ∧ d.flu.fresh = false) ∧
    (let s : State := lit [(F.FLU_STATUS_ROLE, 2)]
     let target := s.dev.flu.nextG * (2 ^ 48 / s.dev.G)
     let left := if target ≤ s.dev.time.phase then 0 else ceilDiv (target - s.dev.time.phase) (max 1 (s.dev.get F.ANG_INC))
     let d := (s.dev.advance (left - 2500)).flueQuiet
     s.dev.kindling 6 = true ∧ d.fluRole = 2) := by
  iterate 4 refine ⟨by decide +kernel, ?_⟩
  exact ⟨⟨by decide +kernel, pair_eq_snd (by decide +kernel)⟩,
   ⟨by decide +kernel, pair_eq_snd (by decide +kernel), by decide +kernel⟩,
   ⟨by decide +kernel, pair_eq_snd (some_of (⟨0, none, none, none, 0, ⟨.mbx 0, 1, 4, 6⟩⟩, 9, 0) (by decide +kernel)), by decide +kernel, rfl⟩,
   by decide +kernel,
   by decide +kernel⟩

theorem witness_CanEventsComplete :
    (let c : Fin 2 := 0
     let f : CanFrame := ⟨5, false, true, false, 1, bs [7]⟩
     let len : Nat := 100
     let dt : Nat := 3
     let s : State := lit [(F.CAN_CFG_EN.ix 0, 1), (F.CAN_STATUS_STATE.ix 0, 1), (F.CAN_CFG_FD_EN.ix 0, 0)]
     let a := s.dev.advance dt
     let d := if (a.canOf c).timing.any (fun t => decide (t + len < a.time.now)) then a.canTiming c else a
     s.dev.awake = true ∧ d.canEn c = true ∧ d.get (F.CAN_STATUS_STATE.ix c) ≠ 3 ∧ f.fdf = true ∧
         (d.canJoin c).canOn c (F.CAN_CFG_FD_EN.ix c) = false) ∧
    (let c : Fin 2 := 0
     let f : CanFrame := ⟨5, false, false, false, 1, bs [7]⟩
     let len : Nat := 100
     let dt : Nat := 3
     let s : State := lit [(F.CAN_CFG_EN.ix 0, 1), (F.CAN_STATUS_STATE.ix 0, 1), (mbF F.CAN_MB_ID 0 3, 5), (mbF F.CAN_MB_CFG_DIR 0 3, 0)]
     let a := s.dev.advance dt
     let d := if (a.canOf c).timing.any (fun t => decide (t + len < a.time.now)) then a.canTiming c else a
     let e := ((d.canJoin c).canRecDown c).canErrState c
     let g := if c.val = 0 ∧ e.isRef f = true then e.refAccept f len else e
     let m := 3
     s.dev.awake = true ∧ d.canEn c = true ∧ d.get (F.CAN_STATUS_STATE.ix c) ≠ 3 ∧ (f.fdf = true → (d.canJoin c).canOn c (F.CAN_CFG_FD_EN.ix c) = true) ∧
         (List.range 64).find? (g.canMatch c f) = some m) ∧
    (let c : Fin 2 := 0
     let f : CanFrame := ⟨5, false, false, false, 1, bs [7]⟩
     let len : Nat := 100
     let dt : Nat := 3
     let s : State := lit [(F.CAN_CFG_EN.ix 0, 1), (F.CAN_STATUS_STATE.ix 0, 1), (mbF F.CAN_FLT_EN 0 2, 1)]
     let a := s.dev.advance dt
     let d := if (a.canOf c).timing.any (fun t => decide (t + len < a.time.now)) then a.canTiming c else a
     let e := ((d.canJoin c).canRecDown c).canErrState c
     let g := if c.val = 0 ∧ e.isRef f = true then e.refAccept f len else e
     let k := 2
     s.dev.awake = true ∧ d.canEn c = true ∧ d.get (F.CAN_STATUS_STATE.ix c) ≠ 3 ∧ (f.fdf = true → (d.canJoin c).canOn c (F.CAN_CFG_FD_EN.ix c) = true) ∧
         (List.range 64).find? (g.canMatch c f) = none ∧ (List.range 16).find? (g.canFilter c f) = some k) ∧
    (let c : Fin 2 := 0
     let f : CanFrame := ⟨5, false, false, false, 1, bs [7]⟩
     let len : Nat := 100
     let dt : Nat := 3
     let s : State := lit [(F.CAN_CFG_EN.ix 0, 1), (F.CAN_STATUS_STATE.ix 0, 1)]
     let a := s.dev.advance dt
     let d := if (a.canOf c).timing.any (fun t => decide (t + len < a.time.now)) then a.canTiming c else a
     let e := ((d.canJoin c).canRecDown c).canErrState c
     let g := if c.val = 0 ∧ e.isRef f = true then e.refAccept f len else e
     s.dev.awake = true ∧ d.canEn c = true ∧ d.get (F.CAN_STATUS_STATE.ix c) ≠ 3 ∧ (f.fdf = true → (d.canJoin c).canOn c (F.CAN_CFG_FD_EN.ix c) = true) ∧
         (List.range 64).find? (g.canMatch c f) = none ∧ (List.range 16).find? (g.canFilter c f) = none) ∧
    (let c : Fin 2 := 0
     let dt : Nat := 3
     let s : State := litBy [(F.CAN_CFG_EN.ix 0, 1), (F.CAN_STATUS_STATE.ix 0, 1)] fun d => d.canUp 0 fun x => { x with ref := true }
     let d := (s.dev.advance dt).canTiming c
     let e := d.canJoin c
     s.dev.awake = true ∧ d.canEn c = true ∧ d.get (F.CAN_STATUS_STATE.ix c) ≠ 3 ∧ (d.canOf c).tx = none ∧ c.val = 0 ∧ (e.canOf 0).ref = true) ∧
    (let c : Fin 2 := 0
     let dt : Nat := 3
     let s : State := lit [(F.CAN_CFG_EN.ix 0, 1), (F.CAN_STATUS_STATE.ix 0, 1), (mbF F.CAN_MB_STATE 0 3, 1)]
     let d := (s.dev.advance dt).canTiming c
     let e := d.canJoin c
     let m := 3
     s.dev.awake = true ∧ d.canEn c = true ∧ d.get (F.CAN_STATUS_STATE.ix c) ≠ 3 ∧ (d.canOf c).tx = none ∧ (c.val = 1 ∨ (e.canOf 0).ref = false) ∧
         e.canOffer c = some m) ∧
    (let c : Fin 2 := 0
     let m : Nat := 3
     let dt : Nat := 3
     let s : State := litBy [(F.CAN_CFG_EN.ix 0, 1), (F.CAN_STATUS_STATE.ix 0, 1)] fun d => d.canUp 0 fun x => { x with tx := some 3 }
     let d := s.dev.advance dt
     s.dev.awake = true ∧ (d.canOf c).tx = some m ∧ m < 64) ∧
    (let c : Fin 2 := 0
     let dt : Nat := 3
     let s : State := lit [(F.CAN_CFG_EN.ix 0, 1), (F.CAN_STATUS_STATE.ix 0, 1)]
     let d := s.dev.advance dt
     s.dev.awake = true ∧ d.canEn c = true ∧ d.get (F.CAN_STATUS_STATE.ix c) ≠ 3) ∧
    (let c : Fin 2 := 0
     let lec : Fin 6 := 2
     let dt : Nat := 3
     let s : State := lit [(F.CAN_CFG_EN.ix 0, 1), (F.CAN_STATUS_STATE.ix 0, 1)]
     let d := s.dev.advance dt
     let e := ((d.canJoin c).bump (F.CAN_ERRFRM_CNT.ix c)).put (F.CAN_STATUS_LEC.ix c) (lec + 1)
     s.dev.awake = true ∧ d.canEn c = true ∧ d.get (F.CAN_STATUS_STATE.ix c) ≠ 3 ∧ (lec.val ≠ 2 ∨ e.get (F.CAN_STATUS_STATE.ix c) ≠ 2)) ∧
    (let c : Fin 2 := 0
     let dt : Nat := 3
     let s : State := lit [(F.CAN_CFG_AUTO_REC.ix 0, 1), (F.CAN_STATUS_STATE.ix 0, 3)]
     let d := s.dev.advance dt
     s.dev.awake = true ∧ d.get (F.CAN_STATUS_STATE.ix c) = 3 ∧ (d.canOn c (F.CAN_CFG_AUTO_REC.ix c) = true ∨ (d.canOf c).recover = true)) ∧
    (let c : Fin 2 := 0
     let t : Nat := 5
     let s : State := litBy [] fun d => d.canUp 0 fun x => { x with timing := some 5 }
     s.dev.awake = true ∧ (s.dev.canOf c).timing = some t ∧ (s.dev.canOf c).tx = none) ∧
    (let s : State := lit [(F.CAN_CFG_EN.ix 0, 1), (F.CAN_TM_CFG_TM_MODE.ix 0, 1)]
     s.dev.awake = true ∧ s.dev.canCfg 0 (F.CAN_TM_CFG_TM_MODE.ix 0) = 1 ∧ s.dev.canEn 0 = true) ∧
    (let t : Nat := 5
     let s : State := litBy [(F.CAN_TM_STAT_SYNC.ix 0, 1)] fun d => d.canUp 0 fun x => { x with lastRef := some 5 }
     s.dev.awake = true ∧ (s.dev.canOf 0).lastRef = some t ∧ s.dev.flag (F.CAN_TM_STAT_SYNC.ix 0) = true) := by
  and_intros <;> decide +kernel

theorem witness_RegisterFileLaws :
    (let f : Fld := ⟨0x40, 7, 3, []⟩
     f.lo ≤ f.hi ∧ f.hi < 32) ∧
    (let f : Fld := ⟨0x40, 7, 3, []⟩
     let g : Fld := ⟨0x44, 31, 0, []⟩
     f.lo ≤ f.hi ∧ f.hi < 32 ∧ g.addr ≠ f.addr) ∧
    (let f : Fld := ⟨0x40, 7, 3, []⟩
     let g : Fld := ⟨0x40, 31, 8, []⟩
     f.lo ≤ f.hi ∧ f.hi < 32 ∧ g.addr = f.addr ∧ g.lo ≤ g.hi ∧ (g.hi < f.lo ∨ f.hi < g.lo)) ∧
    (let f : Fld := ⟨0x40, 7, 3, []⟩
     f.lo ≤ f.hi ∧ f.hi < 32) ∧
    (let f : Fld := ⟨0x40, 7, 3, []⟩
     f.lo ≤ f.hi ∧ f.hi < 32) ∧
    (let f : Fld := ⟨0x40, 7, 3, []⟩
     let a : Nat := 0x40
     let b := 0x44
     f.lo ≤ f.hi ∧ f.hi < 32 ∧ b ≠ a) := by
  and_intros <;> decide +kernel

theorem witness_NumbersAreLittleEndian :
  let n : Nat := 2
  let i := 1
  i < n := by decide +kernel

theorem witness_RefusedWriteChangesNoField :
    (let d : Dev := (lit []).dev
     let operator : Bool := false
     let es : List RegEntry := [⟨0x40, 0, 0⟩, ⟨0xFFFFFC, 1, 1⟩]
     (d.regWrite operator es).1 ≠ St.ok) ∧
    (let d : Dev := (lit []).dev
     let operator : Bool := false
     let es : List RegEntry := [⟨0x40, 0, 0⟩, ⟨0xFFFFFC, 1, 1⟩]
     (d.regWrite operator es).1 ≠ St.ok) ∧
    (let d : Dev := (lit []).dev
     let sid : Nat := 1
     let es : List RegEntry := [⟨0x40, 0, 0⟩, ⟨0xFFFFFC, 1, 1⟩]
     (d.regStage sid es).1 ≠ St.ok) ∧
    (let addr : Nat := 0xFFFFFC
     let mask : Word := 1
     let value : Word := 1
     let s : State := lit []
     s.dev.hearthUp = true ∧ addr < 0x1000000 ∧ (s.dev.regWrite false [⟨addr, mask, value⟩]).1 ≠ St.ok) := by
  refine ⟨?_, ?_, ?_, ?_⟩ <;> decide +kernel

theorem witness_EntryOfARegisterWrite :
    (let e : RegEntry := ⟨0xFFFFFC, 1, 1⟩
     (e.addr < 0x1000000 → rowAt e.addr = none)) ∧
    (let d : Dev := (lit []).dev
     let operator : Bool := false
     let e : RegEntry := ⟨0x010004, 1, 1⟩
     let r := ((rowAt 0x010004).get (by decide +kernel)).1
     let ix := ((rowAt 0x010004).get (by decide +kernel)).2
     let old := d.liveWord e.addr
     let changed := (old ^^^ ((old &&& ~~~e.mask) ||| (e.value &&& e.mask))).toNat
     let wrong := (operator && !operatorMay e.addr) || (changed &&& (r.ro ||| r.st ||| r.oa)) != 0
     e.addr < 0x1000000 ∧ rowAt e.addr = some (r, ix) ∧ wrong = true) ∧
    (let d : Dev := (lit []).dev
     let operator : Bool := false
     let e : RegEntry := ⟨0x0F0008, 1, 1⟩
     let r := ((rowAt 0x0F0008).get (by decide +kernel)).1
     let ix := ((rowAt 0x0F0008).get (by decide +kernel)).2
     let old := d.liveWord e.addr
     let changed := (old ^^^ ((old &&& ~~~e.mask) ||| (e.value &&& e.mask))).toNat
     let wrong := (operator && !operatorMay e.addr) || (changed &&& (r.ro ||| r.st ||| r.oa)) != 0
     e.addr < 0x1000000 ∧ rowAt e.addr = some (r, ix) ∧ wrong = false ∧ (changed &&& r.lc) ≠ 0 ∧ 1 < d.lc) ∧
    (let d : Dev := (lit []).dev
     let operator : Bool := false
     let e : RegEntry := ⟨0x010004, 1, 1⟩
     let r := ((rowAt 0x010004).get (by decide +kernel)).1
     let ix := ((rowAt 0x010004).get (by decide +kernel)).2
     e.addr < 0x1000000 ∧ rowAt e.addr = some (r, ix) ∧ (d.writeEntry operator e).1 ≠ St.ok) ∧
    (let d : Dev := (lit []).dev
     let operator : Bool := false
     let e : RegEntry := ⟨0x010010, 1, 1⟩
     let r := ((rowAt 0x010010).get (by decide +kernel)).1
     let ix := ((rowAt 0x010010).get (by decide +kernel)).2
     e.addr < 0x1000000 ∧ rowAt e.addr = some (r, ix) ∧ (d.writeEntry operator e).1 = St.ok ∧ ((e.mask &&& e.value).toNat &&& r.act) = 0 ∧
         e.addr ∉ [0x0A007C, 0x0A00FC, 0x0B0020, F.NET_PTP_SET.addr] ∧ r.clr = true ∧ e.mask ≠ 0) ∧
    (let d : Dev := ((lit []).dev.setWord 0x010050 6)
     let operator : Bool := false
     let e : RegEntry := ⟨0x010050, 15, 5⟩
     let r := ((rowAt 0x010050).get (by decide +kernel)).1
     let ix := ((rowAt 0x010050).get (by decide +kernel)).2
     let i := 3
     e.addr < 0x1000000 ∧ rowAt e.addr = some (r, ix) ∧ (d.writeEntry operator e).1 = St.ok ∧ ((e.mask &&& e.value).toNat &&& r.act) = 0 ∧
         e.addr ∉ [0x0A007C, 0x0A00FC, 0x0B0020, F.NET_PTP_SET.addr] ∧ (r.clr = false ∨ e.mask = 0) ∧ i < 32) ∧
    (let d : Dev := (lit []).dev
     let operator : Bool := false
     let e : RegEntry := ⟨0x010050, 15, 5⟩
     let r := ((rowAt 0x010050).get (by decide +kernel)).1
     let ix := ((rowAt 0x010050).get (by decide +kernel)).2
     let a := 0x40
     e.addr < 0x1000000 ∧ rowAt e.addr = some (r, ix) ∧ (d.writeEntry operator e).1 = St.ok ∧ ((e.mask &&& e.value).toNat &&& r.act) = 0 ∧
         e.addr ∉ [0x0A007C, 0x0A00FC, 0x0B0020, F.NET_PTP_SET.addr] ∧ a ≠ e.addr) := by
  and_intros <;> decide +kernel

theorem witness_StagedSetHasOneOwner :
    (let d : Dev := (lit []).dev
     let sid : Nat := 1
     let es := [⟨0x010200, 1, 1⟩]
     (d.regStage sid es).1 = St.ok) ∧
    (let d : Dev := { (lit []).dev with stage := { owner := some 2, regs := [] } }
     let sid : Nat := 1
     let o := 2
     d.stage.owner = some o ∧ o ≠ sid) ∧
    (let d : Dev := { (lit []).dev with stage := { owner := some 2, regs := [] } }
     let sid : Nat := 1
     let o := 2
     d.stage.owner = some o ∧ o ≠ sid) ∧
    (let d : Dev := { (lit []).dev with stage := { owner := some 2, regs := [] } }
     let sid : Nat := 1
     let o := 2
     d.stage.owner = some o ∧ o ≠ sid) ∧
    (let d : Dev := { (lit []).dev with stage := { owner := some 1, regs := [] } }
     let sid : Nat := 1
     d.stage.owner = some sid) ∧
    (let d : Dev := { (lit [(F.ANG_FCNT, 9)]).dev with stage := { adopted := some (1, 9) } }
     let sid : Nat := 1
     let k := 9
     d.stage.owner = none ∧ d.stage.adopted = some (sid, k) ∧ d.get F.ANG_FCNT = k) := by
  and_intros <;> decide +kernel

theorem witness_StagedSetIsAdoptedWhole :
    (let d : Dev := { (lit []).dev with stage := { owner := some 2 } }
     let sid : Nat := 1
     let angle : Option Nat := none
     (d.commit sid angle).1 ≠ St.ok) ∧
    (let d : Dev := (lit sixChannels).dev
     let sid : Nat := 1
     let angle : Option Nat := none
     (d.commit sid angle).1 = St.ok) ∧
    (let d : Dev := (lit sixChannels).dev
     d.stage.pending = none) ∧
    (let d : Dev := { (lit []).dev with stage := { owner := some 1, pending := some (9, 4) } }
     let k := 9
     let c := 4
     d.stage.pending = some (k, c) ∧ (d.get F.ANG_FCNT + 1) % 2 ^ 32 ≠ k) ∧
    (let d : Dev := { (lit []).dev with stage := { owner := some 1, pending := some (1, 4) } }
     let k := 1
     let c := 4
     d.stage.pending = some (k, c) ∧ (d.get F.ANG_FCNT + 1) % 2 ^ 32 = k) ∧
    (let d : Dev := { (lit []).dev with stage := { owner := some 1, regs := [(0x40, 5, 7)] } }
     (d.stage.regs.map fun x => x.1).Nodup) ∧
    (let d : Dev := { (lit []).dev with stage := { owner := some 1, regs := [(0x40, 5, 7)] } }
     let a := 0x40
     let v := 5
     let m := 7
     (d.stage.regs.map fun x => x.1).Nodup ∧ (a, v, m) ∈ d.stage.regs) ∧
    (let d : Dev := { (lit []).dev with stage := { owner := some 1, regs := [(0x40, 5, 7)] } }
     let a := 0x44
     (d.stage.regs.map fun x => x.1).Nodup ∧ (∀ x ∈ d.stage.regs, x.1 ≠ a)) := by
  and_intros <;> decide +kernel

theorem witness_CommonAngleAccumulator :
  let d : Dev := (lit [(F.ANG_INC, 28147498)]).dev
  d.cpr.rows.testBit 3 = true := by decide +kernel

theorem witness_WhatIsHeldOff :
    (let n := 11
     n < 12) ∧
    (let b := 1
     b < 2) := by
  refine ⟨?_, ?_⟩ <;> decide +kernel

theorem witness_HeldOutputsStayOff :
    (let c : Instr := .angSnap
     let s : State := lit [(F.CPR_STATUS_PFAIL, 1)]
     let t : State := nextOf (exec .angSnap (lit [(F.CPR_STATUS_PFAIL, 1)]))
     exec c s = .next t) ∧
    (let s : State := State.reset
     let t : State := State.reset
     s.dev.heldOff ∧ step s = .next t) := 
  ⟨answers (by decide +kernel),
   ⟨by unfold Dev.heldOff; decide +kernel, rfl⟩⟩

theorem witness_ShownStatusIsTrue :
    (let c : Instr := .angSnap
     let s : State := lit [(F.CPR_STATUS_PFAIL, 1)]
     let t : State := nextOf (exec .angSnap (lit [(F.CPR_STATUS_PFAIL, 1)]))
     exec c s = .next t) ∧
    (let s : State := State.reset
     let t : State := State.reset
     s.dev.showsTruth ∧ step s = .next t) := 
  ⟨answers (by decide +kernel),
   ⟨by unfold Dev.showsTruth; decide +kernel, rfl⟩⟩

theorem witness_CanOffersTheLowestIdentifier :
    (let d : Dev := (lit [(mbF F.CAN_MB_STATE 1 3, 1), (mbF F.CAN_MB_STATE 1 5, 1), (mbF F.CAN_MB_ID 1 3, 7), (mbF F.CAN_MB_ID 1 5, 6)]).dev
     let c : Nat := 1
     let m := 5
     d.canOffer c = some m) ∧
    (let d : Dev := (lit [(mbF F.CAN_MB_STATE 1 3, 1), (mbF F.CAN_MB_STATE 1 5, 1), (mbF F.CAN_MB_ID 1 3, 7), (mbF F.CAN_MB_ID 1 5, 6)]).dev
     let c : Nat := 1
     let m := 5
     let k := 3
     d.canOffer c = some m ∧ k < 64 ∧ d.mbState c k = 1) ∧
    (let i : Nat := 5
     let j : Nat := 5 * 2 ^ 18 + 9
     i < 2 ^ 11 ∧ j < 2 ^ 29 ∧ j / 2 ^ 18 = i) ∧
    (let i : Nat := 5
     let j : Nat := 6 * 2 ^ 18
     i < 2 ^ 11 ∧ j < 2 ^ 29 ∧ i < j / 2 ^ 18) ∧
    (let i : Nat := 5
     let j : Nat := 4 * 2 ^ 18 + 9
     i < 2 ^ 11 ∧ j < 2 ^ 29 ∧ j / 2 ^ 18 < i) := by
  refine ⟨?_, ?_, ?_, ?_, ?_⟩ <;> decide +kernel

theorem witness_EventLogIsAChain :
    (let d : Dev := (lit []).dev
     d.log.normal.length ≤ 10240) ∧
    (let d : Dev := (lit []).dev
     d.log.sticky.length ≤ 2048) ∧
    (let d : Dev := { (lit []).dev with log := { sticky := List.replicate 2048 ⟨0, 0, 0, 0, [], []⟩ } }
     d.stickyRoom = false) ∧
    (let d : Dev := { (lit []).dev with log := { sticky := List.replicate 2048 ⟨0, 0, 0, 0, [], []⟩, exported := 1 } }
     d.stickyRoom = true ∧ 2048 ≤ d.log.sticky.length) := by
  refine ⟨?_, ?_, ?_, ?_⟩ <;> decide +kernel

theorem witness_MsixMessageOrPendingBit :
    (let d : Dev := (litBy [(F.HST_STATUS_BME, 1)] fun d => { d with hst := { d.hst with msixEn := true, msixMask := 0 } }).dev
     let v : Nat := 31
     d.vectorOpen v = true) ∧
    (let d : Dev := (lit []).dev
     let v : Nat := 31
     d.vectorOpen v = false) ∧
    (let d : Dev := (lit []).dev
     let v : Nat := 31
     let u := 30
     d.vectorOpen v = false ∧ u ≠ v) ∧
    (let d : Dev := (lit []).dev
     let v : Nat := 31
     (d.hst.msixPend.testBit v = false ∨ d.vectorOpen v = false)) ∧
    (let d : Dev := (litBy [(F.HST_STATUS_BME, 1)] fun d => { d with hst := { d.hst with msixEn := true, msixPend := 0x80000000 } }).dev
     let v : Nat := 31
     let w : Word := 0xFFFFFFFE
     v < 32 ∧ w.getLsbD 0 = false ∧ d.flag F.HST_STATUS_BME = true ∧ d.flag F.HST_STATUS_D3 = false ∧ d.hst.msixEn = true ∧
         d.hst.msixFmask = false ∧ d.hst.msixPend.testBit v = true) ∧
    (let d : Dev := (litBy [(F.HST_STATUS_BME, 1)] fun d => { d with hst := { d.hst with msixEn := true, msixPend := 0x80000000 } }).dev
     let v : Nat := 31
     let w : Word := 0xFFFFFFFE
     let u := 30
     v < 32 ∧ w.getLsbD 0 = false ∧ d.flag F.HST_STATUS_BME = true ∧ d.flag F.HST_STATUS_D3 = false ∧ d.hst.msixEn = true ∧
         d.hst.msixFmask = false ∧ d.hst.msixPend.testBit v = true ∧ u ≠ v) := by
  and_intros <;> decide +kernel

theorem witness_RoutedEventLatchesItsGroups :
    (let code : Nat := 0x0101
     code ∈ fixedEvents) ∧
    (let d : Dev := (lit []).dev
     let code : Nat := 0x0102
     let named (i : Nat) : Prop := d.flag (F.DMP_EVT_OVR_EN.ix i) = true ∧ d.get (F.DMP_EVT_OVR_CODE.ix i) = code
     (∀ i, i < 64 → ¬ named i)) ∧
    (let d : Dev := (lit [(F.DMP_EVT_OVR_EN.ix 5, 1), (F.DMP_EVT_OVR_CODE.ix 5, 0x0102)]).dev
     let code : Nat := 0x0102
     let named (i : Nat) : Prop := d.flag (F.DMP_EVT_OVR_EN.ix i) = true ∧ d.get (F.DMP_EVT_OVR_CODE.ix i) = code
     let i := 5
     i < 64 ∧ named i ∧ (∀ j, j < i → ¬ named j) ∧ code ∉ fixedEvents) ∧
    (let d : Dev := (litBy [] fun d => { d with dmp := { d.dmp with latchA := 4 } }).dev
     let g := 2
     g < 8 ∧ d.dmp.latchA.testBit g = true) ∧
    (let d : Dev := (litBy [] fun d => { d with dmp := { d.dmp with holdB := 4 } }).dev
     let g := 2
     g < 8 ∧ d.latched.testBit g = true) ∧
    (let d : Dev := (lit [(F.DMP_EVT_OVR_EN.ix 5, 1), (F.DMP_EVT_OVR_CODE.ix 5, 0x0102), (F.DMP_EVT_OVR_CLASS.ix 5, 0), (F.DMP_EVT_OVR_GRP.ix 5, 4)]).dev
     let code : Nat := 0x0102
     let g := 2
     g < 8 ∧ (d.resolve code).2.testBit g = true ∧ (d.resolve code).1 = .a) ∧
    (let d : Dev := (lit [(F.DMP_EVT_OVR_EN.ix 5, 1), (F.DMP_EVT_OVR_CODE.ix 5, 0x0102), (F.DMP_EVT_OVR_CLASS.ix 5, 1), (F.DMP_EVT_OVR_GRP.ix 5, 4)]).dev
     let code : Nat := 0x0102
     let g := 2
     g < 8 ∧ (d.resolve code).2.testBit g = true ∧ (d.resolve code).1 = .b) ∧
    (let d : Dev := (lit [(F.HRT_LC_STATE, 3), (F.DMP_EVT_OVR_EN.ix 5, 1), (F.DMP_EVT_OVR_CODE.ix 5, 0x0102), (F.DMP_EVT_OVR_CLASS.ix 5, 1), (F.DMP_EVT_OVR_GRP.ix 5, 4)]).dev
     let code : Nat := 0x0102
     let g := 2
     g < 8 ∧ (d.resolve code).2.testBit g = true ∧ (d.resolve code).1 = .b ∧ d.service = true) ∧
    (let d : Dev := (lit [(F.DMP_EVT_OVR_EN.ix 5, 1), (F.DMP_EVT_OVR_CODE.ix 5, 0x0102), (F.DMP_EVT_OVR_CLASS.ix 5, 2), (F.DMP_EVT_OVR_GRP.ix 5, 4)]).dev
     let code : Nat := 0x0102
     let g := 2
     g < 8 ∧ (d.resolve code).2.testBit g = true ∧ (d.resolve code).1 = .c) := by
  and_intros <;> decide +kernel

theorem witness_RecordFillsItsDescriptorsInTurn :
    (let size : Nat := 64
     let head : Nat := 63
     let ds : List Desc := [⟨0x2000, 2⟩, ⟨0x3000, 8⟩]
     let bs : List Byte := Tests.bs [1, 2, 3, 4, 5]
     head < size ∧ ds ≠ [] ∧ bs.length ≤ (ds.map Desc.len).sum) ∧
    (let k : Nat := 2
     let n : Nat := 3
     let bs : List Byte := Tests.bs [1, 2, 3, 4, 5]
     0 < k ∧ bs.length ≤ n * k) := by
  refine ⟨?_, ?_⟩ <;> decide +kernel

theorem witness_DriveWordsAreJudged :
    (let d : Dev := (lit []).dev
     let b : Nat := 1
     let err : Nat := 1
     let k := max (ceilDiv d.time.now 5) (d.bridge b).upTo
     let a := (d.advanceTo (5 * k)).wordsTo b (5 * k)
     let w := a.drtWord b k ^^^ err
     let x := a.bridge b
     let crc := crc4 (w % 4096) 12 0 == w / 4096 % 16
     let good := crc && w / 256 % 16 == k % 16
     let n := if x.badAt.any (fun j => decide (j + 1 = k)) then x.bad + 1 else 1
     b < 2 ∧ b < d.gdr.br.length ∧ good = false ∧ n < 3) ∧
    (let d : Dev := ((lit []).dev.bridgeUp 1 fun x => { x with upTo := 5, bad := 2, badAt := some 4, latched := true })
     let b : Nat := 1
     let err : Nat := 1
     let k := max (ceilDiv d.time.now 5) (d.bridge b).upTo
     let a := (d.advanceTo (5 * k)).wordsTo b (5 * k)
     let w := a.drtWord b k ^^^ err
     let x := a.bridge b
     let crc := crc4 (w % 4096) 12 0 == w / 4096 % 16
     let good := crc && w / 256 % 16 == k % 16
     let n := if x.badAt.any (fun j => decide (j + 1 = k)) then x.bad + 1 else 1
     b < 2 ∧ b < d.gdr.br.length ∧ good = false ∧ 3 ≤ n) ∧
    (let d : Dev := ((lit []).dev.bridgeUp 1 fun x => { x with upTo := 5, bad := 2, badAt := some 4 })
     let b : Nat := 1
     let err : Nat := 1
     let k := max (ceilDiv d.time.now 5) (d.bridge b).upTo
     let a := (d.advanceTo (5 * k)).wordsTo b (5 * k)
     let w := a.drtWord b k ^^^ err
     let x := a.bridge b
     let crc := crc4 (w % 4096) 12 0 == w / 4096 % 16
     let good := crc && w / 256 % 16 == k % 16
     let n := if x.badAt.any (fun j => decide (j + 1 = k)) then x.bad + 1 else 1
     b < 2 ∧ b < d.gdr.br.length ∧ good = false ∧ 3 ≤ n ∧ x.faulted = false) ∧
    (let d : Dev := (lit []).dev
     let b : Nat := 1
     let err : Nat := 0
     let k := max (ceilDiv d.time.now 5) (d.bridge b).upTo
     let a := (d.advanceTo (5 * k)).wordsTo b (5 * k)
     let w := a.drtWord b k ^^^ err
     let crc := crc4 (w % 4096) 12 0 == w / 4096 % 16
     let good := crc && w / 256 % 16 == k % 16
     let l := 2
     b < 2 ∧ b < d.gdr.br.length ∧ good = true ∧ l < 3) ∧
    (let d : Dev := (lit []).dev
     let b : Nat := 1
     let err : Nat := 0x30 + crc4 0x30 12 0 * 4096
     let k := max (ceilDiv d.time.now 5) (d.bridge b).upTo
     let a := (d.advanceTo (5 * k)).wordsTo b (5 * k)
     let w := a.drtWord b k ^^^ err
     let crc := crc4 (w % 4096) 12 0 == w / 4096 % 16
     let good := crc && w / 256 % 16 == k % 16
     let l := 2
     let both := w.testBit (2 * l) && w.testBit (2 * l + 1)
     b < 2 ∧ b < d.gdr.br.length ∧ good = true ∧ l < 3 ∧ both = true) := by
  refine ⟨?_, ?_, ?_, ?_, ?_⟩ <;> decide +kernel

theorem witness_GatesOfALegAreNeverOnTogether :
    (let d : Dev := (lit []).dev
     let b : Nat := 1
     let l : Nat := 2
     l < 3 ∧ ((d.bridge b).cmd.testBit (2 * l) && (d.bridge b).cmd.testBit (2 * l + 1)) = false) ∧
    (let d : Dev := (lit []).dev
     let b : Nat := 1
     let l := 2
     (∀ l, l < 3 → ((d.bridge b).cmd.testBit (2 * l) && (d.bridge b).cmd.testBit (2 * l + 1)) = false) ∧ l < 3) ∧
    (let d : Dev := ((lit []).dev.bridgeUp 1 fun x => { x with latched := true })
     let b : Nat := 1
     d.bridgeHeld b = true) ∧
    (let x : Bridge := { cmd := 2 }
     let cmd : Nat := 1
     let g : Nat := 1
     g < 6 ∧ x.cmd.testBit g = true ∧ cmd.testBit g = false) ∧
    (let d : Dev := ((lit []).dev.bridgeUp 1 fun x => { x with cmd := 2, offAt := [0, 0, 0, 0, 0, 0] })
     let b : Nat := 1
     let g : Nat := 1
     d.refreshing b (g / 2) d.time.now = none ∧ d.time.now < ((d.wordsTo b (d.time.now + 1)).bridge b).offAt.getD (g ^^^ 1) 0 + 25) ∧
    (let d : Dev := ((lit []).dev.bridgeUp 1 fun x => { x with refresh := 4 })
     let b : Nat := 1
     let l : Nat := 2
     (d.bridge b).refresh.testBit l = true ∧ d.bridgeHeld b = false ∧ (d.ch b).perAt ≤ d.time.now ∧
       d.time.now < (d.ch b).perAt + 200) ∧
    (let s := 5
     s < 6) := by
  and_intros <;> decide +kernel

theorem witness_RaisingAnEventChangesOnly :
    (let a := 0x10000
     a ∉ raiseWords) ∧
    (let code : Nat := 0x0101
     let f := ((evtFlag 0x0101 0).get (by decide +kernel)).1
     let b := ((evtFlag 0x0101 0).get (by decide +kernel)).2
     eventDefined code = true ∧ evtFlag code 0 = some (f, b)) ∧
    (let c := 1
     c < 2) ∧
    (let c := 1
     let a := 0x10000
     c < 2 ∧ a ∉ raiseWords) := by
  refine ⟨?_, ?_, ?_, ?_⟩ <;> decide +kernel

theorem witness_SettlingChangesOnly :
    (let a := F.ANG_INC.addr
     a ∉ raiseWords ∧ a ∉ settleWords) ∧
    (let d : Dev := State.reset.dev
     d.awake = false) ∧
    (let d : Dev := (lit []).dev
     let b : Nat := 1
     andNot (d.lockedOut b) (d.bridge b).lockSeen = 0) := by
  refine ⟨?_, ?_, ?_⟩ <;> decide +kernel

end Sys2Proof.Tests
end

section
/-! PROOFS. The obligations of 00_scope.md: the register file, numbers as bytes, the reset state, what raising an event
changes, refused and accepted writes of registers. -/

namespace Sys2Proof.Machine

/-! ## Bit fields of a word -/

theorem testBit_wbits (w : Word) (hi lo i : Nat) : (wbits w hi lo).testBit i = (decide (i < hi - lo + 1) && w.getLsbD (lo + i)) := by
  rw [wbits, Nat.testBit_mod_two_pow, BitVec.toNat_ushiftRight, Nat.testBit_shiftRight, BitVec.testBit_toNat]

theorem getLsbD_wmask {hi lo : Nat} (hle : lo ≤ hi) (hhi : hi < 32) (i : Nat) :
    (wmask hi lo).getLsbD i = decide (lo ≤ i ∧ i ≤ hi) := by
  rw [wmask, BitVec.getLsbD_ofNat, Nat.testBit_mul_two_pow, Nat.testBit_two_pow_sub_one, Bool.eq_iff_iff]
  simp only [Bool.and_eq_true, decide_eq_true_eq]
  omega

/-- A word with a field replaced, bit by bit. -/
theorem getLsbD_wset (w : Word) {hi lo : Nat} (hle : lo ≤ hi) (hhi : hi < 32) (v i : Nat) :
    (wset w hi lo v).getLsbD i = if lo ≤ i ∧ i ≤ hi then v.testBit (i - lo) else w.getLsbD i := by
  rw [wset, BitVec.getLsbD_or, BitVec.getLsbD_and, BitVec.getLsbD_and, BitVec.getLsbD_not, BitVec.getLsbD_shiftLeft, BitVec.getLsbD_ofNat,
    getLsbD_wmask hle hhi]
  by_cases h : lo ≤ i ∧ i ≤ hi
  · have h32 : i < 32 := by omega
    have hsub : i - lo < 32 := by omega
    simp [h, h32, hsub]
  · rw [if_neg h]
    by_cases h32 : i < 32
    · simp [h, h32]
    · simp [h, h32, BitVec.getLsbD_of_ge w i (by omega)]

theorem wbits_wset_same (w : Word) {hi lo : Nat} (hle : lo ≤ hi) (hhi : hi < 32) (v : Nat) :
    wbits (wset w hi lo v) hi lo = v % 2 ^ (hi - lo + 1) := by
  refine Nat.eq_of_testBit_eq fun i => ?_
  rw [testBit_wbits, getLsbD_wset w hle hhi, Nat.testBit_mod_two_pow]
  by_cases h : i < hi - lo + 1
  · rw [if_pos (by omega), Nat.add_sub_cancel_left]
  · simp [h]

theorem wbits_wset_disjoint (w : Word) {hi lo h l : Nat} (hle : lo ≤ hi) (hhi : hi < 32) (hl : l ≤ h)
    (hd : h < lo ∨ hi < l) (v : Nat) :
    wbits (wset w hi lo v) h l = wbits w h l := by
  refine Nat.eq_of_testBit_eq fun i => ?_
  rw [testBit_wbits, testBit_wbits, getLsbD_wset w hle hhi]
  by_cases hi' : i < h - l + 1
  · rw [if_neg (by omega)]
  · simp [hi']

/-! ## Fields of the register file -/

section Field
variable {f : Fld} (hle : f.lo ≤ f.hi) (hhi : f.hi < 32)
include hle hhi

theorem Dev.get_put_same (d : Dev) (v : Nat) : (d.put f v).get f = f.cut v := by
  rw [Dev.get, Dev.word_put_self, wbits_wset_same _ hle hhi]

theorem Dev.get_put_disjoint (d : Dev) (v : Nat) {g : Fld} (ha : g.addr = f.addr) (hg : g.lo ≤ g.hi) (hd : g.hi < f.lo ∨ f.hi < g.lo) :
    (d.put f v).get g = d.get g := by
  rw [Dev.get, Dev.get, ha, Dev.word_put_self, wbits_wset_disjoint _ hle hhi hg hd]

/-- A saturating counter stops at the greatest number of its field. -/
theorem Dev.get_bump_same (d : Dev) (n : Nat) : (d.bump f n).get f = min (2 ^ (f.hi - f.lo + 1) - 1) (d.get f + n) := by
  have hpos : 0 < 2 ^ (f.hi - f.lo + 1) := Nat.two_pow_pos _
  have hlt : min f.max (d.get f + n) < 2 ^ (f.hi - f.lo + 1) := by unfold Fld.max; omega
  rw [Dev.bump, Dev.get_put_same hle hhi, Fld.cut, Nat.mod_eq_of_lt hlt, Fld.max]

theorem Dev.get_wrapInc_same (d : Dev) (n : Nat) : (d.wrapInc f n).get f = (d.get f + n) % 2 ^ (f.hi - f.lo + 1) :=
  Dev.get_put_same hle hhi d _

end Field

theorem Dev.get_put_other (d : Dev) (f : Fld) (v : Nat) {g : Fld} (ha : g.addr ≠ f.addr) : (d.put f v).get g = d.get g := by
  rw [Dev.get, Dev.get, Dev.word_put_other d f v ha]

/-- Settles O42: each clause is the field law of that name. -/
theorem registerFileLaws : Obligations.RegisterFileLaws := by
  intro d f hle hhi
  exact ⟨Dev.get_put_same hle hhi d, fun v _ ha => Dev.get_put_other d f v ha,
    fun v _ ha hg hd => Dev.get_put_disjoint hle hhi d v ha hg hd,
    fun _ => rfl, Dev.get_bump_same hle hhi d, Dev.get_wrapInc_same hle hhi d,
    fun a w => ⟨Dev.word_setWord_same d a w, fun _ hb => Dev.word_setWord_other d hb w⟩⟩

/-! ## Numbers as bytes -/

@[simp] theorem length_leBytes (n v : Nat) : (leBytes n v).length = n := by
  induction n generalizing v with
  | zero => rfl
  | succ n ih => rw [leBytes, List.length_cons, ih]

@[simp] theorem ofLE_leBytes (n v : Nat) : ofLE (leBytes n v) = v % 256 ^ n := by
  induction n generalizing v with
  | zero => simp [leBytes, ofLE, Nat.mod_one]
  | succ n ih => rw [leBytes, ofLE, ih, BitVec.toNat_ofNat, pow_succ' 256 n, Nat.mod_mul]

/-- Byte i of a number is its bits [8i+7:8i]. -/
theorem getD_leBytes (n v : Nat) {i : Nat} (hi : i < n) : ((leBytes n v).getD i 0).toNat = v / 256 ^ i % 256 := by
  induction n generalizing v i with
  | zero => omega
  | succ n ih =>
    cases i with
    | zero => simp [leBytes]
    | succ i => rw [leBytes, List.getD_cons_succ, ih _ (by omega), Nat.pow_succ', Nat.div_div_eq_div_mul]

theorem leBytes_ofLE (bs : List Byte) : leBytes bs.length (ofLE bs) = bs := by
  induction bs with
  | nil => rfl
  | cons b bs ih =>
    have hdiv : (b.toNat + 256 * ofLE bs) / 256 = ofLE bs := by omega
    rw [List.length_cons, leBytes, ofLE, hdiv, ih]
    congr 1
    refine BitVec.eq_of_toNat_eq ?_
    rw [BitVec.toNat_ofNat]
    omega

/-- A number inside a payload is read at its offset. -/
theorem leAt_append (xs ys : List Byte) (n v : Nat) : leAt (xs ++ leBytes n v ++ ys) xs.length n = v % 256 ^ n := by
  have hpart : ((xs ++ leBytes n v ++ ys).drop xs.length).take n = leBytes n v := by
    rw [List.append_assoc, List.drop_left, List.take_left' (length_leBytes n v)]
  rw [leAt, hpart, ofLE_leBytes]

@[simp] theorem bytesOf_cons (w : Word) (ws : List Word) : bytesOf (w :: ws) = leBytes 4 w.toNat ++ bytesOf ws := rfl

theorem bytesOf_append (us ws : List Word) : bytesOf (us ++ ws) = bytesOf us ++ bytesOf ws := List.flatMap_append

@[simp] theorem length_bytesOf (ws : List Word) : (bytesOf ws).length = 4 * ws.length := by
  induction ws with
  | nil => rfl
  | cons w ws ih => rw [bytesOf_cons, List.length_append, ih, length_leBytes, List.length_cons]; omega

/-- Word i of a string of words is read at offset 4i. -/
theorem leAt_bytesOf (ws : List Word) {i : Nat} (hi : i < ws.length) : leAt (bytesOf ws) (4 * i) 4 = ws[i].toNat := by
  have hsplit : bytesOf ws = bytesOf (ws.take i) ++ leBytes 4 ws[i].toNat ++ bytesOf (ws.drop (i + 1)) := by
    conv_lhs => rw [← List.take_append_drop i ws, List.drop_eq_getElem_cons hi]
    rw [bytesOf_append, bytesOf_cons, List.append_assoc]
  have hlen : (bytesOf (ws.take i)).length = 4 * i := by rw [length_bytesOf, List.length_take, Nat.min_eq_left hi.le]
  rw [hsplit, ← hlen, leAt_append, Nat.mod_eq_of_lt (by exact ws[i].isLt)]

theorem wordsOf_bytesOf (ws : List Word) : wordsOf (bytesOf ws) = ws := by
  have hcount : ((bytesOf ws).length + 3) / 4 = ws.length := by rw [length_bytesOf]; omega
  refine List.ext_getElem (by rw [wordsOf, List.length_map, List.length_range, hcount]) fun i _ hi => ?_
  simp [wordsOf, leAt_bytesOf ws hi]

/-- Settles O43, by induction on the bytes. -/
theorem numbersAreLittleEndian : Obligations.NumbersAreLittleEndian :=
  ⟨fun n v => ⟨length_leBytes n v, ofLE_leBytes n v, fun _ hi => getD_leBytes n v hi⟩, leBytes_ofLE,
    fun xs ys n v => leAt_append xs ys n v,
    fun ws => ⟨wordsOf_bytesOf ws, length_bytesOf ws⟩⟩

/-! ## The reset state -/

theorem reset_heldOff : State.reset.dev.heldOff := by
  unfold Dev.heldOff
  decide +kernel

theorem reset_showsTruth : State.reset.dev.showsTruth := by
  unfold Dev.showsTruth
  decide +kernel

/-- Settles O41: the register file of State.reset lists nothing, so every register reads its reset value; the rest is
read off the state. -/
theorem resetState : Obligations.ResetState :=
  ⟨rfl, fun _ => rfl, rfl, rfl, by decide +kernel, rfl, rfl, rfl, rfl, rfl, rfl, reset_heldOff, reset_showsTruth⟩

/-! ## What raising an event changes -/

/-- The registers of the event flags, those of both CAN controllers among them. -/
def eventFlags : List Fld :=
  [F.FBX_EVT_EVT, F.FBX_KU_EVT_EVT, F.FBX_TC_EVT_EVT, F.ANG_EVT_EVT, F.GSV_EVT_EVT, F.SDM_EVT_EVT, F.SAR_EVT_EVT,
   F.MET_EVT_EVT, F.PQ_EVT_EVT, F.PWM_EVT_EVT, F.DMP_EVT_EVT, F.GDR_EVT_EVT, F.DRT_EVT_EVT, F.CPR_EVT_EVT, F.NET_EVT_EVT,
   F.FLU_EVT_EVT, F.CAN_EVT_EVT.ix 0, F.CAN_EVT_EVT.ix 1, F.HST_EVT_EVT, F.HRT_EVT_EVT, F.HRT_LC_EVT_EVT]

/-- The other registers that raising an event can change: the log's numbers and counts, Damper's trip counters. -/
def raiseCounts : List Fld :=
  [F.HRT_LOG_NEXT, F.HRT_STICKY_NEXT, F.HRT_LOG_SUPP_CNT, F.HRT_STICKY_DROP_CNT, F.HRT_EVT_DROP_CNT, F.DMP_LOCKOUT_CNT_CNT]
    ++ (List.range 8).map F.DMP_TRIP_CNT.ix

theorem raiseWords_eq : raiseWords = (eventFlags ++ raiseCounts).map Fld.addr := by decide

theorem eventFlags_fit : ∀ f ∈ eventFlags, f.lo ≤ f.hi ∧ f.hi < 32 := by decide

theorem eventFlags_addr_inj : ∀ f ∈ eventFlags, ∀ g ∈ eventFlags, g.addr = f.addr → g = f := by decide

theorem eventFlags_ne_raiseCounts : ∀ f ∈ raiseCounts, ∀ g ∈ eventFlags, g.addr ≠ f.addr := by decide

theorem evtFlag_mem {code ctl : Nat} (hctl : ctl < 2) {f : Fld} {b : Nat} (h : evtFlag code ctl = some (f, b)) : f ∈ eventFlags := by
  have hall : ∀ x ∈ evtFlag code ctl, x.1 ∈ eventFlags := by
    obtain rfl | rfl : ctl = 0 ∨ ctl = 1 := by omega
    all_goals
      unfold evtFlag
      dsimp only
      (repeat' split) <;> simp [eventFlags]
  exact hall _ h

/-- The flag of every event a block's table defines lies in its register. -/
theorem evtFlag_fits {code : Nat} (hdef : eventDefined code = true) {f : Fld} {b : Nat} (h : evtFlag code 0 = some (f, b)) :
    b < f.hi - f.lo + 1 := by
  have hall : ∀ r ∈ eventRanges, ∀ k < r.2 + 1 - r.1, (evtFlag (r.1 + k) 0).all fun x => decide (x.2 < x.1.hi - x.1.lo + 1) := by
    decide +kernel
  simp only [eventDefined, List.any_eq_true, decide_eq_true_eq] at hdef
  obtain ⟨r, hr, hlo, hhi⟩ := hdef
  have hk := hall r hr (code - r.1) (by omega)
  rw [Nat.add_sub_cancel' hlo, h] at hk
  simpa using hk

/-- From `d` to `e` nothing has changed but what raising events can change, and no event flag has been cleared. -/
structure OnlyRaised (d e : Dev) : Prop where
  parts : e = d.raisedFrom e
  words : ∀ a, a ∉ raiseWords → e.word a = d.word a
  flags : ∀ f ∈ eventFlags, ∀ b, d.bitIn f b = true → e.bitIn f b = true

namespace OnlyRaised

theorem refl (d : Dev) : OnlyRaised d d := ⟨rfl, fun _ _ => rfl, fun _ _ _ h => h⟩

theorem trans {d e g : Dev} (h : OnlyRaised d e) (k : OnlyRaised e g) : OnlyRaised d g where
  parts := by
    have hg := k.parts
    rw [h.parts] at hg
    exact hg
  words a ha := (k.words a ha).trans (h.words a ha)
  flags f hf b hb := k.flags f hf b (h.flags f hf b hb)

/-- A change of other parts than the registers. -/
theorem of_regs {d e : Dev} (hparts : e = d.raisedFrom e) (hregs : e.regs = d.regs) : OnlyRaised d e := by
  have hword : ∀ a, e.word a = d.word a := fun a => by rw [Dev.word, Dev.word, hregs]
  refine ⟨hparts, fun a _ => hword a, fun f _ b hb => ?_⟩
  rw [Dev.bitIn, Dev.get, hword]
  exact hb

theorem put_count (d : Dev) {f : Fld} (hf : f ∈ raiseCounts) (v : Nat) : OnlyRaised d (d.put f v) where
  parts := rfl
  words a ha := by
    refine Dev.word_put_other d f v fun e => ha ?_
    rw [e, raiseWords_eq]
    exact List.mem_map_of_mem (List.mem_append_right _ hf)
  flags g hg b hb := by
    rw [Dev.bitIn, Dev.get_put_other d f v (eventFlags_ne_raiseCounts f hf g hg)]
    exact hb

theorem bump (d : Dev) {f : Fld} (hf : f ∈ raiseCounts) (n : Nat) : OnlyRaised d (d.bump f n) := put_count d hf _

theorem setIn_flag (d : Dev) {f : Fld} (hf : f ∈ eventFlags) (i : Nat) : OnlyRaised d (d.setIn f i) where
  parts := rfl
  words a ha := by
    refine Dev.word_put_other d f _ fun e => ha ?_
    rw [e, raiseWords_eq]
    exact List.mem_map_of_mem (List.mem_append_left _ hf)
  flags g hg b hb := by
    by_cases ha : g.addr = f.addr
    · obtain rfl := eventFlags_addr_inj f hf g hg ha
      obtain ⟨hle, hhi⟩ := eventFlags_fit g hg
      have hwidth : b < g.hi - g.lo + 1 := by
        simp only [Dev.bitIn, Dev.get, testBit_wbits, Bool.and_eq_true, decide_eq_true_eq] at hb
        exact hb.1
      have hold : (d.get g).testBit b = true := hb
      rw [Dev.bitIn, Dev.setIn, Dev.get_put_same hle hhi, Fld.cut, Nat.testBit_mod_two_pow, testBit_setBit, hold]
      simp [hwidth]
    · rw [Dev.bitIn, Dev.setIn, Dev.get_put_other d f _ ha]
      exact hb

theorem foldl {α : Type} (f : Dev → α → Dev) (l : List α) (hf : ∀ x ∈ l, ∀ d, OnlyRaised d (f d x)) (d : Dev) :
    OnlyRaised d (l.foldl f d) := by
  induction l generalizing d with
  | nil => exact refl d
  | cons x l ih => exact (hf x (by simp) d).trans (ih (fun y hy => hf y (by simp [hy])) (f d x))

end OnlyRaised

/-! ### The log, the events ring and the recorders -/

theorem recorderSees_onlyRaised (d : Dev) (code : Nat) : OnlyRaised d (d.recorderSees code) := .of_regs rfl rfl

theorem noteAlarm_onlyRaised (d : Dev) (code : Nat) : OnlyRaised d (d.noteAlarm code) := by
  unfold Dev.noteAlarm
  split
  · exact .of_regs rfl rfl
  · exact .refl d

theorem logNormal_onlyRaised (d : Dev) (code : Nat) (items : List Nat) (t a : Nat) : OnlyRaised d (d.logNormal code items t a) :=
  .trans (e := { d with log := (d.logNormal code items t a).log }) (.of_regs rfl rfl) (.put_count _ (f := F.HRT_LOG_NEXT) (by decide) _)

theorem logSticky_onlyRaised (d : Dev) (code : Nat) (items : List Nat) (t a : Nat) : OnlyRaised d (d.logSticky code items t a) :=
  .trans (e := { d with log := (d.logSticky code items t a).log }) (.of_regs rfl rfl) (.put_count _ (f := F.HRT_STICKY_NEXT) (by decide) _)

theorem eventToRing_onlyRaised (d : Dev) (code : Nat) (items : List Nat) (cls : TripClass) (num : Nat) (unlogged : Bool) :
    OnlyRaised d (d.eventToRing code items cls num unlogged) := by
  unfold Dev.eventToRing
  split
  · split
    · exact .refl d
    · split
      · exact .of_regs rfl rfl
      · exact .bump d (by decide) 1
  · exact .refl d

/-! ### Damper's latches and holds -/

theorem addLatch_onlyRaised (d : Dev) (l : Latch) : OnlyRaised d (d.addLatch l) := by
  unfold Dev.addLatch
  split
  · exact .refl d
  · exact .of_regs rfl rfl

theorem contactorStart_onlyRaised (d : Dev) : OnlyRaised d d.contactorStart := by
  refine .foldl _ _ (fun g _ d => ?_) d
  dsimp only
  split
  · exact .of_regs rfl rfl
  · exact .refl d

theorem contactorDrop_onlyRaised (d : Dev) : OnlyRaised d d.contactorDrop := .of_regs rfl rfl

theorem contactorDue_onlyRaised (d : Dev) : OnlyRaised d d.contactorDue := .of_regs rfl rfl

theorem forceLeg_onlyRaised (d : Dev) (n : Nat) : OnlyRaised d (d.forceLeg n) := .of_regs rfl rfl

theorem holdUpdate_onlyRaised (d : Dev) : OnlyRaised d d.holdUpdate := by
  unfold Dev.holdUpdate
  extract_lets held forced legs
  have hforced : OnlyRaised d forced := .foldl Dev.forceLeg _ (fun n _ d => forceLeg_onlyRaised d n) d
  refine .trans ?_ (contactorDue_onlyRaised _)
  refine .trans ?_ (contactorStart_onlyRaised _)
  refine .trans ?_ (contactorDrop_onlyRaised _)
  exact .trans hforced (.of_regs rfl rfl)

theorem noteLatched_onlyRaised (d : Dev) (grps : Nat) : OnlyRaised d (d.noteLatched grps) := by
  unfold Dev.noteLatched
  split
  · exact .refl d
  · refine .trans (.foldl _ _ (fun g hg d => .bump d ?_ 1) d) (.of_regs rfl rfl)
    rw [mem_bitList] at hg
    exact List.mem_append_right _ (List.mem_map_of_mem (List.mem_range.mpr hg.1))

/-! ### Trips, and events that events cause -/

/-- A way to raise events that changes only what raising can change. -/
def RaisesOnly (raise : Nat → List Nat → Dev → Dev) : Prop := ∀ code items d, OnlyRaised d (raise code items d)

section Trips
variable {raise : Nat → List Nat → Dev → Dev} (hr : RaisesOnly raise)
include hr

theorem OnlyRaised.then_raise {d e : Dev} (h : OnlyRaised d e) (code : Nat) (items : List Nat) : OnlyRaised d (raise code items e) :=
  h.trans (hr code items e)

theorem tripA_onlyRaised (d : Dev) (src : TripSrc) (grps : Nat) : OnlyRaised d (d.tripA raise src grps) := by
  unfold Dev.tripA
  extract_lets fresh newA latched _ armed held counted raised
  have hlatched : OnlyRaised d latched := addLatch_onlyRaised d _
  split
  · exact hlatched
  · have harmed : OnlyRaised d armed := hlatched.trans (.of_regs rfl rfl)
    have hheld : OnlyRaised d held := harmed.trans ((noteLatched_onlyRaised armed fresh).trans (holdUpdate_onlyRaised _))
    have hcounted : OnlyRaised d counted := hheld.trans (.put_count held (by decide) _)
    have hraised : OnlyRaised d raised := .then_raise hr hcounted _ _
    split
    · refine .then_raise hr ?_ _ _
      exact hraised.trans (.of_regs rfl rfl)
    · exact hraised

theorem tripB_onlyRaised (d : Dev) (src : TripSrc) (grps : Nat) : OnlyRaised d (d.tripB raise src grps) := by
  unfold Dev.tripB
  extract_lets fresh esc newB _ window latched _ armed held
  have hlatched : OnlyRaised d latched := .trans (e := window) (.of_regs rfl rfl) (addLatch_onlyRaised window _)
  have harmed : OnlyRaised d armed := hlatched.trans (.of_regs rfl rfl)
  have hheld : OnlyRaised d held := by
    unfold held
    split
    · exact hlatched
    · exact harmed.trans ((noteLatched_onlyRaised armed newB).trans ((holdUpdate_onlyRaised _).trans (hr _ _ _)))
  split
  · exact hheld
  · exact hheld.trans ((hr _ _ _).trans (tripA_onlyRaised hr _ src esc))

theorem tripWith_onlyRaised (d : Dev) (src : TripSrc) (cls : TripClass) (grps : Nat) : OnlyRaised d (d.tripWith raise src cls grps) := by
  cases cls with
  | a => exact tripA_onlyRaised hr d src grps
  | b =>
    dsimp only [Dev.tripWith]
    split
    · exact tripA_onlyRaised hr d src grps
    · exact tripB_onlyRaised hr d src grps
  | c =>
    dsimp -zeta only [Dev.tripWith]
    extract_lets new held
    have hheld : OnlyRaised d held := (addLatch_onlyRaised d _).trans (holdUpdate_onlyRaised _)
    split
    · exact hheld
    · exact hheld.trans (hr _ _ _)
  | d => exact (addLatch_onlyRaised d _).trans (hr _ _ _)

theorem logEvent_onlyRaised (d : Dev) (code : Nat) (items : List Nat) (cls : TripClass) :
    OnlyRaised d (d.logEvent raise code items cls).1 := by
  unfold Dev.logEvent
  extract_lets num t a _ noted logged dropped _
  have hlogged : OnlyRaised d logged := .trans (e := noted) (.of_regs rfl rfl) (logNormal_onlyRaised noted code items t a)
  have hdropped : OnlyRaised d dropped := hlogged.trans (.bump logged (f := F.HRT_STICKY_DROP_CNT) (by decide) 1)
  split
  · exact .bump d (by decide) 1
  split
  · split
    · exact hlogged.trans (logSticky_onlyRaised logged code items t a)
    · dsimp only
      split
      · exact hdropped
      · refine .then_raise hr ?_ _ _
        exact hdropped.trans (.of_regs rfl rfl)
  · exact hlogged

end Trips

/-- The device with an event's flag set. -/
def Dev.flagged (d : Dev) (ctl code : Nat) : Dev :=
  match evtFlag code ctl with
  | some (f, b) => d.setIn f b
  | none => d

/-- What follows an event's flag: recorders, alarm, log, events ring and trip. -/
def Dev.react (n code : Nat) (items : List Nat) (d : Dev) : Dev :=
  let l := ((d.recorderSees code).noteAlarm code).logEvent (raiseN n 0) code items (d.resolve code).1
  let e := l.1.eventToRing code items (d.resolve code).1 l.2.1 l.2.2
  match (d.resolve code).1 with
  | .d => e
  | _ => e.tripWith (raiseN n 0) (.event code) (d.resolve code).1 (d.resolve code).2

theorem raiseN_succ (n ctl code : Nat) (items : List Nat) (d : Dev) :
    raiseN (n + 1) ctl code items d = (d.flagged ctl code).react n code items := rfl

theorem flagged_onlyRaised (d : Dev) {ctl : Nat} (hctl : ctl < 2) (code : Nat) : OnlyRaised d (d.flagged ctl code) := by
  unfold Dev.flagged
  split
  next f b h => exact .setIn_flag d (evtFlag_mem hctl h) b
  next => exact .refl d

theorem react_onlyRaised {n : Nat} (hr : RaisesOnly (raiseN n 0)) (code : Nat) (items : List Nat) (d : Dev) :
    OnlyRaised d (d.react n code items) := by
  unfold Dev.react
  extract_lets l e
  have he : OnlyRaised d e :=
    (recorderSees_onlyRaised d code).trans ((noteAlarm_onlyRaised _ code).trans
      ((logEvent_onlyRaised hr _ code items _).trans (eventToRing_onlyRaised l.1 code items _ _ _)))
  split
  · exact he
  · exact he.trans (tripWith_onlyRaised hr e _ _ _)

/-- Raising an event of either CAN controller, or of a block, changes only what raising can change: by induction on the
length of the chain of events that events cause. -/
theorem raiseN_onlyRaised (n : Nat) {ctl : Nat} (hctl : ctl < 2) : RaisesOnly (raiseN n ctl) := by
  induction n generalizing ctl with
  | zero => exact fun _ _ d => .refl d
  | succ n ih =>
    intro code items d
    rw [raiseN_succ]
    exact (flagged_onlyRaised d hctl code).trans (react_onlyRaised (ih (by decide)) code items _)

theorem flagged_bitIn (d : Dev) {code : Nat} (hdef : eventDefined code = true) {f : Fld} {b : Nat} (h : evtFlag code 0 = some (f, b)) :
    (d.flagged 0 code).bitIn f b = true := by
  obtain ⟨hle, hhi⟩ := eventFlags_fit f (evtFlag_mem (by decide) h)
  have hset : d.flagged 0 code = d.setIn f b := by rw [Dev.flagged, h]
  rw [hset, Dev.bitIn, Dev.setIn, Dev.get_put_same hle hhi, Fld.cut, Nat.testBit_mod_two_pow, testBit_setBit]
  simp [evtFlag_fits hdef h]

/-- The flag that raising sets stays set through all that the event causes. -/
theorem raise_bitIn (d : Dev) (code : Nat) (items : List Nat) (hdef : eventDefined code = true) {f : Fld} {b : Nat}
    (h : evtFlag code 0 = some (f, b)) : (d.raise code items).bitIn f b = true := by
  rw [Dev.raise, raiseN_succ]
  exact (react_onlyRaised (raiseN_onlyRaised 7 (by decide)) code items _).flags f (evtFlag_mem (by decide) h) b (flagged_bitIn d hdef h)

/-- Settles O59, by the frame of `raiseN`. -/
theorem raisingAnEventChangesOnly : Obligations.RaisingAnEventChangesOnly := by
  intro d code items
  have hraise : OnlyRaised d (d.raise code items) := raiseN_onlyRaised 8 (by decide) code items d
  refine ⟨hraise.parts, hraise.words, fun f b hdef h => raise_bitIn d code items hdef h, fun c hc => ?_⟩
  have hcan : OnlyRaised d (d.raiseCan c code items) := raiseN_onlyRaised 8 hc code items d
  exact ⟨hcan.parts, hcan.words⟩

/-! ## Refused writes -/

theorem drtStart_held {d : Dev} {c : Nat} (h : d.drtState c = 7) :
    (d.drtStart c).1 = d.chUp c fun x => { x with startMem := true, stopped := false } := by
  simp [Dev.drtStart, h]

/-- What a refused entry leaves differs in Draught's channels only (R343). -/
theorem refusedEntry_eq (d : Dev) (e : RegEntry) : d.refusedEntry e = { d with drt := (d.refusedEntry e).drt } := by
  dsimp only [Dev.refusedEntry]
  split
  next h =>
    obtain ⟨-, -, -, hstate⟩ := h
    rw [drtStart_held hstate]
    rfl
  next => rfl

/-- REG_WRITE that ends with another status than OK leaves everything but Draught's channels, and requests no warm reset. -/
theorem regWrite_refused {d : Dev} {operator : Bool} {es : List RegEntry} (h : (d.regWrite operator es).1 ≠ St.ok) :
    (d.regWrite operator es).2.2.1 = { d with drt := (d.regWrite operator es).2.2.1.drt } ∧ (d.regWrite operator es).2.2.2 = false := by
  unfold Dev.regWrite at h ⊢
  generalize writeEntries operator es 0 d false = r at h ⊢
  obtain ⟨st, i, d', warm⟩ := r
  dsimp only at h ⊢
  by_cases hst : st = 0
  · rw [if_pos hst] at h
    exact absurd hst h
  · rw [if_neg hst]
    refine ⟨?_, rfl⟩
    dsimp only
    split
    · split
      · exact refusedEntry_eq d _
      · rfl
    · rfl

/-- Every field then reads as before. -/
theorem regWrite_refused_get {d : Dev} {operator : Bool} {es : List RegEntry} (h : (d.regWrite operator es).1 ≠ St.ok) (f : Fld) :
    (d.regWrite operator es).2.2.1.get f = d.get f := by
  rw [(regWrite_refused h).1]
  rfl

theorem regStage_refused {d : Dev} {sid : Nat} {es : List RegEntry} (h : (d.regStage sid es).1 ≠ St.ok) :
    (d.regStage sid es).2.2 = d := by
  unfold Dev.regStage at h ⊢
  dsimp only at h ⊢
  generalize stageEntries _ es 0 d = r at h ⊢
  obtain ⟨st, i, d'⟩ := r
  dsimp only at h ⊢
  split
  next => rfl
  next hst =>
    rw [if_neg hst] at h
    split
    next => rfl
    next hbusy =>
      rw [if_neg hbusy] at h
      exact absurd (by simpa using hst) h

/-- Once Hearth takes commands, a register command of the address map is REG_WRITE of one entry and its answer. -/
theorem exec_registerWrite {addr : Nat} (mask value : Word) {s : State} (hup : s.dev.hearthUp = true) (haddr : addr < 0x1000000) :
    exec (.registerWrite addr mask value) s = .next (s.after (s.dev.writeOne ⟨addr, mask, value⟩)) := by
  show run (whenAwake fun d => d.writeRegister addr mask value) s = _
  rw [run_whenAwake (Dev.awake_of_hearthUp hup), Dev.writeRegister, if_pos haddr]

theorem writeOne_refused {d : Dev} (hup : d.hearthUp = true) {e : RegEntry} (h : (d.regWrite false [e]).1 ≠ St.ok) :
    d.writeOne e = (d.regWrite false [e]).2.2.1.say (d.regWrite false [e]).1 := by
  have hwarm := (regWrite_refused h).2
  rw [Dev.writeOne, hup]
  show (if (d.regWrite false [e]).2.2.2 = true then _ else _) = _
  rw [hwarm]
  rfl

/-- Settles O44, by the refusal of REG_WRITE and of REG_STAGE. -/
theorem refusedWriteChangesNoField : Obligations.RefusedWriteChangesNoField := by
  refine ⟨fun d operator es h => ?_, fun d sid es h => regStage_refused h, fun addr mask value s hup haddr h => ?_⟩
  · exact ⟨(regWrite_refused h).1, (regWrite_refused h).2, regWrite_refused_get h⟩
  · refine ⟨_, exec_registerWrite mask value hup haddr, ?_⟩
    rw [writeOne_refused hup h]
    refine ⟨rfl, ?_, fun f => regWrite_refused_get h f⟩
    show (s.dev.regWrite false [⟨addr, mask, value⟩]).2.2.1.stage = s.dev.stage
    rw [(regWrite_refused h).1]

/-! ## An entry of REG_WRITE -/

/-- The word an entry asks for: (old AND NOT MASK) OR (VALUE AND MASK), and the bits it changes against what the register reads. -/
def Dev.entryNew (d : Dev) (e : RegEntry) : Word := (d.liveWord e.addr &&& ~~~e.mask) ||| (e.value &&& e.mask)
def Dev.entryChanged (d : Dev) (e : RegEntry) : Nat := (d.liveWord e.addr ^^^ d.entryNew e).toNat

/-- An entry changes a bit that no REG_WRITE may, or that an OPERATOR may not. -/
def Dev.entryWrong (d : Dev) (operator : Bool) (e : RegEntry) (r : RegRow) : Bool :=
  (operator && !operatorMay e.addr) || (d.entryChanged e &&& (r.ro ||| r.st ||| r.oa)) != 0

/-- The bits written 1 that act. -/
def RegRow.acting (r : RegRow) (e : RegEntry) : Nat := (e.mask &&& e.value).toNat &&& r.act

/-- The bits an entry stores; the register with them stored, then its W1C bits written 1 cleared. -/
def RegRow.kept (r : RegRow) : Word := BitVec.ofNat 32 (andNot (r.rw ||| r.lc) r.act)
def Dev.entryStored (d : Dev) (e : RegEntry) (r : RegRow) : Word :=
  ((d.word e.addr &&& ~~~r.kept) ||| (d.entryNew e &&& r.kept)) &&& ~~~(BitVec.ofNat 32 r.w1c &&& e.mask &&& e.value)

/-- The word an accepted entry leaves before what it acts. -/
def Dev.entryWord (d : Dev) (e : RegEntry) (r : RegRow) (ix : List Nat) : Word :=
  if r.clr && e.mask != 0 then r.reset ix else d.entryStored e r

/-- What an accepted entry leaves before it acts: the word, and the configuration store where the register is of TEST and VENDOR. -/
def Dev.entryPut (d : Dev) (e : RegEntry) (r : RegRow) (ix : List Nat) : Dev :=
  if r.lc != 0 then (d.setWord e.addr (d.entryWord e r ix)).storeWrite else d.setWord e.addr (d.entryWord e r ix)

theorem writeEntry_unassigned {d : Dev} (operator : Bool) {e : RegEntry} (h : e.addr < 0x1000000 → rowAt e.addr = none) :
    d.writeEntry operator e = (St.badAddress, d, false) := by
  have hrow : (if e.addr < 0x1000000 then rowAt e.addr else none) = none := by
    split
    next ha => exact h ha
    next => rfl
  rw [Dev.writeEntry, hrow]

/-- R468 for an assigned address, check by check. -/
theorem writeEntry_assigned {d : Dev} (operator : Bool) {e : RegEntry} {r : RegRow} {ix : List Nat} (ha : e.addr < 0x1000000)
    (hrow : rowAt e.addr = some (r, ix)) :
    d.writeEntry operator e =
      if d.entryWrong operator e r = true then (St.notPermitted, d, false)
      else if ((d.entryChanged e &&& r.lc) != 0 && 1 < d.lc) = true then (St.lifecycle, d, false)
      else if badField e.addr (d.entryWord e r ix) (BitVec.ofNat 32 (r.acting e)) = true then (St.badValue, d, false)
      else if (d.stateRule e.addr (d.entryChanged e &&& (r.rw ||| r.lc)) (r.acting e) != 0) = true then
        (d.stateRule e.addr (d.entryChanged e &&& (r.rw ||| r.lc)) (r.acting e), d, false)
      else (0, (d.entryPut e r ix).regAct e.addr (r.acting e) (d.entryWord e r ix), e.addr == 0x0B0024 && (r.acting e).testBit 0) := by
  rw [Dev.writeEntry, if_pos ha, hrow]
  rfl

theorem writeEntry_wrong {d : Dev} {operator : Bool} {e : RegEntry} {r : RegRow} {ix : List Nat} (ha : e.addr < 0x1000000)
    (hrow : rowAt e.addr = some (r, ix)) (hwrong : d.entryWrong operator e r = true) :
    d.writeEntry operator e = (St.notPermitted, d, false) := by
  rw [writeEntry_assigned operator ha hrow, if_pos hwrong]

theorem writeEntry_lifecycle {d : Dev} {operator : Bool} {e : RegEntry} {r : RegRow} {ix : List Nat} (ha : e.addr < 0x1000000)
    (hrow : rowAt e.addr = some (r, ix)) (hwrong : d.entryWrong operator e r = false) (hlc : d.entryChanged e &&& r.lc ≠ 0)
    (hstate : 1 < d.lc) : d.writeEntry operator e = (St.lifecycle, d, false) := by
  rw [writeEntry_assigned operator ha hrow, if_neg (by simp [hwrong]), if_pos (by simp [hlc, hstate])]

/-- An entry that is refused leaves the device; one accepted stores its word and acts. -/
theorem writeEntry_cases (d : Dev) (operator : Bool) {e : RegEntry} {r : RegRow} {ix : List Nat} (ha : e.addr < 0x1000000)
    (hrow : rowAt e.addr = some (r, ix)) :
    ((d.writeEntry operator e).1 ≠ St.ok ∧ (d.writeEntry operator e).2 = (d, false)) ∨
    ((d.writeEntry operator e).1 = St.ok ∧
      (d.writeEntry operator e).2.1 = (d.entryPut e r ix).regAct e.addr (r.acting e) (d.entryWord e r ix)) := by
  rw [writeEntry_assigned operator ha hrow]
  split
  · exact .inl ⟨Nat.succ_ne_zero _, rfl⟩
  split
  · exact .inl ⟨Nat.succ_ne_zero _, rfl⟩
  split
  · exact .inl ⟨Nat.succ_ne_zero _, rfl⟩
  split
  next hst => exact .inl ⟨by simpa using hst, rfl⟩
  next => exact .inr ⟨rfl, rfl⟩

theorem entryWord_counter (d : Dev) {e : RegEntry} {r : RegRow} (ix : List Nat) (hclr : r.clr = true) (hmask : e.mask ≠ 0) :
    d.entryWord e r ix = r.reset ix := by
  rw [Dev.entryWord, hclr, Bool.true_and, if_pos (bne_iff_ne.mpr hmask)]

theorem entryWord_stored (d : Dev) {e : RegEntry} {r : RegRow} (ix : List Nat) (h : r.clr = false ∨ e.mask = 0) :
    d.entryWord e r ix = d.entryStored e r := by
  rw [Dev.entryWord]
  obtain h | h := h <;> simp [h]

/-! ### What a register reads against what the file holds -/

theorem rowIn_some {rs : List RegRow} {a : Nat} {r : RegRow} {ix : List Nat} (h : rowIn rs a = some (r, ix)) :
    r ∈ rs ∧ r.find a = some ix := by
  induction rs with
  | nil => simp [rowIn] at h
  | cons q rs ih =>
    rw [rowIn] at h
    split at h
    next jx hq =>
      simp only [Option.some.injEq, Prod.mk.injEq] at h
      obtain ⟨rfl, rfl⟩ := h
      exact ⟨List.mem_cons_self, hq⟩
    next =>
      obtain ⟨hr, hf⟩ := ih h
      exact ⟨List.mem_cons_of_mem _ hr, hf⟩

theorem RegRow.eq_base_of_find {r : RegRow} (hd : r.dims = []) {a : Nat} {ix : List Nat} (h : r.find a = some ix) : a = r.base := by
  rw [RegRow.find, hd] at h
  split at h
  next => simp at h
  next hlt =>
    rw [dimsIndex] at h
    split at h
    next => omega
    next => simp at h

/-- No register of the certificate window is written by REG_WRITE. -/
theorem window_readOnly {a : Nat} (hlo : 0x108000 ≤ a) (hhi : a < 0x110000) {r : RegRow} {ix : List Nat} (hrow : rowAt a = some (r, ix)) :
    r.rw ||| r.lc = 0 := by
  have hrows : ∀ q ∈ rows10, q.rw ||| q.lc = 0 ∨ (q.dims = [] ∧ q.base < 0x108000) := by decide
  have hblk : a / 65536 = 0x10 := by omega
  rw [rowAt, hblk] at hrow
  obtain ⟨hr, hfind⟩ := rowIn_some (rs := rows10) hrow
  obtain hro | ⟨hd, hbase⟩ := hrows r hr
  · exact hro
  · have := RegRow.eq_base_of_find hd hfind
    omega

/-- A register that REG_WRITE can write reads what the register file holds. -/
theorem liveWord_of_writable (d : Dev) {a : Nat} {r : RegRow} {ix : List Nat} (hrow : rowAt a = some (r, ix)) (hw : r.rw ||| r.lc ≠ 0) :
    d.liveWord a = d.word a := by
  have hns : (rowAt F.NET_TIME_NS_NS.addr).all fun x => decide (x.1.rw ||| x.1.lc = 0) := by decide
  have hflue : (rowAt F.FLU_TIME_LO.addr).all fun x => decide (x.1.rw ||| x.1.lc = 0) := by decide
  have h1 : a ≠ F.NET_TIME_NS_NS.addr := by
    rintro rfl
    rw [hrow] at hns
    exact hw (by simpa using hns)
  have h2 : a ≠ F.FLU_TIME_LO.addr := by
    rintro rfl
    rw [hrow] at hflue
    exact hw (by simpa using hflue)
  have h3 : ¬(0x108000 ≤ a ∧ a < 0x110000) := fun h => hw (window_readOnly h.1 h.2 hrow)
  rw [Dev.liveWord, if_neg h1, if_neg h2, if_neg h3]

/-! ### The word stored -/

theorem getLsbD_kept (r : RegRow) {i : Nat} (hi : i < 32) :
    r.kept.getLsbD i = ((r.rw.testBit i || r.lc.testBit i) && !r.act.testBit i) := by
  rw [RegRow.kept, BitVec.getLsbD_ofNat, testBit_andNot, Nat.testBit_or]
  simp [hi]

/-- The word stored, bit by bit. -/
theorem getLsbD_entryStored (d : Dev) {e : RegEntry} {r : RegRow} {ix : List Nat} (hrow : rowAt e.addr = some (r, ix)) {i : Nat}
    (hi : i < 32) :
    (d.entryStored e r).getLsbD i =
      if r.w1c.testBit i && e.mask.getLsbD i && e.value.getLsbD i then false
      else if (r.rw.testBit i || r.lc.testBit i) && !r.act.testBit i && e.mask.getLsbD i then e.value.getLsbD i
      else (d.word e.addr).getLsbD i := by
  have hlive : r.kept.getLsbD i = true → (d.liveWord e.addr).getLsbD i = (d.word e.addr).getLsbD i := by
    intro hk
    rw [liveWord_of_writable d hrow]
    intro h0
    rw [getLsbD_kept r hi, ← Nat.testBit_or, h0] at hk
    simp at hk
  rw [← getLsbD_kept r hi]
  simp only [Dev.entryStored, Dev.entryNew, BitVec.getLsbD_or, BitVec.getLsbD_and, BitVec.getLsbD_not, BitVec.getLsbD_ofNat, hi]
  split_ifs with hclear hstore
  · simp [hclear]
  · simp only [Bool.and_eq_true] at hstore
    obtain ⟨hk, hm⟩ := hstore
    simp only [hm, Bool.and_true, Bool.not_eq_true] at hclear
    simp [hk, hm, hclear]
  · cases hk : r.kept.getLsbD i
    · simp [hclear]
    · have hm : e.mask.getLsbD i = false := by simpa [hk] using hstore
      simp [hm, hlive hk]

/-! ### What an entry without an acting bit does beside -/

theorem regAct_regs_of_no_act (d : Dev) {a : Nat} (w : Word) (ha : a ∉ [0x0A007C, 0x0A00FC, 0x0B0020, F.NET_PTP_SET.addr]) :
    (d.regAct a 0 w).regs = d.regs := by
  simp only [List.mem_cons, List.not_mem_nil, or_false, not_or] at ha
  obtain ⟨h1, h2, h3, h4⟩ := ha
  simp only [Dev.regAct, Nat.zero_testBit, h1, h2, h3, h4, Bool.false_eq_true, if_false, or_false, Bool.or_false]
  (repeat' split) <;> rfl

theorem entryPut_word_same (d : Dev) (e : RegEntry) (r : RegRow) (ix : List Nat) :
    (d.entryPut e r ix).word e.addr = d.entryWord e r ix := by
  unfold Dev.entryPut
  split
  · exact Dev.word_setWord_same d _ _
  · exact Dev.word_setWord_same d _ _

theorem entryPut_word_other (d : Dev) (e : RegEntry) (r : RegRow) (ix : List Nat) {a : Nat} (ha : a ≠ e.addr) :
    (d.entryPut e r ix).word a = d.word a := by
  unfold Dev.entryPut
  split
  · exact Dev.word_setWord_other d ha _
  · exact Dev.word_setWord_other d ha _

/-- The registers after an accepted entry that sets no acting bit are those after its word is stored. -/
theorem writeEntry_accepted_word {d : Dev} {operator : Bool} {e : RegEntry} {r : RegRow} {ix : List Nat} (ha : e.addr < 0x1000000)
    (hrow : rowAt e.addr = some (r, ix)) (hok : (d.writeEntry operator e).1 = St.ok) (hact : r.acting e = 0)
    (hown : e.addr ∉ [0x0A007C, 0x0A00FC, 0x0B0020, F.NET_PTP_SET.addr]) (a : Nat) :
    (d.writeEntry operator e).2.1.word a = (d.entryPut e r ix).word a := by
  obtain ⟨hbad, -⟩ | ⟨-, hdev⟩ := writeEntry_cases d operator ha hrow
  · exact absurd hok hbad
  · rw [hdev, hact, Dev.word, Dev.word, regAct_regs_of_no_act _ _ hown]

/-- Settles O45: the checks of R468 in turn, then the word stored bit by bit. -/
theorem entryOfARegisterWrite : Obligations.EntryOfARegisterWrite := by
  intro d operator e
  refine ⟨writeEntry_unassigned operator, fun r ix ha hrow => ?_⟩
  refine ⟨fun hwrong => ?_, fun hwrong hlc hstate => ?_, fun hbad => ?_, fun hok hact hown => ?_⟩
  · exact writeEntry_wrong ha hrow hwrong
  · exact writeEntry_lifecycle ha hrow hwrong hlc hstate
  · obtain ⟨-, h⟩ | ⟨hok, -⟩ := writeEntry_cases d operator ha hrow
    · exact h
    · exact absurd hok hbad
  · have hword := writeEntry_accepted_word ha hrow hok hact hown
    refine ⟨fun hclr hmask => ?_, fun hkeep i hi => ?_, fun a hne => (hword a).trans (entryPut_word_other d e r ix hne)⟩
    · rw [hword, entryPut_word_same, entryWord_counter d ix hclr hmask]
    · rw [hword, entryPut_word_same, entryWord_stored d ix hkeep]
      exact getLsbD_entryStored d hrow hi

/-! ## The watchdog's KICK -/

/-- A kindled device whose host watchdog has run out: EN and the flag are 1, the count has ended (R365). -/
def watchdogExpired : State :=
  { dev := {
      regs := [(F.CPR_STATUS_HWDT.addr, 0xD20), (F.CPR_HWDT_EN.addr, 0xA0001)]
      cpr := { por := false, resetN := true, rows := 16382, hwdt := 10 } } }

/-- A KICK starts the count of that device again. -/
theorem kick_restarts_count : ∃ e, exec (.cprHwdtKick 0) watchdogExpired = .next e ∧ e.dev.cpr.hwdtOn = true :=
  ⟨_, rfl, by decide +kernel⟩

/-- Clearing its count and flag alone does not. -/
theorem clearing_leaves_count_ended :
    (watchdogExpired.after ((((watchdogExpired.dev.setWord 0x0B0020 (watchdogExpired.dev.word 0x0B0020)).put
      F.CPR_STATUS_HWDT 0).cprUp fun c => { c with hwdt := 0 }).say St.ok)).dev.cpr.hwdtOn = false := by
  decide +kernel

/-- Refutes O19: after the watchdog has run out with EN at 1, a KICK also starts the count again (R365), where the
statement has it change the count and the flag only. -/
theorem not_singleRegisterWritesComplete : ¬ Obligations.SingleRegisterWritesComplete := by
  intro h
  obtain ⟨-, -, -, -, -, -, -, hkick⟩ := h
  obtain ⟨hclear, -⟩ := hkick 0 watchdogExpired (by decide)
  obtain ⟨e, hexec, hon⟩ := kick_restarts_count
  obtain rfl := Host.Outcome.next.inj (hexec.symm.trans hclear)
  exact absurd hon (by rw [clearing_leaves_count_ended]; decide)

end Sys2Proof.Machine
end

section
/-! PROOFS. The obligations of 01_architecture.md: status fields show what the state is. -/
namespace Sys2Proof.Machine

/-! ## What a command leaves -/

/-- Every command of the table is an effect on the device, and what follows it at once. -/
theorem exec_after (c : Instr) (s : State) : ∃ d, exec c s = .next (s.after d) := by
  cases c <;> exact ⟨_, rfl⟩

/-- A property of the device that settling establishes holds after every command, and every step keeps it. -/
theorem settled_of_exec {P : Dev → Prop} (hP : ∀ d : Dev, P d.settle) {c : Instr} {s t : State} (h : exec c s = .next t) : P t.dev := by
  obtain ⟨d, hd⟩ := exec_after c s
  obtain rfl := Host.Outcome.next.inj (h.symm.trans hd)
  exact hP d

theorem settled_of_step {P : Dev → Prop} (hP : ∀ d : Dev, P d.settle) {s t : State} (hs : P s.dev) (h : step s = .next t) : P t.dev := by
  unfold step at h
  split at h
  · obtain rfl := Host.Outcome.next.inj h
    exact hs
  · exact settled_of_exec hP h

/-! ## Fields that share no bit -/

/-- A field lies in a word of 32 bits. -/
def Fld.fits (f : Fld) : Bool := decide (f.lo ≤ f.hi) && decide (f.hi < 32)

/-- Two fields have no bit of the register file in common. -/
def Fld.apart (f g : Fld) : Bool := f.addr != g.addr || decide (f.hi < g.lo) || decide (g.hi < f.lo)

theorem Dev.get_put_cut (d : Dev) {f : Fld} (hf : f.fits = true) (v : Nat) : (d.put f v).get f = f.cut v := by
  simp only [Fld.fits, Bool.and_eq_true, decide_eq_true_eq] at hf
  exact Dev.get_put_same hf.1 hf.2 d v

theorem Dev.get_put_apart (d : Dev) {f g : Fld} (hf : f.fits = true) (hg : g.fits = true) (h : g.apart f = true) (v : Nat) :
    (d.put f v).get g = d.get g := by
  simp only [Fld.fits, Bool.and_eq_true, decide_eq_true_eq] at hf hg
  simp only [Fld.apart, Bool.or_eq_true, bne_iff_ne, decide_eq_true_eq] at h
  by_cases ha : g.addr = f.addr
  · refine Dev.get_put_disjoint hf.1 hf.2 d v ha hg.1 ?_
    obtain (hne | hlt) | hlt := h
    · exact absurd ha hne
    · exact Or.inl hlt
    · exact Or.inr hlt
  · exact Dev.get_put_other d f v ha

/-! ## Status fields as views of the rest of the state -/

/-- A status field with the number that it is to show of a device. -/
abbrev View := Fld × (Dev → Nat)

/-- Each field of a list written in turn with what it is to show. -/
def Dev.display (d : Dev) (l : List View) : Dev := l.foldl (fun d x => d.put x.1 (x.2 d)) d

/-- Every field of a list shows what it is to show. -/
def Dev.shows (d : Dev) (l : List View) : Prop := ∀ x ∈ l, d.get x.1 = x.1.cut (x.2 d)

theorem Dev.display_cons (d : Dev) (x : View) (l : List View) : d.display (x :: l) = (d.put x.1 (x.2 d)).display l := rfl

theorem Dev.display_append (d : Dev) (l m : List View) : d.display (l ++ m) = (d.display l).display m := List.foldl_append

/-- The fields that the numbers shown are made of: modes and enables of the modulators, PTP validity, roles, high-side
sources, kindling's step, states of GSV and of Draught. -/
def shownReads : List Fld :=
  (List.range 6).map F.SDM_GRP_MODE.ix ++ (List.range 24).map F.SDM_CH_EN.ix
    ++ [F.SDM_STATUS_MOD_LOCK, F.NET_STATUS_PTP_VALID, F.PWM_SYNC_CFG_ROLE, F.FLU_STATUS_ROLE, F.GSV_STATUS_STATE, F.CPR_STATUS_STEP]
    ++ (List.range 2).map F.GDR_CFG_HS_SRC.ix ++ (List.range 2).map F.DRT_STAT_STATE.ix

/-- From `d` to `e` only registers that no number shown is made of have changed, and since when a bridge drives. -/
structure SameSources (d e : Dev) : Prop where
  parts : e = { d with regs := e.regs, gdr := { d.gdr with br := e.gdr.br } }
  bridges : ∀ b, ∃ t, e.bridge b = { d.bridge b with driveSince := t }
  reads : ∀ g ∈ shownReads, e.get g = d.get g

/-- A number that is made of those fields and of other parts than the registers. -/
def Steady (v : Dev → Nat) : Prop := ∀ d e, SameSources d e → v e = v d

theorem shownReads_fit : ∀ g ∈ shownReads, g.fits = true := by decide

namespace SameSources

theorem refl (d : Dev) : SameSources d d := ⟨rfl, fun _ => ⟨_, rfl⟩, fun _ _ => rfl⟩

theorem trans {d e g : Dev} (h : SameSources d e) (k : SameSources e g) : SameSources d g where
  parts := by
    have hg := k.parts
    rw [h.parts] at hg
    exact hg
  bridges b := by
    obtain ⟨_, ht⟩ := h.bridges b
    obtain ⟨u, hu⟩ := k.bridges b
    exact ⟨u, by rw [hu, ht]⟩
  reads g hg := (k.reads g hg).trans (h.reads g hg)

theorem put (d : Dev) {f : Fld} (hf : f.fits = true) (h : ∀ g ∈ shownReads, g.apart f = true) (v : Nat) : SameSources d (d.put f v) :=
  ⟨rfl, fun _ => ⟨_, rfl⟩, fun g hg => d.get_put_apart hf (shownReads_fit g hg) (h g hg) v⟩

section Parts
variable {d e : Dev} (h : SameSources d e)
include h

theorem dmp : e.dmp = d.dmp := by rw [h.parts]
theorem sdm : e.sdm = d.sdm := by rw [h.parts]
theorem pwm : e.pwm = d.pwm := by rw [h.parts]
theorem hrt : e.hrt = d.hrt := by rw [h.parts]
theorem sec : e.sec = d.sec := by rw [h.parts]
theorem cpr : e.cpr = d.cpr := by rw [h.parts]
theorem drt : e.drt = d.drt := by rw [h.parts]
theorem time : e.time = d.time := by rw [h.parts]
theorem linkHold : e.gdr.linkHold = d.gdr.linkHold := by rw [h.parts]
theorem vdrvLow : e.gdr.vdrvLow = d.gdr.vdrvLow := by rw [h.parts]
theorem bridge_eq (b : Nat) : e.bridge b = { d.bridge b with driveSince := (e.bridge b).driveSince } := by
  obtain ⟨t, ht⟩ := h.bridges b
  rw [ht]

end Parts
end SameSources

/-! ### Writing views -/

/-- The fields of a list of views, behind those they are made of, are pairwise apart. -/
structure Separate (l : List View) : Prop where
  fits : ∀ x ∈ l, x.1.fits = true
  apart : (shownReads ++ l.map Prod.fst).Pairwise fun f g => f.apart g = true
  steady : ∀ x ∈ l, Steady x.2

namespace Separate
variable {x : View} {l : List View}

theorem tail (h : Separate (x :: l)) : Separate l where
  fits y hy := h.fits y (List.mem_cons_of_mem x hy)
  apart := h.apart.sublist ((List.sublist_cons_self x.1 (l.map Prod.fst)).append_left shownReads)
  steady y hy := h.steady y (List.mem_cons_of_mem x hy)

theorem reads_apart (h : Separate l) (hx : x ∈ l) : ∀ g ∈ shownReads, g.apart x.1 = true := fun g hg =>
  (List.pairwise_append.mp h.apart).2.2 g hg x.1 (List.mem_map_of_mem hx)

theorem head_apart (h : Separate (x :: l)) : ∀ y ∈ l, x.1.apart y.1 = true := fun y hy =>
  (List.pairwise_cons.mp (List.pairwise_append.mp h.apart).2.1).1 y.1 (List.mem_map_of_mem hy)

end Separate

theorem Dev.get_display_apart {g : Fld} (hg : g.fits = true) {l : List View} (hfit : ∀ x ∈ l, x.1.fits = true)
    (h : ∀ x ∈ l, g.apart x.1 = true) (d : Dev) : (d.display l).get g = d.get g := by
  induction l generalizing d with
  | nil => rfl
  | cons x l ih =>
    rw [Dev.display_cons, ih (fun y hy => hfit y (List.mem_cons_of_mem x hy)) (fun y hy => h y (List.mem_cons_of_mem x hy))]
    exact d.get_put_apart (hfit x List.mem_cons_self) hg (h x List.mem_cons_self) _

theorem Dev.put_sources (d : Dev) {l : List View} (h : Separate l) {x : View} (hx : x ∈ l) (v : Nat) : SameSources d (d.put x.1 v) :=
  .put d (h.fits x hx) (h.reads_apart hx) v

theorem Dev.display_sources {l : List View} (h : Separate l) (d : Dev) : SameSources d (d.display l) := by
  induction l generalizing d with
  | nil => exact .refl d
  | cons x l ih => exact (d.put_sources h List.mem_cons_self _).trans (ih h.tail _)

/-- Views whose fields are apart all show the truth once they are written. -/
theorem Dev.display_shows {l : List View} (h : Separate l) (d : Dev) : (d.display l).shows l := by
  induction l generalizing d with
  | nil => exact fun _ hx => absurd hx List.not_mem_nil
  | cons x l ih =>
    intro y hy
    obtain rfl | hy := List.mem_cons.mp hy
    · have hkept : SameSources d (d.display (y :: l)) := d.display_sources h
      have hput : (d.put y.1 (y.2 d)).get y.1 = y.1.cut (y.2 d) := d.get_put_cut (h.fits y List.mem_cons_self) _
      rw [h.steady y List.mem_cons_self _ _ hkept, ← hput]
      exact Dev.get_display_apart (h.fits y List.mem_cons_self) h.tail.fits h.head_apart _
    · exact ih h.tail _ y hy

theorem Separate.sublist {l m : List View} (h : Separate m) (hl : l.Sublist m) : Separate l where
  fits x hx := h.fits x (hl.subset hx)
  apart := h.apart.sublist ((hl.map Prod.fst).append_left shownReads)
  steady x hx := h.steady x (hl.subset hx)

/-- Fields written in turn with given numbers. -/
def Dev.puts (d : Dev) (l : List (Fld × Nat)) : Dev := l.foldl (fun d x => d.put x.1 x.2) d

/-- It does not matter at which moment of the writing the numbers are taken. -/
theorem Dev.puts_eq_display {l : List View} (h : Separate l) {d e : Dev} (he : SameSources d e) :
    e.puts (l.map fun x => (x.1, x.2 d)) = e.display l := by
  induction l generalizing e with
  | nil => rfl
  | cons x l ih =>
    rw [Dev.display_cons, h.steady x List.mem_cons_self d e he]
    exact ih h.tail (he.trans (e.put_sources h List.mem_cons_self _))

/-! ### The views of the state -/

/-- Damper's views. -/
def dmpViews : List View :=
  [(F.DMP_STATUS_LATCH_A, fun d => d.dmp.latchA), (F.DMP_STATUS_HOLD_B, fun d => d.dmp.holdB), (F.DMP_STATUS_CYCLE, Dev.cycleGroups),
   (F.DMP_STATUS_LOCKOUT, fun d => bit d.dmp.lockout), (F.DMP_LEG_OFF_LEGS, fun d => d.dmp.held),
   (F.DMP_LEG_OFF_DRT, fun d => d.dmp.drtHeld), (F.DMP_CTL_STATE_OUT, fun d => d.dmp.ctlOut)]

/-- The views of the clocks. -/
def clockViews : List View := [(F.SDM_STATUS_CLK_OK, Dev.sdmClkOk), (F.ANG_STATUS_PTP_VALID, fun d => bit d.ptpOk)]

/-- The views of the synchronisation role and of a pending activation. -/
def roleViews : List View := [(F.PWM_STATUS_SYNC_ROLE, Dev.syncRole), (F.HRT_STATUS_ACT_PEND, fun d => bit d.hrt.act.isSome)]

/-- The views of a live activation and of the sessions. -/
def openViews : List View :=
  [(F.FBX_STATUS_LIVE_PEND, fun d => bit (d.hrt.act.any fun a => a.live && !a.pkg)),
   (F.HRT_SESS_OPEN, fun d => d.sec.sessions.length)]

/-- The state that GDR_STATUS shows (Table 13-6). -/
def Dev.bridgeState (d : Dev) (b : Nat) : Nat :=
  if (d.bridge b).latched then 2 else if (d.bridge b).wait.isSome then 1 else if d.bridgeHeld b then 3 else 0

/-- The views of a bridge. -/
def bridgeViews (b : Nat) : List View :=
  [(F.GDR_STATUS_STATE.ix b, fun d => d.bridgeState b), (F.GDR_STATUS_SRC.ix b, fun d => d.hsSource b),
   (F.GDR_STATUS_WARN.ix b, fun d => (d.bridge b).warn), (F.GDR_STATUS_UV.ix b, fun d => d.lockedOut b)]

/-- The views of a Draught channel. -/
def drtViews (c : Nat) : List View :=
  [(F.DRT_SPEED.ix c, fun d => d.drtSpeed c), (F.DRT_REF.ix c, fun d => narrow (d.ch c).ref), (F.DRT_DUTY.ix c, fun d => narrow (d.ch c).d)]

/-- HST_DEVSTAT in the pages. -/
def devstatViews : List View := (List.range 16).map fun m => (F.HST_DEVSTAT.ix m, Dev.devstatWord)

/-- The fields of `Dev.shown`: those beside kindling's step, which others are made of. -/
def shownViews : List View :=
  dmpViews ++ clockViews ++ roleViews ++ openViews ++ (bridgeViews 0 ++ drtViews 0) ++ (bridgeViews 1 ++ drtViews 1) ++ devstatViews

theorem mem_shown {d : Dev} {x : Fld × Nat} (h : x ∈ d.shown) :
    x = (F.CPR_STATUS_STEP, d.step) ∨ ∃ y ∈ shownViews, x = (y.1, y.2 d) := by
  have hone : d.shownOne = (dmpViews ++ clockViews ++ roleViews ++ openViews).map (fun y => (y.1, y.2 d)) ++ [(F.CPR_STATUS_STEP, d.step)] := rfl
  have hbridge : ∀ b, d.shownBridge b = (bridgeViews b ++ drtViews b).map fun y => (y.1, y.2 d) := fun _ => rfl
  have hdevstat : ((List.range 16).map fun m => (F.HST_DEVSTAT.ix m, d.devstatWord)) = devstatViews.map fun y => (y.1, y.2 d) := by
    rw [devstatViews, List.map_map]
    rfl
  rw [Dev.shown, hone, hbridge, hbridge, hdevstat] at h
  simp only [shownViews, List.mem_append, List.mem_map, List.mem_singleton] at h ⊢
  aesop

/-! ### What the views are made of -/

section Steady
variable {d e : Dev} (h : SameSources d e)
include h

theorem SameSources.flag_eq {g : Fld} (hg : g ∈ shownReads) : e.flag g = d.flag g := by rw [Dev.flag, Dev.flag, h.reads g hg]

theorem SameSources.grpMode {g : Nat} (hg : g < 6) : e.get (F.SDM_GRP_MODE.ix g) = d.get (F.SDM_GRP_MODE.ix g) :=
  h.reads _ (by simp only [shownReads, List.append_assoc]; exact List.mem_append_left _ (List.mem_map_of_mem (List.mem_range.mpr hg)))

theorem SameSources.schOn {n : Nat} (hn : n < 24) : e.schOn n = d.schOn n := by
  have hen : F.SDM_CH_EN.ix n ∈ shownReads := by
    simp only [shownReads, List.append_assoc]
    exact List.mem_append_right _ (List.mem_append_left _ (List.mem_map_of_mem (List.mem_range.mpr hn)))
  rw [Dev.schOn, Dev.schOn, Dev.schMode, Dev.schMode, h.flag_eq hen, h.grpMode (by omega)]

end Steady

theorem steady_const (n : Nat) : Steady fun _ => n := fun _ _ _ => rfl
theorem steady_dmp (v : Dmp → Nat) : Steady fun d => v d.dmp := fun _ _ h => congrArg v h.dmp
theorem steady_hrt (v : Hrt → Nat) : Steady fun d => v d.hrt := fun _ _ h => congrArg v h.hrt
theorem steady_sec (v : Sec → Nat) : Steady fun d => v d.sec := fun _ _ h => congrArg v h.sec
theorem steady_ch (c : Nat) (v : DrtCh → Nat) : Steady fun d => v (d.ch c) := fun _ _ h => congrArg (fun l => v (List.getD l c {})) h.drt
theorem steady_cycleGroups : Steady Dev.cycleGroups := fun d e h => by rw [Dev.cycleGroups, Dev.cycleGroups, h.dmp]

theorem steady_sdmClkOk : Steady Dev.sdmClkOk := by
  intro d e h
  refine List.foldl_ext _ _ 0 fun acc g hg => ?_
  have hlock : e.flag F.SDM_STATUS_MOD_LOCK = d.flag F.SDM_STATUS_MOD_LOCK := h.flag_eq (by decide)
  have hlost : ((List.range 4).any fun i => e.schOn (4 * g + i) && (e.sch (4 * g + i)).clk)
      = (List.range 4).any fun i => d.schOn (4 * g + i) && (d.sch (4 * g + i)).clk := by
    refine Bool.eq_iff_iff.mpr ?_
    simp only [List.any_eq_true, List.mem_range, Dev.sch, h.sdm]
    refine exists_congr fun i => and_congr_right fun hi => ?_
    rw [h.schOn (by have := List.mem_range.mp hg; omega)]
  simp only [h.grpMode (List.mem_range.mp hg), hlock, hlost]

theorem steady_ptpOk : Steady fun d => bit d.ptpOk := by
  intro d e h
  simp only [Dev.ptpOk, h.flag_eq (g := F.NET_STATUS_PTP_VALID) (by decide)]

theorem steady_syncRole : Steady Dev.syncRole := by
  intro d e h
  simp only [Dev.syncRole, h.pwm, h.reads F.PWM_SYNC_CFG_ROLE (by decide), h.reads F.FLU_STATUS_ROLE (by decide)]

theorem steady_devstatWord : Steady Dev.devstatWord := by
  intro d e h
  simp only [Dev.devstatWord, Dev.gsv, Dev.latched, Dev.ptpOk, h.dmp, h.time, h.flag_eq (g := F.NET_STATUS_PTP_VALID) (by decide),
    h.reads F.GSV_STATUS_STATE (by decide), h.reads F.CPR_STATUS_STEP (by decide), h.reads F.FLU_STATUS_ROLE (by decide)]

theorem steady_hsSource {b : Nat} (hb : b < 2) : Steady fun d => d.hsSource b := by
  intro d e h
  have hsrc : e.get (F.GDR_CFG_HS_SRC.ix b) = d.get (F.GDR_CFG_HS_SRC.ix b) := by
    refine h.reads _ ?_
    simp only [shownReads]
    exact List.mem_append_left _ (List.mem_append_right _ (List.mem_map_of_mem (List.mem_range.mpr hb)))
  have hkindled : e.kindled = d.kindled := by rw [Dev.kindled, Dev.kindled, h.reads F.CPR_STATUS_STEP (by decide)]
  show e.hsSource b = d.hsSource b
  rw [Dev.hsSource, Dev.hsSource, hsrc, hkindled]

theorem steady_warn (b : Nat) : Steady fun d => (d.bridge b).warn := by
  intro d e h
  show (e.bridge b).warn = _
  rw [h.bridge_eq b]

theorem steady_bridgeState (b : Nat) : Steady fun d => d.bridgeState b := by
  intro d e h
  have hlatched : (e.bridge b).latched = (d.bridge b).latched := by rw [h.bridge_eq b]
  have hwait : (e.bridge b).wait = (d.bridge b).wait := by rw [h.bridge_eq b]
  have hwire : (e.bridge b).wire = (d.bridge b).wire := by rw [h.bridge_eq b]
  have hheld : e.bridgeHeld b = d.bridgeHeld b := by
    rw [Dev.bridgeHeld, Dev.bridgeHeld]
    simp only [hlatched, hwait, hwire, h.linkHold, h.vdrvLow]
  simp only [Dev.bridgeState, hlatched, hwait, hheld]

theorem steady_lockedOut {b : Nat} (hb : b < 2) : Steady fun d => d.lockedOut b := by
  intro d e h
  have hext : (e.bridge b).extLow = (d.bridge b).extLow := by rw [h.bridge_eq b]
  have hlow : (e.bridge b).low = (d.bridge b).low := by rw [h.bridge_eq b]
  have hsrc : e.hsSource b = d.hsSource b := steady_hsSource hb d e h
  simp only [Dev.lockedOut, hext, hlow, hsrc]

theorem steady_drtSpeed {c : Nat} (hc : c < 2) : Steady fun d => d.drtSpeed c := by
  intro d e h
  have hch : e.ch c = d.ch c := by rw [Dev.ch, Dev.ch, h.drt]
  have hst : e.drtState c = d.drtState c := h.reads _ (List.mem_append_right _ (List.mem_map_of_mem (List.mem_range.mpr hc)))
  show e.drtSpeed c = d.drtSpeed c
  rw [Dev.drtSpeed, Dev.drtSpeed, hch, hst]

/-! ### The order in which settling writes them -/

/-- Damper's other views, of the feedback pins and of the source latches, by their numbers. -/
def pinViews (fb : Nat) (src : Nat → Nat) : List View :=
  (F.DMP_CTL_STATE_FB, fun _ => fb) :: (List.range 3).map fun w => (F.DMP_SRC_LATCH.ix w, fun _ => src w)

/-- SYNC_SUBST is cleared where the device does not regenerate. -/
def substViews (regenerates : Bool) : List View := if regenerates then [] else [(F.PWM_STATUS_SYNC_SUBST, fun _ => 0)]

/-- The views beside those of the bridges and of Draught, in the order they are written. -/
def lastViews (fb : Nat) (src : Nat → Nat) (regenerates : Bool) : List View :=
  dmpViews ++ pinViews fb src ++ clockViews ++ roleViews ++ substViews regenerates ++ openViews ++ devstatViews

/-- What settling writes last, in its order. -/
def settledViews (fb : Nat) (src : Nat → Nat) (regenerates : Bool) : List View :=
  bridgeViews 0 ++ bridgeViews 1 ++ drtViews 0 ++ drtViews 1 ++ lastViews fb src regenerates

section Lists
variable (fb : Nat) (src : Nat → Nat) (regenerates : Bool)

theorem settledViews_fields :
    (settledViews fb src regenerates).map Prod.fst = (settledViews 0 (fun _ => 0) regenerates).map Prod.fst := rfl

theorem settledViews_fit : ∀ x ∈ settledViews fb src regenerates, x.1.fits = true := by
  have hfields : ∀ f ∈ (settledViews 0 (fun _ => 0) regenerates).map Prod.fst, f.fits = true := by cases regenerates <;> decide
  rw [← settledViews_fields fb src] at hfields
  exact fun x hx => hfields x.1 (List.mem_map_of_mem hx)

theorem settledViews_apart : (shownReads ++ (settledViews fb src regenerates).map Prod.fst).Pairwise fun f g => f.apart g = true := by
  rw [settledViews_fields]
  cases regenerates <;> decide +kernel

theorem settledViews_steady : ∀ x ∈ settledViews fb src regenerates, Steady x.2 := by
  have hbridge : ∀ b, b < 2 → ∀ x ∈ bridgeViews b, Steady x.2 := fun b hb => by
    simpa [bridgeViews] using ⟨steady_bridgeState b, steady_hsSource hb, steady_warn b, steady_lockedOut hb⟩
  have hdrt : ∀ c, c < 2 → ∀ x ∈ drtViews c, Steady x.2 := fun c hc => by
    simpa [drtViews] using ⟨steady_drtSpeed hc, steady_ch c fun x => narrow x.ref, steady_ch c fun x => narrow x.d⟩
  have hdmp : ∀ x ∈ dmpViews, Steady x.2 := by
    simpa [dmpViews] using ⟨steady_dmp fun x => x.latchA, steady_dmp fun x => x.holdB, steady_cycleGroups,
      steady_dmp fun x => bit x.lockout, steady_dmp fun x => x.held, steady_dmp fun x => x.drtHeld, steady_dmp fun x => x.ctlOut⟩
  have hpin : ∀ x ∈ pinViews fb src, Steady x.2 := by
    simpa [pinViews] using ⟨steady_const fb, fun w _ => steady_const (src w)⟩
  have hclock : ∀ x ∈ clockViews, Steady x.2 := by simpa [clockViews] using ⟨steady_sdmClkOk, steady_ptpOk⟩
  have hrole : ∀ x ∈ roleViews, Steady x.2 := by simpa [roleViews] using ⟨steady_syncRole, steady_hrt fun x => bit x.act.isSome⟩
  have hsubst : ∀ x ∈ substViews regenerates, Steady x.2 := by
    cases regenerates
    · simpa [substViews] using steady_const 0
    · simp [substViews]
  have hopen : ∀ x ∈ openViews, Steady x.2 := by
    simpa [openViews] using ⟨steady_hrt fun x => bit (x.act.any fun a => a.live && !a.pkg), steady_sec fun x => x.sessions.length⟩
  have hdevstat : ∀ x ∈ devstatViews, Steady x.2 := by simpa [devstatViews] using fun _ _ => steady_devstatWord
  simp only [settledViews, lastViews, List.forall_mem_append]
  exact ⟨⟨⟨⟨hbridge 0 (by decide), hbridge 1 (by decide)⟩, hdrt 0 (by decide)⟩, hdrt 1 (by decide)⟩,
    ⟨⟨⟨⟨⟨hdmp, hpin⟩, hclock⟩, hrole⟩, hsubst⟩, hopen⟩, hdevstat⟩

theorem settledViews_separate : Separate (settledViews fb src regenerates) :=
  ⟨settledViews_fit fb src regenerates, settledViews_apart fb src regenerates, settledViews_steady fb src regenerates⟩

end Lists

/-! ### Settling ends with the views -/

/-- Since when a bridge drives, as the views of the gate drivers note it. -/
def Dev.driven (d : Dev) (b : Nat) : Dev :=
  d.bridgeUp b fun x => { x with
    driveSince := if d.bridgeState b = 0 then (match x.driveSince with | some t => some t | none => some d.now) else none }

theorem driven_sources (d : Dev) (b : Nat) : SameSources d (d.driven b) where
  parts := rfl
  bridges c := by
    by_cases hc : c = b
    · subst hc
      by_cases hlen : c < d.gdr.br.length
      · exact ⟨_, getD_upd_same d.gdr.br c _ {} hlen⟩
      · refine ⟨(d.bridge c).driveSince, ?_⟩
        have hout : d.gdr.br.length ≤ c := Nat.le_of_not_lt hlen
        simp [Dev.driven, Dev.bridgeUp, Dev.bridge, List.getD_eq_getElem?_getD, upd, hout]
    · exact ⟨(d.bridge c).driveSince, getD_upd_other d.gdr.br _ {} hc⟩
  reads _ _ := rfl

theorem display_driven {l : List View} (h : Separate l) (d : Dev) (b : Nat) : (d.display l).driven b = (d.driven b).display l := by
  induction l generalizing d with
  | nil => rfl
  | cons x l ih =>
    rw [Dev.display_cons, Dev.display_cons, ih h.tail, h.steady x List.mem_cons_self _ _ (driven_sources d b)]
    rfl

/-- Writing the views of a bridge notes since when it drives. -/
theorem bridgeRegs_eq {b : Nat} (h : Separate (bridgeViews b)) (d : Dev) : d.bridgeRegs b = (d.driven b).display (bridgeViews b) := by
  have hstate : (d.driven b).bridgeState b = d.bridgeState b := steady_bridgeState b _ _ (driven_sources d b)
  have hwarn : ((d.driven b).bridge b).warn = (d.bridge b).warn := steady_warn b _ _ (driven_sources d b)
  rw [← Dev.puts_eq_display h (.refl (d.driven b))]
  show (d.driven b).puts [(_, d.bridgeState b), (_, (d.driven b).hsSource b), (_, (d.bridge b).warn), (_, (d.driven b).lockedOut b)] = _
  rw [← hstate, ← hwarn]
  rfl

theorem drtRegs1_eq (c : Nat) (d : Dev) : d.drtRegs1 c = d.display (drtViews c) := rfl

theorem devstat_eq (h : Separate devstatViews) (d : Dev) : d.devstat = d.display devstatViews := by
  have hword : d.gsv + d.get F.CPR_STATUS_STEP * 256 + (if d.latched = 0 then 0 else 4096) + (if d.ptpOk then 8192 else 0)
      + d.get F.FLU_STATUS_ROLE * 16384 + d.time.tick % 65536 * 65536 = d.devstatWord := by
    have hlatched : (if d.latched = 0 then 0 else 4096) = 4096 * bit (d.latched != 0) := by by_cases hz : d.latched = 0 <;> simp [hz]
    have hptp : (if d.ptpOk then 8192 else 0) = 8192 * bit d.ptpOk := by cases d.ptpOk <;> rfl
    rw [hlatched, hptp, Dev.devstatWord]
    ring
  rw [← Dev.puts_eq_display h (.refl d), devstatViews, List.map_map, Dev.puts, List.foldl_map]
  simp only [Dev.devstat, Dev.forAll, hword]
  rfl

/-- What `Dev.dmpRegs` makes of the feedback pins and of the latches. -/
def Dev.pinLevels (d : Dev) : Nat := (List.range 8).foldl (fun m k => putBit m k (d.ctlFb k)) 0
def Dev.srcLatched (d : Dev) (w : Nat) : Nat :=
  (List.range 32).foldl (fun m i => if d.dmp.latches.any fun l => l.src == .hw (32 * w + i) then setBit m i else m) 0

theorem dmpRegs_clocks_eq (d : Dev) (h : Separate (dmpViews ++ pinViews d.pinLevels d.srcLatched ++ clockViews)) :
    (d.dmpRegs.put F.SDM_STATUS_CLK_OK d.sdmClkOk).putB F.ANG_STATUS_PTP_VALID d.ptpOk
      = d.display (dmpViews ++ pinViews d.pinLevels d.srcLatched ++ clockViews) := by
  rw [← Dev.puts_eq_display h (.refl d)]
  rfl

theorem subst_eq (d : Dev) : (if d.syncRole = 2 then d else d.put F.PWM_STATUS_SYNC_SUBST 0) = d.display (substViews (d.syncRole == 2)) := by
  by_cases hrole : d.syncRole = 2 <;> simp [hrole, substViews, Dev.display]

/-- The views that follow those of the clocks. -/
theorem views_after_clocks {d c : Dev} (hc : (d.dmpRegs.put F.SDM_STATUS_CLK_OK d.sdmClkOk).putB F.ANG_STATUS_PTP_VALID d.ptpOk = c)
    {regenerates : Bool} (hr : ((c.display roleViews).syncRole == 2) = regenerates) (hsep : Separate devstatViews) :
    d.views = c.display (roleViews ++ (substViews regenerates ++ (openViews ++ devstatViews))) := by
  rw [Dev.display_append, Dev.display_append, Dev.display_append, ← hr, ← subst_eq, ← devstat_eq hsep, Dev.views, hc]
  generalize hroles : c.display roleViews = roles
  have hviews : (c.put F.PWM_STATUS_SYNC_ROLE c.syncRole).putB F.HRT_STATUS_ACT_PEND c.hrt.act.isSome = roles := hroles
  rw [hviews]
  generalize (if roles.syncRole = 2 then roles else roles.put F.PWM_STATUS_SYNC_SUBST 0) = e
  cases hact : e.hrt.act <;> simp [Dev.display, openViews, Dev.putB, bit, hact]

/-- The views of Damper, of clocks and roles, and of sessions are the last that settling writes. -/
theorem views_eq (hsep : ∀ fb src r, Separate (lastViews fb src r)) (d : Dev) :
    ∃ fb src regenerates, d.views = d.display (lastViews fb src regenerates) := by
  have h := hsep d.pinLevels d.srcLatched
  refine ⟨d.pinLevels, d.srcLatched, ((d.display (dmpViews ++ pinViews d.pinLevels d.srcLatched ++ clockViews)).display roleViews).syncRole == 2, ?_⟩
  rw [views_after_clocks (dmpRegs_clocks_eq d ((h true).sublist (by simp [lastViews]))) rfl
    ((h true).sublist (List.sublist_append_right _ devstatViews)), ← Dev.display_append, lastViews]
  simp only [List.append_assoc]

/-- Once settling has counted kindling's rows, the rest writes the views, and notes since when the bridges drive. -/
theorem settle_eq (d : Dev) : ∃ (e : Dev) (fb : Nat) (src : Nat → Nat) (regenerates : Bool),
    e.get F.CPR_STATUS_STEP = F.CPR_STATUS_STEP.cut e.step ∧ d.settle = e.display (settledViews fb src regenerates) := by
  have hsep := settledViews_separate
  let k := ((whenAwake (fun d => d.lockouts.netDrains.flueDrains) d.gridSync).drtHolds.holdUpdate.ctlUpdate.ctlFeedback.flueBase).kindleRows
  let x := k.put F.CPR_STATUS_STEP k.step
  let e := (x.driven 0).driven 1
  obtain ⟨fb, src, r, hviews⟩ := views_eq (fun fb src r => (hsep fb src r).sublist (List.sublist_append_right _ _)) x.gdrRegs.drtRegs
  have h := hsep fb src r
  refine ⟨e, fb, src, r, k.get_put_cut (by decide) k.step, ?_⟩
  have h0 : Separate (bridgeViews 0) := h.sublist (by simp [settledViews])
  have h1 : Separate (bridgeViews 1) := h.sublist (by simp [settledViews])
  calc d.settle = x.gdrRegs.drtRegs.views := rfl
    _ = x.gdrRegs.drtRegs.display (lastViews fb src r) := hviews
    _ = e.display (settledViews fb src r) := by
      rw [Dev.gdrRegs, bridgeRegs_eq h0, bridgeRegs_eq h1, display_driven h0, Dev.drtRegs, drtRegs1_eq, drtRegs1_eq, settledViews]
      simp only [Dev.display_append, e]

theorem shownViews_subset (fb : Nat) (src : Nat → Nat) (regenerates : Bool) : shownViews ⊆ settledViews fb src regenerates := by
  intro x hx
  simp only [shownViews, settledViews, lastViews, List.mem_append] at hx ⊢
  tauto

/-- Settling leaves every status field showing what the state is. -/
theorem settle_showsTruth (d : Dev) : d.settle.showsTruth := by
  obtain ⟨e, fb, src, r, hstep, hsettle⟩ := settle_eq d
  have hsep := settledViews_separate fb src r
  have hsources : SameSources e d.settle := hsettle ▸ e.display_sources hsep
  have hshows : d.settle.shows (settledViews fb src r) := hsettle ▸ e.display_shows hsep
  intro x hx
  obtain rfl | ⟨y, hy, rfl⟩ := mem_shown hx
  · have hstepEq : d.settle.step = e.step := by rw [Dev.step, Dev.step, hsources.cpr]
    rw [hsources.reads F.CPR_STATUS_STEP (by decide), hstep, hstepEq]
  · exact hshows y (shownViews_subset fb src r hy)

/-- Settles O51: settling ends by writing every shown field, and no field that a shown number is made of after it. -/
theorem shownStatusIsTrue : Obligations.ShownStatusIsTrue :=
  ⟨fun _ _ _ h => settled_of_exec settle_showsTruth h, fun _ _ hs h => settled_of_step settle_showsTruth hs h⟩

end Sys2Proof.Machine
end

section
/-! PROOFS. The obligations of 01_architecture.md: the staged set, its owner and its adoption. -/
namespace Sys2Proof.Machine

/-! ## Staging and the staged set's owner -/

/-- A change of the staged set alone. -/
def Dev.OnlyStaged (d e : Dev) : Prop := e = { d with stage := e.stage }

theorem Dev.OnlyStaged.trans {d e g : Dev} (h : d.OnlyStaged e) (k : e.OnlyStaged g) : d.OnlyStaged g := by
  unfold Dev.OnlyStaged at h k ⊢
  rw [h] at k
  exact k

theorem stageEntry_onlyStaged (d : Dev) (busy : Bool) (e : RegEntry) : d.OnlyStaged (d.stageEntry busy e).2 := by
  unfold Dev.stageEntry
  split
  · rfl
  · dsimp only
    split_ifs <;> rfl

theorem stageEntries_onlyStaged (busy : Bool) (es : List RegEntry) (i : Nat) (d : Dev) : d.OnlyStaged (stageEntries busy es i d).2.2 := by
  induction es generalizing i d with
  | nil => rfl
  | cons e es ih =>
    have hentry : d.OnlyStaged (d.stageEntry busy e).2 := stageEntry_onlyStaged d busy e
    unfold stageEntries
    generalize d.stageEntry busy e = r at hentry ⊢
    dsimp only
    split
    · exact hentry.trans (ih (i + 1) r.2)
    · rfl

/-- REG_STAGE that completes with OK gives its session the set and changes nothing else. -/
theorem regStage_ok {d : Dev} {sid : Nat} {es : List RegEntry} (h : (d.regStage sid es).1 = St.ok) :
    (d.regStage sid es).2.2.stage.owner = some sid ∧ d.OnlyStaged (d.regStage sid es).2.2 := by
  have hentries := stageEntries_onlyStaged (d.stageHeld sid || d.stage.pending.isSome) es 0 d
  unfold Dev.regStage at h ⊢
  dsimp only at h ⊢
  generalize stageEntries _ es 0 d = r at h hentries ⊢
  by_cases hst : r.1 = 0
  · by_cases hbusy : (d.stageHeld sid || d.stage.pending.isSome) = true
    · simp [hst, hbusy] at h
    · simp only [hst, hbusy]
      exact ⟨rfl, hentries.trans rfl⟩
  · simp [hst] at h

theorem regStage_busy {d : Dev} {sid : Nat} (h : d.stageHeld sid = true) (es : List RegEntry) : (d.regStage sid es).1 ≠ St.ok := by
  unfold Dev.regStage
  dsimp only
  generalize stageEntries _ es 0 d = r
  by_cases hst : r.1 = 0 <;> simp [hst, h]

theorem stageHeld_other {d : Dev} {sid o : Nat} (howner : d.stage.owner = some o) (ho : o ≠ sid) : d.stageHeld sid = true := by
  simp [Dev.stageHeld, howner, ho]

theorem stageHeld_own {d : Dev} {sid : Nat} (h : d.stage.owner = some sid) : d.stageHeld sid = false := by simp [Dev.stageHeld, h]

theorem stageHeld_free {d : Dev} (sid : Nat) (h : d.stage.owner = none) : d.stageHeld sid = false := by simp [Dev.stageHeld, h]

theorem commit_busy {d : Dev} {sid : Nat} (h : d.stageHeld sid = true) (angle : Option Nat) : d.commit sid angle = (St.busy, [], d) := by
  simp [Dev.commit, h]

theorem discardStage_busy {d : Dev} {sid : Nat} (h : d.stageHeld sid = true) : d.discardStage sid = (St.busy, d) := by
  simp [Dev.discardStage, h]

theorem discardStage_own {d : Dev} {sid : Nat} (h : d.stage.owner = some sid) : d.discardStage sid = (St.ok, d.stageEmpty) := by
  simp [Dev.discardStage, stageHeld_own h, h]

theorem discardStage_adopted {d : Dev} {sid k : Nat} (howner : d.stage.owner = none) (hadopted : d.stage.adopted = some (sid, k))
    (hframe : d.get F.ANG_FCNT = k) : d.discardStage sid = (St.state, d) := by
  have hnow : d.adoptedNow sid = true := by simp [Dev.adoptedNow, hadopted, hframe]
  simp [Dev.discardStage, stageHeld_free sid howner, howner, hnow]

/-- Closing a session empties the set that it owns and leaves another's. -/
theorem closeSession_stage (d : Dev) (sid : Nat) :
    (d.closeSession sid).stage = if d.stage.owner = some sid then d.stageEmpty.stage else d.stage := by
  by_cases h : d.stage.owner = some sid
  · simp [Dev.closeSession, h, Dev.stageEmpty]
  · simp [Dev.closeSession, h]

/-- Settles O46, by what each command answers for the owner and for another session. -/
theorem stagedSetHasOneOwner : Obligations.StagedSetHasOneOwner := by
  intro d sid
  refine ⟨fun es h => regStage_ok h, fun o howner ho => ?_, fun howner => ?_, fun k howner hadopted hframe => ?_⟩
  · have hheld : d.stageHeld sid = true := stageHeld_other howner ho
    refine ⟨commit_busy hheld, discardStage_busy hheld, fun es => ?_, ?_⟩
    · exact ⟨regStage_busy hheld es, regStage_refused (regStage_busy hheld es)⟩
    · rw [closeSession_stage, if_neg (by rw [howner]; simpa using ho)]
  · refine ⟨discardStage_own howner, ?_⟩
    rw [closeSession_stage, if_pos howner]
    rfl
  · exact discardStage_adopted howner hadopted hframe

end Sys2Proof.Machine
end

section
/-! PROOFS. The obligations of 01_architecture.md: adoption of the staged set. -/
namespace Sys2Proof.Machine

/-! ## Adoption of the staged set -/

/-! ### What leaves the staged set -/

theorem raise_onlyRaised (d : Dev) (code : Nat) (items : List Nat) : OnlyRaised d (d.raise code items) :=
  raiseN_onlyRaised 8 (by decide) code items d

@[simp] theorem Dev.raise_stage (d : Dev) (code : Nat) (items : List Nat) : (d.raise code items).stage = d.stage := by
  rw [(raise_onlyRaised d code items).parts]
  rfl

@[simp] theorem Dev.trip_stage (d : Dev) (src : TripSrc) (cls : TripClass) (grps : Nat) : (d.trip src cls grps).stage = d.stage := by
  rw [Dev.trip, (tripWith_onlyRaised (raiseN_onlyRaised 8 (by decide)) d src cls grps).parts]
  rfl

/-- A part of the device that one change of a row keeps, the whole row keeps. -/
theorem Dev.forAll_keeps {α β : Type} (part : Dev → β) {f : Dev → α → Dev} (hf : ∀ d x, part (f d x) = part d) (d : Dev) (l : List α) :
    part (d.forAll l f) = part d := by
  induction l generalizing d with
  | nil => rfl
  | cons x l ih => exact (ih (f d x)).trans (hf d x)

theorem Dev.forAll_stage {α : Type} {f : Dev → α → Dev} (hf : ∀ d x, (f d x).stage = d.stage) (d : Dev) (l : List α) :
    (d.forAll l f).stage = d.stage := Dev.forAll_keeps Dev.stage hf d l

@[simp] theorem Dev.schUp_stage (d : Dev) (n : Nat) (f : SdmCh → SdmCh) : (d.schUp n f).stage = d.stage := rfl
@[simp] theorem Dev.ringUp_stage (d : Dev) (r : Nat) (f : Ring → Ring) : (d.ringUp r f).stage = d.stage := rfl
@[simp] theorem Dev.clkOutputs_stage (d : Dev) : d.clkOutputs.stage = d.stage := rfl
@[simp] theorem Dev.respace_stage (d old : Dev) : (d.respace old).stage = d.stage := rfl
@[simp] theorem Dev.schShow_stage (d : Dev) (n : Nat) : (d.schShow n).stage = d.stage := rfl
@[simp] theorem Dev.sourceDeassert_stage (d : Dev) (i : Nat) : (d.sourceDeassert i).stage = d.stage := rfl
@[simp] theorem Dev.ringRestart_stage (d : Dev) (r st : Nat) : (d.ringRestart r st).stage = d.stage := rfl
@[simp] theorem Dev.sscAdopt_stage (d : Dev) : d.sscAdopt.stage = d.stage := rfl
@[simp] theorem Dev.storeWrite_stage (d : Dev) : d.storeWrite.stage = d.stage := rfl

@[simp] theorem Dev.sourceAssert_stage (d : Dev) (i : Nat) : (d.sourceAssert i).stage = d.stage := by
  simp [Dev.sourceAssert, apply_ite Dev.stage]

@[simp] theorem Dev.f3Eval_stage (d : Dev) (n : Nat) : (d.f3Eval n).stage = d.stage := by
  simp [Dev.f3Eval, Dev.sourceLevel, apply_ite Dev.stage]

@[simp] theorem Dev.f3Take_stage (d : Dev) (n : Nat) : (d.f3Take n).stage = d.stage := by
  simp [Dev.f3Take, apply_ite Dev.stage]

@[simp] theorem Dev.f3Adopt_stage (d : Dev) : d.f3Adopt.stage = d.stage := by
  simp [Dev.f3Adopt, apply_ite Dev.stage, Dev.forAll_stage Dev.f3Take_stage]

@[simp] theorem Dev.schDetect_stage (d : Dev) (n code : Nat) (f : Fld) : (d.schDetect n code f).stage = d.stage := by
  simp [Dev.schDetect]

@[simp] theorem Dev.sdmClockLoss_stage (d : Dev) (n : Nat) : (d.sdmClockLoss n).stage = d.stage :=
  Dev.forAll_stage (fun _ _ => by simp) _ _

@[simp] theorem Dev.schRefill_stage (old d : Dev) (n : Nat) : (Dev.schRefill old d n).stage = d.stage := by
  simp [Dev.schRefill, apply_ite Dev.stage]

@[simp] theorem Dev.sdmRefill_stage (old d : Dev) : (Dev.sdmRefill old d).stage = d.stage := by
  unfold Dev.sdmRefill
  extract_lets channels refilled moved _ due
  have hrefilled : refilled.stage = d.stage := Dev.forAll_stage (fun e n => by simp [apply_ite Dev.stage]) channels _
  have hmoved : moved.stage = d.stage := by
    unfold moved
    split
    · exact hrefilled
    · exact (Dev.forAll_stage (fun e n => Dev.schUp_stage e n _) refilled _).trans hrefilled
  have hdue : due.stage = d.stage := hmoved
  simp [apply_ite Dev.stage, hdue]

@[simp] theorem Dev.rephase_stage (d : Dev) : d.rephase.stage = d.stage := by
  simp [Dev.rephase, apply_ite Dev.stage]

@[simp] theorem Dev.hstAdopt_stage (d old : Dev) : (d.hstAdopt old).stage = d.stage := by
  refine Dev.forAll_stage (fun e r => ?_) d _
  dsimp only
  split
  · simp [apply_ite Dev.stage]
  · simp [apply_ite Dev.stage]
  · rfl

@[simp] theorem Dev.canApply_stage (d : Dev) (c : Nat) : (d.canApply c).stage = d.stage := by
  simp [Dev.canApply, apply_ite Dev.stage]

@[simp] theorem Dev.canAdopt_stage (d was : Dev) : (d.canAdopt was).stage = d.stage :=
  Dev.forAll_stage (fun e c => by simp [apply_ite Dev.stage]) d _

@[simp] theorem Dev.hwdtAdopt_stage (d old : Dev) : (d.hwdtAdopt old).stage = d.stage := by
  simp [Dev.hwdtAdopt, apply_ite Dev.stage]

@[simp] theorem Dev.wordsTo_stage (d : Dev) (b t : Nat) : (d.wordsTo b t).stage = d.stage := by
  simp [Dev.wordsTo, apply_ite Dev.stage]

@[simp] theorem Dev.drtTake_stage (d : Dev) (c : Nat) : (d.drtTake c).stage = d.stage := by
  simp [Dev.drtTake]

@[simp] theorem Dev.drtEnter_stage (d : Dev) (c s : Nat) : (d.drtEnter c s).stage = d.stage := by simp [Dev.drtEnter]
@[simp] theorem Dev.drtIdle_stage (d : Dev) (c : Nat) : (d.drtIdle c).stage = d.stage := by simp [Dev.drtIdle]
@[simp] theorem Dev.drtStartObserve_stage (d : Dev) (c : Nat) : (d.drtStartObserve c).stage = d.stage := by simp [Dev.drtStartObserve]

@[simp] theorem Dev.drtJudge_stage (d : Dev) (c : Nat) : (d.drtJudge c).stage = d.stage := by
  simp [Dev.drtJudge, apply_ite Dev.stage]

@[simp] theorem Dev.drtGiven_stage (d : Dev) (c : Nat) (w : Word) : (d.drtGiven c w).stage = d.stage := by
  simp [Dev.drtGiven, apply_ite Dev.stage]

@[simp] theorem Dev.drtStaged_stage (d : Dev) (c : Nat) : (d.drtStaged c).stage = d.stage := by
  simp [Dev.drtStaged, apply_ite Dev.stage]

/-- What the blocks do with adopted fields leaves the staged set. -/
@[simp] theorem Dev.stageHooks_stage (d old : Dev) : (d.stageHooks old).stage = d.stage := by
  simp [Dev.stageHooks]

/-! ### COMMIT -/

theorem commit_refused {d : Dev} {sid : Nat} {angle : Option Nat} (h : (d.commit sid angle).1 ≠ St.ok) : (d.commit sid angle).2.2 = d := by
  unfold Dev.commit at h ⊢
  split_ifs at h ⊢
  · rfl
  · rfl
  · split at h
    · rfl
    · exact absurd rfl h

/-- A COMMIT that completes with OK has passed every check, and fixes the frame. -/
theorem commit_ok {d : Dev} {sid : Nat} {angle : Option Nat} (h : (d.commit sid angle).1 = St.ok) :
    (d.commit sid angle).2.2 = d.stageUp fun s => { s with owner := some (s.owner.getD sid), pending := some (d.adoptionFrame angle) } := by
  unfold Dev.commit at h ⊢
  split_ifs at h ⊢
  split at h
  · exact absurd h (by simp)
  · rfl

/-! ### The set in effect -/

/-- One staged register in effect. -/
def Dev.putStaged (d : Dev) (x : Nat × Word × Word) : Dev := d.setWord x.1 ((d.word x.1 &&& ~~~x.2.2) ||| (x.2.1 &&& x.2.2))

theorem withStaged_eq (d : Dev) : d.withStaged = d.stage.regs.foldl Dev.putStaged d := rfl

theorem foldl_putStaged_parts (l : List (Nat × Word × Word)) (d : Dev) :
    l.foldl Dev.putStaged d = { d with regs := (l.foldl Dev.putStaged d).regs } := by
  induction l generalizing d with
  | nil => rfl
  | cons x l ih =>
    rw [List.foldl_cons, ih]
    rfl

theorem foldl_putStaged_other {l : List (Nat × Word × Word)} {a : Nat} (h : ∀ x ∈ l, x.1 ≠ a) (d : Dev) :
    (l.foldl Dev.putStaged d).word a = d.word a := by
  induction l generalizing d with
  | nil => rfl
  | cons x l ih =>
    rw [List.foldl_cons, ih fun y hy => h y (List.mem_cons_of_mem x hy)]
    exact d.word_setWord_other (h x List.mem_cons_self).symm _

theorem foldl_putStaged_same {l : List (Nat × Word × Word)} (hnodup : (l.map Prod.fst).Nodup) {a : Nat} {v m : Word}
    (h : (a, v, m) ∈ l) (d : Dev) : (l.foldl Dev.putStaged d).word a = (d.word a &&& ~~~m) ||| (v &&& m) := by
  induction l generalizing d with
  | nil => exact absurd h List.not_mem_nil
  | cons x l ih =>
    obtain ⟨hx, hl⟩ := List.nodup_cons.mp hnodup
    rw [List.foldl_cons]
    obtain rfl | h := List.mem_cons.mp h
    · rw [foldl_putStaged_other fun y hy e => hx (List.mem_map.mpr ⟨y, hy, e⟩)]
      exact d.word_setWord_same _ _
    · have hne : a ≠ x.1 := fun e => hx (List.mem_map.mpr ⟨_, h, e⟩)
      rw [ih hl h, Dev.putStaged, d.word_setWord_other hne]

/-! ### The adoption frame -/

theorem stageAdopt_none {d : Dev} (h : d.stage.pending = none) : d.stageAdopt = d := by rw [Dev.stageAdopt, h]

theorem stageAdopt_other {d : Dev} {k c : Nat} (h : d.stage.pending = some (k, c)) (hk : (d.get F.ANG_FCNT + 1) % 2 ^ 32 ≠ k) :
    d.stageAdopt = d := by
  rw [Dev.stageAdopt, h]
  exact if_pos (bne_iff_ne.mpr hk)

/-- The staged registers, coefficients and LUT words in effect. -/
def Dev.setInEffect (d : Dev) : Dev :=
  d.withStaged.fbxUp fun x => { x with
    coef := d.stage.coef.foldl (fun m y => Mem.wr m y.1 y.2) x.coef
    lut := d.stage.lut.foldl (fun m y => Mem.wr m y.1 y.2) x.lut }

@[simp] theorem Dev.setInEffect_stage (d : Dev) : d.setInEffect.stage = d.stage := by
  rw [Dev.setInEffect, Dev.fbxUp_stage, withStaged_eq, foldl_putStaged_parts]

/-- At its frame the set comes into effect and is then empty; its owner and frame are remembered. -/
theorem stageAdopt_due {d : Dev} {k c : Nat} (h : d.stage.pending = some (k, c)) (hk : (d.get F.ANG_FCNT + 1) % 2 ^ 32 = k) :
    d.stageAdopt = ((d.toFrameStart.setInEffect.stageEmpty.stageUp fun s =>
      { s with adopted := some (d.stage.owner.getD 0, k) }).stageHooks d.toFrameStart).storeWrite := by
  rw [Dev.stageAdopt, h]
  exact if_neg (by rw [hk]; simp)

theorem stageAdopt_stage {d : Dev} {k c : Nat} (h : d.stage.pending = some (k, c)) (hk : (d.get F.ANG_FCNT + 1) % 2 ^ 32 = k) :
    d.stageAdopt.stage = { host := d.toFrameStart.stage.host, adopted := some (d.stage.owner.getD 0, k) } := by
  rw [stageAdopt_due h hk]
  simp [Dev.stageEmpty]

/-- Settles O47: COMMIT by its checks, the frame by the branches of the adoption, the registers by induction on the staged
list, in which no address stands twice. -/
theorem stagedSetIsAdoptedWhole : Obligations.StagedSetIsAdoptedWhole := by
  intro d
  refine ⟨fun sid angle => ⟨commit_refused, fun h => ?_⟩, stageAdopt_none, fun _ _ => stageAdopt_other, fun k c h hk => ?_, fun hnodup => ?_⟩
  · rw [commit_ok h]
    exact ⟨rfl, rfl, rfl⟩
  · rw [stageAdopt_stage h hk]
    exact ⟨rfl, rfl, rfl, rfl, rfl⟩
  · rw [withStaged_eq]
    exact ⟨foldl_putStaged_parts _ d, fun _ _ _ hx => foldl_putStaged_same hnodup hx d, fun _ ha => foldl_putStaged_other ha d⟩

end Sys2Proof.Machine
end

section
/-! PROOFS. The obligations of 01_architecture.md: the host commands on registers, staging and memories. -/
namespace Sys2Proof.Machine

/-! ## A host command that passes every check -/

theorem execute_here {d e : Dev} {op : Nat} {h : CmdHdr} {p : List Byte} (a : Asked) (body : Body) (grp : GroupBody)
    (hstop : d.cpr.stopped = false ∨ op ∈ [0x02, 0x80, 0x81]) (hlc : lifecycleOk d.lc op p = true) (hrole : d.roleBad op h p = false)
    (hhere : d.resolve7 op h = .here) (howner : d.ownerStep op h p .here = (true, e)) (hmember : e.memberSetpoint op .here = false) :
    d.execute op h a p body grp = conclude a (e.runBody op h p body) := by
  have hrun : (d.cpr.stopped && !(([0x02, 0x80, 0x81] : List Nat).contains op)) = false := by
    obtain hs | hop := hstop
    · rw [hs, Bool.false_and]
    · rw [List.contains_iff_mem.mpr hop, Bool.not_true, Bool.and_false]
  rw [Dev.execute, hrun, hlc, hrole, hhere]
  simp [howner, hmember]

/-- Step 6 passes for a command that ends here: the owner's block, where the opcode carries one, authorises it. -/
theorem ownerStep_here {d : Dev} {op : Nat} {h : CmdHdr} {p : List Byte} (howner : ownerOps.contains op = true → d.ownerOk op h p = true) :
    d.ownerStep op h p .here = (true, if ownerOps.contains op then d.ownerCount p else d) := by
  unfold Dev.ownerStep
  cases hop : ownerOps.contains op
  · rfl
  · simp only [howner hop]
    rfl

/-- Steps 1 to 4 of a request on the device's own attachments. -/
theorem hostCommand_received {d : Dev} {op : Nat} {h : CmdHdr} {p : List Byte} (body : Body) (grp : GroupBody)
    (hpath : isRelay h.path = false) (hup : d.hearthUp = true) (hlen : lengthBad h p = false) (hver : h.ver = 1)
    (hauth : d.netQuiet.flueQuiet.authBad op h = false)
    (hseq : ∀ x, d.netQuiet.flueQuiet.session h.sid = some x → x.judge h.seq = .accept) :
    d.hostCommand op h p body grp = (d.received h).execute op h (asked op h) p body grp := by
  -- Not cited below: `simp` takes it from the context to choose the last case of the match on the path.
  have hown : ∀ src, h.path ≠ .relay src := fun src hr => by simp [isRelay, hr] at hpath
  unfold Dev.hostCommand Dev.received
  simp only [hup, hlen, hver, hauth, Bool.not_true, Bool.false_eq_true, if_false, bne_self_eq_false]
  cases hsession : d.netQuiet.flueQuiet.session h.sid with
  | none => rfl
  | some x =>
    simp only [hseq x hsession]
    rfl

/-- A host command that passes every check up to its payload's layout is its own part, answered. -/
theorem hostCommand_ready {d : Dev} {op : Nat} {h : CmdHdr} {p : List Byte} (hready : HostReady d op h p) (body : Body) (grp : GroupBody) :
    d.hostCommand op h p body grp = conclude (asked op h) (body h (ownPart op p) (d.admitted op h p)) := by
  obtain ⟨hpath, hup, hlen, hver, hauth, hseq, hstop, hlc, hrole, hhere, howner, hmember, hlayout⟩ := hready
  rw [hostCommand_received body grp hpath hup hlen hver hauth hseq,
    execute_here (asked op h) body grp hstop hlc hrole hhere (ownerStep_here howner) hmember, Dev.runBody]
  rw [Dev.admitted] at hlayout ⊢
  rw [hlayout]
  rfl

theorem conclude_after (op : Nat) (h : CmdHdr) (st : Nat) (pay : List Byte) (e : Dev) (next : Dev → Dev) :
    conclude (asked op h) { status := st, payload := pay, dev := e, after := next } = next (e.respond op h st pay) := rfl

theorem conclude_eq (op : Nat) (h : CmdHdr) (st : Nat) (pay : List Byte) (e : Dev) :
    conclude (asked op h) { status := st, payload := pay, dev := e } = e.respond op h st pay := rfl

section Run
variable {op : Nat} {h : CmdHdr} {p : List Byte} {s : State} (hready : HostReady s.dev op h p) {body : Body} (grp : GroupBody)
  {st : Nat} {pay : List Byte} {e : Dev}
include hready

/-- Such a command by what its own part answers, and what follows the response. -/
theorem run_hostCommand_after {next : Dev → Dev}
    (hbody : body h (ownPart op p) (s.dev.admitted op h p) = { status := st, payload := pay, dev := e, after := next }) :
    run (Dev.hostCommand op h p body grp) s = .next (s.after (next (e.respond op h st pay))) := by
  rw [run_eq, hostCommand_ready hready, hbody, conclude_after]

theorem run_hostCommand (hbody : body h (ownPart op p) (s.dev.admitted op h p) = { status := st, payload := pay, dev := e }) :
    run (Dev.hostCommand op h p body grp) s = .next (s.after (e.respond op h st pay)) := by
  rw [run_eq, hostCommand_ready hready, hbody, conclude_eq]

end Run

/-! ## What the bodies answer -/

section Bodies
variable {h : CmdHdr} {p : List Byte} {d : Dev}

theorem bodyRegRead_ok {ws : List Word} {e : Dev} (ha : leAt p 0 4 < 2 ^ 24) (hlo : 1 ≤ leAt p 4 2) (hhi : leAt p 4 2 ≤ 480)
    (hread : d.readRun ((leAt p 6 2).testBit 0) (leAt p 0 4) (leAt p 4 2) = some (ws, e)) :
    bodyRegRead h p d = { status := St.ok, payload := bytesOf ws, dev := e } := by
  have hcount : ¬(decide (leAt p 4 2 = 0) || decide (480 < leAt p 4 2)) = true := by simp; omega
  rw [bodyRegRead, if_neg (by omega), if_neg hcount, hread]
  rfl

theorem countBad_of_range (hlo : 1 ≤ leAt p 0 4) (hhi : leAt p 0 4 ≤ 160) : countBad p = false := by
  simp [countBad]; omega

theorem bodyRegWrite_ok {st i : Nat} {e : Dev} {warm : Bool} (hlo : 1 ≤ leAt p 0 4) (hhi : leAt p 0 4 ≤ 160)
    (hwrite : d.regWrite (d.roleOf h == 2) (entriesOf p) = (st, i, e, warm)) :
    bodyRegWrite h p d =
      { status := st, payload := indexPayload i, dev := e, after := fun d => if warm then d.resetAfter h.path 2 none else d } := by
  rw [bodyRegWrite, countBad_of_range hlo hhi, hwrite]
  rfl

theorem bodyRegStage_ok {st i : Nat} {e : Dev} (hlo : 1 ≤ leAt p 0 4) (hhi : leAt p 0 4 ≤ 160)
    (hstage : d.regStage h.sid (entriesOf p) = (st, i, e)) :
    bodyRegStage h p d = { status := st, payload := indexPayload i, dev := e } := by
  rw [bodyRegStage, countBad_of_range hlo hhi, hstage]
  rfl

theorem modeAngle_of_le (hmode : leAt p 0 4 ≤ 1) : modeAngle p 0 = some (if leAt p 0 4 = 0 then none else some (leAt p 4 4)) := by
  obtain hzero | hone : leAt p 0 4 = 0 ∨ leAt p 0 4 = 1 := by omega
  · simp [modeAngle, hzero]
  · simp [modeAngle, hone]

theorem bodyCommit_ok {st : Nat} {pay : List Byte} {e : Dev} (hmode : leAt p 0 4 ≤ 1)
    (hcommit : d.commit h.sid (if leAt p 0 4 = 0 then none else some (leAt p 4 4)) = (st, pay, e)) :
    bodyCommit h p d = { status := st, payload := pay, dev := e } := by
  rw [bodyCommit, modeAngle_of_le hmode]
  dsimp only
  rw [hcommit]
  rfl

theorem bodyDiscardStage_ok {st : Nat} {e : Dev} (hdiscard : d.discardStage h.sid = (st, e)) :
    bodyDiscardStage h p d = { status := st, dev := e } := by
  rw [bodyDiscardStage, hdiscard]
  rfl

theorem bodyMemRead_ok (hrange : memBad (leAt p 0 1) (leAt p 4 4) (leAt p 8 4) = false) (hlen : leAt p 8 4 ≤ 1920) :
    bodyMemRead h p d =
      { status := St.ok
        payload := bytesOf (Mem.rds (d.memWords (leAt p 0 1) ((leAt p 12 4).testBit 0)) (leAt p 4 4 / 4) (leAt p 8 4 / 4))
        dev := d } := by
  rw [bodyMemRead, hrange]
  exact (if_neg Bool.false_ne_true).trans (if_neg (by omega))

variable (hrange : memBad (leAt p 0 1) (leAt p 4 4) (leAt p 8 4) = false) (hlen : leAt p 8 4 ≤ 1984)
include hrange hlen

theorem bodyMemWrite_host (hid : leAt p 0 1 = 1)
    (hbound : ∀ x ∈ runOf (leAt p 4 4 / 4) (wordsOf (p.drop 12)), d.hostBound x.1 = true) :
    bodyMemWrite h p d =
      { status := St.ok, dev := d.stageUp fun g => { g with host := g.host ++ runOf (leAt p 4 4 / 4) (wordsOf (p.drop 12)) } } := by
  have hall : ((runOf (leAt p 4 4 / 4) (wordsOf (p.drop 12))).all fun x => d.hostBound x.1) = true := List.all_eq_true.mpr hbound
  rw [hid] at hrange
  simp only [bodyMemWrite, hid, hrange, hall, Nat.not_lt.mpr hlen, Bool.false_eq_true, if_false, if_true]
  rfl

/-- A memory's staged words with a range written: those at its addresses are replaced. -/
def stagedWith (ws l : List (Nat × Word)) : List (Nat × Word) := (l.filter fun a => !ws.any fun b => a.1 == b.1) ++ ws

variable (hheld : d.stageHeld h.sid = false) (hpending : d.stage.pending = none)
include hheld hpending

theorem bodyMemWrite_coef (hid : leAt p 0 1 = 2) :
    bodyMemWrite h p d =
      { status := St.ok
        dev := d.stageUp fun g => { g with
          owner := some h.sid, coef := stagedWith (runOf (leAt p 4 4 / 4) (wordsOf (p.drop 12))) g.coef } } := by
  rw [hid] at hrange
  simp only [bodyMemWrite, hid, hrange, hheld, hpending, Nat.not_lt.mpr hlen, Bool.false_eq_true, if_false, Option.isSome_none, Bool.or_self]
  rfl

theorem bodyMemWrite_lut (hid : leAt p 0 1 = 3) :
    bodyMemWrite h p d =
      { status := St.ok
        dev := d.stageUp fun g => { g with
          owner := some h.sid, lut := stagedWith (runOf (leAt p 4 4 / 4) (wordsOf (p.drop 12))) g.lut } } := by
  rw [hid] at hrange
  simp only [bodyMemWrite, hid, hrange, hheld, hpending, Nat.not_lt.mpr hlen, Bool.false_eq_true, if_false, Option.isSome_none, Bool.or_self]
  rfl

end Bodies

/-- Settles O8: each command is its own part answered, and each part answers as its operation does. -/
theorem registerCommandsComplete : Obligations.RegisterCommandsComplete := by
  refine ⟨fun h p s hready ws e ha hlo hhi hread => ?_, fun h p s hready hlo hhi => ?_, fun h p s hready hlo hhi st i e hstage => ?_,
    fun h p s hready hmode st pay e hcommit => ?_, fun h p s hready st e hdiscard => ?_, fun h p s hready hrange hlen => ?_,
    fun h p s hready hrange hlen => ⟨fun hid hbound => ?_, fun hid hheld hpending => ?_, fun hid hheld hpending => ?_⟩⟩
  · show run (Dev.hostCommand 0x10 h p bodyRegRead grpNone) s = _
    exact run_hostCommand hready grpNone (bodyRegRead_ok ha hlo hhi hread)
  · intro d st i e warm hwrite
    show run (Dev.hostCommand 0x11 h p bodyRegWrite grpNone) s = _
    exact run_hostCommand_after hready grpNone (next := fun d => if warm then d.resetAfter h.path 2 none else d) (bodyRegWrite_ok hlo hhi hwrite)
  · show run (Dev.hostCommand 0x12 h p bodyRegStage (grpAll 0x12 bodyRegStage)) s = _
    exact run_hostCommand hready _ (bodyRegStage_ok hlo hhi hstage)
  · show run (Dev.hostCommand 0x13 h p bodyCommit grpCommit) s = _
    exact run_hostCommand hready _ (bodyCommit_ok hmode hcommit)
  · show run (Dev.hostCommand 0x14 h p bodyDiscardStage (grpAll 0x14 bodyDiscardStage)) s = _
    exact run_hostCommand hready _ (bodyDiscardStage_ok hdiscard)
  · show run (Dev.hostCommand 0x15 h p bodyMemRead grpNone) s = _
    exact run_hostCommand hready grpNone (bodyMemRead_ok hrange hlen)
  · show run (Dev.hostCommand 0x16 h p bodyMemWrite grpNone) s = _
    exact run_hostCommand hready grpNone (bodyMemWrite_host hrange hlen hid hbound)
  · show run (Dev.hostCommand 0x16 h p bodyMemWrite grpNone) s = _
    exact run_hostCommand hready grpNone (bodyMemWrite_coef hrange hlen hheld hpending hid)
  · show run (Dev.hostCommand 0x16 h p bodyMemWrite grpNone) s = _
    exact run_hostCommand hready grpNone (bodyMemWrite_lut hrange hlen hheld hpending hid)

end Sys2Proof.Machine
end

section
/-! PROOFS. The obligations of 01_architecture.md: the start of a device frame and what is adopted at it. -/
namespace Sys2Proof.Machine

/-! ## What the end of a frame leaves -/

theorem Dev.advance_stage (d : Dev) (n : Nat) : (d.advance n).stage = d.stage := by rw [Dev.advance_eq]

@[simp] theorem Dev.toPhase_stage (d : Dev) (p : Nat) : (d.toPhase p).stage = d.stage := by
  simp [Dev.toPhase, apply_ite Dev.stage, Dev.advance_stage]

@[simp] theorem Dev.landLegs_stage (d : Dev) (fl : Flight) : (d.landLegs fl).stage = d.stage := by
  simp [Dev.landLegs, apply_ite Dev.stage]

@[simp] theorem Dev.land_stage (d : Dev) (fl : Flight) : (d.land fl).stage = d.stage := by
  unfold Dev.land
  extract_lets noted written legs
  have hwritten : written.stage = d.stage := Dev.forAll_stage (fun e x => Dev.setWord_stage e x.1 x.2) noted fl.regs
  have hlegs : legs.stage = d.stage := (written.landLegs_stage fl).trans hwritten
  exact (Dev.forAll_stage (fun e x => Dev.raise_stage e x.1 x.2) legs fl.events).trans hlegs

@[simp] theorem Dev.landUpTo_stage (d : Dev) (clk : Nat) : (d.landUpTo clk).stage = d.stage := by
  simp [Dev.landUpTo, Dev.forAll_stage]

@[simp] theorem Dev.overrun_stage (d : Dev) (cause slot : Nat) : (d.overrun cause slot).stage = d.stage := by
  simp [Dev.overrun, apply_ite Dev.stage]

@[simp] theorem Dev.frameEnd_stage (d : Dev) : d.frameEnd.stage = d.stage := by
  unfold Dev.frameEnd
  extract_lets landed faulted ended longest margin
  have hfaulted : faulted.stage = d.stage := by
    unfold faulted
    split <;> simp [landed]
  have hlongest : longest.stage = d.stage := by
    unfold longest
    split <;> exact hfaulted
  have hmargin : margin.stage = d.stage := by
    unfold margin
    split
    · dsimp only
      split <;> exact hlongest
    · exact hlongest
  split
  · rfl
  · exact hmargin

@[simp] theorem Dev.ringQueue_stage (d : Dev) (r : Nat) (x : Rec) : (d.ringQueue r x).stage = d.stage := rfl

@[simp] theorem Dev.prbRecord_stage (d : Dev) (p : Nat) : (d.prbRecord p).stage = d.stage := rfl

@[simp] theorem Dev.streamBlock_stage (d : Dev) (p : Nat) : (d.streamBlock p).stage = d.stage := by
  unfold Dev.streamBlock
  extract_lets b cleared src bytes drop
  have hdrop : ∀ e : Dev, (drop e).stage = e.stage := fun e => by simp [drop, apply_ite Dev.stage]
  split
  · exact hdrop cleared
  · split_ifs
    · rfl
    · exact hdrop cleared

@[simp] theorem Dev.prbStream_stage (d : Dev) (p : Nat) : (d.prbStream p).stage = d.stage := by
  simp [Dev.prbStream, apply_ite Dev.stage]

@[simp] theorem Dev.trcSamples_stage (d : Dev) (k : Nat) : (d.trcSamples k).stage = d.stage :=
  Dev.forAll_stage (fun e p => by simp [apply_ite Dev.stage]) d _

@[simp] theorem Dev.trcAccept_stage (d : Dev) (k cause : Nat) : (d.trcAccept k cause).stage = d.stage := by
  simp [Dev.trcAccept]

@[simp] theorem Dev.trcTrigger_stage (d : Dev) (k : Nat) : (d.trcTrigger k).stage = d.stage := by
  simp [Dev.trcTrigger, apply_ite Dev.stage]

@[simp] theorem Dev.prbClose_stage (d : Dev) (p : Nat) : (d.prbClose p).stage = d.stage := by
  simp [Dev.prbClose, apply_ite Dev.stage]

@[simp] theorem Dev.trcStart_stage (d : Dev) (st : Nat) : (d.trcStart st).stage = d.stage := rfl

@[simp] theorem Dev.trcDone_stage (d : Dev) : d.trcDone.stage = d.stage := by
  simp [Dev.trcDone, apply_ite Dev.stage]

@[simp] theorem Dev.trcFreeze_stage (d : Dev) : d.trcFreeze.stage = d.stage := by
  unfold Dev.trcFreeze
  extract_lets indexed frozen
  have hfrozen : frozen.stage = d.stage := Dev.forAll_stage (fun e p => Dev.put_stage e _ _) d d.probes
  split_ifs
  · rfl
  · rw [Dev.trcDone_stage, hfrozen]
  · exact hfrozen

@[simp] theorem Dev.trcControl_stage (d : Dev) : d.trcControl.stage = d.stage := by
  simp [Dev.trcControl, apply_ite Dev.stage, Dev.dropWaiting]

@[simp] theorem Dev.trcUnload_stage (d : Dev) : d.trcUnload.stage = d.stage := by
  unfold Dev.trcUnload
  split
  · rfl
  · split
    · rfl
    · exact Dev.forAll_stage (fun e p => Dev.ringQueue_stage e _ _) d d.trc.unload

@[simp] theorem Dev.traceFrame_stage (d : Dev) : d.traceFrame.stage = d.stage := by
  simp [Dev.traceFrame, apply_ite Dev.stage, Dev.forAll_stage]

@[simp] theorem Dev.toFrameStart_stage (d : Dev) : d.toFrameStart.stage = d.stage := by
  simp [Dev.toFrameStart]

theorem Dev.sarIdle_ang (d : Dev) : d.sarIdle.ang = d.ang := rfl

/-- Settles O21: each event is its operation in a paced device; the end of the frame before leaves the staged set and its owner. -/
theorem frameAndAdoptionEventsComplete : Obligations.FrameAndAdoptionEventsComplete := by
  refine ⟨fun bits s hk => ?_, fun k c s hk hpending hframe => ?_, fun a s hk => ⟨fun hdue => ?_, fun hdue => ?_⟩⟩
  · intro last b d k e f angle freq g fcnt p q
    have hframe : Dev.deviceFrame bits s.dev =
        let r := ((p.sarIdle.put F.ANG_THETA p.sarIdle.ang.theta).latchInputs angle freq last).stageUp fun x => { x with host := [] }
        (r.frameBegin fcnt r.gsvBank).sarFrame fcnt (!r.cpr.d2dLost) := by
      unfold Dev.deviceFrame
      with_reducible rfl
    show run (whenPaced (Dev.deviceFrame bits)) s = _
    rw [run_whenPaced hk, hframe, Dev.sarIdle_ang]
  · have howner : s.dev.stage.owner = s.dev.toFrameStart.stage.owner := by rw [Dev.toFrameStart_stage]
    intro d e f
    have heffect : e = d.setInEffect := rfl
    show run (whenPaced fun d => d.stageAdopt) s = _
    rw [run_whenPaced hk, stageAdopt_due hpending hframe, howner]
    simp only [f, heffect, d]
  · show run (whenPaced fun d => d.imageAdopt) s = _
    rw [run_whenPaced hk, Dev.imageAdopt, hdue]
  · show run (whenPaced fun d => d.packageAdopt) s = _
    rw [run_whenPaced hk, Dev.packageAdopt, hdue]

end Sys2Proof.Machine
end

section
/-! PROOFS. The obligations of 01_architecture.md: clocks, links, ticks, tamper sensors and JTAG. -/
namespace Sys2Proof.Machine

/-! ## What leaves CPR -/

@[simp] theorem Dev.raise_cpr (d : Dev) (code : Nat) (items : List Nat) : (d.raise code items).cpr = d.cpr := by
  rw [(raise_onlyRaised d code items).parts]
  rfl

theorem Dev.schUp_cpr (d : Dev) (n : Nat) (f : SdmCh → SdmCh) : (d.schUp n f).cpr = d.cpr := rfl

theorem Dev.sdmClockBack_cpr (d : Dev) (n : Nat) : (d.sdmClockBack n).cpr = d.cpr := by
  unfold Dev.sdmClockBack
  split
  · rfl
  · exact Dev.forAll_keeps Dev.cpr (fun e i => e.schUp_cpr i fun c => { c with clk := false }) d _

theorem Dev.modLock_true_cpr (d : Dev) : (d.modLock true).cpr = d.cpr :=
  Dev.forAll_keeps Dev.cpr Dev.sdmClockBack_cpr _ _

theorem Dev.landLegs_cpr (d : Dev) (fl : Flight) : (d.landLegs fl).cpr = d.cpr := by
  unfold Dev.landLegs
  split <;> rfl

theorem Dev.land_cpr (d : Dev) (fl : Flight) : (d.land fl).cpr = d.cpr := by
  unfold Dev.land
  extract_lets noted written legs
  have hwritten : written.cpr = d.cpr := Dev.forAll_keeps Dev.cpr (fun e x => Dev.setWord_cpr e x.1 x.2) noted fl.regs
  have hlegs : legs.cpr = d.cpr := (written.landLegs_cpr fl).trans hwritten
  exact (Dev.forAll_keeps Dev.cpr (fun e x => Dev.raise_cpr e x.1 x.2) legs fl.events).trans hlegs

theorem Dev.landUpTo_cpr (d : Dev) (clk : Nat) : (d.landUpTo clk).cpr = d.cpr := Dev.forAll_keeps Dev.cpr Dev.land_cpr _ _

/-! ## Clock monitors, REF and the spread profile -/

/-- A window within its limits. -/
theorem clockWindow_good {d : Dev} {dom dt : Nat} (hpor : (d.advance dt).cpr.por = false) :
    d.clockWindow dom true dt =
      (let a := d.advance dt
       let e := if dom = 2 ∧ a.flag F.SDM_STATUS_MOD_LOCK = false ∧ a.cpr.rows.testBit 7 = true then a.modLock true else a
       let n := a.cpr.clkGood.getD dom 0 + 1
       let f := if dom = 11 ∧ 16 ≤ n ∧ a.cpr.freeRun = false ∧ a.cpr.rows.testBit 2 = true then e.put F.CPR_STATUS_REF_OK 1 else e
       f.cprUp fun c => { c with
         clkGood := c.clkGood.set dom (min n 16), clkBad := if 16 ≤ n then clrBit c.clkBad dom else c.clkBad }) := by
  unfold Dev.clockWindow
  extract_lets a bad n e' f' _ _ _ e f
  have hawake : ¬ a.cpr.por = true := by rw [show a.cpr.por = false from hpor]; exact Bool.false_ne_true
  have he : e' = e := by simp only [e', e, Bool.and_eq_true, decide_eq_true_eq, Bool.not_eq_true', and_assoc]
  have hcpr : e.cpr = a.cpr := by
    unfold e
    split
    · exact a.modLock_true_cpr
    · rfl
  have hf : f' = f := by
    simp only [f', f, he, hcpr, Bool.and_eq_true, decide_eq_true_eq, Bool.not_eq_true', and_assoc]
  rw [if_neg hawake, if_pos rfl, hf]

/-- One outside them, the first of a run and not explained by free-run. -/
theorem clockWindow_bad {d : Dev} {dom dt : Nat} (hpor : (d.advance dt).cpr.por = false)
    (hfirst : (d.advance dt).cpr.clkBad.testBit dom = false) :
    let e := (d.advance dt).cprUp fun c => { c with clkGood := c.clkGood.set dom 0, clkBad := setBit c.clkBad dom }
    let f := if dom = 2 ∧ e.flag F.SDM_STATUS_MOD_LOCK = true then e.modLock false else e
    let g := if dom = 11 then f.put F.CPR_STATUS_REF_OK 0 else f
    (f.cpr.freeRun = false ∨ dom = 6 ∨ dom = 10) →
      d.clockWindow dom false dt = (g.setIn F.CPR_CLK_FAIL_DOM dom).raise 0x0B02 [dom] := by
  intro e f g hcause
  have hg : g.cpr = f.cpr := by
    unfold g
    split <;> rfl
  unfold Dev.clockWindow
  extract_lets a bad n _ _ e' f' g'
  have hf' : f' = f := by simp only [f', f, e', e, a, Bool.and_eq_true, decide_eq_true_eq]
  have hg' : g' = g := by rw [show g' = if dom = 11 then f'.put F.CPR_STATUS_REF_OK 0 else f' from rfl, hf']
  have hraised : (bad || (g'.cpr.freeRun && fromRef dom)) = false := by
    rw [hg', hg, show bad = false from hfirst]
    rcases hcause with h | h | h <;> simp [h, fromRef]
  have hawake : ¬ a.cpr.por = true := by rw [show a.cpr.por = false from hpor]; exact Bool.false_ne_true
  rw [if_neg hawake, if_neg Bool.false_ne_true, hraised, hg']
  rfl

theorem refLoss_first {d : Dev} {dt : Nat} (hpor : (d.advance dt).cpr.por = false) (hfree : (d.advance dt).cpr.freeRun = false) :
    d.refLoss dt =
      ((((((d.advance dt).put F.CPR_STATUS_REF_LOSS 1).put F.CPR_STATUS_REF_OK 0).put F.CPR_STATUS_CORE_LOCK 0).put
        F.CPR_STATUS_PWM_LOCK 0).cprUp fun c => { c with freeRun := true }).raise 0x0B03 := by
  unfold Dev.refLoss
  simp only [hpor, hfree, Bool.or_self, Bool.false_eq_true, if_false]
  rfl

theorem refReturn_freeRun {d : Dev} {dt : Nat} (hfree : (d.advance dt).cpr.freeRun = true) :
    d.refReturn dt =
      ((((d.advance dt).put F.CPR_STATUS_REF_OK 1).putB F.CPR_STATUS_CORE_LOCK ((d.advance dt).cpr.rows.testBit 3)).putB
        F.CPR_STATUS_PWM_LOCK ((d.advance dt).cpr.rows.testBit 3)).cprUp fun c => { c with freeRun := false } := by
  unfold Dev.refReturn
  simp only [hfree, Bool.not_true, Bool.false_eq_true, if_false]
  rfl

theorem sscBegin_adopted {d : Dev} {dt n : Nat} (hnext : (d.advance dt).cpr.sscNext = some n) :
    d.sscBegin dt =
      (((if (d.advance dt).fbx.running then (d.advance dt).landUpTo ((d.advance dt).frameClocks (d.advance dt).now)
        else d.advance dt).profileBegin n).raise 0x0B0A [(d.advance dt).cpr.ssc, n]) := by
  unfold Dev.sscBegin
  extract_lets a landed
  have hssc : landed.cpr.ssc = a.cpr.ssc := by
    unfold landed
    split
    · rw [a.landUpTo_cpr]
    · rfl
  simp only [show a.cpr.sscNext = some n from hnext, hssc]
  rfl

/-! ## The die-to-die link -/

theorem d2dWord_good (d : Dev) (dir dt : Nat) :
    d.d2dWord dir true dt = (d.advance dt).cprUp fun c => { c with resend := clrBit c.resend dir } := rfl

theorem d2dWord_bad {d : Dev} {dir dt : Nat} (hfirst : (d.advance dt).cpr.resend.testBit dir = false) :
    d.d2dWord dir false dt =
      ((d.advance dt).bump F.CPR_D2D_RETRY_CNT).cprUp fun c => { c with resend := setBit c.resend dir } := by
  unfold Dev.d2dWord
  simp only [hfirst, Bool.false_eq_true, if_false]

theorem d2dWord_bad_again {d : Dev} {dir dt : Nat} (hsecond : (d.advance dt).cpr.resend.testBit dir = true) :
    d.d2dWord dir false dt = (d.advance dt).d2dLost := by
  unfold Dev.d2dWord
  simp only [hsecond, Bool.false_eq_true, if_false, if_true]

theorem d2dLost_first {d : Dev} (hpor : d.cpr.por = false) (hlink : d.cpr.d2dLost = false) :
    d.d2dLost = (d.cprUp fun c => { c with d2dLost := true, resend := 0 }).raise 0x0B01 := by
  unfold Dev.d2dLost
  simp only [hpor, hlink, Bool.or_self, Bool.false_eq_true, if_false]

/-! ## The management tick -/

/-- The tick counted at the millisecond at which time stands. -/
def Dev.tickCounted (d : Dev) : Dev :=
  { d with
    time := { d.time with tick := d.time.tick + 1, tickAt := d.time.now / 500000 * 500000 }, log := { d.log with tickCodes := [] } }

/-- What falls due at a tick (R474). -/
def Dev.tickFalls (d : Dev) (temps : List Word) (heartbeat : Bool) : Dev :=
  let f := ((d.secUp fun y => { y with blocked := false }).hwdtTick).cprUp fun c => { c with beats := if heartbeat then 0 else c.beats + 1 }
  let g := (f.sensorTick temps).mpptTick.metTick.forceTick.ppsTick.ptpTick
  (g.put F.HRT_TAMPER_CNT_CNT (min 15 g.tamperWindow.length)).floorTick.payBound

theorem tickCounted_eq (d : Dev) :
    { d with
      time := { d.time with tick := d.time.tick + 1, tickAt := d.now / msec * msec }, log := { d.log with tickCodes := [] } } =
      d.tickCounted := rfl

theorem managementTick_eq (temps : List Word) (heartbeat : Bool) (d : Dev) :
    Dev.managementTick temps heartbeat d = (d.advanceTo (d.time.tickAt + 500000)).tickCounted.tickFalls temps heartbeat :=
  congrArg (fun e => e.tickFalls temps heartbeat) (tickCounted_eq (d.advanceTo (d.time.tickAt + msec)))

/-! ## Tamper sensors -/

/-- What a sensor that resets does: its bit, its event, the hour's count, and cause 6 (R508, R509). -/
def Dev.struck (d : Dev) (bit : Nat) : Dev :=
  let a := (d.setIn F.HRT_TAMPER bit).raise 0x1003 [bit]
  let b := a.cprUp fun c => { c with tampers := a.tamperWindow ++ [a.time.tick] }
  (b.put F.HRT_TAMPER_CNT_CNT (min 15 b.cpr.tampers.length)).warmReset 6

/-- The entries counted in the hour are those kept, and the one just made. -/
theorem tamperWindow_counted (d : Dev) :
    (d.cprUp fun c => { c with tampers := d.tamperWindow ++ [d.time.tick] }).tamperWindow = d.tamperWindow ++ [d.time.tick] := by
  show (d.tamperWindow ++ [d.time.tick]).filter (fun t => d.time.tick < t + 3600000) = _
  simp [Dev.tamperWindow]

theorem awake_iff (d : Dev) : d.awake = true ↔ d.cpr.por = false ∧ d.cpr.warm = false ∧ d.cpr.waiting = false := by
  simp [Dev.awake, and_assoc]

theorem tamperReset_awake {d : Dev} (h : d.awake = true) (bit : Nat) : d.tamperReset bit = d.struck bit := by
  obtain ⟨hpor, hwarm, hwaiting⟩ := (awake_iff d).1 h
  unfold Dev.tamperReset Dev.struck
  extract_lets t u a b
  have hta : t = a := rfl
  have hcpr : t.cpr = d.cpr := Dev.raise_cpr _ _ _
  have hu : u = b := by
    unfold u
    rw [hcpr, hwarm, hwaiting]
    rfl
  have hcount : b.tamperWindow = b.cpr.tampers := tamperWindow_counted a
  rw [hpor, hu, hcount]
  rfl

theorem shieldCheck_good (d : Dev) (dt : Nat) :
    d.shieldCheck true dt = (d.advance dt).cprUp fun c => { c with mesh := false } := rfl

theorem shieldCheck_bad {d : Dev} (h : d.awake = true) (dt : Nat) :
    d.shieldCheck false dt = ((d.advance dt).cprUp fun c => { c with mesh := true }).struck 3 :=
  tamperReset_awake (d := (d.advance dt).cprUp fun c => { c with mesh := true })
    ((d.advance_awake dt).trans h) 3

/-! ## The version floors -/

theorem rollbackRaise_due {d : Dev} {type k : Nat} (hforce : d.inForce type = some k)
    (hweek : weekTicks ≤ if type = 0 then d.hrt.imgTicks else d.hrt.pkgTicks)
    (habove : d.get (F.HRT_FLOOR.ix type) < hVersion (d.slot type k).data)
    (hroom : (if type = 0 then d.hrt.floorImg else d.hrt.floorPkg).length < 127) :
    d.rollbackRaise type =
      (let v := hVersion (d.slot type k).data
       ((d.hrtUp fun h => if type = 0 then { h with floorImg := v :: h.floorImg, fullImg := false }
         else { h with floorPkg := v :: h.floorPkg, fullPkg := false }).put (F.HRT_FLOOR.ix type) v).raise 0x100C [type, v]) := by
  have hlate : ¬ ((decide ((if type = 0 then d.hrt.imgTicks else d.hrt.pkgTicks) < weekTicks) ||
      decide (hVersion (d.slot type k).data ≤ d.get (F.HRT_FLOOR.ix type)) ||
      decide (128 ≤ (if type = 0 then d.hrt.floorImg else d.hrt.floorPkg).length)) = true) := by
    simp only [Bool.or_eq_true, decide_eq_true_eq]
    omega
  have hfull : ¬ (if type = 0 then d.hrt.floorImg else d.hrt.floorPkg).length = 127 := by omega
  unfold Dev.rollbackRaise
  simp only [hforce, if_neg hlate, hfull, decide_false, if_false]

/-! ## JTAG -/

/-- A permitted instruction is the one selected. -/
def Dev.jtagSelect (d : Dev) (j : Jtag) : Dev := d.secUp fun y => { y with jtag := j }

section
variable {d : Dev} {j : Jtag}

theorem jtagRun_not_permitted (h : jtagPermits d.lc j = false) :
    d.jtagRun j =
      match jtagPins j with
      | some n => if d.sec.blocked then d.jtagSelect .bypass
        else ((d.jtagSelect .bypass).secUp fun y => { y with blocked := true }).raise 0x1018 [n]
      | none => d.jtagSelect .bypass := by
  unfold Dev.jtagRun
  rw [h]
  rfl

theorem jtagRun_blocked (h : jtagPermits d.lc j = false) {n : Nat} (hpins : jtagPins j = some n)
    (hfirst : d.sec.blocked = false) :
    d.jtagRun j = (d.secUp fun y => { y with jtag := .bypass, blocked := true }).raise 0x1018 [n] := by
  rw [jtagRun_not_permitted h, hpins, hfirst]
  rfl

theorem jtagRun_bypassed (h : jtagPermits d.lc j = false) (hpins : jtagPins j = none) :
    d.jtagRun j = d.secUp fun y => { y with jtag := .bypass } := by
  rw [jtagRun_not_permitted h, hpins]
  rfl

theorem jtagRun_permitted (h : jtagPermits d.lc j = true) :
    d.jtagRun j =
      match j with
      | .register a v => match rowAt a with
        | some (r, _) => ((d.jtagSelect j).writeEntry false ⟨a, BitVec.ofNat 32 (r.rw ||| r.lc ||| r.w1c ||| r.act), v⟩).2.1
        | none => d.jtagSelect j
      | .memory id off ws => if memBad id off (4 * ws.length) then d.jtagSelect j else (d.jtagSelect j).memPut id (off / 4) ws
      | .otp off bytes => (d.jtagSelect j).otpProgram off bytes
      | .certs l => (d.jtagSelect j).secUp fun y => { y with certs := l }
      | _ => d.jtagSelect j := by
  unfold Dev.jtagRun
  rw [h]
  cases j <;> rfl

/-- An instruction that only selects what the pins and the data register do. -/
theorem jtagRun_selects (h : jtagPermits d.lc j = true)
    (hj : j = .bypass ∨ j = .idcode ∨ j = .sample ∨ j = .highz ∨ (∃ w, j = .extest w) ∨ ∃ w, j = .clamp w) :
    d.jtagRun j = d.jtagSelect j := by
  rw [jtagRun_permitted h]
  rcases hj with rfl | rfl | rfl | rfl | ⟨w, rfl⟩ | ⟨w, rfl⟩ <;> rfl

/-- TEST permits every instruction. -/
theorem jtagPermits_test (j : Jtag) : jtagPermits 0 j = true := by cases j <;> rfl

theorem jtagRun_register {a : Nat} {v : Word} {r : RegRow} {ix : List Nat} (hlc : d.lc = 0) (hrow : rowAt a = some (r, ix)) :
    d.jtagRun (.register a v) = ((d.jtagSelect (.register a v)).writeEntry false
      ⟨a, BitVec.ofNat 32 (r.rw ||| r.lc ||| r.w1c ||| r.act), v⟩).2.1 := by
  rw [jtagRun_permitted (hlc ▸ jtagPermits_test _)]
  simp only [hrow]

theorem jtagRun_memory {id off : Nat} {ws : List Word} (hlc : d.lc = 0) (hrange : memBad id off (4 * ws.length) = false) :
    d.jtagRun (.memory id off ws) = (d.jtagSelect (.memory id off ws)).memPut id (off / 4) ws := by
  rw [jtagRun_permitted (hlc ▸ jtagPermits_test _)]
  simp only [hrange, Bool.false_eq_true, if_false]

end

theorem lcCommit_ready {d : Dev} {cert : Bool} (hlc : d.lc = 0) (hid : d.identityOk cert = true)
    (hcerts : ∀ k, k = 1 ∨ k = 2 ∨ k = 3 → ∃ c ∈ d.sec.certs, c.1 = k) :
    d.lcCommit cert = (d.secUp fun y => { y with store := { y.store with pend := some 1 } }).warmReset 5 := by
  have hall : ([1, 2, 3].all fun k => d.sec.certs.any fun c => c.1 == k) = true := by
    simpa using hcerts
  unfold Dev.lcCommit
  rw [hlc, hall, hid]
  rfl

/-! ## The obligation -/

theorem run_next {s : State} {f : Dev → Dev} {e : Dev} (h : f s.dev = e) : run f s = .next (s.after e) := by
  rw [run_eq, h]

theorem run_whenAwake_next {s : State} {f : Dev → Dev} {e : Dev} (ha : s.dev.awake = true) (h : f s.dev = e) :
    run (whenAwake f) s = .next (s.after e) := by
  rw [run_whenAwake ha, h]

/-- Settles O35: one lemma per branch of each event's change of the device. A bad window's REF_OK and a regained lock
leave CPR alone, so free-run is judged as it stood; the hour's tamper count is the length of the list kept. -/
theorem clockLinkTamperEventsComplete : Obligations.ClockLinkTamperEventsComplete := by
  refine ⟨fun dom dt s => ?_, fun dt s => ?_, fun temps heartbeat s ha => ?_, fun dt s ha => ?_,
    fun type k s ha hforce => ?_, fun j s => ?_, fun cert s hlc hid hcerts => ?_⟩
  · intro d hpor
    refine ⟨?_, ?_⟩
    · show run (fun d => d.clockWindow dom true dt) s = _
      exact run_next (clockWindow_good hpor)
    · intro e f hfirst hcause
      show run (fun d => d.clockWindow dom false dt) s = _
      exact run_next (clockWindow_bad hpor hfirst hcause)
  · intro d
    refine ⟨fun hpor hfree => ?_, fun hfree => ?_, fun ha n hn => ?_, fun ha => ?_, ?_, ?_⟩
    · show run (fun d => d.refLoss dt) s = _
      exact run_next (refLoss_first hpor hfree)
    · show run (fun d => d.refReturn dt) s = _
      exact run_next (refReturn_freeRun hfree)
    · show run (whenAwake fun d => d.sscBegin dt) s = _
      exact run_whenAwake_next ha (sscBegin_adopted hn)
    · have hpor : d.cpr.por = false := ((awake_iff d).1 ((Dev.advance_awake _ _).trans ha)).1
      refine ⟨fun dir => ?_, fun dir hfirst => ?_, fun hlink => ⟨?_, fun dir hsecond => ?_⟩⟩
      · show run (whenAwake fun d => d.d2dWord dir true dt) s = _
        exact run_whenAwake_next ha (d2dWord_good _ _ _)
      · show run (whenAwake fun d => d.d2dWord dir false dt) s = _
        exact run_whenAwake_next ha (d2dWord_bad hfirst)
      · show run (whenAwake fun d => d.d2dSilent dt) s = _
        exact run_whenAwake_next ha (d2dLost_first hpor hlink)
      · show run (whenAwake fun d => d.d2dWord dir false dt) s = _
        exact run_whenAwake_next ha ((d2dWord_bad_again hsecond).trans (d2dLost_first hpor hlink))
    · exact run_eq (fun d => d.analogLoss dt) s
    · exact run_eq (fun d => d.d2dRestored dt) s
  · show run (whenAwake (Dev.managementTick temps heartbeat)) s = _
    exact run_whenAwake_next ha (managementTick_eq temps heartbeat s.dev)
  · have hadv : (s.dev.advance dt).awake = true := (Dev.advance_awake _ _).trans ha
    refine ⟨?_, ?_, ?_, ?_⟩
    · show run (fun d => d.supplyGlitch dt) s = _
      exact run_next (tamperReset_awake hadv 0)
    · show run (fun d => d.clockGlitch dt) s = _
      exact run_next (tamperReset_awake hadv 1)
    · show run (fun d => d.shieldCheck true dt) s = _
      exact run_next (shieldCheck_good _ _)
    · show run (fun d => d.shieldCheck false dt) s = _
      exact run_next (shieldCheck_bad ha _)
  · intro words v hweek habove hroom
    show run (whenAwake fun d => d.rollbackRaise type) s = _
    exact run_whenAwake_next ha (rollbackRaise_due hforce hweek habove hroom)
  · refine ⟨fun hno n hpins hfirst => ?_, fun hno hpins => ?_, fun hok hj => ?_, fun hlc => ⟨?_, ?_, ?_, ?_⟩⟩
    · show run (Dev.jtagRun j) s = _
      exact run_next (jtagRun_blocked hno hpins hfirst)
    · show run (Dev.jtagRun j) s = _
      exact run_next (jtagRun_bypassed hno hpins)
    · show run (Dev.jtagRun j) s = _
      exact run_next (jtagRun_selects hok hj)
    · rintro l rfl
      show run (Dev.jtagRun (.certs l)) s = _
      exact run_next (jtagRun_permitted (hlc ▸ jtagPermits_test _))
    · rintro off bytes rfl
      show run (Dev.jtagRun (.otp off bytes)) s = _
      exact run_next (jtagRun_permitted (hlc ▸ jtagPermits_test _))
    · rintro a v r ix rfl hrow
      show run (Dev.jtagRun (.register a v)) s = _
      exact run_next (jtagRun_register hlc hrow)
    · rintro id off ws rfl hrange
      show run (Dev.jtagRun (.memory id off ws)) s = _
      exact run_next (jtagRun_memory hlc hrange)
  · show run (Dev.lcCommit cert) s = _
    exact run_next (lcCommit_ready hlc hid hcerts)

end Sys2Proof.Machine
end

section
/-! PROOFS. The obligations of 02_angle_timebase.md: the accumulator and the events of the angle clock. -/
namespace Sys2Proof.Machine

/-! ## The accumulator (R41) -/

theorem Dev.advance_phase {d : Dev} (h : d.cpr.rows.testBit 3 = true) (n : Nat) :
    (d.advance n).time.phase = d.time.phase + n * d.get F.ANG_INC := by
  unfold Dev.advance
  split
  next hn => simp [hn]
  next => rfl

theorem Dev.advance_phase_succ {d : Dev} (h : d.cpr.rows.testBit 3 = true) (n : Nat) :
    (d.advance (n + 1)).time.phase = ((d.advance n).advance 1).time.phase := by
  have hn : (d.advance n).cpr.rows.testBit 3 = true := by rw [Dev.advance_cpr]; exact h
  rw [Dev.advance_phase h, Dev.advance_phase hn, Dev.advance_phase h, Dev.advance_get, Nat.succ_mul, one_mul, Nat.add_assoc]

theorem Dev.theta_eq_bits (d : Dev) : d.theta = d.time.phase % 2 ^ 48 / 2 ^ 16 := by
  rw [Dev.theta]
  omega

/-- Settles O48: a clock adds ANG_INC, so n clocks add n times it. -/
theorem commonAngleAccumulator : Obligations.CommonAngleAccumulator := by
  refine ⟨fun d n h => ⟨?_, Dev.advance_now d n, Dev.advance_phase_succ h n, ?_⟩,
    fun d => ⟨Dev.theta_eq_bits d, Nat.mod_lt _ (by decide)⟩, rfl, by decide, by decide⟩
  · rw [Dev.advance_phase h, Nat.mod_add_mod]
  · rw [Dev.advance_phase h, Nat.add_sub_cancel_left, Nat.mul_div_cancel_left _ (Nat.two_pow_pos 48)]

/-! ## A pending snap (R59, R62) -/

section Snap
variable {d : Dev} (hlock : d.angLock ≤ 1) (hsrc : d.angSrc ≠ 1) (hboundary : d.snapBoundary = true)
  (hafter : d.ang.snapAfter < d.frameTarget)
include hlock hsrc hboundary hafter

theorem snapNow_announced {n : Int} (hsnap : d.ang.snap = some (.announced n)) :
    d.snapNow = (d.toPhase d.frameTarget).snapBy n := by
  simp [Dev.snapNow, hlock, hsrc, hboundary, hafter, hsnap]

theorem snapNow_measured {e : Int} (hsnap : d.ang.snap = some (.measured e)) :
    d.snapNow = (d.toPhase d.frameTarget).snapBy (rneDiv e d.snapUnit) := by
  simp [Dev.snapNow, hlock, hsrc, hboundary, hafter, hsnap]

omit hsrc in
theorem snapNow_ofPll (hsnap : d.ang.snap = some .now) (hpll : d.angSrc = 0) (hcrown : d.get F.FLU_STATUS_ROLE ≠ 2)
    (hstarted : d.ang.started = true) :
    d.snapNow = (d.toPhase d.frameTarget).snapBy (rneDiv (d.toPhase d.frameTarget).followError (d.snapUnit * 65536)) := by
  simp [Dev.snapNow, hlock, hpll, hboundary, hafter, hsnap, hcrown, hstarted]

end Snap

theorem angSnap_apart {d : Dev} (h : d.time.nextSample * (2 ^ 48 / d.S) ≠ d.frameTarget) : d.angSnap = d.snapNow := if_neg h

/-! ## Holdover and the source (R56, R63) -/

theorem holdExpired_due {d : Dev} (hlock : d.angLock = 2) (hmax : d.get F.ANG_HOLD_HOLD_MAX ≠ 0)
    (hcyc : d.get F.ANG_HOLD_HOLD_MAX ≤ d.get F.ANG_STATUS_HOLD_CYC) (honce : d.ang.expired = false) :
    d.holdExpired = (d.angUp fun a => { a with expired := true }).raise 0x0208 := by
  simp [Dev.holdExpired, hlock, hmax, hcyc, honce]

/-- The device with the selected source in ANG_STATUS, nothing left of the judgement of the old one, and no snap pending. -/
def Dev.sourceTaken (d : Dev) : Dev :=
  ((d.put F.ANG_STATUS_SRC (d.get F.ANG_SRC_SEL)).angUp fun a => { a with
    lossCnt := 0, lockCnt := 0, loss := false, form := none, grpMiss := 0, grpBig := 0 }).setSnap none

/-- The same in ACQUIRE, its first judgement to come. -/
def Dev.sourceAcquired (d : Dev) : Dev := (d.sourceTaken.angUp fun a => { a with first := true }).setLock 1

section Source
variable {d : Dev} (hdiff : d.get F.ANG_SRC_SEL ≠ d.angSrc) (hcounted : d.ang.cycAt = d.time.now)
include hdiff hcounted

theorem srcChange_form (hsel : d.get F.ANG_SRC_SEL = 1) :
    d.srcChange = (d.sourceTaken.setLock (if d.sourceTaken.fbx.active.isSome then 0 else 3)).raise 0x0207 := by
  rw [hsel] at hdiff
  simp [Dev.srcChange, Dev.sourceTaken, Dev.now, hdiff, hcounted, hsel]

theorem srcChange_follow (hvalid : d.get F.ANG_SRC_SEL ≠ 3) (hsel : d.get F.ANG_SRC_SEL ≠ 1) :
    d.srcChange = (if d.sourceAcquired.stopped then d.sourceAcquired.setSnap (some .now) else d.sourceAcquired).raise 0x0207 := by
  unfold Dev.sourceAcquired Dev.sourceTaken
  simp [Dev.srcChange, Dev.now, hdiff, hcounted, hvalid, hsel]

end Source

/-! ## Crossings of angle zero (R61) -/

/-- A line cycle by what its crossing answers. The definition is unfolded as a function: the kernel, asked to compare one of
its values with the match it stands for, would evaluate the crossing. -/
theorem lineCycle_of_crossing {d e : Dev} {counted : Bool} (h : d.angCrossing = (e, counted)) :
    d.lineCycle = if counted then e.drBoundary.metBoundary.metSettingsAdopt.npCycle.srcChange.gsvBoundary else e := by
  have hdef : Dev.lineCycle = Dev.lineCycle := rfl
  conv at hdef => rhs; delta Dev.lineCycle
  rw [hdef]
  beta_reduce
  rw [h]
  cases counted <;> rfl

/-! ## Phasor reports (R70) -/

@[simp] theorem Dev.toPtp_get (d : Dev) (ns : Nat) (f : Fld) : (d.toPtp ns).get f = d.get f := by
  rw [Dev.toPtp, Dev.advance_get]

/-- The report of a device whose reporting instant has come, at `rate` reports a second: a record (Table 2-5) for the ring where
there is room, and the next sequence number. -/
def Dev.phasorTaken (d : Dev) (rate : Nat) : Dev :=
  let i := d.ptpSub * rate / 1000000000
  let ns := i * 1000000000 / rate
  let back := (d.ptpSub - ns) * d.get F.ANG_INC / 2
  let angle := wrap 32 (((d.time.phase : Int) - back) / 65536 - (2 ^ 32 * d.fNom * i / rate : Nat))
  let state := d.get F.ANG_STATUS_SRC + 4 * d.get F.ANG_STATUS_LOCK + 16 * d.get F.ANG_STATUS_FCLAMP + (if d.ptpOk then 32 else 0)
  let bytes := leBytes 4 d.ptpSec ++ leBytes 4 ns ++ leBytes 4 (d.get F.ANG_V1) ++ leBytes 4 angle ++ leBytes 4 (d.get F.ANG_F_MEAS)
    ++ leBytes 4 (d.get F.ANG_ROCOF) ++ leBytes 2 d.ang.phrSeq ++ leBytes 1 state ++ leBytes 1 rate ++ leBytes 4 (d.get F.ANG_CYCLE)
  ((d.ringHold (d.get F.ANG_PHR_CFG_RING) .phasor bytes).getD d).angUp fun a => { a with phrSeq := (a.phrSeq + 1) % 65536 }

/-- The device at its next reporting instant. -/
def Dev.atReport (d : Dev) : Dev := (d.toPtp d.phrNext).angUp fun a => { a with phrAt := some d.phrNext }

/-- Time passing to the reporting instant changes no register. -/
@[simp] theorem Dev.atReport_get (d : Dev) (f : Fld) : d.atReport.get f = d.get f := by
  rw [Dev.atReport, Dev.angUp_get, Dev.toPtp_get]

theorem phasorReport_enabled {d : Dev} (hen : d.flag F.ANG_PHR_CFG_EN = true) :
    d.phasorReport = d.atReport.phasorTaken (phrRate (d.get F.ANG_PHR_CFG_RATE)) := by
  unfold Dev.phasorReport Dev.phasorTaken Dev.atReport
  rw [hen, if_neg (by decide)]

/-! ## The events of the angle clock -/

theorem run_whenPaced_next {s : State} {f : Dev → Dev} {e : Dev} (hk : s.dev.kindling 6 = true) (h : f s.dev = e) :
    run (whenPaced f) s = .next (s.after e) := by
  rw [run_whenPaced hk, h]

/-- Settles O23: each event is its operation in a paced device; time passing to a reporting instant keeps its rate. -/
theorem angleEventsComplete : Obligations.AngleEventsComplete := by
  refine ⟨fun bits s hk => ?_, fun s hk hlock hsrc hboundary => ?_, fun s hk hlock hmax hcyc honce => ?_,
    fun s hk hdiff hvalid hcounted => ?_, fun d s hk => ⟨fun h => ?_, fun h => ?_⟩, fun s hk hen => ?_⟩
  · intro u n d e g f
    show run (whenPaced (Dev.commonSample bits)) s = _
    refine run_whenPaced_next hk ?_
    unfold Dev.commonSample
    with_reducible rfl
  · intro target hafter hapart
    have hsnap {e : Dev} (h : s.dev.snapNow = e) : exec .angSnap s = .next (s.after e) := by
      show run (whenPaced fun d => d.angSnap) s = _
      exact run_whenPaced_next hk ((angSnap_apart hapart).trans h)
    exact ⟨fun n hn => hsnap (snapNow_announced hlock hsrc hboundary hafter hn),
      fun e he => hsnap (snapNow_measured hlock hsrc hboundary hafter he),
      fun hnow hpll hcrown hstarted => hsnap (snapNow_ofPll hlock hboundary hafter hnow hpll hcrown hstarted)⟩
  · show run (whenPaced fun d => d.holdExpired) s = _
    exact run_whenPaced_next hk (holdExpired_due hlock hmax hcyc honce)
  · intro sel d e
    have hchange {t : Dev} (h : s.dev.srcChange = t) : exec .angSrcChange s = .next (s.after t) := by
      show run (whenPaced fun d => d.srcChange) s = _
      exact run_whenPaced_next hk h
    exact ⟨fun hform => hchange (srcChange_form hdiff hcounted hform),
      fun hfollow => hchange (srcChange_follow hdiff hcounted hvalid hfollow)⟩
  · show run (whenPaced fun d => d.lineCycle) s = _
    exact run_whenPaced_next hk ((lineCycle_of_crossing h).trans (if_pos rfl))
  · show run (whenPaced fun d => d.lineCycle) s = _
    exact run_whenPaced_next hk ((lineCycle_of_crossing h).trans (if_neg Bool.false_ne_true))
  · intro d rate i ns back angle state e
    have hrate : phrRate (s.dev.get F.ANG_PHR_CFG_RATE) = rate := congrArg phrRate (Dev.atReport_get s.dev _).symm
    show run (whenPaced fun d => d.phasorReport) s = _
    refine run_whenPaced_next hk ((phasorReport_enabled hen).trans ?_)
    rw [hrate]
    unfold Dev.phasorTaken Dev.atReport
    with_reducible rfl

end Sys2Proof.Machine
end

section
/-! PROOFS. The obligations of 03_firebox_schedule.md: the host commands on image and package slots. -/
namespace Sys2Proof.Machine

/-! ## What the bodies answer -/

section Bodies
variable {h : CmdHdr} {p : List Byte} {d : Dev}

/-- MODE in range, wherever it stands in a payload: 0 carries no angle, 1 the word after it. -/
theorem modeAngle_inRange {o : Nat} (hmode : leAt p o 4 ≤ 1) :
    modeAngle p o = some (if leAt p o 4 = 0 then none else some (leAt p (o + 4) 4)) := by
  obtain hnow | hangle := Nat.le_one_iff_eq_zero_or_eq_one.mp hmode
  · simp [modeAngle, hnow]
  · simp [modeAngle, hangle]

theorem bodyImgStatus_eq :
    bodyImgStatus h p d = d.reply
      (leBytes 1 (d.slotState 0 0) ++ zeros 3 ++ leBytes 4 (d.slot 0 0).version
        ++ (leBytes 1 (d.slotState 0 1) ++ zeros 3 ++ leBytes 4 (d.slot 0 1).version)
        ++ (leBytes 1 (d.slotState 1 0) ++ zeros 3 ++ leBytes 4 (d.slot 1 0).version)
        ++ (leBytes 1 (d.slotState 1 1) ++ zeros 3 ++ leBytes 4 (d.slot 1 1).version)) := by
  simp [bodyImgStatus]

variable (hslot : slotBad p = false) {st : Nat} {pay : List Byte} {e : Dev}
include hslot

theorem bodyImgWrite_ok (hlen : p.length ≤ 1992)
    (hwrite : d.imgWrite (leAt p 0 1) (leAt p 1 1) (leAt p 4 4) (p.drop 8) = (st, e)) :
    bodyImgWrite h p d = { status := st, dev := e } := by
  have hfits : ¬(slotBad p || decide (1984 + 8 < p.length)) = true := by simp [hslot, hlen]
  rw [bodyImgWrite, if_neg hfits, hwrite, ansOf]

theorem bodyImgErase_ok (herase : d.imgErase (leAt p 0 1) (leAt p 1 1) = (st, e)) :
    bodyImgErase h p d = { status := st, dev := e } := by
  rw [bodyImgErase, hslot, herase]
  rfl

theorem bodyImgVerify_valid (hverify : d.slotVerify (leAt p 0 1) (leAt p 1 1) h.sig h.sig2 = (none, e)) :
    bodyImgVerify h p d =
      { status := St.ok, payload := zeros 4 ++ leBytes 4 (e.slot (leAt p 0 1) (leAt p 1 1)).version, dev := e } := by
  rw [bodyImgVerify, hslot, hverify]
  rfl

theorem bodyImgVerify_invalid {r src i : Nat}
    (hverify : d.slotVerify (leAt p 0 1) (leAt p 1 1) h.sig h.sig2 = (some (r, src, i), e)) :
    bodyImgVerify h p d =
      { status := St.imageInvalid
        payload := leBytes 1 r ++ leBytes 1 src ++ leBytes 2 i ++ leBytes 4 (e.slot (leAt p 0 1) (leAt p 1 1)).version
        dev := e } := by
  rw [bodyImgVerify, hslot, hverify]
  rfl

theorem bodyImgActivate_ok (hkind : leAt p 2 1 ≤ 1) (hmode : leAt p 4 4 ≤ 1)
    (hactivate : d.imgActivate (leAt p 0 1) (leAt p 1 1) (leAt p 2 1 == 1)
      (if leAt p 4 4 = 0 then none else some (leAt p 8 4)) = (st, pay, e)) :
    bodyImgActivate h p d = { status := st, payload := pay, dev := e } := by
  have hgood : ¬actBad p = true := by simp [actBad, hslot, hkind, modeAngle_inRange hmode]
  rw [bodyImgActivate, if_neg hgood, modeAngle_inRange hmode, Option.getD_some, hactivate, ansPay]

end Bodies

/-- Settles O10: each command is its own part answered, and each part answers as its operation on the slot does. -/
theorem imageCommandsComplete : Obligations.ImageCommandsComplete := by
  refine ⟨fun h p s hready hslot hlen st e hwrite => ?_,
    fun h p s hready hslot e => ⟨fun hvalid => ?_, fun r src i hinvalid => ?_⟩,
    fun h p s hready hslot hkind hmode st pay e hactivate => ?_, fun h p s hready => ?_,
    fun h p s hready hslot st e herase => ?_⟩
  · show run (Dev.hostCommand 0x30 h p bodyImgWrite grpNone) s = _
    exact run_hostCommand hready grpNone (bodyImgWrite_ok hslot hlen hwrite)
  · show run (Dev.hostCommand 0x31 h p bodyImgVerify grpNone) s = _
    exact run_hostCommand hready grpNone (bodyImgVerify_valid hslot hvalid)
  · show run (Dev.hostCommand 0x31 h p bodyImgVerify grpNone) s = _
    exact run_hostCommand hready grpNone (bodyImgVerify_invalid hslot hinvalid)
  · show run (Dev.hostCommand 0x32 h p bodyImgActivate grpImgActivate) s = _
    exact run_hostCommand hready grpImgActivate (bodyImgActivate_ok hslot hkind hmode hactivate)
  · show run (Dev.hostCommand 0x33 h p bodyImgStatus grpNone) s = _
    exact run_hostCommand hready grpNone bodyImgStatus_eq
  · show run (Dev.hostCommand 0x34 h p bodyImgErase grpNone) s = _
    exact run_hostCommand hready grpNone (bodyImgErase_ok hslot herase)

end Sys2Proof.Machine
end

section
/-! PROOFS. The obligations of 03_firebox_schedule.md: the issue of a slot, the landing of results, the guards and
the scans. -/
namespace Sys2Proof.Machine

/-! ## Issue (R78, R79, R105) -/

section Issue
variable {d : Dev} {i : Nat} {x : Slot}

/-- The device as a slot reads it: its clock has come, what is due by then has landed, and it counts as issued. -/
def Dev.atIssue (d : Dev) (x : Slot) (i : Nat) : Dev :=
  ((d.advanceTo (d.clockAt x.issue)).landUpTo x.issue).fbxUp fun y => { y with issued := y.issued ++ [i] }

/-- A result on its way. -/
def Dev.fly (d : Dev) (fl : Flight) : Dev := d.fbxUp fun y => { y with flight := y.flight ++ [fl] }

theorem issueSlot_eq (d : Dev) (x : Slot) (i : Nat) :
    d.issueSlot x i =
      let b := d.atIssue x i
      if x.unit < 8 then (b.kernelNan x.unit i (b.issueCmp x i).2).fly (b.issueCmp x i).1
      else if x.unit < 10 then (b.kernelNan x.unit i (b.issueXfm x i).2).fly (b.issueXfm x i).1
      else if x.unit < 14 then (b.kernelNan x.unit i (b.issueAlu x i).2).fly (b.issueAlu x i).1
      else if x.unit = 14 then (b.issueMod x i).1.fly (b.issueMod x i).2
      else (b.kernelNan x.unit i (b.issueMpt x i).2).fly (b.issueMpt x i).1 := rfl

theorem issueSlot_cmp (hunit : x.unit < 8) :
    d.issueSlot x i = ((d.atIssue x i).kernelNan x.unit i ((d.atIssue x i).issueCmp x i).2).fly ((d.atIssue x i).issueCmp x i).1 := by
  rw [issueSlot_eq]
  exact if_pos hunit

theorem issueSlot_xfm (hlo : 8 ≤ x.unit) (hhi : x.unit < 10) :
    d.issueSlot x i = ((d.atIssue x i).kernelNan x.unit i ((d.atIssue x i).issueXfm x i).2).fly ((d.atIssue x i).issueXfm x i).1 := by
  rw [issueSlot_eq]
  dsimp only
  rw [if_neg (by omega), if_pos hhi]

theorem issueSlot_alu (hlo : 10 ≤ x.unit) (hhi : x.unit < 14) :
    d.issueSlot x i = ((d.atIssue x i).kernelNan x.unit i ((d.atIssue x i).issueAlu x i).2).fly ((d.atIssue x i).issueAlu x i).1 := by
  rw [issueSlot_eq]
  dsimp only
  rw [if_neg (by omega), if_neg (by omega), if_pos hhi]

theorem issueSlot_mod (hunit : x.unit = 14) :
    d.issueSlot x i = ((d.atIssue x i).issueMod x i).1.fly ((d.atIssue x i).issueMod x i).2 := by
  rw [issueSlot_eq]
  dsimp only
  rw [if_neg (by omega), if_neg (by omega), if_neg (by omega), if_pos hunit]

theorem issueSlot_mpt (hunit : 14 < x.unit) :
    d.issueSlot x i = ((d.atIssue x i).kernelNan x.unit i ((d.atIssue x i).issueMpt x i).2).fly ((d.atIssue x i).issueMpt x i).1 := by
  rw [issueSlot_eq]
  dsimp only
  rw [if_neg (by omega), if_neg (by omega), if_neg (by omega), if_neg (by omega)]

/-- SLOT_ISSUE of a selected slot of the frame in progress, not issued before and with its unit free (R78, R97). -/
theorem slotIssue_free {img : Image} (himg : d.fbx.active = some img) (hslot : img.slots[i]? = some x)
    (hrun : d.fbx.running = true) (hkept : d.fbx.abandoned = false) (hsel : x.selected d.fbx.fcnt = true)
    (hnew : d.fbx.issued.contains i = false) (hfree : d.fbx.unitHeld img.slots x = false) :
    d.slotIssue i = d.issueSlot x i := by
  simp only [Dev.slotIssue, himg, hslot, hrun, hkept, hsel, hnew, hfree, Bool.not_true, Bool.or_self, Bool.false_eq_true, if_false]

end Issue

/-! ## Landing (R79, R85) -/

theorem landSlot_flying {d : Dev} {i : Nat} {f : Flight} (hfly : d.fbx.flight.find? (fun g => g.slot == i) = some f) :
    d.landSlot i = (d.advanceTo (d.clockAt f.lands)).landUpTo f.lands := by
  rw [Dev.landSlot, hfly]

theorem landLeg_flying {d : Dev} {n : Nat} {f : Flight}
    (hfly : d.fbx.flight.find? (fun g => g.legs.any fun l => l.1 == n) = some f) :
    d.landLeg n = (d.advanceTo (d.clockAt f.lands)).landUpTo f.lands := by
  rw [Dev.landLeg, hfly]

/-! ## Overrun (R97, R99) -/

/-- The frame abandoned with the leg sets not landed withheld, its overrun counted. -/
def Dev.overrunCounted (d : Dev) : Dev :=
  (d.fbxUp fun x => { x with
    abandoned := true, flight := x.flight.filter fun f => f.legs.isEmpty, overrun := true }).bump F.FBX_OVR_CNT_CNT

/-- The first overrun noted in OVR_INFO. -/
def Dev.overrunInfo (d : Dev) (cause slot : Nat) : Dev :=
  (((d.put F.FBX_STATUS_OVR 1).put F.FBX_OVR_INFO_SLOT slot).put F.FBX_OVR_INFO_CAUSE cause).put F.FBX_OVR_INFO_FCNT
    (d.fbx.fcnt % 65536)

theorem overrun_first {d : Dev} (hfirst : d.fbx.overrun = false) (cause slot : Nat) :
    d.overrun cause slot =
      (if d.flag F.FBX_STATUS_OVR then d.overrunCounted else d.overrunCounted.overrunInfo cause slot).raise
        0x0101 [cause, slot, d.fbx.fcnt] := by
  show (if d.fbx.overrun = true then _ else
    (if (!d.flag F.FBX_STATUS_OVR) = true then d.overrunCounted.overrunInfo cause slot else d.overrunCounted).raise
      0x0101 [cause, slot, d.fbx.fcnt]) = _
  rw [hfirst, if_neg Bool.false_ne_true]
  cases d.flag F.FBX_STATUS_OVR <;> rfl

theorem fbxOverrun_running {d : Dev} (hactive : d.fbx.active.isSome = true) (hrun : d.fbx.running = true) (cause slot : Nat) :
    d.fbxOverrun cause slot = (d.landUpTo (d.frameClocks d.time.now)).overrun cause slot := by
  rw [Dev.fbxOverrun, hactive, hrun]
  rfl

/-- Settles O22: each event is its operation in a paced device; an issue is its unit's own, an overrun the frame's first. -/
theorem fireboxEventsComplete : Obligations.FireboxEventsComplete := by
  refine ⟨fun i img x s hk himg hslot hrun hkept hsel hnew hfree => ?_, fun i f s hk hfly => ?_, fun n f s hk hfly => ?_,
    fun cause slot s hk hactive hrun => ?_, fun c s hk => ?_⟩
  · intro d
    have hissue {e : Dev} (h : s.dev.issueSlot x i = e) : exec (.slotIssue i) s = .next (s.after e) := by
      show run (whenPaced fun d => d.slotIssue i) s = _
      exact run_whenPaced_next hk ((slotIssue_free himg hslot hrun hkept hsel hnew hfree).trans h)
    exact ⟨fun hcmp => hissue (issueSlot_cmp hcmp), fun hlo hhi => hissue (issueSlot_xfm hlo hhi),
      fun hlo hhi => hissue (issueSlot_alu hlo hhi), fun hmod => hissue (issueSlot_mod hmod), fun hmpt => hissue (issueSlot_mpt hmpt)⟩
  · show run (whenPaced fun d => d.landSlot i) s = _
    exact run_whenPaced_next hk (landSlot_flying hfly)
  · show run (whenPaced fun d => d.landLeg n) s = _
    exact run_whenPaced_next hk (landLeg_flying hfly)
  · intro a hfirst d e
    show run (whenPaced fun d => d.fbxOverrun (cause.val + 1) slot) s = _
    exact run_whenPaced_next hk ((fbxOverrun_running hactive hrun _ _).trans (overrun_first hfirst _ _))
  · show run (whenPaced fun d => d.mpptDue c) s = _
    exact run_whenPaced_next hk rfl

end Sys2Proof.Machine
end

section
/-! PROOFS. The obligations of 05_trace_capture.md: the host commands on trace, capture, rings and events. -/
namespace Sys2Proof.Machine

/-! ## What the bodies answer -/

section Bodies
variable {h : CmdHdr} {p : List Byte} {d : Dev}

/-- A command that acts as one register field answers with the status of writing it, without a payload. -/
theorem writeAs_eq {r : RegEntry} {st i : Nat} {e : Dev} {warm : Bool} (hwrite : d.regWrite false [r] = (st, i, e, warm)) :
    d.writeAs r = { status := st, dev := e } := by
  rw [Dev.writeAs, hwrite]

theorem bodyRingStatus_inRange (hring : leAt p 0 4 ≤ 15) :
    bodyRingStatus h p d = d.reply
      (d.wordBytes (F.RING_HEAD_HEAD.ix (leAt p 0 4)).addr ++ d.wordBytes (F.RING_TAIL_TAIL.ix (leAt p 0 4)).addr
        ++ d.wordBytes (F.RING_STAT_STATE.ix (leAt p 0 4)).addr ++ d.wordBytes (F.HST_RING_RECORDS.ix (leAt p 0 4)).addr) := by
  rw [bodyRingStatus, if_neg (Nat.not_lt.mpr hring)]
  simp only [List.flatMap_cons, List.flatMap_nil, List.append_nil, List.append_assoc]

theorem bodyEventFilter_inRange (hclass : leAt p 0 1 ≤ 3) :
    bodyEventFilter h p d = { d with log := { d.log with filterClass := leAt p 0 1, filterBlocks := leAt p 4 4 } }.done :=
  if_neg (Nat.not_lt.mpr hclass)

end Bodies

/-- Settles O12: each command is its own part answered; a control command's part is one register write, a status
command's part reads its registers. -/
theorem recorderCommandsComplete : Obligations.RecorderCommandsComplete := by
  refine ⟨fun h p s hready st i e w hwrite => ?_, fun h p s hready st i e w hwrite => ?_, fun h p s hready st i e w hwrite => ?_,
    fun h p s hready => ?_, fun h p s hready st i e w hwrite => ?_, fun h p s hready st i e w hwrite => ?_,
    fun h p s hready st i e w hwrite => ?_, fun h p s hready => ?_, fun h p s hready hring => ?_, fun h p s hready hclass => ?_⟩
  · show run (Dev.hostCommand 0x50 h p bodyTraceArm grpNone) s = _
    exact run_hostCommand hready grpNone (writeAs_eq hwrite)
  · show run (Dev.hostCommand 0x51 h p bodyTraceStop grpNone) s = _
    exact run_hostCommand hready grpNone (writeAs_eq hwrite)
  · show run (Dev.hostCommand 0x52 h p bodyTraceForce grpNone) s = _
    exact run_hostCommand hready grpNone (writeAs_eq hwrite)
  · show run (Dev.hostCommand 0x53 h p bodyTraceStatus grpNone) s = _
    exact run_hostCommand hready grpNone rfl
  · show run (Dev.hostCommand 0x54 h p bodyCaptureArm grpNone) s = _
    exact run_hostCommand hready grpNone (writeAs_eq hwrite)
  · show run (Dev.hostCommand 0x55 h p bodyCaptureStop grpNone) s = _
    exact run_hostCommand hready grpNone (writeAs_eq hwrite)
  · show run (Dev.hostCommand 0x56 h p bodyCaptureTrigger (grpAll 0x56 bodyCaptureTrigger)) s = _
    exact run_hostCommand hready _ (writeAs_eq hwrite)
  · show run (Dev.hostCommand 0x57 h p bodyCaptureStatus grpNone) s = _
    exact run_hostCommand hready grpNone rfl
  · show run (Dev.hostCommand 0x58 h p bodyRingStatus grpNone) s = _
    exact run_hostCommand hready grpNone (bodyRingStatus_inRange hring)
  · show run (Dev.hostCommand 0x59 h p bodyEventFilter grpNone) s = _
    exact run_hostCommand hready grpNone (bodyEventFilter_inRange hclass)

end Sys2Proof.Machine
end

section
/-! PROOFS. The obligations of 06_modulator_inputs.md: bits and clocks of the modulator channels, the passes and the single
conversions of the auxiliary converters. -/
namespace Sys2Proof.Machine

/-! ## Manchester violations (R153) -/

/-- A violation counted, its bit replaced with the one before. -/
def Dev.manchCounted (d : Dev) (n : Nat) : Dev :=
  ((d.bump F.SDM_MANCH_CNT).schBit n (d.sch n).raw).schUp n fun c => { c with viol := min ((d.sch n).viol + 1) 8 }

section Manchester
variable {d : Dev} {n : Nat} (hon : d.schOn n = true) (hmode : d.schMode n = 3)
include hon hmode

theorem manchViolation_manch :
    d.manchViolation n = if (d.sch n).viol + 1 = 8 then (d.manchCounted n).sdmClockLoss n else (d.manchCounted n).schShow n := by
  unfold Dev.manchViolation
  rw [hon, hmode]
  rfl

theorem manchViolation_short (hviol : (d.sch n).viol ≠ 7) : d.manchViolation n = (d.manchCounted n).schShow n :=
  (manchViolation_manch hon hmode).trans (if_neg (by omega))

theorem manchViolation_eighth (hviol : (d.sch n).viol = 7) : d.manchViolation n = (d.manchCounted n).sdmClockLoss n :=
  (manchViolation_manch hon hmode).trans (if_pos (by omega))

end Manchester

/-! ## Bits of a channel (R158, R161, R163) -/

theorem Dev.toPhase_eq (d : Dev) (p : Nat) : d.toPhase p = { d with time := (d.toPhase p).time } := by
  unfold Dev.toPhase
  dsimp only
  split
  · rfl
  · exact d.advance_eq _

/-- Time passing to a phase leaves what a channel is enabled for. -/
theorem Dev.toPhase_schOn (d : Dev) (p n : Nat) : (d.toPhase p).schOn n = d.schOn n := by
  rw [Dev.toPhase_eq]
  rfl

theorem Dev.toPhase_f3On (d : Dev) (p n : Nat) : (d.toPhase p).f3On n = d.f3On n := by
  rw [Dev.toPhase_eq]
  rfl

/-- Bits as a channel takes them, oldest first. -/
def Dev.bitsTaken (d : Dev) (n : Nat) (bits : List Bool) : Dev :=
  ((bits.foldl (fun e b => e.schBit n b) d).schUp n fun c => { c with viol := 0 }).schShow n

/-- The device at the PWM clock after which a channel's CLKOUT has sampled the number of bits given. -/
def Dev.bitsSampled (d : Dev) (n k : Nat) : Dev :=
  d.toPhase (((d.sch n).next + k - 1) * d.modUnit + d.get (F.SDM_GRP_DLY.ix (n / 4)) * d.get F.ANG_INC + 1)

/-- Bits as a channel takes them in its group's mode. -/
def Dev.bitsFed (d : Dev) (n : Nat) (bits : List Bool) : Dev :=
  if d.schMode n = 1 then
    ((d.bitsSampled n bits.length).bitsTaken n bits).schUp n fun c => { c with next := (d.sch n).next + bits.length }
  else d.bitsTaken n bits

section Bits
variable {d : Dev} {n : Nat} {bits : List Bool} (hbits : bits ≠ []) (hon : d.schOn n = true ∨ d.f3On n = true)
include hbits hon

theorem bits_monitored : (bits.isEmpty || !(d.schOn n || d.f3On n)) = false := by
  obtain h | h := hon <;> simp [hbits, h]

theorem schBits_monitored : d.schBits n bits = d.bitsTaken n bits := by
  rw [Dev.schBits, bits_monitored hbits hon]
  rfl

theorem schFeed_monitored (hclk : d.schMode n = 1 → d.clkRuns (n / 4) = true) : d.schFeed n bits = d.bitsFed n bits := by
  rw [Dev.schFeed, Dev.bitsFed, bits_monitored hbits hon, if_neg Bool.false_ne_true]
  by_cases hmode : d.schMode n = 1
  · have hsampled : (d.bitsSampled n bits.length).schOn n = true ∨ (d.bitsSampled n bits.length).f3On n = true := by
      rw [Dev.bitsSampled, Dev.toPhase_schOn, Dev.toPhase_f3On]
      exact hon
    rw [if_pos hmode, if_neg (by simp [hmode]), if_neg (by simp [hclk hmode]), ← schBits_monitored hbits hsampled]
    rfl
  · rw [if_neg hmode, if_pos (by simpa using hmode), schBits_monitored hbits hon]

end Bits

/-- The channels that share the clock of channel n. -/
def Dev.clockMates (d : Dev) (n : Nat) : List Nat :=
  if d.schMode n = 3 then [n] else (List.range 4).map fun i => n / 4 * 4 + i

/-- On CLKOUT the clock comes back with the synthesiser in lock (R165). -/
theorem sdmClockBack_locked {d : Dev} {n : Nat} (hlock : d.schMode n = 1 → d.modLost = false) :
    d.sdmClockBack n = (d.clockMates n).foldl (fun e i => e.schUp i fun c => { c with clk := false }) d := by
  unfold Dev.sdmClockBack
  exact if_neg (by simpa using hlock)

/-! ## Passes and single conversions of the converters (R176 to R182) -/

theorem sarTab_addr_ne_satCount {a b : Fld} (ha : a.addr = 0x050100 ∧ a.strides = [4]) (hb : b.addr = 0x050200 ∧ b.strides = [4])
    (x i : Nat) : (sarTab a b x i).addr ≠ F.SAR_SAT_CNT.addr := by
  unfold sarTab Fld.ix
  split
  · simp only [ha]
    show 0x050100 + 4 * i ≠ 0x050028
    omega
  · simp only [hb]
    show 0x050200 + 4 * i ≠ 0x050028
    omega

/-- Counting saturated codes leaves the tables. -/
theorem Dev.sarDest_satCount (d : Dev) (k x i : Nat) : (d.bump F.SAR_SAT_CNT k).sarDest x i = d.sarDest x i :=
  Dev.get_put_other d _ _ (sarTab_addr_ne_satCount ⟨rfl, rfl⟩ ⟨rfl, rfl⟩ x i)

theorem Dev.sarAlign_satCount (d : Dev) (k x i : Nat) : (d.bump F.SAR_SAT_CNT k).sarAlign x i = d.sarAlign x i := by
  unfold Dev.sarAlign Dev.flag
  rw [Dev.bump, Dev.get_put_other d _ _ (sarTab_addr_ne_satCount ⟨rfl, rfl⟩ ⟨rfl, rfl⟩ x i)]

/-- An entry's codes counted where saturated, and their mean in its place of the pass. -/
def Dev.sarEntered (d : Dev) (x i : Nat) (uvs : List Int) : Dev :=
  let ch := d.sarCh x i
  let codes := (List.range (d.sarRepeat x i)).map fun j => sarCode ch (uvs.getD j 0)
  (d.bump F.SAR_SAT_CNT (codes.filter (sarSat ch)).length).sarUp fun y => { y with
    next := upd y.next x fun k => k + 1
    pending := Mem.wr y.pending (64 * x + d.sarDest x i) (sarWord ch (d.sarAlign x i) (sarMean codes)) }

theorem sarConverted_next {d : Dev} {x i : Nat} (hen : d.sarEn x = true) (hpass : d.sar.pass.isSome = true) (hi : i < d.sarLen x)
    (hnext : d.sar.next.getD x 0 = i) (uvs : List Int) :
    d.sarConverted x i uvs =
      (d.advanceTo (5 * (d.sarBegin d.sar.t0 x i + 25 * d.sarRepeat x i))).sarEntered x i uvs := by
  have hdue : ¬(!d.sarEn x || d.sar.pass.isNone || decide (d.sarLen x ≤ i) || d.sar.next.getD x 0 != i) = true := by
    rw [hen, hnext, Option.isNone_eq_false_iff.mpr hpass]
    simp [hi]
  unfold Dev.sarConverted Dev.sarEntered
  rw [if_neg hdue]
  dsimp only
  rw [Dev.sarDest_satCount, Dev.sarAlign_satCount]
  rfl

/-- The pass published in every slot of the enabled converters, and counted. -/
def Dev.sarPublished (d : Dev) : Dev :=
  ((d.sarUp fun y => { y with published := d.sarSlots, pass := none }).wrapInc F.SAR_STATUS_PASSES).put F.SAR_STATUS_STALE 0

theorem sarPublish_through {d : Dev} {k : Nat} (hlink : d.cpr.d2dLost = false) (hthrough : d.sarThrough = true)
    (hpass : d.sar.pass = some k) (a b : Int) :
    d.sarPublish a b =
      (let e := (d.advanceTo (5 * (d.sar.t0 + d.sarSpan + 25))).sarPublished
       if e.plausPass k then e.plausJudge (sarCode 15 a).toNat (sarCode 15 b).toNat else e) := by
  unfold Dev.sarPublish
  rw [hlink, hthrough, hpass]
  rfl

/-- The word of a single conversion delivered in the format its request asked for. -/
def Dev.sarDelivered (d : Dev) (x : Nat) (uv : Int) : Dev :=
  let ch := (d.sar.req.getD x (0, false)).1
  let e := if sarSat ch (sarCode ch uv) then d.bump F.SAR_SAT_CNT else d
  ((e.put (F.SAR_REG_DATA.ix x) (sarWord ch (d.sar.req.getD x (0, false)).2 (sarCode ch uv)).toNat).put (F.SAR_REG_PEND.ix x) 0).put
    (F.SAR_REG_DONE.ix x) 1

theorem sarRegDone_pending {d : Dev} {x edge : Nat} (hpend : d.flag (F.SAR_REG_PEND.ix x) = true) (hedge : d.sarRegEdge x = some edge)
    (uv : Int) : d.sarRegDone x uv = (d.advanceTo (5 * (edge + 25))).sarDelivered x uv := by
  unfold Dev.sarRegDone
  rw [hpend, hedge]
  rfl

/-! ## The obligation -/

/-- Settles O26: each event is its operation in an awake device; the conversions' own are paced. -/
theorem senseEventsComplete : Obligations.SenseEventsComplete := by
  refine ⟨fun n bits s ha => ⟨?_, fun hon hmode hviol => ?_, fun hon hmode hviol => ?_⟩, fun n bits dt s ha hbits => ?_,
    fun x i uvs s hk hen hpass hi hnext => ?_, fun a b k s hk hlink hthrough hpass => ?_, fun x uv edge s ha hpend hedge => ?_,
    fun s ha => ⟨?_, ?_⟩⟩
  · show run (whenAwake fun d => d.sdmFault n true bits) s = _
    exact run_whenAwake ha
  · show run (whenAwake fun d => d.manchViolation n) s = _
    exact run_whenAwake_next ha (manchViolation_short hon hmode hviol)
  · show run (whenAwake fun d => d.manchViolation n) s = _
    have hsat : min ((s.dev.sch n).viol + 1) 8 = 8 := by omega
    rw [← hsat]
    exact run_whenAwake_next ha (manchViolation_eighth hon hmode hviol)
  · intro feed clocked take ready back d
    have hfeed {e : Dev} (h : ready e) : e.schFeed n bits = take e := schFeed_monitored hbits h.1 h.2
    refine ⟨fun h => ?_, fun h hlock => ?_, fun h => ⟨?_, ?_⟩⟩
    · show run (whenAwake fun d => d.sdmFault n false bits) s = _
      exact run_whenAwake_next ha (hfeed h)
    · show run (whenAwake fun d => d.sdmRecovered n bits) s = _
      have hback : s.dev.sdmClockBack n = back := sdmClockBack_locked hlock
      exact run_whenAwake_next ha ((congrArg (fun e => e.schFeed n bits) hback).trans (hfeed h))
    · show run (whenAwake fun d => d.f3Assert n bits dt) s = _
      exact run_whenAwake_next ha (hfeed h)
    · show run (whenAwake fun d => d.f3Deassert n bits dt) s = _
      exact run_whenAwake_next ha (hfeed h)
  · show run (whenPaced fun d => d.sarConverted x i uvs) s = _
    exact run_whenPaced_next hk (sarConverted_next hen hpass hi hnext uvs)
  · show run (whenPaced fun d => d.sarPublish a b) s = _
    exact run_whenPaced_next hk (sarPublish_through hlink hthrough hpass a b)
  · show run (whenAwake fun d => d.sarRegDone x uv) s = _
    exact run_whenAwake_next ha (sarRegDone_pending hpend hedge uv)
  · show run (whenAwake fun d => d.sarRef true) s = _
    exact run_whenAwake ha
  · show run (whenAwake fun d => d.sarRef false) s = _
    exact run_whenAwake ha

end Sys2Proof.Machine
end

section
/-! PROOFS. The obligations of 15_clocks_power_reset.md: the release of power-on reset, and the rows of kindling in their
order. -/
namespace Sys2Proof.Machine

/-! ## Power-on (R151, R355) -/

/-- What the release of power-on reset samples and sets, on a device whose bank has been sensed. -/
def Dev.porReleased (d : Dev) (refMode : Bool) (hostMode : Nat) (bank18 : Bool) : Dev :=
  ((((((d.putB F.CPR_STATUS_REF_MODE refMode).put F.FLU_ROLE_HOST_MODE hostMode).put F.CPR_RST_CAUSE_CAUSE 1).put
    F.CPR_WARM_CNT 0).putB F.SDM_STATUS_BANK (!bank18)).put F.CPR_RAIL_GOOD (if bank18 then 0x7F else 0x6F)).cprUp fun c =>
      { c with por := false, rows := setBit c.rows 1, start := d.time.now }

theorem porRelease_held {d : Dev} (hpor : d.cpr.por = true) (refMode : Bool) (hostMode : Nat) (bank18 still : Bool) (dt : Nat) :
    d.porRelease refMode hostMode bank18 still dt =
      ((((d.advance dt).cprUp fun c => { c with sdm18 := bank18 }).porReleased refMode hostMode bank18).kindleAgain still) := by
  have hadv : (d.advance dt).cpr.por = true := by rw [Dev.advance_cpr, hpor]
  unfold Dev.porRelease Dev.bankSense
  dsimp only
  rw [hadv]
  rfl

/-! ## The rows of kindling (R347, R348, R367) -/

section Rows
variable {d : Dev} {dt : Nat}

theorem refOk_row1 (h : (d.advance dt).kindling 1 = true) : d.refOk dt = ((d.advance dt).put F.CPR_STATUS_REF_OK 1).rowDone 2 :=
  if_pos h

theorem mdllLock_row2 (h : (d.advance dt).kindling 2 = true) (hfree : (d.advance dt).cpr.freeRun = false) :
    d.mdllLock dt =
      (let e := ((d.advance dt).mdllLocked true).rowDone 3
       { e with dmp := { e.dmp with slowOrigin := (d.advance dt).time.now } }) := by
  unfold Dev.mdllLock
  dsimp only
  rw [h, hfree]
  rfl

theorem wipeDone_row3 (h : (d.advance dt).kindling 3 = true) : d.wipeDone dt = (d.advance dt).rowDone 4 := if_pos h

theorem modSynth_row6 (h : (d.advance dt).kindling 6 = true) :
    d.modSynth dt =
      (let e := (((d.advance dt).modLock true).rowDone 7).clkOutputs
       { e with sdm := { e.sdm with ch := e.sdm.ch.mapIdx fun n c => { c with next := e.bitIndex n e.time.phase } } }) := by
  unfold Dev.modSynth
  dsimp only
  rw [h]
  rfl

theorem metKindle_row6 (h : (d.advance dt).kindling 6 = true) (honce : (d.advance dt).cpr.rows.testBit 10 = false) :
    d.metKindle dt = (d.advance dt).metRestore.rowDone 10 := by
  unfold Dev.metKindle
  dsimp only
  rw [h, honce]
  rfl

end Rows

/-! ### Self-test (R367, R509) -/

section SelfTest
variable {d : Dev} {dt : Nat} (h : (d.advance dt).kindling 4 = true)
include h

theorem bistDone_failed (b : Nat) :
    d.bistDone (some b) dt = ((d.advance dt).cprUp fun c => { c with stopped := true }).raise 0x0B06 [b] := by
  unfold Dev.bistDone
  dsimp only
  rw [h]
  rfl

theorem bistDone_passed :
    d.bistDone none dt =
      if 8 ≤ ((d.advance dt).rowDone 5).tamperWindow.length then
        (((d.advance dt).rowDone 5).cprUp fun c => { c with stopped := true }).raise 0x1015
      else (d.advance dt).rowDone 5 := by
  unfold Dev.bistDone
  dsimp only
  rw [h]
  rfl

end SelfTest

/-! ### The configuration store (R368, R512) -/

/-- The recorded words in force, or the values without a valid record. -/
def Dev.storeTaken (d : Dev) (valid : Bool) : Dev :=
  if valid then d.sec.store.words.foldl (fun (e : Dev) (x : Nat × Word) => e.setWord x.1
      ((e.word x.1 &&& ~~~(BitVec.ofNat 32 (cfgMask x.1))) ||| (x.2 &&& BitVec.ofNat 32 (cfgMask x.1)))) d
  else (d.secUp fun y => { y with store :=
      { y.store with valid := false, words := [], img := none, pkg := none, owner := 0, floor := 0 } }).raise 0x0B07

/-- The store's counters shown. -/
def Dev.storeShown (d : Dev) : Dev := (d.put F.HRT_OWNER_CTR d.sec.store.owner).put F.HRT_TIME_FLOOR d.sec.store.floor

/-- SERVICE from OWNED on, where the record or its service word does not check (R512). -/
def Dev.serviceKept (d : Dev) (good : Bool) : Dev :=
  if !good && (d.sec.lc = 2 || d.sec.lc = 3) then
    ((d.secUp fun y => { y with store := { y.store with service := true } }).put F.HRT_LC_STATE 3).raise 0x1017
  else d

theorem storeLoaded_row5 {d : Dev} {dt : Nat} (h : (d.advance dt).kindling 5 = true) (hpend : (d.advance dt).sec.store.pend = none)
    (ok svc : Bool) :
    d.storeLoaded ok svc dt =
      (let a := d.advance dt
       let valid := ok && a.sec.store.valid && !cfgRefused a.sec.store.words
       let g := (a.storeTaken valid).storeShown.serviceKept (valid && svc)
       (g.cfgInForce.ptpStart.pwmStart.profileBegin (g.get F.CPR_SSC_SSC)).rowDone 6) := by
  unfold Dev.storeLoaded
  dsimp only
  rw [h, hpend]
  rfl

/-! ### Hearth (R490, R495) -/

/-- The log's regions repaired and the seed drawn, before the identity is judged. -/
def Dev.hearthRepaired (d : Dev) (k : KindleChecks) : Dev :=
  ((d.repairRegion 0 k.tornNormal).repairRegion 1 k.tornSticky).drawSeed k.health

/-- Whether the identity holds, shown and else raised (R495). -/
def Dev.identityJudged (d : Dev) (cert : Bool) : Dev :=
  let ok := d.identityOk cert
  let f := d.putB F.HRT_LC_IDENT_OK ok
  if ok || f.sec.otp.seed.isNone then f else f.raise 0x1011

/-- A mesh found broken takes the keys (R508). -/
def Dev.meshJudged (d : Dev) : Dev :=
  if d.cpr.mesh then
    ({ d with net := { d.net with ctx := [] }, flu := { d.flu with keyCur := none, keyNext := none } }).raise 0x1016
  else d

/-- The package of kindling in force, or the settings without one; the image of kindling in force. -/
def Dev.packageKindled (d : Dev) : Option Nat → Dev
  | some q => d.pkgForce q
  | none => d.pkgSettings []
def Dev.imageKindled (d : Dev) : Option Nat → Dev
  | some q => d.imageForce q false
  | none => d

theorem hearthKindle_row6 {d : Dev} {k : KindleChecks} {dt : Nat} (h : (d.advance dt).kindling 6 = true)
    (honce : (d.advance dt).cpr.rows.testBit 11 = false) {p i : Option Nat} {a b : Dev}
    (hpkg : (((d.advance dt).hearthRepaired k).identityJudged k.cert).meshJudged.kindleVerify 1 k.sigs = (p, a))
    (himg : (a.packageKindled p).kindleVerify 0 k.sigs = (i, b)) :
    d.hearthKindle k dt = (b.imageKindled i).drawNonce.flueKindle.rowDone 11 := by
  have hparts : d.hearthKindle k dt =
      (let x := (((d.advance dt).hearthRepaired k).identityJudged k.cert).meshJudged.kindleVerify 1 k.sigs
       let y := (x.2.packageKindled x.1).kindleVerify 0 k.sigs
       (y.2.imageKindled y.1).drawNonce.flueKindle.rowDone 11) := by
    unfold Dev.hearthKindle
    dsimp only
    rw [h, honce]
    rfl
  rw [hparts]
  dsimp only
  rw [hpkg, himg]

/-! ### The end of kindling (R366) -/

/-- Kindling's time in microseconds, at its end. -/
def Dev.kindleTime (d : Dev) : Nat := min ((d.time.now - d.cpr.start) / 500) 0xFFFFFFFF

theorem kindleEnd_ready {d : Dev} (h9 : d.kindleRows.kindling 9 = true) (h11 : d.kindleRows.kindling 11 = true)
    (h12 : d.kindleRows.kindling 12 = true) (hgsv : d.kindleRows.gsv = 1) (honce : d.kindleRows.cpr.rows.testBit 13 = false) :
    d.kindleEnd =
      (let k := d.kindleRows
       let e := (k.rowDone 13).put F.CPR_KINDLE_T k.kindleTime
       e.raise 0x0B09 [k.kindleTime, e.get F.CPR_RST_CAUSE_CAUSE]) := by
  have hcause (e : Dev) (t : Nat) : (e.put F.CPR_KINDLE_T t).get F.CPR_RST_CAUSE_CAUSE = e.get F.CPR_RST_CAUSE_CAUSE :=
    Dev.get_put_other e F.CPR_KINDLE_T t (by decide)
  unfold Dev.kindleEnd
  dsimp only
  rw [h9, h11, h12, hgsv, honce, hcause]
  rfl

/-! ## The obligation -/

/-- Settles O32: each event is its operation once time has passed, and each operation its row's branch. -/
theorem powerOnAndKindlingComplete : Obligations.PowerOnAndKindlingComplete := by
  refine ⟨fun bank18 dt s => ?_, fun refMode hostMode bank18 still dt s => ?_, fun dt s => ?_, fun ok svc dt s => ?_,
    fun k dt s => ?_, fun s => ?_⟩
  · intro d e
    show run (fun d => d.aonPower bank18 dt) s = _
    exact run_eq (fun d => d.aonPower bank18 dt) s
  · intro d hpor e
    show run (fun d => d.porRelease refMode hostMode bank18 still dt) s = _
    exact run_next (porRelease_held hpor refMode hostMode bank18 still dt)
  · intro d row
    refine ⟨fun h => ?_, fun h hfree => ?_, fun h => ?_, fun h => ⟨fun b => ?_, fun hfew => ?_, fun hmany => ?_⟩, fun h => ?_,
      fun h honce => ?_⟩
    · show run (fun d => d.refOk dt) s = _
      exact run_next (refOk_row1 h)
    · show run (fun d => d.mdllLock dt) s = _
      exact run_next (mdllLock_row2 h hfree)
    · show run (fun d => d.wipeDone dt) s = _
      exact run_next (wipeDone_row3 h)
    · show run (fun d => d.bistDone (some b.val) dt) s = _
      exact run_next (bistDone_failed h b)
    · show run (fun d => d.bistDone none dt) s = _
      exact run_next ((bistDone_passed h).trans (if_neg (Nat.not_le.mpr hfew)))
    · show run (fun d => d.bistDone none dt) s = _
      exact run_next ((bistDone_passed h).trans (if_pos hmany))
    · show run (fun d => d.modSynth dt) s = _
      exact run_next (modSynth_row6 h)
    · show run (fun d => d.metKindle dt) s = _
      exact run_next (metKindle_row6 h honce)
  · intro d valid h hpend e f g
    show run (fun d => d.storeLoaded ok svc dt) s = _
    exact run_next (storeLoaded_row5 h hpend ok svc)
  · intro d h honce e ok f g m p i a b hpkg himg z
    show run (fun d => d.hearthKindle k dt) s = _
    exact run_next (hearthKindle_row6 h honce hpkg himg)
  · intro d h9 h11 h12 hgsv honce t e
    show run (fun d => d.kindleEnd) s = _
    exact run_next (kindleEnd_ready h9 h11 h12 hgsv honce)

end Sys2Proof.Machine
end

section
/-! PROOFS. The obligations of 08_metering.md: the host commands of metering. -/
namespace Sys2Proof.Machine

/-! ## What the bodies answer -/

/-- The signed record of the snapshot (Table 8-9), over the challenge in the request. -/
def Dev.signedRecord (d : Dev) (p : List Byte) : List Byte :=
  leBytes 4 0x4D5A4C50 ++ leBytes 2 1 ++ leBytes 2 816 ++ d.devId ++ p.take 16
    ++ leBytes 4 (d.get F.MET_SEQ_LO) ++ leBytes 4 (d.get F.MET_SEQ_HI) ++ leBytes 8 d.snapCyc
    ++ leBytes 8 d.met.snapSec ++ leBytes 4 d.met.snapNs ++ leBytes 4 (d.get F.MET_SNAP_FLAGS)
    ++ (List.range 52).flatMap (fun i => leBytes 12 (d.snapReg i))
    ++ leBytes 4 (d.mget F.MET_RATIO_V) ++ leBytes 4 (d.mget F.MET_RATIO_I) ++ leBytes 4 d.pkgVersion
    ++ leBytes 4 (d.get F.MET_MISSED_CNT) ++ leBytes 4 (d.get F.MET_MISSED_MS_LO) ++ leBytes 4 (d.get F.MET_MISSED_MS_HI)

section Bodies
variable {h : CmdHdr} {p : List Byte} {d : Dev}

theorem bodyMeterRecord_identified (hident : d.flag F.HRT_LC_IDENT_OK = true) :
    bodyMeterRecord h p d = d.reply (d.signedRecord p ++ d.sign (d.signedRecord p)) := by
  rw [bodyMeterRecord, hident]
  exact if_neg Bool.false_ne_true

theorem bodyMeterSave_free (hrun : d.met.run = true) (hfree : d.met.saving = none) :
    bodyMeterSave h p d = (d.metWrite (d.metRecord false)).reply (leBytes 8 d.met.seq) := by
  rw [bodyMeterSave, hrun, hfree]
  rfl

end Bodies

/-- Settles O11: each command is its own part answered; METER_RECORD's part signs its record, METER_SAVE's part saves, the
other two read their registers. -/
theorem meterCommandsComplete : Obligations.MeterCommandsComplete := by
  refine ⟨fun h p s hready => ?_, fun h p s hready => ?_, fun h p s hready => ?_, fun h p s hready => ?_⟩
  · intro d hident
    refine ⟨d.signedRecord p, ?_, rfl⟩
    show run (Dev.hostCommand 0x40 h p bodyMeterRecord grpNone) s = _
    exact run_hostCommand hready grpNone (bodyMeterRecord_identified hident)
  · show run (Dev.hostCommand 0x41 h p bodyMeterRead grpNone) s = _
    exact run_hostCommand hready grpNone rfl
  · intro d hrun hfree
    show run (Dev.hostCommand 0x42 h p bodyMeterSave grpNone) s = _
    exact run_hostCommand hready grpNone (bodyMeterSave_free hrun hfree)
  · show run (Dev.hostCommand 0x43 h p bodyPqRead grpNone) s = _
    exact run_hostCommand hready grpNone rfl

end Sys2Proof.Machine
end

section
/-! PROOFS. The obligations of 08_metering.md: snapshots, settings and periodic saves. -/
namespace Sys2Proof.Machine

/-! ## Snapshots (R199 to R202, R204) -/

/-- A closed cycle latched in the snapshot's registers, its flags and duration joined to the profile interval's. -/
def Dev.snapLatched (d : Dev) (c : MetCycle) : Dev :=
  let flags := c.flags ||| (if d.ptpOk then 32 else 0)
  let e := ((d.metRegsOut.put64 F.MET_SNAP_CYC_LO F.MET_SNAP_CYC_HI d.met.cyc).put F.MET_SNAP_FLAGS flags).put F.MET_SNAP_DUR c.dur
  e.metUp fun m => { m with
    closed := none, snap := { c with flags := flags }, snapSec := e.ptpSec, snapNs := e.ptpSub
    profFlags := m.profFlags ||| flags, profDur := m.profDur + c.dur }

/-- A profile record at every N-th cycle of the settings it closed under. -/
def Dev.profileTaken (d : Dev) : Dev :=
  if d.oget F.MET_PROF_CFG_N ≠ 0 ∧ d.met.cyc % d.oget F.MET_PROF_CFG_N = 0 then d.profEnd else d

/-- The interval restarted after the last snapshot under an N that is no longer in force. -/
def Dev.profileRenewed (d : Dev) : Dev :=
  if d.oget F.MET_PROF_CFG_N = d.mget F.MET_PROF_CFG_N then d else d.profRestart

/-- The snapshot kept for a save that has fallen due. -/
def Dev.saveTaken (d : Dev) : Dev :=
  if d.met.due = true then d.metUp fun m => { m with due := false, save := some (d.metRecord false) } else d

theorem metSnapshot_closed {d : Dev} {c : MetCycle} (hclosed : d.met.closed = some c) :
    d.metSnapshot = (d.snapLatched c).profileTaken.profileRenewed.saveTaken := by
  have hdue (e x : Dev) : (if (!e.met.due) = true then e else x) = if e.met.due = true then x else e := by
    cases e.met.due <;> rfl
  unfold Dev.metSnapshot
  simp only [hclosed, hdue, bne_iff_ne, Bool.and_eq_true, beq_iff_eq]
  rfl

/-! ## Metering settings (R202, R223) -/

/-- The settings now in the register file in force, where a cycle is open for the samples it takes only. -/
def Dev.settingsTaken (d : Dev) : Dev :=
  d.metUp fun m => { m with cfg := d.metSettings, cfgPend := false, proc := if m.open_ then m.proc else d.metSettings }

/-- A new N, beside the one before, restarts the profile interval at once where no cycle is open. -/
def Dev.profileRestarted (d : Dev) (oldN : Nat) : Dev :=
  if d.mget F.MET_PROF_CFG_N = oldN ∨ d.met.open_ = true then d else d.profRestart

/-- Metering that the settings turn on opens its first cycle. -/
def Dev.meteringOpened (d : Dev) (oldEn : Nat) : Dev :=
  if d.mget F.MET_CFG_EN = 1 ∧ oldEn ≠ 1 then d.metUp fun m => { m with
    hist := [], dft := [], sums := {}, open_ := false, opening := true, wasBad := false } else d

/-- Without detection no voltage event is shown. -/
def Dev.detectionJudged (d : Dev) : Dev := if d.pqOn then d else d.pqClear

theorem metSettingsAdopt_opening {d : Dev} (hpend : d.met.cfgPend = true) (hrun : d.met.run = true)
    (hcyc : d.ang.cycAt = d.time.now) (hopen : d.met.opening = true ∨ d.mget F.MET_CFG_EN ≠ 1) :
    d.metSettingsAdopt =
      (let e := ((d.pqSettings.settingsTaken.profileRestarted (d.mget F.MET_PROF_CFG_N)).meteringOpened
        (d.mget F.MET_CFG_EN)).detectionJudged
       e.raise 0x0609 [e.pkgVersion]) := by
  have hopening : decide (d.ang.cycAt = d.now ∧ (d.met.opening = true ∨ d.mget F.MET_CFG_EN ≠ 1)) = true :=
    decide_eq_true ⟨hcyc, hopen⟩
  unfold Dev.metSettingsAdopt
  dsimp only
  rw [hpend, hrun, hopening]
  rfl

/-! ## Periodic saves (R204) -/

theorem metPeriodicSave_free {d : Dev} (hrun : d.met.run = true) (hfree : d.met.saving = none) {r : MetSave}
    (hsave : d.met.save = some r) : d.metPeriodicSave = (d.metUp fun m => { m with save := none }).metWrite r := by
  unfold Dev.metPeriodicSave
  rw [hrun, hfree, hsave]
  rfl

theorem metSaveDone_saving {d : Dev} {j : Nat} {r : MetSave} (hsaving : d.met.saving = some (j, r)) (ok : Bool) :
    d.metSaveDone ok =
      (let e := ((d.metUp fun m => { m with saving := none, ring := m.ring.set j (some { r with good := ok }) }).put
        F.MET_STATUS_SAVE_BUSY 0).put F.MET_STATUS_RING_NEXT ((j + 1) % 32)
       if ok then e else e.raise 0x0605) := by
  unfold Dev.metSaveDone
  rw [hsaving]

/-! ## Settings of the grid supervisor (R299) -/

/-- Pending settings written over those in force. -/
def Dev.settingsWritten (d : Dev) (ws : List (Nat × Word)) : Dev := ws.foldl (fun (d : Dev) (x : Nat × Word) => d.setWord x.1 x.2) d

/-- Whether ride-through table t differs between two devices. -/
def tableChanged (old new : Dev) (t : Nat) : Bool :=
  old.word (F.GSV_RT_HYS.ix t).addr != new.word (F.GSV_RT_HYS.ix t).addr
    || (List.range 16).any fun i => old.word (rtFld F.GSV_RT_LEVEL t i).addr != new.word (rtFld F.GSV_RT_LEVEL t i).addr
      || old.word (rtFld F.GSV_RT_TIME t i).addr != new.word (rtFld F.GSV_RT_TIME t i).addr

/-- Nothing pending, and the timers of tables that differ from `old` cleared. -/
def Dev.timersCleared (d old : Dev) : Dev :=
  d.supUp fun g => { g with
    pend := none
    beyond := (List.range 4).map fun t => if tableChanged old d t then 0 else g.beyond.getD t 0
    timer := (List.range 4).map fun t => if tableChanged old d t then List.replicate 16 0 else g.timer.getD t [] }

theorem gsvAdopt_pending {d : Dev} {ws : List (Nat × Word)} (hpend : d.sup.pend = some ws) (hride : d.gsv ≠ 5) (hcease : d.gsv ≠ 6) :
    d.gsvAdopt = (let e := (d.settingsWritten ws).timersCleared d
      e.raise 0x030F [e.pkgVersion]) := by
  unfold Dev.gsvAdopt
  rw [hpend, decide_eq_false hride, decide_eq_false hcease]
  rfl

theorem gsvSettings_atSample {d : Dev} {ws : List (Nat × Word)} (hpend : d.sup.pend = some ws) (hride : d.gsv ≠ 5) (hcease : d.gsv ≠ 6)
    (hnow : d.sup.sampleAt = some d.time.now) : d.gsvSettings = d.gsvAdopt.tablesStep 0 := by
  have hsample : (d.sup.sampleAt != some d.now) = false := bne_eq_false_iff_eq.mpr hnow
  unfold Dev.gsvSettings
  rw [hpend, hsample, decide_eq_false hride, decide_eq_false hcease]
  rfl

/-! ## The obligation -/

/-- Settles O24: each event is its operation, a completed save's in an awake device and the others' in a paced one. -/
theorem meterAndSettingsEventsComplete : Obligations.MeterAndSettingsEventsComplete := by
  refine ⟨fun c s hk hclosed => ?_, fun s hk hpend hrun hcyc hopen => ?_, fun s hk hrun hfree r hsave => ?_,
    fun ok j r s ha hsaving => ?_, fun ws s hk hpend hride hcease hnow => ?_⟩
  · show run (whenPaced fun d => d.metSnapshot) s = _
    exact run_whenPaced_next hk (metSnapshot_closed hclosed)
  · show run (whenPaced fun d => d.metSettingsAdopt) s = _
    exact run_whenPaced_next hk (metSettingsAdopt_opening hpend hrun hcyc hopen)
  · show run (whenPaced fun d => d.metPeriodicSave) s = _
    exact run_whenPaced_next hk (metPeriodicSave_free hrun hfree hsave)
  · show run (whenAwake fun d => d.metSaveDone ok) s = _
    exact run_whenAwake_next ha (metSaveDone_saving hsaving ok)
  · show run (whenPaced fun d => d.gsvSettings) s = _
    refine run_whenPaced_next hk ((gsvSettings_atSample hpend hride hcease hnow).trans ?_)
    rw [gsvAdopt_pending hpend hride hcease]
    rfl

end Sys2Proof.Machine
end

section
/-! PROOFS. The obligations of 15_clocks_power_reset.md: rails, power failure, brownout and the requests of a warm reset. -/
namespace Sys2Proof.Machine

/-! ## Power failure (R358) -/

/-- The power-fail sequence of a source begun. -/
def Dev.powerFailed (d : Dev) (src : Nat) : Dev :=
  let g := ({ d.put F.CPR_STATUS_PFAIL 1 with hrt := { d.hrt with act := none } }.holdUpdate.metEmber)
  ((g.cprUp fun c => { c with failAt := g.time.now, emberAt := g.time.now, asked := none }).bump F.CPR_PFAIL_CNT).raise 0x0B05 [src]

theorem powerFail_first {d : Dev} (ha : d.awake = true) (hfirst : d.flag F.CPR_STATUS_PFAIL = false) (src : Nat) :
    d.powerFail src = d.powerFailed src := by
  obtain ⟨hpor, hwarm, hwaiting⟩ := (awake_iff d).1 ha
  unfold Dev.powerFail
  rw [hpor, hwarm, hwaiting, hfirst]
  rfl

/-! ## Rails (R356) -/

/-- A monitored rail not good; without VDDA the analog die's copy of the comparators is gone (R258). -/
def Dev.railLost (d : Dev) (rail : Nat) : Dev :=
  let e := d.clrIn F.CPR_RAIL_GOOD rail
  if rail = 5 then { e with dmp := { e.dmp with aonCopy := none } } else e

theorem Dev.railLost_cpr (d : Dev) (rail : Nat) : (d.railLost rail).cpr = d.cpr := by
  unfold Dev.railLost
  extract_lets e
  split <;> rfl

/-- The device with a rail's failure shown. -/
def Dev.railFailed (d : Dev) (rail : Nat) : Dev := (d.railLost rail).setIn F.CPR_RAIL_UV rail

theorem Dev.railFailed_awake (d : Dev) (rail : Nat) : (d.railFailed rail).awake = d.awake := by
  rw [Dev.awake, Dev.railFailed, Dev.setIn_cpr, d.railLost_cpr, Dev.awake]

theorem railWatched_eq_true {d : Dev} {rail : Nat} (hbank : rail = 4 → d.cpr.sdm18 = true) : d.railWatched rail = true := by
  by_cases h : rail = 4
  · rw [Dev.railWatched, hbank h, Bool.or_true]
  · rw [Dev.railWatched, bne_iff_ne.mpr h, Bool.true_or]

theorem railFailure_watched {d : Dev} {rail dt : Nat} (haon : rail ≠ 6) (hbank : rail = 4 → d.cpr.sdm18 = true)
    (hpor : d.cpr.por = false) : d.railFailure rail dt = ((d.advance dt).railFailed rail).powerFail rail := by
  have hwatched : (d.advance dt).railWatched rail = true := railWatched_eq_true fun h => (Dev.advance_cpr d dt).symm ▸ hbank h
  have hup : ((d.advance dt).railLost rail).cpr.por = false := by rw [Dev.railLost_cpr, Dev.advance_cpr, hpor]
  unfold Dev.railFailure
  extract_lets a b _ e
  rw [if_neg haon, show a.railWatched rail = true from hwatched, show e.cpr.por = false from hup]
  rfl

theorem railFailure_aon (d : Dev) (dt : Nat) : d.railFailure 6 dt = d.aonFail dt := rfl

theorem railOver_watched {d : Dev} {rail dt : Nat} (hpor : (d.advance dt).cpr.por = false)
    (hbank : rail = 4 → (d.advance dt).cpr.sdm18 = true) :
    d.railOver rail dt = ((d.advance dt).setIn F.CPR_RAIL_OV rail).raise 0x0B04 [rail] := by
  unfold Dev.railOver
  dsimp only
  rw [hpor, railWatched_eq_true hbank]
  rfl

/-! ## PFI (R357) -/

theorem pfiQualified_short {d : Dev} {low dt : Nat} (hshort : low < 125 * d.get F.CPR_PFI_PFI_FILT) :
    d.pfiQualified low dt = d.advance dt := if_pos hshort

theorem pfiQualified_filtered {d : Dev} {low dt : Nat} (hlong : 125 * d.get F.CPR_PFI_PFI_FILT ≤ low) :
    d.pfiQualified low dt = ((d.advance dt).advance (125 * d.get F.CPR_PFI_PFI_FILT)).powerFail 255 := if_neg (Nat.not_lt.mpr hlong)

/-! ## Brownout, watchdogs and the end of the ember write (R205, R359, R364, R365) -/

theorem brownout_over {d : Dev} (hfail : d.flag F.CPR_STATUS_PFAIL = true) (hember : d.met.embering = none) :
    d.brownout =
      (((d.advanceTo (max d.cpr.failAt d.cpr.emberAt + 10 * msec)).railsGood).raise 0x0B0B).warmReset 4 := by
  unfold Dev.brownout
  rw [hfail, hember]
  exact if_neg Bool.false_ne_true

theorem hearthWatchdog_expired {d : Dev} (hbeats : 16 ≤ d.cpr.beats) : d.hearthWatchdog = d.warmReset 3 := if_pos hbeats

theorem hostWdt_expired {d : Dev} (hon : d.cpr.hwdtOn = true) (hcount : d.get F.CPR_HWDT_TIMEOUT ≤ d.cpr.hwdt) :
    d.hostWdt = ((d.cprUp fun c => { c with hwdtOn := false }).put F.CPR_STATUS_HWDT 1).raise 0x0B08 := by
  unfold Dev.hostWdt
  rw [hon, decide_eq_true hcount]
  rfl

/-! ## The obligation -/

/-- Settles O33: each event is its operation once time has passed; a rail's failure and PFI's are one power failure, which in
an awake device that has none yet starts its sequence. -/
theorem powerAndResetEventsComplete : Obligations.PowerAndResetEventsComplete := by
  refine ⟨fun rail dt s ha haon hbank => ?_, fun low dt s ha => ?_, fun rail dt s => ?_, fun dt s => ⟨?_, ?_⟩,
    fun s hfail hember => ?_, fun dt s => ⟨?_, fun still => ?_⟩, fun s hbeats => ?_, fun s ha hon hcount => ?_, fun still dt s => ?_⟩
  · intro d e f hfirst g
    have hawake : f.awake = true := ((s.dev.advance dt).railFailed_awake rail).trans ((Dev.advance_awake _ _).trans ha)
    show run (fun d => d.railFailure rail dt) s = _
    exact run_next ((railFailure_watched haon hbank ((awake_iff _).1 ha).1).trans (powerFail_first hawake hfirst rail))
  · intro filt
    refine ⟨fun hshort => ?_, fun hlong hfirst => ?_⟩
    · show run (fun d => d.pfiQualified low dt) s = _
      exact run_next (pfiQualified_short hshort)
    · intro d g
      have hawake : d.awake = true := (Dev.advance_awake _ _).trans ((Dev.advance_awake _ _).trans ha)
      have hnone : d.flag F.CPR_STATUS_PFAIL = false := (Dev.advance_flag _ _ _).trans ((Dev.advance_flag _ _ _).trans hfirst)
      show run (fun d => d.pfiQualified low dt) s = _
      exact run_next ((pfiQualified_filtered hlong).trans (powerFail_first hawake hnone 255))
  · intro d hpor hbank
    show run (fun d => d.railOver rail dt) s = _
    exact run_next (railOver_watched hpor hbank)
  · exact run_eq (fun d => d.aonFail dt) s
  · show run (fun d => d.railFailure 6 dt) s = _
    exact run_next (railFailure_aon s.dev dt)
  · show run (fun d => d.brownout) s = _
    exact run_next (brownout_over hfail hember)
  · exact run_eq (fun d => d.resetAssert dt) s
  · exact run_eq (fun d => d.resetRelease still dt) s
  · show run (fun d => d.hearthWatchdog) s = _
    exact run_next (hearthWatchdog_expired hbeats)
  · show run (whenAwake fun d => d.hostWdt) s = _
    exact run_whenAwake_next ha (hostWdt_expired hon hcount)
  · exact run_eq (fun d => d.emberComplete still dt) s

end Sys2Proof.Machine
end

section
/-! PROOFS. The obligations of 10_pwm.md: what settling, which drives SYNC_OUT among others, can change. -/
namespace Sys2Proof.Machine

/-! ## Bridges -/

/-- A bridge changed; nothing where there is none of its number. -/
theorem Dev.bridge_bridgeUp_same (d : Dev) (b : Nat) (f : Bridge → Bridge) :
    (d.bridgeUp b f).bridge b = if b < d.gdr.br.length then f (d.bridge b) else d.bridge b := by
  split
  next hlen => exact getD_upd_same d.gdr.br b f {} hlen
  next hlen => simp [Dev.bridgeUp, Dev.bridge, List.getD_eq_getElem?_getD, upd, Nat.le_of_not_lt hlen]

theorem Dev.bridge_bridgeUp_other (d : Dev) {b c : Nat} (f : Bridge → Bridge) (hc : c ≠ b) : (d.bridgeUp b f).bridge c = d.bridge c :=
  getD_upd_other d.gdr.br f {} hc

/-- What settling changes of no bridge: supplies, wire, refresh, the count of discarded words. -/
def Bridge.lasting (x : Bridge) : Bridge :=
  { bad := x.bad, badAt := x.badAt, wire := x.wire, warn := x.warn, low := x.low, extLow := x.extLow, refresh := x.refresh }

/-- The same with the fault state: all but gate commands, the answered lockouts and since when the bridge drives. -/
def Bridge.standing (x : Bridge) : Bridge :=
  { x with cmd := 0, offAt := [], lowOn := [], upTo := 0, lockSeen := 0, driveSince := none }

theorem Bridge.lasting_of_standing {x y : Bridge} (h : x.standing = y.standing) : x.lasting = y.lasting :=
  show x.standing.lasting = y.standing.lasting by rw [h]

/-- All of every bridge but one, of that one what lasts. -/
def keepBeside (b c : Nat) (x : Bridge) : Bridge := if c = b then x.lasting else x

theorem keepBeside_same (b : Nat) (x : Bridge) : keepBeside b b x = x.lasting := if_pos rfl

theorem keepBeside_other {b c : Nat} (h : c ≠ b) (x : Bridge) : keepBeside b c x = x := if_neg h

theorem lasting_of_keepBeside {b c : Nat} {x y : Bridge} (h : keepBeside b c x = keepBeside b c y) : x.lasting = y.lasting := by
  by_cases hc : c = b
  · rwa [hc, keepBeside_same, keepBeside_same] at h
  · rw [keepBeside_other hc, keepBeside_other hc] at h
    rw [h]

/-- New gate commands are no part of what stands of a bridge. -/
theorem Bridge.standing_foldl_command (x : Bridge) (cmd : Nat → Nat) (ts : List Nat) :
    (ts.foldl (fun x e => x.command e (cmd e)) x).standing = x.standing := by
  induction ts generalizing x with
  | nil => rfl
  | cons t ts ih => exact ih (x.command t (cmd t))

/-! ## What settling changes of the device -/

/-- From `d` to `e` nothing has changed but what settling can change: of the registers, beside those of events, only those of
`ws`; of each bridge nothing that `keep` shows. -/
structure SettledWithin (ws : List Nat) (keep : Nat → Bridge → Bridge) (d e : Dev) : Prop where
  parts : e = d.settledFrom e
  words : ∀ a, a ∉ raiseWords → a ∉ ws → e.word a = d.word a
  bridges : ∀ b, keep b (e.bridge b) = keep b (d.bridge b)

namespace SettledWithin
variable {ws vs : List Nat} {keep view : Nat → Bridge → Bridge}

theorem refl (d : Dev) : SettledWithin ws keep d d := ⟨rfl, fun _ _ _ => rfl, fun _ => rfl⟩

theorem trans {d e g : Dev} (h : SettledWithin ws keep d e) (k : SettledWithin ws keep e g) : SettledWithin ws keep d g where
  parts := by
    have hg := k.parts
    rw [h.parts] at hg
    exact hg
  words a hr ha := (k.words a hr ha).trans (h.words a hr ha)
  bridges b := (k.bridges b).trans (h.bridges b)

/-- More registers may change, and less be shown of the bridges. -/
theorem mono {d e : Dev} (h : SettledWithin ws keep d e) (hws : ws ⊆ vs)
    (hkeep : ∀ b x y, keep b x = keep b y → view b x = view b y) :
    SettledWithin vs view d e :=
  ⟨h.parts, fun a hr ha => h.words a hr fun hmem => ha (hws hmem), fun b => hkeep b _ _ (h.bridges b)⟩

/-- A change of other parts than registers and bridges. -/
theorem of_regs {d e : Dev} (hparts : e = d.settledFrom e) (hregs : e.regs = d.regs) (hgdr : e.gdr = d.gdr) :
    SettledWithin ws keep d e where
  parts := hparts
  words a _ _ := by rw [Dev.word, Dev.word, hregs]
  bridges b := by rw [Dev.bridge, Dev.bridge, hgdr]

theorem of_raised {d e : Dev} (h : OnlyRaised d e) : SettledWithin ws keep d e where
  parts := by
    rw [h.parts]
    rfl
  words a hr _ := h.words a hr
  bridges b := by
    rw [h.parts]
    rfl

theorem put {d e : Dev} (h : SettledWithin ws keep d e) {f : Fld} (hf : f.addr ∈ ws) (v : Nat) : SettledWithin ws keep d (e.put f v) := by
  have hput : SettledWithin ws keep e (e.put f v) :=
    ⟨rfl, fun a _ ha => e.word_put_other f v fun heq => ha (heq ▸ hf), fun _ => rfl⟩
  exact h.trans hput

theorem bridgeUp (d : Dev) (b : Nat) {f : Bridge → Bridge} (hf : ∀ x, keep b (f x) = keep b x) :
    SettledWithin ws keep d (d.bridgeUp b f) where
  parts := rfl
  words _ _ _ := rfl
  bridges c := by
    by_cases hc : c = b
    · subst hc
      rw [Dev.bridge_bridgeUp_same]
      split
      · exact hf _
      · rfl
    · rw [Dev.bridge_bridgeUp_other d f hc]

theorem raise {d e : Dev} (h : SettledWithin ws keep d e) (code : Nat) (items : List Nat) : SettledWithin ws keep d (e.raise code items) :=
  h.trans (.of_raised (raise_onlyRaised e code items))

theorem foldl {α : Type} (f : Dev → α → Dev) (l : List α) (hf : ∀ x ∈ l, ∀ d, SettledWithin ws keep d (f d x)) (d : Dev) :
    SettledWithin ws keep d (l.foldl f d) := by
  induction l generalizing d with
  | nil => exact refl d
  | cons x l ih => exact (hf x (by simp) d).trans (ih (fun y hy => hf y (by simp [hy])) (f d x))

end SettledWithin

/-! ## The words taken by the drivers, and sources -/

section Steps
variable {ws : List Nat} {keep : Nat → Bridge → Bridge}

theorem sourceAssert_within (d : Dev) (i : Nat) : SettledWithin ws keep d (d.sourceAssert i) := by
  unfold Dev.sourceAssert
  extract_lets was _ asserted
  have hasserted : SettledWithin ws keep d asserted := .of_regs rfl rfl rfl
  split
  · exact hasserted.trans (.of_raised (tripWith_onlyRaised (raiseN_onlyRaised 8 (by decide)) asserted _ _ _))
  · exact hasserted

variable {b : Nat} (hkeep : ∀ x y : Bridge, x.standing = y.standing → keep b x = keep b y)
include hkeep

theorem wordsTo_within (d : Dev) (t : Nat) : SettledWithin ws keep d (d.wordsTo b t) := by
  unfold Dev.wordsTo
  extract_lets x from_ ts
  split
  · exact .refl d
  · exact .bridgeUp d b fun x => hkeep _ _ (Bridge.standing_foldl_command x _ ts)

theorem gatesOff_within (d : Dev) : SettledWithin ws keep d (d.gatesOff b) :=
  (wordsTo_within hkeep d _).trans (.bridgeUp _ b fun _ => hkeep _ _ rfl)

end Steps

/-! ## Lockouts (R314) -/

/-- The registers that lockouts of a bridge change beside those of events. -/
def lockWords (b : Nat) : List Nat := [F.GDR_UV_CNT.addr, (F.GDR_FAULT_UV.ix b).addr]

section Lockouts
variable {ws : List Nat} {b : Nat}

theorem keepBeside_standing (x y : Bridge) (h : x.standing = y.standing) : keepBeside b b x = keepBeside b b y := by
  rw [keepBeside_same, keepBeside_same, Bridge.lasting_of_standing h]

/-- A bridge changed in its gates, its fault state or its lockouts. -/
theorem bridgeUp_beside (d : Dev) {f : Bridge → Bridge} (hf : ∀ x, (f x).lasting = x.lasting) :
    SettledWithin ws (keepBeside b) d (d.bridgeUp b f) :=
  .bridgeUp d b fun x => by rw [keepBeside_same, keepBeside_same, hf]

theorem bridgeFault_beside (d : Dev) (legs : Nat) (soft : Bool) : SettledWithin ws (keepBeside b) d (d.bridgeFault b legs soft) := by
  unfold Dev.bridgeFault
  extract_lets x on latch off entered told
  have hentered : SettledWithin ws (keepBeside b) d entered :=
    (gatesOff_within keepBeside_standing d).trans (bridgeUp_beside off fun _ => rfl)
  have htold : SettledWithin ws (keepBeside b) d told := hentered.trans (sourceAssert_within entered _)
  split
  · exact .refl d
  · split
    · exact htold.raise _ _
    · exact htold

theorem causeEvent_beside (d : Dev) (cause ev legs : Nat) : SettledWithin ws (keepBeside b) d (d.causeEvent b cause ev legs) := by
  unfold Dev.causeEvent
  split
  · exact .refl d
  · refine .raise ?_ _ _
    exact bridgeUp_beside d fun _ => rfl

/-- Lockouts of a bridge act on that bridge, with what they count and raise. -/
theorem lockoutJudge_beside (d : Dev) (b : Nat) : SettledWithin (lockWords b) (keepBeside b) d (d.lockoutJudge b) := by
  unfold Dev.lockoutJudge
  extract_lets new seen counted
  have hseen : SettledWithin (lockWords b) (keepBeside b) d seen := bridgeUp_beside d fun _ => rfl
  have hcounted : SettledWithin (lockWords b) (keepBeside b) d counted :=
    (hseen.put (f := F.GDR_UV_CNT) (by simp [lockWords]) _).put (by simp [lockWords]) _
  split
  · exact hseen
  · split
    · exact hcounted.raise _ _
    · refine .trans ?_ (causeEvent_beside _ _ _ _)
      refine .trans ?_ (bridgeUp_beside _ fun _ => rfl)
      exact hcounted.trans (bridgeFault_beside counted new false)

/-- The lockouts of a bridge that are not answered yet. -/
def Dev.lockoutsNew (d : Dev) (b : Nat) : Nat := andNot (d.lockedOut b) (d.bridge b).lockSeen

theorem lockoutJudge_none {d : Dev} (h : d.lockoutsNew b = 0) :
    d.lockoutJudge b = d.bridgeUp b fun x => { x with lockSeen := d.lockedOut b } :=
  if_pos h

/-- Where no lockout of it is new, the fault state of a bridge stays through the lockouts of either. -/
theorem lockoutJudge_standing {d : Dev} {c : Nat} (h : b = c → d.lockoutsNew c = 0) :
    ((d.lockoutJudge c).bridge b).standing = (d.bridge b).standing := by
  by_cases hc : b = c
  · have hup : SettledWithin [] (fun _ => Bridge.standing) d (d.lockoutJudge c) := by
      rw [lockoutJudge_none (h hc)]
      exact .bridgeUp d c fun _ => rfl
    exact hup.bridges b
  · have hother := (lockoutJudge_beside d c).bridges b
    rw [keepBeside_other hc, keepBeside_other hc] at hother
    rw [hother]

/-- The lockouts of one bridge make none of the other. -/
theorem lockoutJudge_lockoutsNew (d : Dev) : (d.lockoutJudge 0).lockoutsNew 1 = d.lockoutsNew 1 := by
  have hjudged := lockoutJudge_beside d 0
  have hbridge : (d.lockoutJudge 0).bridge 1 = d.bridge 1 := hjudged.bridges 1
  have hget {f : Fld} (hr : f.addr ∉ raiseWords) (hw : f.addr ∉ lockWords 0) : (d.lockoutJudge 0).get f = d.get f := by
    rw [Dev.get, Dev.get, hjudged.words f.addr hr hw]
  have hkindled : (d.lockoutJudge 0).kindled = d.kindled := by
    rw [Dev.kindled, Dev.kindled, hget (f := F.CPR_STATUS_STEP) (by decide) (by decide)]
  have hsource : (d.lockoutJudge 0).hsSource 1 = d.hsSource 1 := by
    rw [Dev.hsSource, Dev.hsSource, hget (f := F.GDR_CFG_HS_SRC.ix 1) (by decide) (by decide), hkindled]
  simp only [Dev.lockoutsNew, Dev.lockedOut, hbridge, hsource]

theorem lockouts_standing {d : Dev} (h : d.lockoutsNew b = 0) : (d.lockouts.bridge b).standing = (d.bridge b).standing := by
  have hfirst : ((d.lockoutJudge 0).bridge b).standing = (d.bridge b).standing := lockoutJudge_standing fun hb => hb ▸ h
  exact (lockoutJudge_standing fun hb => (lockoutJudge_lockoutsNew d).trans (hb ▸ h)).trans hfirst

theorem lockouts_within (d : Dev) : SettledWithin settleWords (fun _ => Bridge.lasting) d d.lockouts := by
  have hjudge (c : Nat) (hc : lockWords c ⊆ settleWords) (d : Dev) :
      SettledWithin settleWords (fun _ => Bridge.lasting) d (d.lockoutJudge c) :=
    (lockoutJudge_beside d c).mono hc fun _ _ _ => lasting_of_keepBeside
  exact (hjudge 0 (by decide) d).trans (hjudge 1 (by decide) _)

end Lockouts

/-! ## The pulse driven and frames that leave their queues (R249, R379) -/

section Frames
variable {ws : List Nat} {keep : Nat → Bridge → Bridge}

theorem gridSync_eq (d : Dev) : ∃ grid out, d.gridSync = d.pwmUp fun p => { p with grid := grid, syncOut := out } := by
  unfold Dev.gridSync Dev.driveSync
  extract_lets j gr width
  split
  · exact ⟨d.pwm.grid, d.pwm.syncOut, rfl⟩
  · split
    · exact ⟨_, _, rfl⟩
    · split
      · exact ⟨_, _, rfl⟩
      · exact ⟨j, d.pwm.syncOut, rfl⟩

theorem gridSync_within (d : Dev) : SettledWithin ws keep d d.gridSync := by
  obtain ⟨grid, out, h⟩ := gridSync_eq d
  rw [h]
  exact .of_regs rfl rfl rfl

theorem netDrain_within (d : Dev) (p n : Nat) : SettledWithin ws keep d (d.netDrain p n) := by
  induction n generalizing d with
  | zero => exact .refl d
  | succ n ih =>
    rw [Dev.netDrain]
    split
    next => exact .refl d
    next e _ =>
      extract_lets t e' o
      split
      · exact .refl d
      · refine .trans ?_ (ih _)
        exact .of_regs rfl rfl rfl

theorem netDrains_within (d : Dev) : SettledWithin ws keep d d.netDrains := .foldl _ _ (fun p _ d => netDrain_within d p _) d

theorem flueDrain_within (d : Dev) (l n : Nat) : SettledWithin ws keep d (d.flueDrain l n) := by
  induction n generalizing d with
  | zero => exact .refl d
  | succ n ih =>
    rw [Dev.flueDrain]
    split
    next => exact .refl d
    next e _ =>
      extract_lets t
      split
      next => exact .refl d
      next u _ =>
        extract_lets till crown
        split
        · exact .refl d
        · refine .trans ?_ (ih _)
          exact .of_regs rfl rfl rfl

theorem flueDrains_within (d : Dev) : SettledWithin ws keep d d.flueDrains := .foldl _ _ (fun l _ d => flueDrain_within d l _) d

end Frames

/-! ## Holds of Draught (R342) -/

/-- What a hold of a Draught channel can change, the fault state of the bridges staying. -/
abbrev DrtWithin (c : Nat) : Dev → Dev → Prop := SettledWithin [(F.DRT_STAT_STATE.ix c).addr] fun _ => Bridge.standing

theorem chUp_within (d : Dev) (c : Nat) (f : DrtCh → DrtCh) : DrtWithin c d (d.chUp c f) := .of_regs rfl rfl rfl

/-- A field of the channel's status word written. -/
theorem drtStat_within {d e : Dev} {c : Nat} (h : DrtWithin c d e) (f : Fld) (hf : f.addr = (F.DRT_STAT_STATE.ix c).addr) (v : Nat) :
    DrtWithin c d (e.put f v) := h.put (List.mem_singleton.mpr hf) v

theorem drtWords_within (d : Dev) (c t : Nat) : DrtWithin c d (d.wordsTo c t) := wordsTo_within (fun _ _ h => h) d t

theorem drtTake_within (d : Dev) (c : Nat) : DrtWithin c d (d.drtTake c) := (drtWords_within d c _).trans (chUp_within _ c _)

theorem drtEnter_within (d : Dev) (c s : Nat) : DrtWithin c d (d.drtEnter c s) := by
  refine .trans ?_ (chUp_within _ c _)
  refine .trans ?_ (drtTake_within _ c)
  exact drtStat_within (drtStat_within (drtWords_within d c d.now) (F.DRT_STAT_STATE.ix c) rfl s) (F.DRT_STAT_DMIN.ix c) rfl 0

theorem drtIdle_within (d : Dev) (c : Nat) : DrtWithin c d (d.drtIdle c) := (drtEnter_within d c 0).trans (chUp_within _ c _)

theorem drtStartObserve_within (d : Dev) (c : Nat) : DrtWithin c d (d.drtStartObserve c) := by
  refine .raise (.trans ?_ (chUp_within _ c _)) _ _
  exact (drtIdle_within d c).trans (drtEnter_within _ c 1)

theorem drtHold_within (d : Dev) (c : Nat) : DrtWithin c d (d.drtHold c) := by
  unfold Dev.drtHold
  extract_lets rows st noted entered shown causes mem left live freed observing
  have hnoted : DrtWithin c d noted := by
    unfold noted
    split
    · exact .refl d
    · exact chUp_within d c _
  have hentered : DrtWithin c d entered := drtStat_within (hnoted.trans (drtIdle_within noted c)) (F.DRT_STAT_STATE.ix c) rfl 7
  have hshown : DrtWithin c d shown :=
    drtStat_within (hentered.trans (chUp_within entered c _)) (F.DRT_STAT_HOLD.ix c) rfl _
  have hleft : DrtWithin c d left := drtStat_within (hnoted.trans (drtIdle_within noted c)) (F.DRT_STAT_HOLD.ix c) rfl 0
  have hfreed : DrtWithin c d freed := hleft.trans (chUp_within left c _)
  have hobserving : DrtWithin c d observing := hfreed.trans (drtStartObserve_within freed c)
  split
  · exact hnoted
  split
  · split
    · exact hnoted
    · exact hshown.raise _ _
  split
  · exact drtStat_within (hnoted.trans (chUp_within noted c _)) (F.DRT_STAT_HOLD.ix c) rfl _
  split
  · exact hfreed
  split
  · split
    · exact hobserving
    · exact hfreed
  split
  · split
    · exact hobserving
    · exact hobserving.trans (drtIdle_within observing c)
  · exact hfreed

/-! ## What follows the lockouts, and settling -/

/-- What settling can change, the fault state of the bridges staying. -/
abbrev SettledCalmly : Dev → Dev → Prop := SettledWithin settleWords fun _ => Bridge.standing

theorem drtHolds_within (d : Dev) : SettledCalmly d d.drtHolds := by
  have hword : ∀ c ∈ [0, 1, 0, 1], [(F.DRT_STAT_STATE.ix c).addr] ⊆ settleWords := by decide +kernel
  exact .foldl Dev.drtHold _ (fun c hc d => (drtHold_within d c).mono (hword c hc) fun _ _ _ h => h) d

theorem ctlFeedback_within (d : Dev) : SettledCalmly d d.ctlFeedback := by
  unfold Dev.ctlFeedback
  extract_lets differs next noted
  have hnoted : SettledCalmly d noted := .of_regs rfl rfl rfl
  exact hnoted.put (by decide) _

theorem flueBase_within (d : Dev) : SettledCalmly d d.flueBase := by
  unfold Dev.flueBase
  split
  · exact .of_regs rfl rfl rfl
  · exact .refl d

theorem rowDone_within (d : Dev) (n : Nat) : SettledCalmly d (d.rowDone n) := .of_regs rfl rfl rfl

theorem kindleRows_within (d : Dev) : SettledCalmly d d.kindleRows := by
  have hrow (n : Nat) (b : Bool) (d : Dev) : SettledCalmly d (if b then d.rowDone n else d) := by
    split
    · exact rowDone_within d n
    · exact .refl d
  exact (hrow 8 _ d).trans ((hrow 9 _ _).trans (hrow 12 _ _))

theorem display_within {l : List View} (hl : ∀ x ∈ l, x.1.addr ∈ settleWords) (d : Dev) : SettledCalmly d (d.display l) :=
  .foldl _ l (fun x hx d => .put (.refl d) (hl x hx) _) d

theorem settledViews_addr (fb : Nat) (src : Nat → Nat) (regenerates : Bool) :
    ∀ x ∈ settledViews fb src regenerates, x.1.addr ∈ settleWords := by
  have hfields : ∀ f ∈ (settledViews 0 (fun _ => 0) regenerates).map Prod.fst, f.addr ∈ settleWords := by cases regenerates <;> decide
  rw [← settledViews_fields fb src] at hfields
  exact fun x hx => hfields x.1 (List.mem_map_of_mem hx)

theorem bridgeRegs_within {b : Nat} (hsep : Separate (bridgeViews b)) (hl : ∀ x ∈ bridgeViews b, x.1.addr ∈ settleWords) (d : Dev) :
    SettledCalmly d (d.bridgeRegs b) := by
  rw [bridgeRegs_eq hsep]
  refine .trans ?_ (display_within hl _)
  exact .bridgeUp d b fun _ => rfl

/-- The status fields, and since when the bridges drive, are the last that settling writes. -/
theorem shownLast_within (d : Dev) : SettledCalmly d d.gdrRegs.drtRegs.views := by
  have hsep := settledViews_separate
  obtain ⟨fb, src, r, hviews⟩ := views_eq (fun fb src r => (hsep fb src r).sublist (List.sublist_append_right _ _)) d.gdrRegs.drtRegs
  have haddr := settledViews_addr fb src r
  simp only [settledViews, List.forall_mem_append] at haddr
  obtain ⟨⟨⟨⟨hbridge0, hbridge1⟩, hdrt0⟩, hdrt1⟩, hlast⟩ := haddr
  have hgdr : SettledCalmly d d.gdrRegs :=
    (bridgeRegs_within ((hsep fb src r).sublist (by simp [settledViews])) hbridge0 d).trans
      (bridgeRegs_within ((hsep fb src r).sublist (by simp [settledViews])) hbridge1 _)
  have hdrt : SettledCalmly d.gdrRegs d.gdrRegs.drtRegs := (display_within hdrt0 _).trans (display_within hdrt1 _)
  rw [hviews]
  exact hgdr.trans (hdrt.trans (display_within hlast _))

/-- What an awake device does first: its lockouts act, and frames leave their queues. -/
def Dev.acted (d : Dev) : Dev := whenAwake (fun d => d.lockouts.netDrains.flueDrains) d.gridSync

theorem settle_after_acted (d : Dev) : SettledCalmly d.acted d.settle := by
  show SettledCalmly d.acted d.acted.drtHolds.holdUpdate.ctlUpdate.ctlFeedback.flueBase.cprRegs.gdrRegs.drtRegs.views
  generalize d.acted = a
  have hheld : SettledCalmly a a.drtHolds.holdUpdate := (drtHolds_within a).trans (.of_raised (holdUpdate_onlyRaised _))
  generalize a.drtHolds.holdUpdate = h at hheld ⊢
  have hclosed : SettledCalmly h h.ctlUpdate := .of_regs rfl rfl rfl
  have hrows : SettledCalmly h h.ctlUpdate.ctlFeedback.flueBase.kindleRows :=
    hclosed.trans ((ctlFeedback_within _).trans ((flueBase_within _).trans (kindleRows_within _)))
  have hstep : SettledCalmly h h.ctlUpdate.ctlFeedback.flueBase.cprRegs := hrows.put (by decide) _
  exact hheld.trans (hstep.trans (shownLast_within _))

theorem acted_within (d : Dev) : SettledWithin settleWords (fun _ => Bridge.lasting) d d.acted := by
  refine (gridSync_within d).trans ?_
  unfold Dev.acted whenAwake
  split
  · exact (lockouts_within _).trans ((netDrains_within _).trans (flueDrains_within _))
  · exact .refl _

/-- The fault state of a bridge stays where the device is held in reset, or no lockout of the bridge is new. -/
theorem acted_standing {d : Dev} {b : Nat} (h : d.awake = false ∨ d.lockoutsNew b = 0) :
    (d.acted.bridge b).standing = (d.bridge b).standing := by
  obtain ⟨grid, out, hsync⟩ := gridSync_eq d
  rw [Dev.acted, hsync]
  generalize he : (d.pwmUp fun p => { p with grid := grid, syncOut := out }) = e
  have hkept : e.awake = d.awake ∧ e.lockoutsNew b = d.lockoutsNew b ∧ e.bridge b = d.bridge b := he ▸ ⟨rfl, rfl, rfl⟩
  obtain ⟨hawake, hnew, hbridge⟩ := hkept
  rw [← hbridge, whenAwake, hawake]
  split
  next hup =>
    have hnone : e.lockoutsNew b = 0 := hnew.trans (h.resolve_left (by simp [hup]))
    have hframes : SettledCalmly e.lockouts e.lockouts.netDrains.flueDrains := (netDrains_within _).trans (flueDrains_within _)
    exact (hframes.bridges b).trans (lockouts_standing hnone)
  next => rfl

theorem settle_within (d : Dev) : SettledWithin settleWords (fun _ => Bridge.lasting) d d.settle :=
  (acted_within d).trans ((settle_after_acted d).mono (fun _ h => h) fun _ _ _ => Bridge.lasting_of_standing)

theorem settle_standing {d : Dev} {b : Nat} (h : d.awake = false ∨ d.lockoutsNew b = 0) :
    (d.settle.bridge b).standing = (d.bridge b).standing :=
  ((settle_after_acted d).bridges b).trans (acted_standing h)

/-- Settles O60: every step of settling changes only what it may, and of the fault state of a bridge only lockouts do. -/
theorem settlingChangesOnly : Obligations.SettlingChangesOnly := by
  intro d
  have hsettle := settle_within d
  refine ⟨hsettle.parts, fun b => ?_, hsettle.words⟩
  intro x y
  have hlasting {α : Type} (field : Bridge → α) : field x.lasting = field y.lasting := congrArg field (hsettle.bridges b)
  refine ⟨hlasting Bridge.bad, hlasting Bridge.badAt, hlasting Bridge.wire, hlasting Bridge.warn, hlasting Bridge.low,
    hlasting Bridge.extLow, hlasting Bridge.refresh, fun hcalm => ?_⟩
  have hstanding {α : Type} (field : Bridge → α) : field x.standing = field y.standing := congrArg field (settle_standing hcalm)
  exact ⟨hstanding Bridge.wait, hstanding Bridge.latched, hstanding Bridge.soft, hstanding Bridge.joinTo, hstanding Bridge.raised,
    hstanding Bridge.scLegs, hstanding Bridge.ocLegs, hstanding Bridge.uvLegs⟩

end Sys2Proof.Machine
end

section
/-! PROOFS. The obligations of 10_pwm.md: carriers, measured exchanges, delay lines and the synchronisation chain. -/
namespace Sys2Proof.Machine

/-! ## Half-carriers (R238) -/

/-- The reload at a half-carrier where HALF is 1: time passes to it, and each leg takes its set there. -/
theorem halfReload_on {d : Dev} (hhalf : d.flag F.PWM_CFG_HALF = true) :
    d.halfReload =
      (let u := 2 ^ 48 / d.C
       let off := d.phi48 + u / 2
       let j := d.seriesIndex u off d.time.nextHalf
       let a := d.toPhase (j * u + off)
       let b := { a with time := { a.time with nextHalf := j + 1 } }
       let late := b.dueFrame ((2 * j + 1) * b.S % (2 * b.C) == 0) ((2 * j + 1) * b.S / (2 * b.C))
       let h : Int := b.nowTaps - b.fineTaps (j * u + off) - b.pwm.crossing
       (List.range 12).foldl (fun e n => e.legHalf n b.pwm.period h late) b) := by
  unfold Dev.halfReload
  rw [hhalf]
  rfl

/-! ## Measured exchanges (R243, R244) -/

/-- The exchange of leg n that began with edge `e` has its transition: it is seen, and no longer missing. -/
def Dev.exchangeSeen (d : Dev) (n : Nat) (up : Bool) (e : PwmEdge) : Dev :=
  d.legUp n fun l => { l with
    seenAB := if up then l.seenAB else some e.tap
    seenBA := if up then some e.tap else l.seenBA
    miss := 0, clean := min 64 (l.clean + 1), fault := l.fault && decide (l.clean + 1 < 64) }

/-- The time that the transition took stands in the leg and in its registers, with whether it is past DT_MAX. -/
def Dev.exchangeTimed (d : Dev) (n : Nat) (up : Bool) (tr : Nat) (past : Bool) : Dev :=
  let d := d.legUp n fun l => if up then { l with trBA := some tr, overBA := past } else { l with trAB := some tr, overAB := past }
  if up then (d.put (F.PWM_TDC_T_BA.ix n) tr).put (F.PWM_TDC_VALID_BA.ix n) 1
  else (d.put (F.PWM_TDC_T_AB.ix n) tr).put (F.PWM_TDC_VALID_AB.ix n) 1

/-- The transition that first answers an exchange, before its incoming edge, measures it; the first past DT_MAX is an event. -/
theorem vswTransition_measures {d a : Dev} {n dt : Nat} {rising up : Bool} {t : Int} {e : PwmEdge} (hnow : d.advance (dt / 128) = a)
    (ht : d.nowTaps + dt = t) (hup : (rising != a.flag (F.PWM_LEG_CFG_VSW_INV.ix n)) = up) (hadapts : a.adapts n = true)
    (hoff : lastOff a.pwm.edges (if up then 2 * n + 1 else 2 * n) t = some e)
    (hfirst : (if up then (a.leg n).seenBA else (a.leg n).seenAB) ≠ some e.tap) (hearly : t < a.incomingEdge n up e) :
    d.vswTransition n rising dt =
      (let tr := (t - e.ball).toNat
       let past := decide (a.get (F.PWM_DTMAX_DT_MAX.ix n) < tr + a.get (F.PWM_DTADP_MARGIN.ix n))
       let was := if up then (a.leg n).overBA else (a.leg n).overAB
       let g := (a.exchangeSeen n up e).exchangeTimed n up tr past
       if past && !was then g.raise 0x0705 else g) := by
  have hheld : ¬ (!a.adapts n) = true := by simp [hadapts]
  have hanswers : ¬ ((if up then (a.leg n).seenBA else (a.leg n).seenAB) = some e.tap
      || decide (a.incomingEdge n up e + 128000 < t)) = true := by
    simp only [hfirst, decide_false, Bool.false_or, decide_eq_true_eq]
    omega
  unfold Dev.vswTransition
  rw [hnow, ht]
  dsimp only
  rw [if_neg hheld, hup, hoff]
  dsimp only
  rw [if_neg hanswers, if_neg (not_le.mpr hearly)]
  rfl

theorem vswMissing_adapting {d : Dev} {n : Nat} (hadapts : d.adapts n = true) :
    d.vswMissing n =
      (let m := (d.leg n).miss + 1
       let e := d.legUp n fun l => { l with miss := min 8 m, clean := 0, fault := l.fault || decide (8 ≤ m) }
       if m = 8 then (e.bump F.PWM_VSW_CNT).raise 0x0704 [n] else e) := by
  unfold Dev.vswMissing
  rw [hadapts]
  rfl

/-! ## Delay lines (R247) -/

theorem lineStale_due {d a : Dev} {g : Nat} (hdue : d.advanceTo (d.pwm.swapAt.getD g 0 + 4 * msec) = a)
    (honce : a.bitIn F.PWM_STATUS_DL_STALE g = false) : d.lineStale g = (a.setIn F.PWM_STATUS_DL_STALE g).raise 0x0702 [g] := by
  unfold Dev.lineStale
  rw [hdue]
  dsimp only
  rw [honce]
  rfl

theorem lineFail_due {d a : Dev} {g : Nat} (hdue : d.advanceTo (d.pwm.calAt.getD g 0 + 16 * msec) = a)
    (hnone : d.pwm.spare.getD g false = false) (honce : a.bitIn F.PWM_STATUS_DL_FAIL g = false) :
    d.lineFail g = (a.setIn F.PWM_STATUS_DL_FAIL g).raise 0x0703 [g] := by
  unfold Dev.lineFail
  rw [hdue, hnone]
  dsimp only
  rw [honce]
  rfl

/-! ## The synchronisation chain (R249 to R253) -/

/-- A valid pulse noted; one that comes later than a carrier and a half after the last ends the run of good ones. -/
def Dev.pulseNoted (d : Dev) (t : Int) : Dev :=
  let missed := d.pwm.syncAt.any fun x => decide (3 * (d.predictedPeriod : Int) < 2 * (t - x))
  (d.pwmUp fun p => { p with syncAt := some t, syncGood := if missed then 0 else p.syncGood }).put F.PWM_STATUS_SYNC_IN_OK 1

/-- The pulse passed on, where the device does not substitute. -/
def Dev.pulsePassed (d : Dev) (t : Int) (width : Nat) : Dev :=
  if d.flag F.PWM_STATUS_SYNC_SUBST then d else d.pwmUp fun p => { p with syncOut := [(t + 512, width)] }

theorem Dev.pulsePassed_flag (d : Dev) (t : Int) (width : Nat) (f : Fld) : (d.pulsePassed t width).flag f = d.flag f := by
  unfold Dev.pulsePassed
  split <;> rfl

/-- A run of good pulses goes on, and at four of them ends a substitution. -/
def Dev.pulseCounted (d : Dev) : Dev :=
  let f := d.pwmUp fun p => { p with syncGood := min 4 (p.syncGood + 1) }
  if 4 ≤ f.pwm.syncGood then f.put F.PWM_STATUS_SYNC_SUBST 0 else f

theorem Dev.pulseCounted_eq (d : Dev) :
    d.pulseCounted = (let f := d.pwmUp fun p => { p with syncGood := min 4 (p.syncGood + 1) }
      if f.pwm.syncGood = 4 then f.put F.PWM_STATUS_SYNC_SUBST 0 else f) := by
  have hfour : 4 ≤ min 4 (d.pwm.syncGood + 1) ↔ min 4 (d.pwm.syncGood + 1) = 4 := by omega
  exact if_congr hfour rfl rfl

/-- A pulse of 20 to 200 ns at a regenerating device is noted and passed on; then it is judged, or counted in a substitution. -/
theorem syncPulse_valid {d b : Dev} {width dt : Nat} {t : Int} (hnow : d.advance (dt / 128) = b) (ht : d.nowTaps + dt = t)
    (hmin : 20 ≤ width) (hmax : width ≤ 200) (hrole : b.syncRole = 2) :
    d.syncPulse width dt =
      (let e := (b.pulseNoted t).pulsePassed t width
       if e.syncCompares then e.syncJudge t (decide (80 ≤ width))
       else if e.flag F.PWM_STATUS_SYNC_SUBST then e.pulseCounted else e) := by
  have hvalid : ¬ (b.syncRole != 2 || decide (width < 20)) = true := by
    simp only [hrole, bne_self_eq_false, Bool.false_or, decide_eq_true_eq]
    omega
  unfold Dev.syncPulse
  rw [hnow, ht]
  unfold Dev.pulseNoted
  dsimp only
  rw [if_neg hvalid, if_neg (not_lt.mpr hmax)]
  cases b.pwm.syncAt <;> rfl

theorem syncLoss_regenerating {d a : Dev} (hrole : d.syncRole = 2) (hsubst : d.flag F.PWM_STATUS_SYNC_SUBST = false)
    (hnow : (d.pwm.syncAt.elim d fun t => d.advanceTo ((t + 2 * d.predictedPeriod).toNat / 128)) = a) :
    d.syncLoss = ((((a.put F.PWM_STATUS_SYNC_SUBST 1).put F.PWM_STATUS_SYNC_IN_OK 0).bump F.PWM_SYNC_ERR_CNT).pwmUp fun p =>
      { p with syncGood := 0, syncBad := 0 }).raise 0x0706 := by
  have hnone : a.flag F.PWM_STATUS_SYNC_SUBST = false := by
    rw [← hnow, ← hsubst]
    cases d.pwm.syncAt
    · rfl
    · exact Dev.advance_flag d _ _
  have hregenerates : ¬ (d.syncRole != 2) = true := by simp [hrole]
  have hloss : d.syncLoss = (if a.flag F.PWM_STATUS_SYNC_SUBST then a.pwmUp fun p => { p with syncGood := 0 } else
      ((((a.put F.PWM_STATUS_SYNC_SUBST 1).put F.PWM_STATUS_SYNC_IN_OK 0).bump F.PWM_SYNC_ERR_CNT).pwmUp fun p =>
        { p with syncGood := 0, syncBad := 0 }).raise 0x0706) := by
    unfold Dev.syncLoss
    rw [← hnow, if_neg hregenerates]
    cases d.pwm.syncAt <;> rfl
  rw [hloss, hnone]
  rfl

theorem syncMeasured_all {d : Dev} {diffs : List Nat} (hmeas : d.pwm.meas = true) (hall : diffs.length = 64) :
    d.syncMeasured diffs = (let m := (diffs.sum + 32) / 64
      (((d.put F.PWM_SYNC_DLY_D m).put F.PWM_SYNC_DLY_VALID 1).pwmUp fun p => { p with meas := false }).raise 0x0709 [m]) := by
  unfold Dev.syncMeasured
  rw [hmeas, hall]
  rfl

/-- Settles O25: each event is its operation in a paced device; a pulse is noted and passed on before it is judged or counted. -/
theorem pwmEventsComplete : Obligations.PwmEventsComplete := by
  refine ⟨fun s hk => ?_, fun s hk hhalf => ?_, fun n rising dt e s hk => ?_, fun n s hk hadapts => ?_,
    fun g s hk => ⟨?_, ?_, ?_⟩, fun width dt s hk hmin hmax => ?_, fun s hk hrole hsubst => ?_, fun diffs s hk hmeas hall => ?_⟩
  · show run (whenPaced fun d => d.carrierStart) s = _
    refine run_whenPaced_next hk ?_
    unfold Dev.carrierStart Dev.forAll
    with_reducible rfl
  · show run (whenPaced fun d => d.halfReload) s = _
    exact run_whenPaced_next hk (halfReload_on hhalf)
  · intro t d up l tr past hadapts hoff hfirst hearly f g was
    show run (whenPaced fun d => d.vswTransition n rising dt) s = _
    exact run_whenPaced_next hk (vswTransition_measures rfl rfl rfl hadapts hoff hfirst hearly)
  · show run (whenPaced fun d => d.vswMissing n) s = _
    exact run_whenPaced_next hk (vswMissing_adapting hadapts)
  · show run (whenPaced fun d => d.lineCalibrated g) s = _
    exact run_whenPaced hk
  · intro d honce
    show run (whenPaced fun d => d.lineStale g) s = _
    exact run_whenPaced_next hk (lineStale_due rfl honce)
  · intro d hnone honce
    show run (whenPaced fun d => d.lineFail g) s = _
    exact run_whenPaced_next hk (lineFail_due rfl hnone honce)
  · intro t b hrole missed d sub e f
    have hpulse {r : Dev} (h : (if e.syncCompares then e.syncJudge t (decide (80 ≤ width))
        else if e.flag F.PWM_STATUS_SYNC_SUBST then e.pulseCounted else e) = r) : exec (.syncInPulse width dt) s = .next (s.after r) := by
      show run (whenPaced fun d => d.syncPulse width dt) s = _
      exact run_whenPaced_next hk ((syncPulse_valid rfl rfl hmin hmax hrole).trans h)
    have hsub : e.flag F.PWM_STATUS_SYNC_SUBST = sub := Dev.pulsePassed_flag d t width _
    refine ⟨fun hjudged => hpulse (if_pos hjudged), fun halone hon => hpulse ?_, fun halone hon => hpulse ?_⟩
    · rw [halone, hsub, hon]
      rfl
    · rw [halone, hsub, hon]
      exact e.pulseCounted_eq
  · show run (whenPaced fun d => d.syncLoss) s = _
    exact run_whenPaced_next hk (syncLoss_regenerating hrole hsubst rfl)
  · show run (whenPaced fun d => d.syncMeasured diffs) s = _
    exact run_whenPaced_next hk (syncMeasured_all hmeas hall)

end Sys2Proof.Machine
end

section
/-! PROOFS. The obligations of 11_damper.md: which legs and bridges are held off. -/
namespace Sys2Proof.Machine

/-! ## Masks gathered over a list -/

/-- A bit of masks put together is a bit of one of them. -/
theorem testBit_foldl_or {α : Type} (l : List α) (f : α → Nat) (m i : Nat) :
    (l.foldl (fun m x => m ||| f x) m).testBit i = true ↔ m.testBit i = true ∨ ∃ x ∈ l, (f x).testBit i = true := by
  induction l generalizing m with
  | nil => simp
  | cons x l ih => rw [List.foldl_cons, ih, Nat.testBit_or, Bool.or_eq_true, List.exists_mem_cons_iff, or_assoc]

/-- The masks of the groups named, put together. -/
theorem testBit_groupMasks (grps : Nat) (f : Nat → Nat) (i : Nat) :
    ((bitList 8 grps).foldl (fun m g => m ||| f g) 0).testBit i = true ↔
      ∃ g, g < 8 ∧ (f g).testBit i = true ∧ grps.testBit g = true := by
  simp only [testBit_foldl_or, Nat.zero_testBit, Bool.false_eq_true, false_or, mem_bitList]
  exact exists_congr fun g => by tauto

theorem testBit_cycleGroups (d : Dev) (g : Nat) :
    d.cycleGroups.testBit g = true ↔ ∃ l ∈ d.dmp.latches, l.cls = .c ∧ l.grps.testBit g = true := by
  have hmask : d.cycleGroups = d.dmp.latches.foldl (fun m l => m ||| if l.cls = .c then l.grps else 0) 0 := by
    refine List.foldl_ext _ _ 0 fun m l _ => ?_
    split <;> simp
  rw [hmask, testBit_foldl_or]
  simp only [Nat.zero_testBit, Bool.false_eq_true, false_or]
  refine exists_congr fun l => and_congr_right fun _ => ?_
  split <;> simp_all

theorem testBit_latched (d : Dev) (g : Nat) :
    d.latched.testBit g = true ↔ d.dmp.latchA.testBit g = true ∨ d.dmp.holdB.testBit g = true := by
  rw [Dev.latched, Nat.testBit_or, Bool.or_eq_true]

/-! ## Legs and bridges held -/

/-- A power failure or a warm reset holds everything off (R358, R360). -/
def Dev.allHeld (d : Dev) : Bool := d.flag F.CPR_STATUS_PFAIL || d.cpr.warm

/-- The groups of the cessation hold (R282). -/
def Dev.ceaseGroups (d : Dev) : Nat := if d.flag F.GSV_STATUS_HOLD then d.get F.GSV_CFG_CEASE_GRP else 0

theorem heldLegs_eq (d : Dev) :
    d.heldLegs = if d.allHeld then 0xFFF else d.legsOf (d.latched ||| d.cycleGroups ||| d.ceaseGroups) := rfl

theorem heldBridges_eq (d : Dev) :
    d.heldBridges = if d.allHeld then 3 else (bitList 8 d.latched).foldl (fun m g => m ||| d.get (F.DMP_GRP_DRT_MASK.ix g)) 0 := rfl

theorem allHeld_iff (d : Dev) : d.allHeld = true ↔ d.flag F.CPR_STATUS_PFAIL = true ∨ d.cpr.warm = true := by
  rw [Dev.allHeld, Bool.or_eq_true]

theorem testBit_ceaseGroups (d : Dev) (g : Nat) :
    d.ceaseGroups.testBit g = true ↔ d.flag F.GSV_STATUS_HOLD = true ∧ (d.get F.GSV_CFG_CEASE_GRP).testBit g = true := by
  unfold Dev.ceaseGroups
  split <;> simp_all

/-- A leg that is held by no power failure and no warm reset is held by a group. -/
theorem testBit_heldLegs (d : Dev) {n : Nat} (hn : n < 12) :
    d.heldLegs.testBit n = true ↔ d.allHeld = true ∨
      ∃ g, g < 8 ∧ (d.get (F.DMP_GRP_LEG_MASK.ix g)).testBit n = true ∧ (d.latched ||| d.cycleGroups ||| d.ceaseGroups).testBit g = true := by
  have hall : (0xFFF).testBit n = true := (Nat.testBit_two_pow_sub_one 12 n).trans (decide_eq_true hn)
  rw [heldLegs_eq]
  split
  next h => simp [h, hall]
  next h => rw [Dev.legsOf, testBit_groupMasks, or_iff_right h]

theorem testBit_heldBridges (d : Dev) {b : Nat} (hb : b < 2) :
    d.heldBridges.testBit b = true ↔ d.allHeld = true ∨
      ∃ g, g < 8 ∧ (d.get (F.DMP_GRP_DRT_MASK.ix g)).testBit b = true ∧ d.latched.testBit g = true := by
  have hall : (3).testBit b = true := (Nat.testBit_two_pow_sub_one 2 b).trans (decide_eq_true hb)
  rw [heldBridges_eq]
  split
  next h => simp [h, hall]
  next h => rw [testBit_groupMasks, or_iff_right h]

/-- Settles O49: the masks of the groups that hold, bit by bit. -/
theorem whatIsHeldOff : Obligations.WhatIsHeldOff := by
  intro d
  refine ⟨fun n hn => ?_, fun b hb => ?_⟩
  · simp only [testBit_heldLegs d hn, allHeld_iff, or_assoc, Nat.testBit_or, Bool.or_eq_true, testBit_latched, testBit_cycleGroups,
      testBit_ceaseGroups]
  · simp only [testBit_heldBridges d hb, allHeld_iff, or_assoc, testBit_latched]

end Sys2Proof.Machine
end

section
/-! PROOFS. The obligations of 11_damper.md: held outputs stay off. -/
namespace Sys2Proof.Machine

/-! ## What updating the holds does (R262, R267) -/

/-- The legs once those newly held have started their safe sequence. -/
def Dev.legsHeld (d : Dev) : List LegSeq :=
  (List.range 12).map fun n =>
    let s := d.dmp.legs.getD n .free
    if d.heldLegs.testBit n && s == .free then d.startSequence n else s

theorem forceLegs_eq (d : Dev) (l : List Nat) : ∃ edges, d.forAll l Dev.forceLeg = d.pwmUp fun p => { p with edges := edges } := by
  induction l generalizing d with
  | nil => exact ⟨d.pwm.edges, rfl⟩
  | cons n l ih =>
    obtain ⟨edges, h⟩ := ih (d.forceLeg n)
    exact ⟨edges, h⟩

theorem contactorStart_eq (d : Dev) :
    ∃ waits starts, d.contactorStart = d.dmpUp fun x => { x with openWait := waits, opening := starts } := by
  unfold Dev.contactorStart
  generalize bitList 8 d.dmp.openWait = l
  induction l generalizing d with
  | nil => exact ⟨d.dmp.openWait, d.dmp.opening, rfl⟩
  | cons g l ih =>
    rw [List.foldl_cons]
    split
    · exact ih _
    · exact ih d

theorem contactorDue_eq (d : Dev) :
    ∃ left want out, d.contactorDue = d.dmpUp fun x => { x with opening := left, want := want, ctlOut := out } := ⟨_, _, _, rfl⟩

/-- Updating the holds changes the holds, the legs held, their outputs' edges and the contactors that open. -/
theorem holdUpdate_eq (d : Dev) : ∃ edges waits starts want out,
    d.holdUpdate = (d.pwmUp fun p => { p with edges := edges }).dmpUp fun x => { x with
      held := d.heldLegs, legs := d.legsHeld, drtHeld := d.heldBridges
      openWait := waits, opening := starts, want := want, ctlOut := out } := by
  obtain ⟨edges, hforced⟩ := forceLegs_eq d ((bitList 12 d.heldLegs).filter fun n => d.dmp.legs.getD n .free == .free)
  have hset : d.holdUpdate = (Dev.contactorDrop ((d.pwmUp fun p => { p with edges := edges }).dmpUp fun x =>
      { x with held := d.heldLegs, legs := d.legsHeld, drtHeld := d.heldBridges })).contactorStart.contactorDue := by
    unfold Dev.holdUpdate
    dsimp only
    rw [hforced]
    rfl
  obtain ⟨waits, starts, hstart⟩ := contactorStart_eq (Dev.contactorDrop ((d.pwmUp fun p => { p with edges := edges }).dmpUp fun x =>
    { x with held := d.heldLegs, legs := d.legsHeld, drtHeld := d.heldBridges }))
  obtain ⟨left, want, out, hdue⟩ := contactorDue_eq (((d.pwmUp fun p => { p with edges := edges }).dmpUp fun x =>
    { x with held := d.heldLegs, legs := d.legsHeld, drtHeld := d.heldBridges }).contactorDrop.dmpUp fun x =>
      { x with openWait := waits, opening := starts })
  rw [hset, hstart, hdue]
  exact ⟨edges, waits, left, want, out, rfl⟩

theorem startSequence_ne_free (d : Dev) (n : Nat) : d.startSequence n ≠ .free := by
  unfold Dev.startSequence
  split <;> simp

/-- A held leg is in its safe sequence or off (R267). -/
theorem legsHeld_ne_free {d : Dev} {n : Nat} (hn : n < 12) (hheld : d.heldLegs.testBit n = true) : d.legsHeld.getD n .free ≠ .free := by
  have hleg : d.legsHeld.getD n .free =
      if d.heldLegs.testBit n && d.dmp.legs.getD n .free == .free then d.startSequence n else d.dmp.legs.getD n .free := by
    simp [Dev.legsHeld, List.getD_eq_getElem?_getD, hn]
  rw [hleg, hheld, Bool.true_and]
  split
  next => exact startSequence_ne_free d n
  next h => simpa using h

/-! ## Channels under a hold (R342) -/

/-- A channel under a hold is in HELD, showing the lowest row, or in LOST; one in HELD has a hold. -/
def Dev.holdShown (d : Dev) (c : Nat) : Prop :=
  (d.holdRows c ≠ 0 → d.drtState c = 7 ∨ d.drtState c = 8) ∧
    (d.drtState c = 7 → d.holdRows c ≠ 0 ∧ d.get (F.DRT_STAT_HOLD.ix c) = lowestRow (d.holdRows c))

theorem lowestRow_le (m : Nat) : lowestRow m ≤ 5 := by
  unfold lowestRow
  cases h : (List.range 5).find? m.testBit with
  | none => exact Nat.zero_le 5
  | some i => exact List.mem_range.mp (List.mem_of_find?_eq_some h)

/-- Where the fault state of the bridges stays, so do the holds. -/
theorem holdRows_of_within {ws : List Nat} {d e : Dev} (h : SettledWithin ws (fun _ => Bridge.standing) d e) (c : Nat) :
    e.holdRows c = d.holdRows c := by
  have hfield {α : Type} (field : Bridge → α) : field (e.bridge c).standing = field (d.bridge c).standing := congrArg field (h.bridges c)
  have hwire : (e.bridge c).wire = (d.bridge c).wire := hfield Bridge.wire
  have hwait : (e.bridge c).wait = (d.bridge c).wait := hfield Bridge.wait
  have hlatched : (e.bridge c).latched = (d.bridge c).latched := hfield Bridge.latched
  have hlink : e.gdr.linkHold = d.gdr.linkHold := by rw [h.parts]; rfl
  have hvdrv : e.gdr.vdrvLow = d.gdr.vdrvLow := by rw [h.parts]; rfl
  simp only [Dev.holdRows, hwire, hwait, hlatched, hlink, hvdrv]

/-- The status word of a channel stays, and the holds: what is shown stays true. -/
theorem holdShown_of_within {ws : List Nat} {d e : Dev} (h : SettledWithin ws (fun _ => Bridge.standing) d e) {c : Nat}
    (hword : e.word (F.DRT_STAT_STATE.ix c).addr = d.word (F.DRT_STAT_STATE.ix c).addr) (hd : d.holdShown c) : e.holdShown c := by
  have hstate : e.drtState c = d.drtState c := by rw [Dev.drtState, Dev.drtState, Dev.get, Dev.get, hword]
  have hhold : e.get (F.DRT_STAT_HOLD.ix c) = d.get (F.DRT_STAT_HOLD.ix c) := congrArg (fun w => wbits w _ _) hword
  rw [Dev.holdShown, holdRows_of_within h, hstate, hhold]
  exact hd

/-! ### Fields of the status word -/

theorem drtState_put (d : Dev) (c : Nat) {s : Nat} (hs : s < 16) : (d.put (F.DRT_STAT_STATE.ix c) s).drtState c = s :=
  (d.get_put_cut rfl s).trans (Nat.mod_eq_of_lt hs)

theorem drtState_put_hold (d : Dev) (c v : Nat) : (d.put (F.DRT_STAT_HOLD.ix c) v).drtState c = d.drtState c :=
  d.get_put_apart rfl rfl (by simp [Fld.apart, Fld.ix]) v

theorem drtState_put_dmin (d : Dev) (c v : Nat) : (d.put (F.DRT_STAT_DMIN.ix c) v).drtState c = d.drtState c :=
  d.get_put_apart rfl rfl (by simp [Fld.apart, Fld.ix]) v

theorem get_hold_put (d : Dev) (c m : Nat) : (d.put (F.DRT_STAT_HOLD.ix c) (lowestRow m)).get (F.DRT_STAT_HOLD.ix c) = lowestRow m :=
  (d.get_put_cut rfl _).trans (Nat.mod_eq_of_lt (lt_of_le_of_lt (lowestRow_le m) (show 5 < 8 by decide)))

theorem drtState_chUp (d : Dev) (c : Nat) (f : DrtCh → DrtCh) : (d.chUp c f).drtState c = d.drtState c := rfl

theorem drtStat_notRaised {c : Nat} (hc : c < 2) : (F.DRT_STAT_STATE.ix c).addr ∉ raiseWords := by
  have hboth : ∀ c < 2, (F.DRT_STAT_STATE.ix c).addr ∉ raiseWords := by decide
  exact hboth c hc

theorem drtState_raise {c : Nat} (hc : c < 2) (d : Dev) (code : Nat) (items : List Nat) : (d.raise code items).drtState c = d.drtState c :=
  congrArg (fun w => wbits w _ _) ((raise_onlyRaised d code items).words _ (drtStat_notRaised hc))

theorem get_hold_raise {c : Nat} (hc : c < 2) (d : Dev) (code : Nat) (items : List Nat) :
    (d.raise code items).get (F.DRT_STAT_HOLD.ix c) = d.get (F.DRT_STAT_HOLD.ix c) :=
  congrArg (fun w => wbits w _ _) ((raise_onlyRaised d code items).words _ (drtStat_notRaised hc))

theorem wordsTo_regs (d : Dev) (b t : Nat) : (d.wordsTo b t).regs = d.regs := by
  unfold Dev.wordsTo
  dsimp only
  split <;> rfl

theorem drtTake_drtState (d : Dev) (c : Nat) : (d.drtTake c).drtState c = d.drtState c := by
  have hregs : (d.drtTake c).regs = d.regs := wordsTo_regs d c d.now
  rw [Dev.drtState, Dev.drtState, Dev.get, Dev.get, Dev.word, Dev.word, hregs]

theorem drtEnter_drtState (d : Dev) (c : Nat) {s : Nat} (hs : s < 16) : (d.drtEnter c s).drtState c = s := by
  unfold Dev.drtEnter
  rw [drtState_chUp, drtTake_drtState, drtState_put_dmin, drtState_put _ c hs]

theorem drtIdle_drtState (d : Dev) (c : Nat) : (d.drtIdle c).drtState c = 0 := by
  unfold Dev.drtIdle
  rw [drtState_chUp, drtEnter_drtState d c (by decide)]

theorem drtStartObserve_drtState {c : Nat} (hc : c < 2) (d : Dev) : (d.drtStartObserve c).drtState c = 1 := by
  unfold Dev.drtStartObserve
  rw [drtState_raise hc, drtState_chUp, drtEnter_drtState _ c (by decide)]

/-! ### A channel's holds come and go -/

/-- A channel with a hold goes to HELD or stays there, showing the lowest row, unless it is in LOST. -/
theorem drtHold_holding {c : Nat} (hc : c < 2) {d : Dev} (hrows : d.holdRows c ≠ 0) :
    (d.drtHold c).drtState c = 8 ∨
      ((d.drtHold c).drtState c = 7 ∧ (d.drtHold c).get (F.DRT_STAT_HOLD.ix c) = lowestRow (d.holdRows c)) := by
  unfold Dev.drtHold
  extract_lets rows st noted entered shown _ _ _ _ _ _
  have hnoted : noted.drtState c = d.drtState c := by
    unfold noted
    split <;> rfl
  split
  next hlost => exact .inl (hnoted.trans (by simpa [st] using hlost))
  split
  next =>
    rw [if_neg (by simpa using hrows)]
    refine .inr ⟨?_, ?_⟩
    · rw [drtState_raise hc, drtState_put_hold, drtState_chUp]
      exact drtState_put _ c (by decide)
    · rw [get_hold_raise hc]
      exact get_hold_put _ c rows
  next hheld =>
    rw [if_pos (by simpa using hrows)]
    refine .inr ⟨?_, get_hold_put _ c rows⟩
    rw [drtState_put_hold, drtState_chUp, hnoted]
    simpa [st] using hheld

/-- A channel without a hold leaves HELD (R343). -/
theorem drtHold_free {c : Nat} (hc : c < 2) {d : Dev} (hrows : d.holdRows c = 0) : (d.drtHold c).drtState c ≠ 7 := by
  unfold Dev.drtHold
  extract_lets rows st noted _ _ causes mem left live freed observing
  have hnoted : noted.drtState c = d.drtState c := by
    unfold noted
    split <;> rfl
  have hfreed : freed.drtState c = 0 := by
    unfold freed left
    rw [drtState_chUp, drtState_put_hold, drtIdle_drtState]
  have hobserving : observing.drtState c = 1 := drtStartObserve_drtState hc freed
  have hrows0 : rows = 0 := hrows
  split
  next hlost => exact hnoted.trans_ne (by rw [show d.drtState c = 8 by simpa [st] using hlost]; decide)
  split
  next hother =>
    rw [if_pos (by simp [hrows0])]
    exact hnoted.trans_ne (by simpa [st] using hother)
  rw [if_neg (by simp [hrows0])]
  split
  · exact hfreed.trans_ne (by decide)
  split
  · split
    · exact hobserving.trans_ne (by decide)
    · exact hfreed.trans_ne (by decide)
  split
  · split
    · exact hobserving.trans_ne (by decide)
    · exact (drtIdle_drtState observing c).trans_ne (by decide)
  · exact hfreed.trans_ne (by decide)

theorem drtHold_holdShown {c : Nat} (hc : c < 2) (d : Dev) : (d.drtHold c).holdShown c := by
  rw [Dev.holdShown, holdRows_of_within (drtHold_within d c)]
  by_cases hrows : d.holdRows c = 0
  · exact ⟨fun h => absurd hrows h, fun h => absurd h (drtHold_free hc hrows)⟩
  · obtain hlost | ⟨hheld, hrow⟩ := drtHold_holding hc hrows
    · exact ⟨fun _ => .inr hlost, fun h => absurd (hlost.symm.trans h) (by decide)⟩
    · exact ⟨fun _ => .inl hheld, fun _ => ⟨hrows, hrow⟩⟩

/-- The holds of one channel leave what is shown of the other. -/
theorem drtHold_holdShown_other {c k : Nat} (hc : c < 2) (hk : k ≠ c) {d : Dev} (h : d.holdShown c) : (d.drtHold k).holdShown c := by
  have hword : (F.DRT_STAT_STATE.ix c).addr ≠ (F.DRT_STAT_STATE.ix k).addr := by
    show 0x0A0060 + 128 * c ≠ 0x0A0060 + 128 * k
    omega
  exact holdShown_of_within (drtHold_within d k)
    ((drtHold_within d k).words _ (drtStat_notRaised hc) (by simpa using hword)) h

theorem drtHolds_holdShown {c : Nat} (hc : c < 2) (d : Dev) : d.drtHolds.holdShown c := by
  simp only [Dev.drtHolds, Dev.forAll, List.foldl_cons, List.foldl_nil]
  obtain rfl | rfl : c = 0 ∨ c = 1 := by omega
  · exact drtHold_holdShown_other (by decide) (by decide) (drtHold_holdShown (by decide) _)
  · exact drtHold_holdShown (by decide) _

/-! ## What settling does after the holds leaves them -/

/-- The fields that the holds are made of, and those that show a channel's. -/
def holdReads : List Fld :=
  [F.CPR_STATUS_PFAIL, F.GSV_STATUS_HOLD, F.GSV_CFG_CEASE_GRP] ++ (List.range 8).map F.DMP_GRP_LEG_MASK.ix
    ++ (List.range 8).map F.DMP_GRP_DRT_MASK.ix ++ (List.range 2).map F.DRT_STAT_STATE.ix ++ (List.range 2).map F.DRT_STAT_HOLD.ix

theorem holdReads_fit : ∀ g ∈ holdReads, g.fits = true := by decide

/-- From `d` to `e` nothing has changed that the holds are made of, nor what Damper holds, nor what the channels show. -/
structure SameHolds (d e : Dev) : Prop where
  damper : e.dmp = { d.dmp with ctlOut := e.dmp.ctlOut, disagree := e.dmp.disagree }
  warm : e.cpr.warm = d.cpr.warm
  rows : ∀ c, e.holdRows c = d.holdRows c
  reads : ∀ g ∈ holdReads, e.get g = d.get g

namespace SameHolds

theorem refl (d : Dev) : SameHolds d d := ⟨rfl, rfl, fun _ => rfl, fun _ _ => rfl⟩

theorem trans {d e g : Dev} (h : SameHolds d e) (k : SameHolds e g) : SameHolds d g where
  damper := by
    have hg := k.damper
    rw [h.damper] at hg
    exact hg
  warm := k.warm.trans h.warm
  rows c := (k.rows c).trans (h.rows c)
  reads g hg := (k.reads g hg).trans (h.reads g hg)

theorem put (d : Dev) {f : Fld} (hf : f.fits = true) (h : ∀ g ∈ holdReads, g.apart f = true) (v : Nat) : SameHolds d (d.put f v) :=
  ⟨rfl, rfl, fun _ => rfl, fun g hg => d.get_put_apart hf (holdReads_fit g hg) (h g hg) v⟩

/-- A change of other parts than those. -/
theorem of_parts {d e : Dev} (hregs : e.regs = d.regs) (hdmp : e.dmp = { d.dmp with ctlOut := e.dmp.ctlOut, disagree := e.dmp.disagree })
    (hwarm : e.cpr.warm = d.cpr.warm) (hgdr : e.gdr = d.gdr) : SameHolds d e where
  damper := hdmp
  warm := hwarm
  rows c := by rw [Dev.holdRows, Dev.holdRows, Dev.bridge, Dev.bridge, hgdr]
  reads g _ := by rw [Dev.get, Dev.get, Dev.word, Dev.word, hregs]

section Kept
variable {d e : Dev} (h : SameHolds d e)
include h

theorem latched : e.latched = d.latched := by rw [Dev.latched, Dev.latched, h.damper]
theorem cycleGroups : e.cycleGroups = d.cycleGroups := by rw [Dev.cycleGroups, Dev.cycleGroups, h.damper]

theorem flag {g : Fld} (hg : g ∈ holdReads) : e.flag g = d.flag g := by rw [Dev.flag, Dev.flag, h.reads g hg]

theorem legMask {g : Nat} (hg : g < 8) : e.get (F.DMP_GRP_LEG_MASK.ix g) = d.get (F.DMP_GRP_LEG_MASK.ix g) :=
  h.reads _ (by simp only [holdReads, List.append_assoc, List.mem_append, List.mem_map, List.mem_range]; exact .inr (.inl ⟨g, hg, rfl⟩))

theorem drtMask {g : Nat} (hg : g < 8) : e.get (F.DMP_GRP_DRT_MASK.ix g) = d.get (F.DMP_GRP_DRT_MASK.ix g) :=
  h.reads _ (by simp only [holdReads, List.append_assoc, List.mem_append, List.mem_map, List.mem_range]; exact .inr (.inr (.inl ⟨g, hg, rfl⟩)))

theorem allHeld : e.allHeld = d.allHeld := by rw [Dev.allHeld, Dev.allHeld, h.flag (g := F.CPR_STATUS_PFAIL) (by decide), h.warm]

theorem heldLegs : e.heldLegs = d.heldLegs := by
  have hcease : e.ceaseGroups = d.ceaseGroups := by
    rw [Dev.ceaseGroups, Dev.ceaseGroups, h.flag (g := F.GSV_STATUS_HOLD) (by decide), h.reads F.GSV_CFG_CEASE_GRP (by decide)]
  have hlegs (grps : Nat) : e.legsOf grps = d.legsOf grps :=
    List.foldl_ext _ _ 0 fun m g hg => by rw [h.legMask ((mem_bitList 8 grps g).mp hg).1]
  rw [heldLegs_eq, heldLegs_eq, h.allHeld, h.latched, h.cycleGroups, hcease, hlegs]

theorem heldBridges : e.heldBridges = d.heldBridges := by
  rw [heldBridges_eq, heldBridges_eq, h.allHeld, h.latched]
  refine congrArg (ite _ _) (List.foldl_ext _ _ 0 fun m g hg => ?_)
  rw [h.drtMask ((mem_bitList 8 d.latched g).mp hg).1]

theorem holdShown {c : Nat} (hc : c < 2) (hd : d.holdShown c) : e.holdShown c := by
  have hmem : ∀ c < 2, F.DRT_STAT_STATE.ix c ∈ holdReads ∧ F.DRT_STAT_HOLD.ix c ∈ holdReads := by decide
  have hstate : e.drtState c = d.drtState c := h.reads _ (hmem c hc).1
  rw [Dev.holdShown, h.rows, hstate, h.reads _ (hmem c hc).2]
  exact hd

/-- Held outputs that are off stay off. -/
theorem heldOff (hd : d.heldOff) : e.heldOff := by
  obtain ⟨hheld, hdrt, hlegs, hshown⟩ := hd
  unfold Dev.heldOff
  rw [h.heldLegs, h.heldBridges, h.damper]
  exact ⟨hheld, hdrt, hlegs, fun c hc => h.holdShown hc (hshown c hc)⟩

end Kept
end SameHolds

/-! ### Settling, part by part -/

theorem flueBase_sameHolds (d : Dev) : SameHolds d d.flueBase := by
  unfold Dev.flueBase
  split
  · exact .of_parts rfl rfl rfl rfl
  · exact .refl d

theorem kindleRows_sameHolds (d : Dev) : SameHolds d d.kindleRows := by
  have hrow (n : Nat) (b : Bool) (d : Dev) : SameHolds d (if b then d.rowDone n else d) := by
    split
    · exact .of_parts rfl rfl rfl rfl
    · exact .refl d
  exact (hrow 8 _ d).trans ((hrow 9 _ _).trans (hrow 12 _ _))

theorem driven_sameHolds (d : Dev) (b : Nat) : SameHolds d (d.driven b) where
  damper := rfl
  warm := rfl
  rows c := by
    obtain ⟨t, ht⟩ := (driven_sources d b).bridges c
    show _ + _ + _ + _ + _ = _
    rw [ht]
    rfl
  reads _ _ := rfl

theorem holdReads_apart (fb : Nat) (src : Nat → Nat) (regenerates : Bool) :
    ∀ x ∈ settledViews fb src regenerates, ∀ g ∈ holdReads, g.apart x.1 = true := by
  have hfields : ∀ f ∈ (settledViews 0 (fun _ => 0) regenerates).map Prod.fst, ∀ g ∈ holdReads, g.apart f = true := by
    cases regenerates <;> decide +kernel
  rw [← settledViews_fields fb src] at hfields
  exact fun x hx => hfields x.1 (List.mem_map_of_mem hx)

theorem display_sameHolds {l : List View} (hfit : ∀ x ∈ l, x.1.fits = true) (h : ∀ x ∈ l, ∀ g ∈ holdReads, g.apart x.1 = true) (d : Dev) :
    SameHolds d (d.display l) := by
  induction l generalizing d with
  | nil => exact .refl d
  | cons x l ih =>
    exact (SameHolds.put d (hfit x List.mem_cons_self) (h x List.mem_cons_self) _).trans
      (ih (fun y hy => hfit y (List.mem_cons_of_mem x hy)) (fun y hy => h y (List.mem_cons_of_mem x hy)) _)

/-- The views of the bridges, of Draught and of the rest are written in turn. -/
theorem shownLast_eq (d : Dev) : ∃ fb src regenerates,
    d.gdrRegs.drtRegs.views = ((d.driven 0).driven 1).display (settledViews fb src regenerates) := by
  have hsep := settledViews_separate
  obtain ⟨fb, src, r, hviews⟩ := views_eq (fun fb src r => (hsep fb src r).sublist (List.sublist_append_right _ _)) d.gdrRegs.drtRegs
  have h0 : Separate (bridgeViews 0) := (hsep fb src r).sublist (by simp [settledViews])
  have h1 : Separate (bridgeViews 1) := (hsep fb src r).sublist (by simp [settledViews])
  refine ⟨fb, src, r, hviews.trans ?_⟩
  rw [Dev.gdrRegs, bridgeRegs_eq h0, bridgeRegs_eq h1, display_driven h0, Dev.drtRegs, drtRegs1_eq, drtRegs1_eq, settledViews]
  simp only [Dev.display_append]

theorem shownLast_sameHolds (d : Dev) : SameHolds d d.gdrRegs.drtRegs.views := by
  obtain ⟨fb, src, r, hviews⟩ := shownLast_eq d
  rw [hviews]
  exact (driven_sameHolds d 0).trans ((driven_sameHolds _ 1).trans
    (display_sameHolds (settledViews_fit fb src r) (holdReads_apart fb src r) _))

theorem settle_sameHolds (d : Dev) : SameHolds d.acted.drtHolds.holdUpdate d.settle := by
  show SameHolds d.acted.drtHolds.holdUpdate d.acted.drtHolds.holdUpdate.ctlUpdate.ctlFeedback.flueBase.cprRegs.gdrRegs.drtRegs.views
  generalize d.acted.drtHolds.holdUpdate = h
  have hclosed : SameHolds h h.ctlUpdate := .of_parts rfl rfl rfl rfl
  have hfeedback (e : Dev) : SameHolds e e.ctlFeedback :=
    .trans (e := e.dmpUp fun x => { x with disagree := e.ctlFeedback.dmp.disagree }) (.of_parts rfl rfl rfl rfl) (.put _ rfl (by decide) _)
  have hstep (e : Dev) : SameHolds e e.cprRegs := (kindleRows_sameHolds e).trans (.put _ rfl (by decide) _)
  exact hclosed.trans ((hfeedback _).trans ((flueBase_sameHolds _).trans ((hstep _).trans (shownLast_sameHolds _))))

/-! ## Settling leaves held outputs off -/

/-- Updating the holds puts those in force that are called for, and takes each leg among them off. -/
theorem holdUpdate_heldOff {d : Dev} (h : ∀ c, c < 2 → d.holdShown c) : d.holdUpdate.heldOff := by
  obtain ⟨edges, waits, starts, want, out, hupdate⟩ := holdUpdate_eq d
  have hlegs : d.holdUpdate.heldLegs = d.heldLegs := by rw [hupdate]; rfl
  have hbridges : d.holdUpdate.heldBridges = d.heldBridges := by rw [hupdate]; rfl
  have hraised : SettledWithin [] (fun _ => Bridge.standing) d d.holdUpdate := .of_raised (holdUpdate_onlyRaised d)
  unfold Dev.heldOff
  rw [hlegs, hbridges]
  refine ⟨by rw [hupdate]; rfl, by rw [hupdate]; rfl, fun n hn hheld => ?_, fun c hc => ?_⟩
  · rw [hupdate]
    exact legsHeld_ne_free hn hheld
  · exact holdShown_of_within hraised (hraised.words _ (drtStat_notRaised hc) List.not_mem_nil) (h c hc)

theorem settle_heldOff (d : Dev) : d.settle.heldOff :=
  (settle_sameHolds d).heldOff (holdUpdate_heldOff fun _ hc => drtHolds_holdShown hc d.acted)

/-- Settles O50: Draught's holds, then Damper's, are what settling brings about, and nothing after them in settling touches
what they are made of. -/
theorem heldOutputsStayOff : Obligations.HeldOutputsStayOff :=
  ⟨fun _ _ _ h => settled_of_exec settle_heldOff h, fun _ _ hs h => settled_of_step settle_heldOff hs h⟩

end Sys2Proof.Machine
end

section
/-! PROOFS. The obligations of 11_damper.md: routed events latch their groups. -/
namespace Sys2Proof.Machine

/-! ## Class and groups of an event (R263, R264) -/

/-- An override entry that is enabled names the event. -/
def Dev.overrideNames (d : Dev) (code i : Nat) : Bool := d.flag (F.DMP_EVT_OVR_EN.ix i) && d.get (F.DMP_EVT_OVR_CODE.ix i) == code

/-- The class and groups that an event has by default. -/
def Dev.defaultRoute (d : Dev) (code : Nat) : TripClass × Nat := (defaultClass code, d.get (F.DMP_BLK_GRP.ix (code / 256 - 1)))

/-- The class and groups that an override entry gives. -/
def Dev.overrideRoute (d : Dev) (i : Nat) : TripClass × Nat :=
  (TripClass.ofNum (d.get (F.DMP_EVT_OVR_CLASS.ix i)), d.get (F.DMP_EVT_OVR_GRP.ix i))

theorem overrideNames_iff (d : Dev) (code i : Nat) :
    d.overrideNames code i = true ↔ d.flag (F.DMP_EVT_OVR_EN.ix i) = true ∧ d.get (F.DMP_EVT_OVR_CODE.ix i) = code := by
  rw [Dev.overrideNames, Bool.and_eq_true, beq_iff_eq]

theorem overrideOf_eq (d : Dev) (code : Nat) : d.overrideOf code = (List.range 64).find? (d.overrideNames code) := rfl

theorem resolve_eq (d : Dev) (code : Nat) :
    d.resolve code = if code ∈ fixedEvents then d.defaultRoute code else (d.overrideOf code).elim (d.defaultRoute code) d.overrideRoute := by
  unfold Dev.resolve
  simp only [List.contains_iff_mem]
  cases d.overrideOf code <;> rfl

theorem overrideOf_none {d : Dev} {code : Nat} (h : ∀ i, i < 64 → d.overrideNames code i ≠ true) : d.overrideOf code = none :=
  List.find?_eq_none.mpr fun i hi => h i (List.mem_range.mp hi)

/-- The lowest entry that names the event is the one in force. -/
theorem overrideOf_lowest {d : Dev} {code i : Nat} (hi : i < 64) (hnames : d.overrideNames code i = true)
    (hlower : ∀ j, j < i → d.overrideNames code j ≠ true) : d.overrideOf code = some i := by
  rw [overrideOf_eq]
  exact List.find?_range_eq_some.mpr ⟨hnames, List.mem_range.mpr hi, fun j hj => by simpa using hlower j hj⟩

theorem resolve_fixed {d : Dev} {code : Nat} (h : code ∈ fixedEvents) : d.resolve code = d.defaultRoute code := by
  rw [resolve_eq, if_pos h]

theorem resolve_default {d : Dev} {code : Nat} (h : ∀ i, i < 64 → d.overrideNames code i ≠ true) : d.resolve code = d.defaultRoute code := by
  rw [resolve_eq, overrideOf_none h]
  exact ite_self _

theorem resolve_override {d : Dev} {code i : Nat} (hfree : code ∉ fixedEvents) (hi : i < 64) (hnames : d.overrideNames code i = true)
    (hlower : ∀ j, j < i → d.overrideNames code j ≠ true) : d.resolve code = d.overrideRoute i := by
  rw [resolve_eq, if_neg hfree, overrideOf_lowest hi hnames hlower]
  rfl

/-! ### Setting the event's flag leaves them -/

/-- An event of no block has no flag. -/
theorem evtFlag_of_no_block {code : Nat} (h : 16 < code / 256) (ctl : Nat) : evtFlag code ctl = none := by
  unfold evtFlag
  dsimp only
  split
  all_goals try omega
  rfl

theorem overrideFields_notRaised : ∀ i < 64, (F.DMP_EVT_OVR_EN.ix i).addr ∉ raiseWords ∧ (F.DMP_EVT_OVR_CODE.ix i).addr ∉ raiseWords ∧
    (F.DMP_EVT_OVR_CLASS.ix i).addr ∉ raiseWords ∧ (F.DMP_EVT_OVR_GRP.ix i).addr ∉ raiseWords := by decide +kernel

theorem blockGroups_notRaised : ∀ k < 16, (F.DMP_BLK_GRP.ix k).addr ∉ raiseWords := by decide +kernel

theorem OnlyRaised.get_eq {d e : Dev} (h : OnlyRaised d e) {f : Fld} (hf : f.addr ∉ raiseWords) : e.get f = d.get f := by
  rw [Dev.get, Dev.get, h.words f.addr hf]

theorem OnlyRaised.service_eq {d e : Dev} (h : OnlyRaised d e) : e.service = d.service := by
  rw [Dev.service, Dev.service, h.get_eq (f := F.HRT_LC_STATE) (by decide)]

/-- Raising events changes no field that routes an event of a block. -/
theorem OnlyRaised.resolve_eq {d e : Dev} (h : OnlyRaised d e) {code : Nat} (hblock : code / 256 ≤ 16) : e.resolve code = d.resolve code := by
  have hdefault : e.defaultRoute code = d.defaultRoute code := by
    rw [Dev.defaultRoute, Dev.defaultRoute, h.get_eq (blockGroups_notRaised _ (by omega))]
  have hnames : ∀ i ∈ List.range 64, e.overrideNames code i = d.overrideNames code i := fun i hi => by
    obtain ⟨hen, hcode, -, -⟩ := overrideFields_notRaised i (List.mem_range.mp hi)
    rw [Dev.overrideNames, Dev.overrideNames, Dev.flag, Dev.flag, h.get_eq hen, h.get_eq hcode]
  have hof : e.overrideOf code = d.overrideOf code := List.find?_congr hnames
  rw [Machine.resolve_eq, Machine.resolve_eq, hdefault, hof]
  cases hin : d.overrideOf code with
  | none => rfl
  | some i =>
    obtain ⟨-, -, hclass, hgrp⟩ := overrideFields_notRaised i (List.mem_range.mp (List.mem_of_find?_eq_some hin))
    have hroute : e.overrideRoute i = d.overrideRoute i := by
      rw [Dev.overrideRoute, Dev.overrideRoute, h.get_eq hclass, h.get_eq hgrp]
    rw [Option.elim_some, Option.elim_some, hroute]

theorem flagged_resolve (d : Dev) (code : Nat) : (d.flagged 0 code).resolve code = d.resolve code := by
  by_cases hblock : code / 256 ≤ 16
  · exact (flagged_onlyRaised d (by decide) code).resolve_eq hblock
  · rw [Dev.flagged, evtFlag_of_no_block (by omega)]

/-! ## Latches are kept -/

/-- From `d` to `e` no group has been released, and none that holds class A has gone to class B. -/
structure KeepsLatches (d e : Dev) : Prop where
  classA : ∀ g, d.dmp.latchA.testBit g = true → e.dmp.latchA.testBit g = true
  latched : ∀ g, d.latched.testBit g = true → e.latched.testBit g = true
  latches : d.dmp.latches ⊆ e.dmp.latches

namespace KeepsLatches

theorem refl (d : Dev) : KeepsLatches d d := ⟨fun _ h => h, fun _ h => h, fun _ h => h⟩

theorem trans {d e f : Dev} (h : KeepsLatches d e) (k : KeepsLatches e f) : KeepsLatches d f :=
  ⟨fun g hg => k.classA g (h.classA g hg), fun g hg => k.latched g (h.latched g hg), fun _ hl => k.latches (h.latches hl)⟩

/-- Groups and latches as they were. -/
theorem of_same {d e : Dev} (hA : e.dmp.latchA = d.dmp.latchA) (hB : e.dmp.holdB = d.dmp.holdB) (hl : e.dmp.latches = d.dmp.latches) :
    KeepsLatches d e where
  classA g h := by rwa [hA]
  latched g h := by rwa [Dev.latched, hA, hB]
  latches := by rw [hl]; exact List.Subset.refl _

theorem of_dmp {d e : Dev} (h : e.dmp = d.dmp) : KeepsLatches d e := of_same (by rw [h]) (by rw [h]) (by rw [h])

theorem foldl {α : Type} (f : Dev → α → Dev) (l : List α) (hf : ∀ d x, KeepsLatches d (f d x)) (d : Dev) : KeepsLatches d (l.foldl f d) := by
  induction l generalizing d with
  | nil => exact refl d
  | cons x l ih => exact (hf d x).trans (ih (f d x))

theorem cycleGroups {d e : Dev} (h : KeepsLatches d e) {g : Nat} (hg : d.cycleGroups.testBit g = true) : e.cycleGroups.testBit g = true := by
  rw [testBit_cycleGroups] at hg ⊢
  obtain ⟨l, hl, hcls⟩ := hg
  exact ⟨l, h.latches hl, hcls⟩

end KeepsLatches

theorem mem_addLatch (d : Dev) (l : Latch) : l ∈ (d.addLatch l).dmp.latches := by
  unfold Dev.addLatch
  split
  next h => exact List.contains_iff_mem.mp h
  next => exact List.mem_append_right _ (List.mem_singleton_self l)

theorem addLatch_keeps (d : Dev) (l : Latch) : KeepsLatches d (d.addLatch l) := by
  unfold Dev.addLatch
  split
  · exact .refl d
  · exact ⟨fun _ h => h, fun _ h => h, List.subset_append_left _ _⟩

theorem holdUpdate_keeps (d : Dev) : KeepsLatches d d.holdUpdate := by
  obtain ⟨_, _, _, _, _, h⟩ := holdUpdate_eq d
  rw [h]
  exact .of_same rfl rfl rfl

theorem noteLatched_keeps (d : Dev) (grps : Nat) : KeepsLatches d (d.noteLatched grps) := by
  unfold Dev.noteLatched
  split
  · exact .refl d
  · extract_lets counted
    have hcounted : KeepsLatches d counted := by
      refine .foldl _ _ (fun d g => ?_) d
      exact .of_dmp rfl
    exact hcounted.trans (.of_dmp rfl)

theorem noteAlarm_keeps (d : Dev) (code : Nat) : KeepsLatches d (d.noteAlarm code) := by
  unfold Dev.noteAlarm
  split
  · exact .of_dmp rfl
  · exact .refl d

theorem eventToRing_keeps (d : Dev) (code : Nat) (items : List Nat) (cls : TripClass) (num : Nat) (unlogged : Bool) :
    KeepsLatches d (d.eventToRing code items cls num unlogged) := by
  unfold Dev.eventToRing
  split
  · split
    · exact .refl d
    · split
      · exact .of_dmp rfl
      · exact .of_dmp rfl
  · exact .refl d

theorem flagged_keeps (d : Dev) (ctl code : Nat) : KeepsLatches d (d.flagged ctl code) := by
  unfold Dev.flagged
  split
  · exact .of_dmp rfl
  · exact .refl d

/-! ### Trips latch their groups (R266, R273) -/

section Trips
variable {raise : Nat → List Nat → Dev → Dev} (hr : ∀ code items d, KeepsLatches d (raise code items d))
include hr

/-- A trip of class A keeps what is latched and leaves class A in each of its groups. -/
theorem tripA_latches (d : Dev) (src : TripSrc) (grps : Nat) :
    KeepsLatches d (d.tripA raise src grps) ∧ ∀ g, grps.testBit g = true → (d.tripA raise src grps).dmp.latchA.testBit g = true := by
  unfold Dev.tripA
  extract_lets fresh newA latched _ armed held counted raised
  have hlatched : KeepsLatches d latched := addLatch_keeps d _
  split
  next hnone =>
    refine ⟨hlatched, fun g hg => hlatched.classA g ?_⟩
    have hbit : newA.testBit g = false := by rw [hnone, Nat.zero_testBit]
    simpa [newA, hg] using hbit
  next =>
    have hgroups : ∀ g, armed.dmp.latchA.testBit g = true ↔ latched.dmp.latchA.testBit g = true ∨ grps.testBit g = true := fun g => by
      rw [← Bool.or_eq_true, ← Nat.testBit_or]
    have harmed : KeepsLatches latched armed := by
      refine ⟨fun g hg => (hgroups g).mpr (.inl hg), fun g hg => ?_, List.Subset.refl _⟩
      have hholdB : armed.dmp.holdB.testBit g = (latched.dmp.holdB.testBit g && !grps.testBit g) := testBit_andNot _ _ g
      rw [testBit_latched] at hg
      rw [testBit_latched, hgroups, hholdB]
      cases hin : grps.testBit g <;> simp_all
    have hcounted : KeepsLatches armed counted := (noteLatched_keeps armed fresh).trans ((holdUpdate_keeps _).trans (.of_dmp rfl))
    have hraised : KeepsLatches armed raised := hcounted.trans (hr _ _ _)
    have hfinal {e : Dev} (h : KeepsLatches armed e) : KeepsLatches d e ∧ ∀ g, grps.testBit g = true → e.dmp.latchA.testBit g = true :=
      ⟨(hlatched.trans harmed).trans h, fun g hg => h.classA g ((hgroups g).mpr (.inr hg))⟩
    split
    · refine hfinal (hraised.trans (.trans ?_ (hr _ _ _)))
      exact .of_same rfl rfl rfl
    · exact hfinal hraised

/-- A trip of class B keeps what is latched and leaves each of its groups latched. -/
theorem tripB_latches (d : Dev) (src : TripSrc) (grps : Nat) :
    KeepsLatches d (d.tripB raise src grps) ∧ ∀ g, grps.testBit g = true → (d.tripB raise src grps).latched.testBit g = true := by
  unfold Dev.tripB
  extract_lets fresh esc newB _ window latched _ armed held
  have hlatched : KeepsLatches d latched := .trans (e := window) (.of_same rfl rfl rfl) (addLatch_keeps window _)
  have hgroups : ∀ g, armed.latched.testBit g = true ↔ latched.latched.testBit g = true ∨ newB.testBit g = true := fun g => by
    have hholdB : armed.dmp.holdB.testBit g = (latched.dmp.holdB.testBit g || newB.testBit g) := Nat.testBit_or _ _ g
    rw [testBit_latched, testBit_latched, hholdB, Bool.or_eq_true, or_assoc]
  have harmed : KeepsLatches latched armed := ⟨fun _ hg => hg, fun g hg => (hgroups g).mpr (.inl hg), List.Subset.refl _⟩
  have hraised : KeepsLatches armed (raise 0x0802 [src.num, newB] (armed.noteLatched newB).holdUpdate) :=
    (noteLatched_keeps armed newB).trans ((holdUpdate_keeps _).trans (hr _ _ _))
  have hheld : KeepsLatches d held := by
    unfold held
    split
    · exact hlatched
    · exact hlatched.trans (harmed.trans hraised)
  have hnew : ∀ g, newB.testBit g = true → held.latched.testBit g = true := fun g hg => by
    have hsome : newB ≠ 0 := fun h => by rw [h, Nat.zero_testBit] at hg; exact absurd hg (by decide)
    unfold held
    rw [if_neg hsome]
    exact hraised.latched g ((hgroups g).mpr (.inr hg))
  have hescalated := tripA_latches hr (raise 0x0807 [] held) src esc
  -- A group of the trip was latched before, or it escalates to class A, or it is newly latched with class B.
  have hcases : ∀ g, grps.testBit g = true → d.latched.testBit g = true ∨ esc.testBit g = true ∨ newB.testBit g = true := fun g hg => by
    have hbit : newB.testBit g = ((grps.testBit g && !d.latched.testBit g) && !esc.testBit g) := by rw [testBit_andNot, testBit_andNot]
    cases hwas : d.latched.testBit g <;> cases hesc : esc.testBit g <;> simp_all
  split
  next hnone =>
    refine ⟨hheld, fun g hg => ?_⟩
    obtain hwas | hesc | hg := hcases g hg
    · exact hheld.latched g hwas
    · rw [hnone, Nat.zero_testBit] at hesc
      exact absurd hesc (by decide)
    · exact hnew g hg
  next =>
    have hlast : KeepsLatches held (Dev.tripA raise (raise 0x0807 [] held) src esc) := (hr _ _ _).trans hescalated.1
    refine ⟨hheld.trans hlast, fun g hg => ?_⟩
    obtain hwas | hesc | hg := hcases g hg
    · exact hlast.latched g (hheld.latched g hwas)
    · exact (testBit_latched _ g).mpr (.inl (hescalated.2 g hesc))
    · exact hlast.latched g (hnew g hg)

/-- A trip of class C keeps what is latched and leaves each of its groups with a class C latch. -/
theorem tripC_latches (d : Dev) (src : TripSrc) (grps : Nat) :
    KeepsLatches d (d.tripWith raise src .c grps) ∧
      ∀ g, grps.testBit g = true → (d.tripWith raise src .c grps).cycleGroups.testBit g = true := by
  dsimp -zeta only [Dev.tripWith]
  extract_lets new held
  have hheld : KeepsLatches (d.addLatch ⟨src, .c, grps⟩) held := holdUpdate_keeps _
  have hfinal {e : Dev} (h : KeepsLatches held e) : KeepsLatches d e ∧ ∀ g, grps.testBit g = true → e.cycleGroups.testBit g = true := by
    refine ⟨((addLatch_keeps d _).trans hheld).trans h, fun g hg => (hheld.trans h).cycleGroups ?_⟩
    exact (testBit_cycleGroups _ g).mpr ⟨_, mem_addLatch d ⟨src, .c, grps⟩, rfl, hg⟩
  split
  · exact hfinal (.refl held)
  · exact hfinal (hr _ _ _)

/-- A trip of class B is one of class A in SERVICE. -/
theorem tripInB_latches (d : Dev) (src : TripSrc) {grps g : Nat} (hg : grps.testBit g = true) :
    (d.tripWith raise src .b grps).latched.testBit g = true ∧
      (d.service = true → (d.tripWith raise src .b grps).dmp.latchA.testBit g = true) := by
  dsimp only [Dev.tripWith]
  split
  next =>
    have hA := (tripA_latches hr d src grps).2 g hg
    exact ⟨(testBit_latched _ g).mpr (.inl hA), fun _ => hA⟩
  next h => exact ⟨(tripB_latches hr d src grps).2 g hg, fun hservice => absurd hservice h⟩

theorem tripWith_keeps (d : Dev) (src : TripSrc) (cls : TripClass) (grps : Nat) : KeepsLatches d (d.tripWith raise src cls grps) := by
  cases cls with
  | a => exact (tripA_latches hr d src grps).1
  | b =>
    dsimp only [Dev.tripWith]
    split
    · exact (tripA_latches hr d src grps).1
    · exact (tripB_latches hr d src grps).1
  | c => exact (tripC_latches hr d src grps).1
  | d => exact (addLatch_keeps d _).trans (hr _ _ _)

theorem logEvent_keeps (d : Dev) (code : Nat) (items : List Nat) (cls : TripClass) : KeepsLatches d (d.logEvent raise code items cls).1 := by
  unfold Dev.logEvent
  extract_lets num t a _ noted logged dropped _
  have hlogged : KeepsLatches d logged := .of_dmp rfl
  have hdropped : KeepsLatches d dropped := hlogged.trans (.of_dmp rfl)
  split
  · exact .of_dmp rfl
  split
  · split
    · exact hlogged.trans (.of_dmp rfl)
    · dsimp only
      split
      · exact hdropped
      · refine hdropped.trans (.trans ?_ (hr _ _ _))
        exact .of_dmp rfl
  · exact hlogged

end Trips

/-- The device that an event of class A, B or C trips: seen by the recorders, logged and sent to the events ring. -/
def Dev.noted (n code : Nat) (items : List Nat) (d : Dev) : Dev :=
  let l := ((d.recorderSees code).noteAlarm code).logEvent (raiseN n 0) code items (d.resolve code).1
  l.1.eventToRing code items (d.resolve code).1 l.2.1 l.2.2

theorem react_tripping (n code : Nat) (items : List Nat) {d : Dev} (h : (d.resolve code).1 ≠ .d) :
    d.react n code items = (d.noted n code items).tripWith (raiseN n 0) (.event code) (d.resolve code).1 (d.resolve code).2 := by
  unfold Dev.react Dev.noted
  dsimp only
  split
  next hcls => exact absurd hcls h
  next => rfl

theorem noted_onlyRaised (n code : Nat) (items : List Nat) (d : Dev) : OnlyRaised d (d.noted n code items) :=
  (recorderSees_onlyRaised d code).trans ((noteAlarm_onlyRaised _ code).trans
    ((logEvent_onlyRaised (raiseN_onlyRaised n (by decide)) _ code items _).trans (eventToRing_onlyRaised _ code items _ _ _)))

theorem noted_keeps {n : Nat} (hr : ∀ code items d, KeepsLatches d (raiseN n 0 code items d)) (code : Nat) (items : List Nat) (d : Dev) :
    KeepsLatches d (d.noted n code items) :=
  .trans (e := d.recorderSees code) (.of_dmp rfl) ((noteAlarm_keeps _ code).trans
    ((logEvent_keeps hr _ code items _).trans (eventToRing_keeps _ code items _ _ _)))

theorem react_keeps {n : Nat} (hr : ∀ code items d, KeepsLatches d (raiseN n 0 code items d)) (code : Nat) (items : List Nat) (d : Dev) :
    KeepsLatches d (d.react n code items) := by
  by_cases h : (d.resolve code).1 = .d
  · have hreact : d.react n code items = d.noted n code items := by
      unfold Dev.react Dev.noted
      dsimp only
      rw [h]
    rw [hreact]
    exact noted_keeps hr code items d
  · rw [react_tripping n code items h]
    exact (noted_keeps hr code items d).trans (tripWith_keeps hr _ _ _ _)

/-- No event that events cause releases a group: by induction on the length of the chain. -/
theorem raiseN_keeps (n ctl code : Nat) (items : List Nat) (d : Dev) : KeepsLatches d (raiseN n ctl code items d) := by
  induction n generalizing ctl code items d with
  | zero => exact .refl d
  | succ n ih =>
    rw [raiseN_succ]
    exact (flagged_keeps d ctl code).trans (react_keeps (ih 0) code items _)

/-- An event of class A, B or C trips the groups it resolves to, as they were before it. -/
theorem raise_tripping {d : Dev} {code : Nat} (items : List Nat) {cls : TripClass} {grps : Nat} (h : d.resolve code = (cls, grps))
    (hcls : cls ≠ .d) :
    ∃ e : Dev, e.service = d.service ∧ d.raise code items = e.tripWith (raiseN 7 0) (.event code) cls grps := by
  have hresolve : (d.flagged 0 code).resolve code = (cls, grps) := (flagged_resolve d code).trans h
  refine ⟨(d.flagged 0 code).noted 7 code items, ?_, ?_⟩
  · exact (noted_onlyRaised 7 code items _).service_eq.trans (flagged_onlyRaised d (by decide) code).service_eq
  · rw [Dev.raise, raiseN_succ, react_tripping 7 code items (by rw [hresolve]; exact hcls), hresolve]

/-- Settles O55: the route by the entries in force; a trip by its class; what is kept by induction on the events that events cause. -/
theorem routedEventLatchesItsGroups : Obligations.RoutedEventLatchesItsGroups := by
  intro d code items dflt named e
  have hnamed : ∀ i, named i ↔ d.overrideNames code i = true := fun i => (overrideNames_iff d code i).symm
  have hkeeps : KeepsLatches d e := raiseN_keeps 8 0 code items d
  refine ⟨resolve_fixed, fun h => resolve_default fun i hi => ?_, fun i hi hin hlower hfree => ?_, fun g _ => ?_⟩
  · exact fun hin => h i hi ((hnamed i).mpr hin)
  · exact resolve_override hfree hi ((hnamed i).mp hin) fun j hj hin => hlower j hj ((hnamed j).mpr hin)
  · refine ⟨hkeeps.classA g, hkeeps.latched g, fun hg => ?_⟩
    obtain ⟨cls, grps, hroute⟩ : ∃ cls grps, d.resolve code = (cls, grps) := ⟨_, _, rfl⟩
    rw [hroute] at hg ⊢
    refine ⟨?_, ?_, ?_⟩
    · intro (hcls : cls = .a)
      subst hcls
      obtain ⟨f, -, hraise⟩ := raise_tripping items hroute (by decide)
      rw [show e = _ from hraise]
      exact (tripA_latches (raiseN_keeps 7 0) f _ grps).2 g hg
    · intro (hcls : cls = .b)
      subst hcls
      obtain ⟨f, hservice, hraise⟩ := raise_tripping items hroute (by decide)
      rw [show e = _ from hraise, ← hservice]
      exact tripInB_latches (raiseN_keeps 7 0) f _ hg
    · intro (hcls : cls = .c)
      subst hcls
      obtain ⟨f, -, hraise⟩ := raise_tripping items hroute (by decide)
      rw [show e = _ from hraise]
      exact (tripC_latches (raiseN_keeps 7 0) f _ grps).2 g hg

end Sys2Proof.Machine
end

section
/-! PROOFS. The obligations of 11_damper.md: sources, sequences, delays, waits and counts. -/
namespace Sys2Proof.Machine

/-! ## Comparators and other sources (R256 to R260) -/

/-- A continuous comparator passes its threshold: its output is set, and its source asserts, at once or after its blanking. -/
theorem comparatorAssert_passing {d a : Dev} {j uv dt : Nat} (hnow : d.advance dt = a) (hon : cmpOn (a.cmpEntry j) 0 = true)
    (hout : cmpOutput (a.cmpEntry j) uv (a.dmp.cmpOut.testBit j) = true) (hnew : a.dmp.asserted.testBit j = false) :
    d.comparatorAssert j uv dt =
      (let e := a.dmpUp fun x => { x with cmpOut := setBit x.cmpOut j }
       (e.blankEnd (a.cmpEntry j)).elim (e.sourceAssert j) fun t => e.dmpUp fun x => { x with blank := x.blank.set j (some t) }) := by
  unfold Dev.comparatorAssert
  rw [hnow]
  dsimp only
  rw [hon, hout]
  refine (if_neg Bool.false_ne_true).trans ((if_neg ?_).trans ?_)
  · show ¬ a.dmp.asserted.testBit j = true
    rw [hnew]
    exact Bool.false_ne_true
  · cases Dev.blankEnd _ (a.cmpEntry j) <;> rfl

theorem blankingEnd_due {d : Dev} {j t : Nat} (hblank : d.dmp.blank.getD j none = some t) :
    d.blankingEnd j =
      (let e := (d.advanceTo t).dmpUp fun x => { x with blank := x.blank.set j none }
       (e.blankEnd (e.cmpEntry j)).elim (if e.dmp.cmpOut.testBit j then e.sourceAssert j else e) fun u =>
         e.dmpUp fun x => { x with blank := x.blank.set j (some u) }) := by
  unfold Dev.blankingEnd
  rw [hblank]
  dsimp only
  cases Dev.blankEnd _ _ <;> rfl

/-- A continuous comparator's input no longer passes: output and blanking end, and its source deasserts. -/
theorem sourceReleased_comparator {d a : Dev} {i uv dt : Nat} (hnow : d.advance dt = a) (hi : i < 16)
    (hon : cmpOn (a.cmpEntry i) 0 = true) (hout : cmpOutput (a.cmpEntry i) uv (a.dmp.cmpOut.testBit i) = false) :
    d.sourceReleased i uv dt =
      (a.dmpUp fun x => { x with cmpOut := clrBit x.cmpOut i, blank := x.blank.set i none }).sourceDeassert i := by
  unfold Dev.sourceReleased
  rw [hnow]
  dsimp only
  rw [if_pos hi, hon, hout]
  rfl

theorem sourceReleased_fltN {d : Dev} {i : Nat} (hlo : 16 ≤ i) (hhi : i < 28) (uv dt : Nat) :
    d.sourceReleased i uv dt = (d.advance dt).sourceDeassert i := by
  rw [Dev.sourceReleased, if_neg (Nat.not_lt.mpr hlo), if_pos hhi]

/-! ## Sequences, delays, waits and counts (R267, R270, R273, R274) -/

theorem sequenceEnd_due {d : Dev} {n t : Nat} (hseq : d.dmp.legs.getD n .free = .seq t) :
    d.sequenceEnd n = ((d.advanceTo t).dmpUp fun x => { x with legs := x.legs.set n .off }).holdUpdate := by
  rw [Dev.sequenceEnd, hseq]

theorem openDelayEnd_due {d : Dev} {k : Nat} {x : Nat × Nat} (hopen : d.dmp.opening.find? (fun y => y.1 == k) = some x) :
    d.openDelayEnd k = (d.advanceTo x.2).contactorDue := by
  unfold Dev.openDelayEnd
  rw [hopen]

/-- The latches of class B of a group whose sources are asserted no longer leave it at the end of its wait. -/
def Dev.waitOver (d : Dev) (g t : Nat) : Dev := (d.advanceTo t).dropLatches g fun l => l.cls == .b && !(d.advanceTo t).latchUp l

theorem restartWaitEnd_due {d : Dev} {g t : Nat} (hwait : d.dmp.bWait.getD g none = some t) :
    d.restartWaitEnd g =
      (let e := d.waitOver g t
       if e.bAsserted g then e.startWait g
       else ((e.dmpUp fun x => { x with holdB := clrBit x.holdB g, bWait := x.bWait.set g none }).holdUpdate).raise 0x0806 [2 ^ g]) := by
  rw [Dev.restartWaitEnd, hwait]
  rfl

/-- The oldest lockout trip leaves the window, with any others that do by then; the count shows those left. -/
theorem lockoutAge_oldest {d : Dev} {t : Nat} {ts : List Nat} (htrips : d.dmp.lockTimes = t :: ts) (hfree : d.dmp.lockout = false) :
    d.lockoutAge =
      (let win := second * d.get F.DMP_LOCKOUT_CFG_LOCK_WIN
       let a := d.advanceTo (t + win)
       let e := a.dmpUp fun x => { x with lockTimes := x.lockTimes.filter fun u => decide (a.time.now < u + win) }
       e.put F.DMP_LOCKOUT_CNT_CNT (min 15 e.dmp.lockTimes.length)) := by
  unfold Dev.lockoutAge
  rw [htrips]
  dsimp only
  rw [hfree]
  rfl

theorem ctlFbFault_due {d a : Dev} {k t : Nat} (hdiff : d.dmp.disagree.getD k none = some t)
    (hnow : d.advanceTo (t + msec * d.get (F.DMP_CTL_FB_TIME.ix k)) = a) (honce : a.bitIn F.DMP_CTL_STATE_MISMATCH k = false) :
    d.ctlFbFault k = ((a.setIn F.DMP_CTL_STATE_MISMATCH k).bump F.DMP_CTL_FB_CNT).raise 0x0809 [k] := by
  unfold Dev.ctlFbFault
  rw [hdiff]
  dsimp only
  rw [hnow, honce]
  rfl

/-- Settles O27: each event is its operation in an awake device. -/
theorem damperEventsComplete : Obligations.DamperEventsComplete := by
  refine ⟨fun j uv dt s ha => ?_, fun uvs s ha => ?_, fun j t s ha hblank => ?_, fun n dt s ha => ?_, fun i uv dt s ha => ⟨?_, ?_⟩,
    fun n t s ha hseq => ?_, fun k x s ha hopen => ?_, fun g t s ha hwait => ⟨?_, ?_⟩, fun t ts s ha htrips hfree => ?_,
    fun k level dt s ha => ?_, fun k t s ha hdiff => ?_⟩
  · intro d w hon hout hnew e
    have hpass := comparatorAssert_passing (d := s.dev) (j := j) (uv := uv) (dt := dt) rfl hon hout hnew
    have hexec {r : Dev} (h : (e.blankEnd w).elim (e.sourceAssert j)
        (fun t => e.dmpUp fun x => { x with blank := x.blank.set j (some t) }) = r) :
        exec (.comparatorAssert j uv dt) s = .next (s.after r) := by
      show run (whenAwake fun d => d.comparatorAssert j uv dt) s = _
      exact run_whenAwake_next ha (hpass.trans h)
    refine ⟨fun hnone => hexec ?_, fun t hsome => hexec ?_⟩
    · rw [hnone]
      rfl
    · rw [hsome]
      rfl
  · show run (fun d => if d.awake || d.aonRuns then d.comparatorStrobe uvs else d) s = _
    rw [run_eq, ha]
    rfl
  · intro d
    show run (whenAwake fun d => d.blankingEnd j) s = _
    refine run_whenAwake_next ha ((blankingEnd_due hblank).trans ?_)
    show (d.blankEnd (d.cmpEntry j)).elim _ _ = _
    cases d.blankEnd (d.cmpEntry j) <;> rfl
  · show run (whenAwake fun d => d.fltAssert n dt) s = _
    exact run_whenAwake ha
  · intro hi hon hout
    show run (whenAwake fun d => d.sourceReleased i uv dt) s = _
    exact run_whenAwake_next ha (sourceReleased_comparator rfl hi hon hout)
  · intro hlo hhi
    show run (whenAwake fun d => d.sourceReleased i uv dt) s = _
    exact run_whenAwake_next ha (sourceReleased_fltN hlo hhi uv dt)
  · show run (whenAwake fun d => d.sequenceEnd n) s = _
    exact run_whenAwake_next ha (sequenceEnd_due hseq)
  · show run (whenAwake fun d => d.openDelayEnd k) s = _
    exact run_whenAwake_next ha (openDelayEnd_due hopen)
  · intro hup
    show run (whenAwake fun d => d.restartWaitEnd g) s = _
    exact run_whenAwake_next ha ((restartWaitEnd_due hwait).trans (if_pos hup))
  · intro hdown
    show run (whenAwake fun d => d.restartWaitEnd g) s = _
    exact run_whenAwake_next ha ((restartWaitEnd_due hwait).trans (if_neg (by rw [Dev.waitOver, hdown]; decide)))
  · show run (whenAwake fun d => d.lockoutAge) s = _
    exact run_whenAwake_next ha (lockoutAge_oldest htrips hfree)
  · show run (whenAwake fun d => d.ctlFbChange k level dt) s = _
    exact run_whenAwake ha
  · intro d honce
    show run (whenAwake fun d => d.ctlFbFault k) s = _
    exact run_whenAwake_next ha (ctlFbFault_due hdiff rfl honce)

end Sys2Proof.Machine
end

section
/-! PROOFS. The obligations of 11_damper.md: the host commands on operation. -/
namespace Sys2Proof.Machine

/-! ## What the bodies answer (R265, R272, R285, R290, R473) -/

section Bodies
variable {h : CmdHdr} {p : List Byte} {d : Dev}

theorem bodyStateRequest_start (hreq : leAt p 0 4 = 1) (hfree : d.startRefused = false) :
    bodyStateRequest h p d = { status := St.ok, dev := d.supUp fun g => { g with cmd := 1 } } := by
  rw [bodyStateRequest, hreq, hfree]
  rfl

theorem bodyStateRequest_stopped (hreq : leAt p 0 4 = 2) (hstopped : d.gsv ≤ 1) :
    bodyStateRequest h p d = { status := St.ok, dev := d } := by
  rw [bodyStateRequest, hreq]
  exact if_pos hstopped

theorem bodyStateRequest_stop (hreq : leAt p 0 4 = 2) (hon : 1 < d.gsv) (hwell : d.gsv < 7) :
    bodyStateRequest h p d = { status := St.ok, dev := d.supUp fun g => { g with cmd := 2 } } := by
  rw [bodyStateRequest, hreq]
  exact (if_neg (Nat.not_le.mpr hon)).trans (if_neg (Nat.not_le.mpr hwell))

/-- Values whose tags are all bound go to the nodes bound with them. -/
theorem setTags_bound {l : List (Nat × Word)} (hbound : ∀ x ∈ l, (d.tagNode x.1).isSome = true) :
    d.setTags l = { status := St.ok, dev := d.stageUp fun g => { g with host := g.host ++ l.map fun (t, w) => ((d.tagNode t).getD 0, w) } } := by
  have hall : ¬ (l.any fun x => (d.tagNode x.1).isNone) = true := by
    rw [List.any_eq_true]
    rintro ⟨x, hx, hnone⟩
    have hsome := hbound x hx
    rw [Option.isNone_iff_eq_none.mp hnone] at hsome
    exact Bool.false_ne_true hsome
  exact if_neg hall

theorem setpointBad_of_range (hlo : 1 ≤ leAt p 0 4) (hhi : leAt p 0 4 ≤ 4)
    (hpairs : ∀ x ∈ setpoints p, 1 ≤ x.1 ∧ x.1 ≤ 4 ∧ f32.finite x.2.toNat = true) : setpointBad p = false := by
  have hgood : (setpoints p).any (fun x => x.1 = 0 || 4 < x.1 || !f32.finite x.2.toNat) = false := by
    refine List.any_eq_false.mpr fun x hx => ?_
    obtain ⟨h1, h4, hfinite⟩ := hpairs x hx
    simp only [hfinite, Bool.not_true, Bool.or_false, Bool.or_eq_true, decide_eq_true_eq]
    omega
  have hcount : (decide (leAt p 0 4 = 0) || decide (4 < leAt p 0 4)) = false := by
    rw [decide_eq_false (by omega), decide_eq_false (by omega), Bool.or_self]
  unfold setpointBad
  rw [hcount]
  exact hgood

theorem bodySetpoint_bound (hlo : 1 ≤ leAt p 0 4) (hhi : leAt p 0 4 ≤ 4)
    (hpairs : ∀ x ∈ setpoints p, 1 ≤ x.1 ∧ x.1 ≤ 4 ∧ f32.finite x.2.toNat = true ∧ (d.tagNode x.1).isSome = true) :
    bodySetpoint h p d = { status := St.ok, dev := d.stageUp fun g => { g with
      host := g.host ++ (setpoints p).map fun (t, w) => ((d.tagNode t).getD 0, w) } } := by
  have hgood : setpointBad p = false := setpointBad_of_range hlo hhi fun x hx => by
    obtain ⟨h1, h4, hfinite, -⟩ := hpairs x hx
    exact ⟨h1, h4, hfinite⟩
  rw [bodySetpoint, hgood]
  refine setTags_bound fun x hx => ?_
  obtain ⟨-, -, -, hbound⟩ := hpairs x hx
  exact hbound

theorem bodyCurtail_bound {n : Nat} (hfinite : f32.finite (leAt p 0 4) = true) (hbound : d.tagNode 5 = some n) :
    bodyCurtail h p d = { status := St.ok, dev := d.stageUp fun g => { g with host := g.host ++ [(n, wordAt p 0)] } } := by
  have hset := setTags_bound (d := d) (l := [(5, wordAt p 0)]) (by simp [hbound])
  rw [bodyCurtail, hfinite]
  refine hset.trans ?_
  simp only [List.map_cons, List.map_nil, hbound, Option.getD_some]

theorem bodyTrip_ok (hcls : leAt p 1 1 ≤ 1) :
    bodyTrip h p d =
      { status := St.ok
        dev := (d.trip .manual (if leAt p 1 1 = 0 then .a else .b) (leAt p 0 1)).raise 0x080A [leAt p 0 1, leAt p 1 1] } :=
  if_neg (Nat.not_lt.mpr hcls)

theorem bodyClearTrip_ok (hfree : d.clearRefused (leAt p 0 1) = false) :
    bodyClearTrip h p d =
      { status := St.ok, payload := leBytes 1 (d.clearTrip (leAt p 0 1)).2 ++ zeros 3, dev := (d.clearTrip (leAt p 0 1)).1 } := by
  unfold bodyClearTrip
  dsimp only
  rw [hfree]
  rfl

theorem bodyLockoutReset_ok (hlocked : d.gsv = 8) : bodyLockoutReset h p d = { status := St.ok, dev := d.lockoutReset } := if_pos hlocked

end Bodies

/-- Settles O9: each command is its own part answered, and each part answers as its operation does. -/
theorem operationCommandsComplete : Obligations.OperationCommandsComplete := by
  refine ⟨fun h p s hready => ⟨fun hreq hfree => ?_, fun hreq hstopped => ?_, fun hreq hon hwell => ?_⟩,
    fun h p s hready hlo hhi hpairs => ?_, fun h p s hready n hfinite hbound => ?_, fun h p s hready hcls => ?_,
    fun h p s hready hfree => ?_, fun h p s hready hlocked => ?_⟩
  · show run (Dev.hostCommand 0x20 h p bodyStateRequest (grpAll 0x20 bodyStateRequest)) s = _
    exact run_hostCommand hready _ (bodyStateRequest_start hreq hfree)
  · show run (Dev.hostCommand 0x20 h p bodyStateRequest (grpAll 0x20 bodyStateRequest)) s = _
    exact run_hostCommand hready _ (bodyStateRequest_stopped hreq hstopped)
  · show run (Dev.hostCommand 0x20 h p bodyStateRequest (grpAll 0x20 bodyStateRequest)) s = _
    exact run_hostCommand hready _ (bodyStateRequest_stop hreq hon hwell)
  · show run (Dev.hostCommand 0x21 h p bodySetpoint grpSetpoint) s = _
    exact run_hostCommand hready grpSetpoint (bodySetpoint_bound hlo hhi hpairs)
  · show run (Dev.hostCommand 0x22 h p bodyCurtail grpCurtail) s = _
    exact run_hostCommand hready grpCurtail (bodyCurtail_bound hfinite hbound)
  · show run (Dev.hostCommand 0x23 h p bodyTrip (grpAll 0x23 bodyTrip)) s = _
    exact run_hostCommand hready _ (bodyTrip_ok hcls)
  · show run (Dev.hostCommand 0x24 h p bodyClearTrip (grpAll 0x24 bodyClearTrip)) s = _
    exact run_hostCommand hready _ (bodyClearTrip_ok hfree)
  · show run (Dev.hostCommand 0x25 h p bodyLockoutReset (grpAll 0x25 bodyLockoutReset)) s = _
    exact run_hostCommand hready _ (bodyLockoutReset_ok hlocked)

end Sys2Proof.Machine
end

section
/-! PROOFS. The obligations of 12_grid_functions.md: the instants at which the times of GSV's sequences end. -/
namespace Sys2Proof.Machine

/-! ## PRECHARGE (R286) -/

theorem prechTimeEnd_firstStep {d : Dev} (hpre : d.gsv = 2) (hstep : d.sup.step = 0) (hfail : d.sup.preFail = false) :
    d.prechTimeEnd = d.advanceTo (d.sup.enterAt + msec * d.get F.GSV_SEQ_T_PRE_TIME) := by
  rw [Dev.prechTimeEnd, hpre, hstep, hfail]
  rfl

theorem dcTimeEnd_secondStep {d : Dev} (hpre : d.gsv = 2) (hstep : d.sup.step = 1) :
    d.dcTimeEnd = d.advanceTo (d.sup.stepAt + msec * d.get F.GSV_CLOSE_T_DC_T) := by
  rw [Dev.dcTimeEnd, hpre, hstep]
  rfl

/-! ## The breaker, and SYNC (R283, R287) -/

theorem acTimeEnd_closing {d : Dev} {t : Nat} (hsync : d.gsv = 3) (hclose : d.sup.closeAt = some t) :
    d.acTimeEnd = d.advanceTo (t + msec * d.get F.GSV_CLOSE_T_AC_T) := by
  rw [Dev.acTimeEnd, if_pos hsync, hclose]

theorem acTimeEnd_opening {d : Dev} {t : Nat} (hsync : d.gsv ≠ 3) (hstop : d.sup.stopAt = some t) :
    d.acTimeEnd = d.advanceTo (t + msec * d.get F.GSV_CLOSE_T_AC_T) := by
  rw [Dev.acTimeEnd, if_neg hsync, hstop]

theorem syncTimeEnd_limited {d : Dev} (hsync : d.gsv = 3) (hlimit : d.get F.GSV_SEQ_T_SYNC_TIME ≠ 0) :
    d.syncTimeEnd = d.advanceTo (d.sup.enterAt + second * d.get F.GSV_SEQ_T_SYNC_TIME) := by
  simp [Dev.syncTimeEnd, hsync, hlimit]

/-- Settles O28: each event is its operation in a paced device, and each operation passes time to the end of its wait. -/
theorem sequenceTimersComplete : Obligations.SequenceTimersComplete := by
  refine fun s hk => ⟨fun hpre hstep hfail => ?_, fun hpre hstep => ?_, fun t hsync hclose => ?_, fun t hsync hstop => ?_,
    fun hsync hlimit => ?_⟩
  · show run (whenPaced fun d => d.prechTimeEnd) s = _
    exact run_whenPaced_next hk (prechTimeEnd_firstStep hpre hstep hfail)
  · show run (whenPaced fun d => d.dcTimeEnd) s = _
    exact run_whenPaced_next hk (dcTimeEnd_secondStep hpre hstep)
  · show run (whenPaced fun d => d.acTimeEnd) s = _
    exact run_whenPaced_next hk (acTimeEnd_closing hsync hclose)
  · show run (whenPaced fun d => d.acTimeEnd) s = _
    exact run_whenPaced_next hk (acTimeEnd_opening hsync hstop)
  · show run (whenPaced fun d => d.syncTimeEnd) s = _
    exact run_whenPaced_next hk (syncTimeEnd_limited hsync hlimit)

end Sys2Proof.Machine
end

section
/-! PROOFS. The obligations of 13_gate_drivers.md: the two gates of a leg, and the word that commands them. -/
namespace Sys2Proof.Machine

/-! ## What Draught commands (R325, R326) -/

/-- The two gates of a leg are both on: its high side is bit 2l, its low side bit 2l + 1. -/
def pairOn (m l : Nat) : Bool := m.testBit (2 * l) && m.testBit (2 * l + 1)

/-- The gates of a chopped channel: the high side of one leg or its synchronous low side, and the low side of another. -/
def chopGates (h l : Nat) (high low : Bool) : Nat :=
  (if high then 2 ^ (2 * h) else 0) + 2 ^ (2 * l + 1) + (if low then 2 ^ (2 * h + 1) else 0)

theorem chopGates_apart {high low : Bool} (hone : (high && low) = false) :
    ∀ h < 3, ∀ l < 3, h ≠ l → chopGates h l high low < 64 ∧ ∀ k < 3, pairOn (chopGates h l high low) k = false := by
  cases high with
  | false => cases low <;> decide
  | true =>
    obtain rfl : low = false := hone
    decide

theorem sectorLegs_distinct (s : Nat) : (sectorLegs s).1 < 3 ∧ (sectorLegs s).2.1 < 3 ∧ (sectorLegs s).1 ≠ (sectorLegs s).2.1 := by
  have htable : ∀ s < 6, (sectorLegs s).1 < 3 ∧ (sectorLegs s).2.1 < 3 ∧ (sectorLegs s).1 ≠ (sectorLegs s).2.1 := by decide
  rcases Nat.lt_or_ge s 6 with hs | hs
  · exact htable s hs
  · rw [sectorLegs, List.getD_eq_default _ _ hs]
    decide

theorem sectorLegs_floating : ∀ s < 6, (sectorLegs s).2.2.1 = 3 - (sectorLegs s).1 - (sectorLegs s).2.1 := by decide

/-- The synchronous low side is on at an instant. -/
def DrtCh.syncLowOn (x : DrtCh) (t : Nat) : Bool := x.syncLow.any fun (a, b) => a ≤ t && t < b

/-- It is on only after the high side has gone off. -/
theorem syncLowOn_before_highOff (x : DrtCh) {t : Nat} (ht : t < x.highOff) : x.syncLowOn t = false := by
  unfold DrtCh.syncLowOn DrtCh.syncLow
  dsimp only
  split
  · have hearly : ¬ x.highOff + anaClk * x.dead ≤ t := by omega
    simp [hearly]
  · rfl

/-- The gates of a channel that chops, in ALIGN, RAMP or RUN. -/
def Dev.chopped (d : Dev) (c t : Nat) : Nat :=
  chopGates (sectorLegs (d.get (F.DRT_STAT_SECTOR.ix c))).1 (sectorLegs (d.get (F.DRT_STAT_SECTOR.ix c))).2.1
    (decide (t < (d.ch c).highOff)) (d.drtCfg c F.DRT_CFG_SYNC_REC == 1 && (d.ch c).syncLowOn t)

theorem chopped_apart (d : Dev) (c t : Nat) : d.chopped c t < 64 ∧ ∀ k < 3, pairOn (d.chopped c t) k = false := by
  obtain ⟨hh, hl, hne⟩ := sectorLegs_distinct (d.get (F.DRT_STAT_SECTOR.ix c))
  refine chopGates_apart ?_ _ hh _ hl hne
  by_cases ht : t < (d.ch c).highOff
  · rw [syncLowOn_before_highOff _ ht, Bool.and_false, Bool.and_false]
  · rw [decide_eq_false ht, Bool.false_and]

/-- All that a channel commands: nothing, every low side, or what chopping gives. -/
theorem drtGates_cases (d : Dev) (c t : Nat) : d.drtGates c t = 0 ∨ d.drtGates c t = 0x2A ∨ d.drtGates c t = d.chopped c t := by
  have hchop : d.chopped c t =
      (if t < (d.ch c).highOff then 2 ^ (2 * (sectorLegs (d.get (F.DRT_STAT_SECTOR.ix c))).1) else 0)
        + 2 ^ (2 * (sectorLegs (d.get (F.DRT_STAT_SECTOR.ix c))).2.1 + 1)
        + (if d.drtCfg c F.DRT_CFG_SYNC_REC == 1 && (d.ch c).syncLowOn t
            then 2 ^ (2 * (sectorLegs (d.get (F.DRT_STAT_SECTOR.ix c))).1 + 1) else 0) := by
    simp only [Dev.chopped, chopGates, decide_eq_true_eq]
  unfold Dev.drtGates
  dsimp only
  split
  · split
    · exact .inl rfl
    · exact .inr (.inl rfl)
  · exact .inr (.inr hchop.symm)
  · exact .inr (.inr hchop.symm)
  · exact .inr (.inr hchop.symm)
  · exact .inl rfl

theorem drtGates_apart (d : Dev) (c t : Nat) : d.drtGates c t < 64 ∧ ∀ k < 3, pairOn (d.drtGates c t) k = false := by
  obtain h | h | h := drtGates_cases d c t
  · rw [h]
    decide
  · rw [h]
    decide
  · rw [h]
    exact chopped_apart d c t

theorem drtGates_lt (d : Dev) (c t : Nat) : d.drtGates c t < 64 := (drtGates_apart d c t).1

/-- There are no gates beyond the third leg's. -/
theorem drtGates_pairOn (d : Dev) (c t l : Nat) : pairOn (d.drtGates c t) l = false := by
  rcases Nat.lt_or_ge l 3 with hl | hl
  · exact (drtGates_apart d c t).2 l hl
  · have hbit : (d.drtGates c t).testBit (2 * l) = false :=
      Nat.testBit_lt_two_pow (lt_of_lt_of_le (drtGates_lt d c t) (Nat.pow_le_pow_right (n := 2) (i := 6) (by decide) (by omega)))
    rw [pairOn, hbit, Bool.false_and]

/-! ## A bridge through the operations that do not command it -/

theorem advanceTo_bridge (d : Dev) (t b : Nat) : (d.advanceTo t).bridge b = d.bridge b := by
  rw [Dev.bridge, Dev.bridge, Dev.advanceTo, Dev.advance_gdr]

theorem raise_bridge (d : Dev) (code : Nat) (items : List Nat) (b : Nat) : (d.raise code items).bridge b = d.bridge b := by
  rw [(raise_onlyRaised d code items).parts]
  rfl

theorem sourceAssert_bridge (d : Dev) (i b : Nat) : (d.sourceAssert i).bridge b = d.bridge b :=
  (sourceAssert_within (ws := []) (keep := fun _ x => x) d i).bridges b

/-- A change of a bridge keeps what it keeps of every bridge; where there is no bridge of the number nothing changes. -/
theorem bridgeUp_keeps {P : Bridge → Prop} {d : Dev} {b : Nat} {f : Bridge → Bridge} (hf : P (d.bridge b) → P (f (d.bridge b)))
    (h : P (d.bridge b)) : P ((d.bridgeUp b f).bridge b) := by
  rw [Dev.bridge_bridgeUp_same]
  split
  · exact hf h
  · exact h

theorem bridgeUp_bridge {d : Dev} {b : Nat} (hb : b < d.gdr.br.length) (f : Bridge → Bridge) : (d.bridgeUp b f).bridge b = f (d.bridge b) := by
  rw [Dev.bridge_bridgeUp_same, if_pos hb]

theorem foldl_command_cmd (x : Bridge) (cmd : Nat → Nat) (ts : List Nat) :
    (ts.foldl (fun x e => x.command e (cmd e)) x).cmd = x.cmd ∨ ∃ e, (ts.foldl (fun x e => x.command e (cmd e)) x).cmd = cmd e := by
  induction ts generalizing x with
  | nil => exact .inl rfl
  | cons t ts ih =>
    obtain h | h := ih (x.command t (cmd t))
    · exact .inr ⟨t, h⟩
    · exact .inr h

/-- The word in force once the words up to an instant are taken: the one before, or what Draught commanded at some instant. -/
theorem wordsTo_cmd (d : Dev) (b t : Nat) :
    ((d.wordsTo b t).bridge b).cmd = (d.bridge b).cmd ∨ ∃ e, ((d.wordsTo b t).bridge b).cmd = d.drtGates b e := by
  unfold Dev.wordsTo
  dsimp only
  split
  · exact .inl rfl
  · exact bridgeUp_keeps (P := fun x => x.cmd = (d.bridge b).cmd ∨ ∃ e, x.cmd = d.drtGates b e)
      (fun _ => foldl_command_cmd (d.bridge b) (d.drtGates b) _) (.inl rfl)

/-- A bridge's word in force commands on no two gates of one leg. -/
def Bridge.legsApart (x : Bridge) : Prop := ∀ l, l < 3 → pairOn x.cmd l = false

theorem wordsTo_legsApart {d : Dev} {b : Nat} (h : (d.bridge b).legsApart) (t : Nat) : ((d.wordsTo b t).bridge b).legsApart := by
  intro l hl
  obtain hcmd | ⟨e, hcmd⟩ := wordsTo_cmd d b t
  · rw [hcmd]
    exact h l hl
  · rw [hcmd]
    exact drtGates_pairOn d b e l

theorem legsApart_of_cmd_zero {x : Bridge} (h : x.cmd = 0) : x.legsApart := by
  intro l _
  rw [h, pairOn, Nat.zero_testBit, Bool.false_and]

theorem gatesOff_legsApart {d : Dev} {b : Nat} (h : (d.bridge b).legsApart) : ((d.gatesOff b).bridge b).legsApart :=
  bridgeUp_keeps (fun _ => legsApart_of_cmd_zero rfl) (wordsTo_legsApart h _)

/-! ## Faults of a bridge (R318 to R320) -/

/-- The bridge when a fault of its first detection is entered: waiting, or latched where its tries are exhausted. -/
theorem bridgeFault_bridge {d : Dev} {b : Nat} (hfree : (d.bridge b).faulted = false) (legs : Nat) (soft : Bool) :
    ∃ f : Bridge → Bridge, (d.bridgeFault b legs soft).bridge b = ((d.gatesOff b).bridgeUp b f).bridge b ∧
      ∀ x, (f x).cmd = x.cmd ∧ (f x).raised = 0 ∧ (f x).faulted = true := by
  unfold Dev.bridgeFault
  extract_lets x on latch off entered told
  rw [if_neg (by rw [hfree]; exact Bool.false_ne_true)]
  have htold : (if latch then told.raise 0x0906 [b, legs] else told).bridge b = entered.bridge b := by
    split
    · rw [raise_bridge, sourceAssert_bridge]
    · rw [sourceAssert_bridge]
  refine ⟨_, htold, fun x => ⟨rfl, rfl, ?_⟩⟩
  by_cases hlatch : latch
  · simp [Bridge.faulted, hlatch]
  · simp [Bridge.faulted, hlatch]

theorem bridgeFault_faulted {d : Dev} {b : Nat} (h : (d.bridge b).faulted = true) (legs : Nat) (soft : Bool) : d.bridgeFault b legs soft = d :=
  if_pos h

theorem bridgeFault_legsApart {d : Dev} {b : Nat} (h : (d.bridge b).legsApart) (legs : Nat) (soft : Bool) :
    ((d.bridgeFault b legs soft).bridge b).legsApart := by
  by_cases hfree : (d.bridge b).faulted = true
  · rw [bridgeFault_faulted hfree]
    exact h
  · obtain ⟨f, hbridge, hf⟩ := bridgeFault_bridge (Bool.eq_false_iff.mpr hfree) legs soft
    rw [hbridge]
    refine bridgeUp_keeps (fun hoff => ?_) (gatesOff_legsApart h)
    rw [Bridge.legsApart, (hf _).1]
    exact hoff

/-- A cause's event changes nothing of a bridge but which causes have raised theirs. -/
theorem causeEvent_bridge (d : Dev) (b cause ev legs : Nat) :
    ∃ r, (d.causeEvent b cause ev legs).bridge b = { d.bridge b with raised := r } := by
  unfold Dev.causeEvent
  split
  · exact ⟨_, rfl⟩
  · rw [raise_bridge]
    exact bridgeUp_keeps (P := fun x => ∃ r, x = { d.bridge b with raised := r }) (fun _ => ⟨_, rfl⟩) ⟨_, rfl⟩

/-! ## The next drive word (R307, R308) -/

/-- The ANA clock of the next drive word. -/
def Dev.wordClock (d : Dev) (b : Nat) : Nat := max (anaEdge d.now) (d.bridge b).upTo

/-- The device at that clock, every word before taken. -/
def Dev.atWord (d : Dev) (b : Nat) : Dev := (d.advanceTo (anaClk * d.wordClock b)).wordsTo b (anaClk * d.wordClock b)

/-- The word that arrives, with what the link changes in it. -/
def Dev.wordSeen (d : Dev) (b err : Nat) : Nat := (d.atWord b).drtWord b (d.wordClock b) ^^^ err

/-- That clock's word is no longer the next. -/
def Dev.wordDone (d : Dev) (b : Nat) : Dev := (d.atWord b).bridgeUp b fun x => { x with upTo := d.wordClock b + 1 }

/-- The word obeyed: each gate as its bit says, but neither of a leg whose two gates it commands on. -/
def Dev.wordObeyed (d : Dev) (b err : Nat) : Dev :=
  (d.wordDone b).bridgeUp b fun x => { x.command (d.wordDone b).now (splitGates (d.wordSeen b err % 64)).1 with bad := 0 }

/-- Words discarded in a row with this one. -/
def Dev.badRun (d : Dev) (b : Nat) : Nat :=
  if ((d.atWord b).bridge b).badAt.any (fun j => j + 1 == d.wordClock b) then ((d.atWord b).bridge b).bad + 1 else 1

/-- The word discarded, and counted. -/
def Dev.wordDropped (d : Dev) (b : Nat) : Dev :=
  ((d.wordDone b).bump F.GDR_LINK_CNT).bridgeUp b fun x => { x with bad := d.badRun b % 3, badAt := some (d.wordClock b) }

/-- A link fault of a bridge. -/
def Dev.linkFault (d : Dev) (b : Nat) : Dev := ((d.bridgeFault b 0 false).put (F.GDR_FAULT_LINK.ix b) 1).causeEvent b 3 0x0907 0

theorem driveWord_good {d : Dev} {b err : Nat} (hgood : wordGood (d.wordSeen b err) (d.wordClock b) = true) :
    d.driveWord b err = if (splitGates (d.wordSeen b err % 64)).2 = 0 then d.wordObeyed b err
      else (d.wordObeyed b err).raise 0x0908 [b, (splitGates (d.wordSeen b err % 64)).2] := if_pos hgood

theorem driveWord_bad {d : Dev} {b err : Nat} (hbad : wordGood (d.wordSeen b err) (d.wordClock b) = false) :
    d.driveWord b err = if d.badRun b < 3 then d.wordDropped b
      else if ((d.wordDropped b).bridge b).faulted && !(d.wordDropped b).joinsFault b then d.wordDropped b
      else (d.wordDropped b).linkFault b := if_neg (hbad.trans_ne Bool.false_ne_true)

/-- Of every GATE field splitting keeps the gates that are on alone in their leg, and names the legs it drives off. -/
theorem splitGates_bits : ∀ g < 64, ∀ l < 3,
    (splitGates g).1.testBit (2 * l) = (g.testBit (2 * l) && !pairOn g l) ∧
    (splitGates g).1.testBit (2 * l + 1) = (g.testBit (2 * l + 1) && !pairOn g l) ∧
    (pairOn g l = true → (splitGates g).2 ≠ 0) := by
  decide +kernel

theorem splitGates_apart (g : Nat) {l : Nat} (hg : g < 64) (hl : l < 3) : pairOn (splitGates g).1 l = false := by
  obtain ⟨hhigh, hlow, -⟩ := splitGates_bits g hg l hl
  rw [pairOn, hhigh, hlow, pairOn]
  cases g.testBit (2 * l) <;> cases g.testBit (2 * l + 1) <;> rfl

theorem atWord_legsApart {d : Dev} {b : Nat} (h : (d.bridge b).legsApart) : ((d.atWord b).bridge b).legsApart :=
  wordsTo_legsApart (by rw [advanceTo_bridge]; exact h) _

theorem wordDone_legsApart {d : Dev} {b : Nat} (h : (d.bridge b).legsApart) : ((d.wordDone b).bridge b).legsApart :=
  bridgeUp_keeps id (atWord_legsApart h)

theorem wordObeyed_legsApart {d : Dev} {b : Nat} (h : (d.bridge b).legsApart) (err : Nat) : ((d.wordObeyed b err).bridge b).legsApart :=
  bridgeUp_keeps (fun _ _ hl => splitGates_apart _ (Nat.mod_lt _ (by decide)) hl) (wordDone_legsApart h)

theorem wordDropped_legsApart {d : Dev} {b : Nat} (h : (d.bridge b).legsApart) : ((d.wordDropped b).bridge b).legsApart :=
  bridgeUp_keeps id (wordDone_legsApart h)

theorem linkFault_legsApart {d : Dev} {b : Nat} (h : (d.bridge b).legsApart) : ((d.linkFault b).bridge b).legsApart := by
  obtain ⟨r, hbridge⟩ := causeEvent_bridge ((d.bridgeFault b 0 false).put (F.GDR_FAULT_LINK.ix b) 1) b 3 0x0907 0
  rw [Dev.linkFault, hbridge]
  exact bridgeFault_legsApart h 0 false

theorem driveWord_legsApart {d : Dev} {b : Nat} (h : (d.bridge b).legsApart) (err : Nat) : ((d.driveWord b err).bridge b).legsApart := by
  cases hword : wordGood (d.wordSeen b err) (d.wordClock b) with
  | true =>
    rw [driveWord_good hword]
    split
    · exact wordObeyed_legsApart h err
    · rw [raise_bridge]
      exact wordObeyed_legsApart h err
  | false =>
    rw [driveWord_bad hword]
    split
    · exact wordDropped_legsApart h
    split
    · exact wordDropped_legsApart h
    · exact linkFault_legsApart (wordDropped_legsApart h)

/-! ## The gates at their balls (R309, R313) -/

theorem gateOn_held {d : Dev} {b : Nat} (h : d.bridgeHeld b = true) (g : Nat) : d.gateOn b g = false := by
  rw [Dev.gateOn, h]
  rfl

theorem gateOn_refreshed {d : Dev} {b g : Nat} {low : Bool} (h : d.refreshing b (g / 2) d.now = some low) :
    d.gateOn b g = (!d.bridgeHeld b && !(g % 2 == 0 && (d.lockedOut b).testBit (g / 2)) && (g % 2 == 1 && low)) := by
  rw [Dev.gateOn, h]

theorem gateOn_commanded {d : Dev} {b g : Nat} (h : d.refreshing b (g / 2) d.now = none) :
    d.gateOn b g = (!d.bridgeHeld b && !(g % 2 == 0 && (d.lockedOut b).testBit (g / 2)) &&
      (((d.wordsTo b (d.now + 1)).bridge b).cmd.testBit g &&
        decide (((d.wordsTo b (d.now + 1)).bridge b).offAt.getD (g ^^^ 1) 0 + 25 ≤ d.now))) := by
  rw [Dev.gateOn, h]

theorem highSide_leg (l : Nat) : 2 * l / 2 = l := by omega

theorem lowSide_leg (l : Nat) : (2 * l + 1) / 2 = l := by omega

/-- In a refresh of its leg a high side is off, and its low side as the refresh has it. -/
theorem gateOn_refresh {d : Dev} {b l : Nat} {low : Bool} (h : d.refreshing b l d.now = some low) :
    d.gateOn b (2 * l) = false ∧ d.gateOn b (2 * l + 1) = (!d.bridgeHeld b && low) := by
  rw [gateOn_refreshed (g := 2 * l) ((highSide_leg l).symm ▸ h), gateOn_refreshed (g := 2 * l + 1) ((lowSide_leg l).symm ▸ h)]
  simp

theorem gateOn_cmd {d : Dev} {b g : Nat} (h : d.refreshing b (g / 2) d.now = none)
    (hoff : ((d.wordsTo b (d.now + 1)).bridge b).cmd.testBit g = false) : d.gateOn b g = false := by
  rw [gateOn_commanded h, hoff, Bool.false_and, Bool.and_false]

theorem gateOn_early {d : Dev} {b g : Nat} (h : d.refreshing b (g / 2) d.now = none)
    (hearly : d.now < ((d.wordsTo b (d.now + 1)).bridge b).offAt.getD (g ^^^ 1) 0 + 25) : d.gateOn b g = false := by
  rw [gateOn_commanded h, decide_eq_false (Nat.not_le.mpr hearly), Bool.and_false, Bool.and_false]

/-- Either the refresh of the leg keeps its high side off, or the word in force does not command both its gates on. -/
theorem gateOn_apart {d : Dev} {b l : Nat} (h : pairOn (d.bridge b).cmd l = false) : (d.gateOn b (2 * l) && d.gateOn b (2 * l + 1)) = false := by
  cases hrefresh : d.refreshing b l d.now with
  | some low => rw [(gateOn_refresh hrefresh).1, Bool.false_and]
  | none =>
    have hcmd : pairOn ((d.wordsTo b (d.now + 1)).bridge b).cmd l = false := by
      obtain hcmd | ⟨e, hcmd⟩ := wordsTo_cmd d b (d.now + 1)
      · rw [hcmd]
        exact h
      · rw [hcmd]
        exact drtGates_pairOn d b e l
    rw [pairOn, Bool.and_eq_false_iff] at hcmd
    obtain hhigh | hlow := hcmd
    · rw [gateOn_cmd ((highSide_leg l).symm ▸ hrefresh) hhigh, Bool.false_and]
    · rw [gateOn_cmd ((lowSide_leg l).symm ▸ hrefresh) hlow, Bool.and_false]

/-- A gate commanded off is noted with the instant. -/
theorem command_offAt (x : Bridge) (t : Nat) {cmd g : Nat} (hg : g < 6) (hon : x.cmd.testBit g = true) (hoff : cmd.testBit g = false) :
    (x.command t cmd).offAt.getD g 0 = t := by
  simp [Bridge.command, List.getD_eq_getElem?_getD, hg, hon, hoff]

theorem refreshing_within {d : Dev} {b l t : Nat} (hleg : (d.bridge b).refresh.testBit l = true) (hfrom : (d.ch b).perAt ≤ t)
    (hto : t < (d.ch b).perAt + 200) :
    d.refreshing b l t = some (decide ((d.ch b).perAt + 25 ≤ t ∧ t < (d.ch b).perAt + 175)) := by
  unfold Dev.refreshing
  dsimp only
  rw [hleg, decide_eq_true hfrom, decide_eq_true hto, Bool.decide_and]
  rfl

/-- Settles O58: the gates a channel commands, what the words before leave and what a word's own gates give are each apart in
every leg, and a refresh keeps its high side off. -/
theorem gatesOfALegAreNeverOnTogether : Obligations.GatesOfALegAreNeverOnTogether := by
  refine ⟨fun d b l _ h => gateOn_apart h, fun d b err h => driveWord_legsApart h err, drtGates_pairOn, fun d b g h => gateOn_held h g,
    fun x t cmd g hg hon hoff => command_offAt x t hg hon hoff, fun d b g h hearly => gateOn_early h hearly,
    fun d b l hleg hfree hfrom hto => ?_, fun s hs => ?_⟩
  · obtain ⟨hhigh, hlow⟩ := gateOn_refresh (refreshing_within hleg hfrom hto)
    refine ⟨hhigh, hlow.trans ?_⟩
    rw [hfree]
    rfl
  · obtain ⟨hh, hl, hne⟩ := sectorLegs_distinct s
    exact ⟨_, _, hh, hl, hne, by rw [← sectorLegs_floating s hs]⟩

end Sys2Proof.Machine
end

section
/-! PROOFS. The obligations of 13_gate_drivers.md: how drive words are judged. -/
namespace Sys2Proof.Machine

/-! ## The word that Draught sends (Table 13-1) -/

theorem crc4_lt (v n : Nat) {c : Nat} (hc : c < 16) : crc4 v n c < 16 := by
  induction n generalizing c with
  | zero => exact hc
  | succ n ih =>
    have hshift : 2 * c % 16 < 16 := Nat.mod_lt _ (by decide)
    refine ih ?_
    split
    · exact Nat.xor_lt_two_pow (n := 4) hshift (by decide)
    · exact hshift

/-- A word carries the gates of its clock, its number and their CRC. -/
theorem drtWord_parts (d : Dev) (b k : Nat) :
    d.drtWord b k % 4096 = d.drtGates b (anaClk * k) + 256 * (k % 16) ∧
      crc4 (d.drtWord b k % 4096) 12 0 = d.drtWord b k / 4096 % 16 := by
  have hgates := drtGates_lt d b (anaClk * k)
  have hcrc := crc4_lt (d.drtGates b (anaClk * k) + 256 * (k % 16)) 12 (c := 0) (by decide)
  have hlow : d.drtWord b k % 4096 = d.drtGates b (anaClk * k) + 256 * (k % 16) := by
    unfold Dev.drtWord
    dsimp only
    omega
  refine ⟨hlow, ?_⟩
  rw [hlow]
  unfold Dev.drtWord
  dsimp only
  omega

/-! ## The number of bridges stays -/

theorem bridgeUp_length (d : Dev) (b : Nat) (f : Bridge → Bridge) : (d.bridgeUp b f).gdr.br.length = d.gdr.br.length :=
  length_upd d.gdr.br b f

theorem wordsTo_length (d : Dev) (b t : Nat) : (d.wordsTo b t).gdr.br.length = d.gdr.br.length := by
  unfold Dev.wordsTo
  dsimp only
  split
  · rfl
  · exact bridgeUp_length d b _

theorem atWord_length (d : Dev) (b : Nat) : (d.atWord b).gdr.br.length = d.gdr.br.length := by
  rw [Dev.atWord, wordsTo_length, Dev.advanceTo, Dev.advance_gdr]

theorem wordDone_length (d : Dev) (b : Nat) : (d.wordDone b).gdr.br.length = d.gdr.br.length :=
  (bridgeUp_length _ b _).trans (atWord_length d b)

theorem wordDropped_length (d : Dev) (b : Nat) : (d.wordDropped b).gdr.br.length = d.gdr.br.length :=
  (bridgeUp_length _ b _).trans (wordDone_length d b)

/-! ## A word that is discarded -/

section Dropped
variable {d : Dev} {b : Nat}

/-- A discarded word changes of its bridge only the count of such words and the clock. -/
theorem wordDropped_bridge (hlen : b < d.gdr.br.length) :
    (d.wordDropped b).bridge b =
      { (d.atWord b).bridge b with upTo := d.wordClock b + 1, bad := d.badRun b % 3, badAt := some (d.wordClock b) } := by
  have hcounted : b < ((d.wordDone b).bump F.GDR_LINK_CNT).gdr.br.length := (wordDone_length d b).symm ▸ hlen
  have hdone : (d.wordDone b).bridge b = { (d.atWord b).bridge b with upTo := d.wordClock b + 1 } :=
    bridgeUp_bridge ((atWord_length d b).symm ▸ hlen) _
  rw [Dev.wordDropped, bridgeUp_bridge hcounted]
  show ({ (d.wordDone b).bridge b with bad := _, badAt := _ } : Bridge) = _
  rw [hdone]

theorem wordDropped_linkCnt : (d.wordDropped b).get F.GDR_LINK_CNT = min (2 ^ 32 - 1) ((d.atWord b).get F.GDR_LINK_CNT + 1) :=
  Dev.get_bump_same (f := F.GDR_LINK_CNT) (by decide) (by decide) (d.wordDone b) 1

/-- A link fault changes of the registers, beside those of events, the FAULT word of its bridge. -/
theorem linkFault_beside : SettledWithin [(F.GDR_FAULT_LINK.ix b).addr] (keepBeside b) d (d.linkFault b) :=
  ((bridgeFault_beside d 0 false).put (f := F.GDR_FAULT_LINK.ix b) (by simp) 1).trans (causeEvent_beside _ 3 0x0907 0)

theorem linkFault_linkCnt (hb : b < 2) : (d.linkFault b).get F.GDR_LINK_CNT = d.get F.GDR_LINK_CNT := by
  have hother : ∀ b < 2, F.GDR_LINK_CNT.addr ∉ [(F.GDR_FAULT_LINK.ix b).addr] := by decide
  rw [Dev.get, Dev.get, linkFault_beside.words _ (by decide) (hother b hb)]

theorem linkFault_bad : ((d.linkFault b).bridge b).bad = (d.bridge b).bad := by
  show ((d.linkFault b).bridge b).lasting.bad = (d.bridge b).lasting.bad
  rw [lasting_of_keepBeside (linkFault_beside.bridges b)]

/-- A bridge that enters a fault is in fault, its gates off and no cause's event raised. -/
theorem bridgeFault_new (hlen : b < d.gdr.br.length) (hfree : (d.bridge b).faulted = false) (legs : Nat) (soft : Bool) :
    ((d.bridgeFault b legs soft).bridge b).cmd = 0 ∧ ((d.bridgeFault b legs soft).bridge b).raised = 0 ∧
      ((d.bridgeFault b legs soft).bridge b).faulted = true := by
  obtain ⟨f, hfault, hf⟩ := bridgeFault_bridge hfree legs soft
  have hwords : b < (d.wordsTo b (d.now + 1)).gdr.br.length := (wordsTo_length d b _).symm ▸ hlen
  have hoff : b < (d.gatesOff b).gdr.br.length := (bridgeUp_length _ b _).symm ▸ hwords
  have hcmd0 : ((d.gatesOff b).bridge b).cmd = 0 := by rw [Dev.gatesOff, bridgeUp_bridge hwords, Bridge.command]
  obtain ⟨hcmd, hraised, hfaulted⟩ := hf ((d.gatesOff b).bridge b)
  rw [hfault, bridgeUp_bridge hoff]
  exact ⟨hcmd.trans hcmd0, hraised, hfaulted⟩

theorem causeEvent_first {cause : Nat} (hfirst : (d.bridge b).raised.testBit cause = false) (ev legs : Nat) :
    d.causeEvent b cause ev legs = (d.bridgeUp b fun x => { x with raised := setBit x.raised cause }).raise ev [b, legs] :=
  if_neg (hfirst.trans_ne Bool.false_ne_true)

/-- A link fault of a bridge that is in none puts it in fault with its gates off, flags LINK and raises GDR_LINK. -/
theorem linkFault_new (hb : b < 2) (hlen : b < d.gdr.br.length) (hfree : (d.bridge b).faulted = false) :
    ((d.linkFault b).bridge b).faulted = true ∧ ((d.linkFault b).bridge b).cmd = 0 ∧
      (d.linkFault b).flag (F.GDR_FAULT_LINK.ix b) = true ∧ (d.linkFault b).bitIn F.GDR_EVT_EVT 6 = true := by
  obtain ⟨hcmd, hraised, hfaulted⟩ := bridgeFault_new hlen hfree 0 false
  have hnotRaised : ∀ b < 2, (F.GDR_FAULT_LINK.ix b).addr ∉ raiseWords := by decide
  have hflag : ((d.bridgeFault b 0 false).put (F.GDR_FAULT_LINK.ix b) 1).get (F.GDR_FAULT_LINK.ix b) = 1 := Dev.get_put_cut _ rfl 1
  have hfirst : (((d.bridgeFault b 0 false).put (F.GDR_FAULT_LINK.ix b) 1).bridge b).raised.testBit 3 = false :=
    (congrArg (Nat.testBit · 3) hraised).trans (Nat.zero_testBit 3)
  obtain ⟨r, hbridge⟩ := causeEvent_bridge ((d.bridgeFault b 0 false).put (F.GDR_FAULT_LINK.ix b) 1) b 3 0x0907 0
  refine ⟨?_, ?_, ?_, ?_⟩
  · rw [Dev.linkFault, hbridge]
    exact hfaulted
  · rw [Dev.linkFault, hbridge]
    exact hcmd
  · rw [Dev.linkFault, causeEvent_first hfirst, Dev.flag, (raise_onlyRaised _ _ _).get_eq (hnotRaised b hb), Dev.bridgeUp_get, hflag]
    rfl
  · rw [Dev.linkFault, causeEvent_first hfirst]
    exact raise_bitIn _ 0x0907 _ (by decide) rfl

/-- One that joins the fault of its bridge leaves it in fault. -/
theorem linkFault_joining (hfaulted : (d.bridge b).faulted = true) : ((d.linkFault b).bridge b).faulted = true := by
  obtain ⟨r, hevent⟩ := causeEvent_bridge ((d.bridgeFault b 0 false).put (F.GDR_FAULT_LINK.ix b) 1) b 3 0x0907 0
  rw [Dev.linkFault, hevent, bridgeFault_faulted hfaulted]
  exact hfaulted

end Dropped

/-! ## Judging -/

section Judged
variable {d : Dev} {b err : Nat}

theorem driveWord_bad_counts (hb : b < 2) (hlen : b < d.gdr.br.length) (hbad : wordGood (d.wordSeen b err) (d.wordClock b) = false) :
    (d.driveWord b err).get F.GDR_LINK_CNT = min (2 ^ 32 - 1) ((d.atWord b).get F.GDR_LINK_CNT + 1) ∧
      ((d.driveWord b err).bridge b).bad = d.badRun b % 3 := by
  have hdropped : ((d.wordDropped b).bridge b).bad = d.badRun b % 3 := by rw [wordDropped_bridge hlen]
  rw [driveWord_bad hbad]
  split
  · exact ⟨wordDropped_linkCnt, hdropped⟩
  split
  · exact ⟨wordDropped_linkCnt, hdropped⟩
  · exact ⟨(linkFault_linkCnt hb).trans wordDropped_linkCnt, linkFault_bad.trans hdropped⟩

/-- Until the third bad word in a row the previous word stays in force. -/
theorem driveWord_bad_keeps (hlen : b < d.gdr.br.length) (hbad : wordGood (d.wordSeen b err) (d.wordClock b) = false) (hrun : d.badRun b < 3) :
    ((d.driveWord b err).bridge b).cmd = ((d.atWord b).bridge b).cmd := by
  rw [driveWord_bad hbad, if_pos hrun, wordDropped_bridge hlen]

/-- The third finds its bridge in fault or puts it there. -/
theorem driveWord_third (hb : b < 2) (hlen : b < d.gdr.br.length) (hbad : wordGood (d.wordSeen b err) (d.wordClock b) = false)
    (hrun : 3 ≤ d.badRun b) :
    ((d.driveWord b err).bridge b).faulted = true ∧
      (((d.atWord b).bridge b).faulted = false → ((d.driveWord b err).bridge b).cmd = 0 ∧
        (d.driveWord b err).flag (F.GDR_FAULT_LINK.ix b) = true ∧ (d.driveWord b err).bitIn F.GDR_EVT_EVT 6 = true) := by
  have hsame : ((d.wordDropped b).bridge b).faulted = ((d.atWord b).bridge b).faulted := by
    rw [wordDropped_bridge hlen]
    rfl
  have hlen' : b < (d.wordDropped b).gdr.br.length := (wordDropped_length d b).symm ▸ hlen
  rw [driveWord_bad hbad, if_neg (Nat.not_lt.mpr hrun)]
  cases hfaulted : ((d.wordDropped b).bridge b).faulted with
  | false =>
    rw [Bool.false_and, if_neg Bool.false_ne_true]
    obtain ⟨hf, hrest⟩ := linkFault_new hb hlen' hfaulted
    exact ⟨hf, fun _ => hrest⟩
  | true =>
    refine ⟨?_, fun h => Bool.noConfusion (hfaulted.symm.trans (hsame.trans h))⟩
    split
    · exact hfaulted
    · exact linkFault_joining hfaulted

/-- A good word's own gates are in force, whatever its event does. -/
theorem driveWord_good_bridge (hlen : b < d.gdr.br.length) (hgood : wordGood (d.wordSeen b err) (d.wordClock b) = true) :
    ((d.driveWord b err).bridge b).bad = 0 ∧ ((d.driveWord b err).bridge b).cmd = (splitGates (d.wordSeen b err % 64)).1 := by
  have hobeyed : (d.driveWord b err).bridge b = (d.wordObeyed b err).bridge b := by
    rw [driveWord_good hgood]
    split
    · rfl
    · exact raise_bridge _ _ _ b
  rw [hobeyed, Dev.wordObeyed, bridgeUp_bridge ((wordDone_length d b).symm ▸ hlen)]
  exact ⟨rfl, rfl⟩

theorem driveWord_good_xcond (hgood : wordGood (d.wordSeen b err) (d.wordClock b) = true) (hboth : (splitGates (d.wordSeen b err % 64)).2 ≠ 0) :
    (d.driveWord b err).bitIn F.GDR_EVT_EVT 7 = true := by
  rw [driveWord_good hgood, if_neg hboth]
  exact raise_bitIn _ 0x0908 _ (by decide) rfl

/-- The GATE field of a word holds its low six bits. -/
theorem testBit_gateField (w : Nat) {g : Nat} (hg : g < 6) : (w % 64).testBit g = w.testBit g := by
  rw [show 64 = 2 ^ 6 from rfl, Nat.testBit_mod_two_pow, decide_eq_true hg, Bool.true_and]

theorem pairOn_gateField (w : Nat) {l : Nat} (hl : l < 3) : pairOn (w % 64) l = pairOn w l := by
  rw [pairOn, testBit_gateField w (by omega), testBit_gateField w (by omega), pairOn]

end Judged

/-- Settles O57: what Draught sends is good as sent; a bad word is dropped or a link fault; a good one's gates are split. -/
theorem driveWordsAreJudged : Obligations.DriveWordsAreJudged := by
  intro d b err hb hlen
  refine ⟨⟨drtGates_lt _ _ _, drtWord_parts _ _ _⟩, fun (hbad : wordGood (d.wordSeen b err) (d.wordClock b) = false) => ?_,
    fun (hgood : wordGood (d.wordSeen b err) (d.wordClock b) = true) => ?_⟩
  · obtain ⟨hcount, hrun⟩ := driveWord_bad_counts hb hlen hbad
    exact ⟨hcount, hrun, driveWord_bad_keeps hlen hbad, driveWord_third hb hlen hbad⟩
  · obtain ⟨hrun, hcmd⟩ := driveWord_good_bridge hlen hgood
    refine ⟨hrun, fun l hl => ?_⟩
    obtain ⟨hhigh, hlow, hsplit⟩ := splitGates_bits (d.wordSeen b err % 64) (Nat.mod_lt _ (by decide)) l hl
    rw [pairOn_gateField _ hl] at hhigh hlow hsplit
    rw [testBit_gateField _ (by omega), ← hcmd] at hhigh hlow
    exact ⟨⟨hhigh, hlow⟩, fun hboth => driveWord_good_xcond hgood (hsplit hboth)⟩

end Sys2Proof.Machine
end

section
/-! PROOFS. The obligations of 13_gate_drivers.md: drive words, supplies, faults, retries and off-wires as events. -/
namespace Sys2Proof.Machine

variable {d : Dev}

/-! ## Supplies (R312 to R315) -/

theorem hsWarn_first {n mv dt : Nat} (hlow : mv < 8500) (hfirst : ((d.advance dt).bridge (n / 3)).warn.testBit (n % 3) = false) :
    d.hsWarn n mv dt =
      ((d.advance dt).bridgeUp (n / 3) fun x => { x with warn := setBit x.warn (n % 3) }).raise 0x0903 [n / 3, 2 ^ (n % 3)] :=
  if_pos (by rw [decide_eq_true hlow, hfirst]; rfl)

theorem hsWarnEnd_above {n mv dt : Nat} (hhigh : 9000 < mv) :
    d.hsWarnEnd n mv dt = (d.advance dt).bridgeUp (n / 3) fun x => { x with warn := clrBit x.warn (n % 3) } := if_pos hhigh

/-- A lockout of a leg by its own supply, or of the bridge by the external one. -/
def Dev.lockedBy (d : Dev) (b l : Nat) (ext : Bool) : Dev :=
  d.bridgeUp b fun x => if ext then { x with extLow := true } else { x with low := setBit x.low l }

theorem hsLockout_below {n mv dt : Nat} {ext : Bool} (hlow : if ext then mv < 9000 else mv < 7500) :
    d.hsLockout n mv ext dt = ((d.advance dt).lockedBy (n / 3) (n % 3) ext).lockoutJudge (n / 3) := by
  cases ext with
  | false => exact congrArg (fun e : Dev => e.lockoutJudge (n / 3)) (if_pos (show mv < 7500 from hlow))
  | true => exact congrArg (fun e : Dev => e.lockoutJudge (n / 3)) (if_pos (show mv < 9000 from hlow))

theorem hsLockoutEnd_above {n mv dt : Nat} {ext : Bool} (hhigh : if ext then 9000 ≤ mv else 8000 < mv) :
    d.hsLockoutEnd n mv ext dt =
      (d.advance dt).bridgeUp (n / 3) fun x => if ext then { x with extLow := false } else { x with low := clrBit x.low (n % 3) } := by
  cases ext with
  | false => exact if_pos (show 8000 < mv from hhigh)
  | true => exact if_pos (show 9000 ≤ mv from hhigh)

/-- New lockouts of a bridge answered and counted. -/
def Dev.lockoutsCounted (d : Dev) (b : Nat) : Dev :=
  (d.bridgeUp b fun x => { x with lockSeen := d.lockedOut b }).bump F.GDR_UV_CNT (popCount 3 (d.lockoutsNew b))

/-- New lockouts of a bridge answered, counted and flagged. -/
def Dev.lockoutsFlagged (d : Dev) (b : Nat) : Dev :=
  (d.lockoutsCounted b).put (F.GDR_FAULT_UV.ix b) ((d.lockoutsCounted b).get (F.GDR_FAULT_UV.ix b) ||| d.lockoutsNew b)

/-- The count and the flags are different registers. -/
theorem lockoutsCounted_flags {b : Nat} (hb : b < 2) : (d.lockoutsCounted b).get (F.GDR_FAULT_UV.ix b) = d.get (F.GDR_FAULT_UV.ix b) := by
  have haddr : ∀ b < 2, (F.GDR_FAULT_UV.ix b).addr ≠ F.GDR_UV_CNT.addr := by decide
  exact Dev.get_put_other _ F.GDR_UV_CNT _ (haddr b hb)

theorem lockoutJudge_new {b : Nat} (hb : b < 2) (hnew : d.lockoutsNew b ≠ 0) :
    d.lockoutJudge b =
      (let g := d.lockoutsFlagged b
       if (g.bridge b).faulted && !g.joinsFault b then g.raise 0x0904 [b, d.lockoutsNew b]
       else ((g.bridgeFault b (d.lockoutsNew b) false).bridgeUp b fun x => { x with uvLegs := x.uvLegs ||| d.lockoutsNew b }).causeEvent b 2 0x0904
        (d.lockoutsNew b)) := by
  unfold Dev.lockoutsFlagged
  rw [lockoutsCounted_flags hb]
  exact if_neg hnew

theorem vdrvLow_first {mv dt : Nat} (hlow : mv < 9800) (hfirst : (d.advance dt).gdr.vdrvLow = false) :
    d.vdrvLow mv dt =
      (let e := ((d.advance dt).gatesOff 0).gatesOff 1
       ({ e with gdr := { e.gdr with vdrvLow := true } }.bump F.GDR_UV_CNT).raise 0x0909 [3, 0]) :=
  if_pos (by rw [decide_eq_true hlow, hfirst]; rfl)

theorem vdrvEnd_above {mv dt : Nat} (hhigh : 10200 < mv) :
    d.vdrvEnd mv dt = { d.advance dt with gdr := { (d.advance dt).gdr with vdrvLow := false } } := if_pos hhigh

/-! ## Short circuit and overcurrent (R316 to R318) -/

theorem shortCircuit_above {n rate dt : Nat} (hfast : 1000 * ((d.advance dt).get (F.GDR_SC_SC_SLEW.ix (n / 3)) + 1) < rate) :
    d.shortCircuit n rate dt = (d.advance dt).legFault n true := if_pos hfast

theorem overcurrent_above {n uv stay dt : Nat} (hon : (d.advance dt).flag (F.GDR_CFG_OC_EN.ix (n / 3)) = true)
    (hhigh : 20000 * (d.advance dt).get (F.GDR_SC_OC_THR.ix (n / 3)) < uv) :
    d.overcurrent n uv stay dt = (d.advance dt).ocDetect n ((d.advance dt).now + stay) 4 :=
  if_pos (by rw [hon, decide_eq_true hhigh]; rfl)

theorem ocDetect_free {n : Nat} (hfree : d.ocBlankEnd n = none) (end_ k : Nat) : d.ocDetect n end_ (k + 1) = d.legFault n false := by
  rw [Dev.ocDetect, hfree]

theorem ocDetect_blanked {n t : Nat} (hblank : d.ocBlankEnd n = some t) (end_ k : Nat) :
    d.ocDetect n end_ (k + 1) = if t ≤ end_ then (d.advanceTo t).ocDetect n end_ k else d := by
  rw [Dev.ocDetect, hblank]

theorem softEnd_due {b t on : Nat} (hsoft : (d.bridge b).soft = some (t, on)) :
    d.softEnd b = ((d.advanceTo t).bridgeUp b fun x => { x with soft := none }).faultEvents b := by
  rw [Dev.softEnd, hsoft]

/-! ## Retries and off-wires (R310, R320) -/

theorem retryEnd_due {b t : Nat} (hwait : (d.bridge b).wait = some t) :
    d.retryEnd b =
      (let e := d.advanceTo t
       if e.gdrCause b then e.bridgeUp b fun x => { x with wait := some (e.now + 10 * msec * (e.get (F.GDR_RETRY_WAIT.ix b) + 1)) }
       else ((e.bridgeRelease b).bump (F.GDR_STATUS_TRIES.ix b)).raise 0x0905
        [b, (e.bridge b).scLegs ||| (e.bridge b).ocLegs ||| (e.bridge b).uvLegs]) := by
  rw [Dev.retryEnd, hwait]

theorem tryClear_due {b t : Nat} (hsince : (d.bridge b).driveSince = some t) :
    d.tryClear b = (d.advanceTo (t + second * d.get (F.GDR_RETRY_CLR_T.ix b))).put (F.GDR_STATUS_TRIES.ix b) 0 := by
  rw [Dev.tryClear, hsince]

theorem wireAssert_driven {b dt : Nat} (hheld : (d.advance dt).dmp.drtHeld.testBit b = true) :
    d.wireAssert b dt = ((d.advance dt).gatesOff b).bridgeUp b fun x => { x with wire := true } := if_pos hheld

theorem wireRelease_free {b dt : Nat} (hfree : (d.advance dt).dmp.drtHeld.testBit b = false) :
    d.wireRelease b dt = (d.advance dt).bridgeUp b fun x => { x with wire := false } := if_neg (hfree.trans_ne Bool.false_ne_true)

/-- Settles O29: each event is its operation in an awake device. A bad word that is the third in a row finds a bridge without a
fault; a lockout asserted is judged as any lockout not yet answered; an excess that outlasts its blanking is detected at its end. -/
theorem gateDriverEventsComplete : Obligations.GateDriverEventsComplete := by
  refine ⟨fun b err s ha => ⟨?_, ?_, ?_⟩, fun n mv dt s ha => ⟨?_, ?_, ?_, ?_⟩, fun mv dt s ha => ⟨?_, ?_⟩,
    fun n x stay dt s ha => ⟨?_, ?_⟩, fun b t s ha => ⟨?_, fun hwait => ⟨?_, ?_⟩, ?_⟩, fun b dt s ha => ⟨?_, ?_⟩⟩
  · intro hgood
    show run (whenAwake fun d => d.driveWord b err) s = _
    exact run_whenAwake_next ha (driveWord_good hgood)
  · intro hbad hrun
    show run (whenAwake fun d => d.driveWord b err) s = _
    exact run_whenAwake_next ha ((driveWord_bad hbad).trans (if_pos hrun))
  · intro hbad hrun hfree
    show run (whenAwake fun d => d.driveWord b err) s = _
    refine run_whenAwake_next ha ((driveWord_bad hbad).trans ((if_neg (Nat.not_lt.mpr hrun)).trans (if_neg ?_)))
    rw [show ((s.dev.wordDropped b).bridge b).faulted = false from hfree, Bool.false_and]
    exact Bool.false_ne_true
  · intro hlow hfirst
    show run (whenAwake fun d => d.hsWarn n mv dt) s = _
    exact run_whenAwake_next ha (hsWarn_first hlow hfirst)
  · intro hhigh
    show run (whenAwake fun d => d.hsWarnEnd n mv dt) s = _
    exact run_whenAwake_next ha (hsWarnEnd_above hhigh)
  · intro ext hlow e new hnew
    have hb : n.val / 3 < 2 := by omega
    have hjudge := (hsLockout_below (d := s.dev) (n := n) (dt := dt) hlow).trans (lockoutJudge_new hb hnew)
    refine ⟨fun hfaulted hlate => ?_, fun hnow => ?_⟩
    · show run (whenAwake fun d => d.hsLockout n mv ext dt) s = _
      refine run_whenAwake_next ha (hjudge.trans (if_pos ?_))
      exact (Bool.and_eq_true _ _).mpr ⟨hfaulted, (Bool.not_eq_true' _).mpr hlate⟩
    · show run (whenAwake fun d => d.hsLockout n mv ext dt) s = _
      refine run_whenAwake_next ha (hjudge.trans (if_neg fun hheld => ?_))
      obtain ⟨hfaulted, hlate⟩ := (Bool.and_eq_true _ _).mp hheld
      obtain hfree | hjoins := hnow
      · exact Bool.noConfusion (hfaulted.symm.trans hfree)
      · exact Bool.noConfusion (((Bool.not_eq_true' _).mp hlate).symm.trans hjoins)
  · intro ext hhigh
    show run (whenAwake fun d => d.hsLockoutEnd n mv ext dt) s = _
    exact run_whenAwake_next ha (hsLockoutEnd_above hhigh)
  · intro hlow hfirst
    show run (whenAwake fun d => d.vdrvLow mv dt) s = _
    exact run_whenAwake_next ha (vdrvLow_first hlow hfirst)
  · intro hhigh
    show run (whenAwake fun d => d.vdrvEnd mv dt) s = _
    exact run_whenAwake_next ha (vdrvEnd_above hhigh)
  · intro hfast
    show run (whenAwake fun d => d.shortCircuit n x dt) s = _
    exact run_whenAwake_next ha (shortCircuit_above hfast)
  · intro hon hhigh
    have hexec {r : Dev} (h : (s.dev.advance dt).ocDetect n ((s.dev.advance dt).now + stay) 4 = r) :
        exec (.gdrOvercurrent n ⟨x, stay⟩ dt) s = .next (s.after r) := by
      show run (whenAwake fun d => d.overcurrent n x stay dt) s = _
      exact run_whenAwake_next ha ((overcurrent_above hon hhigh).trans h)
    refine ⟨fun hfree => hexec (ocDetect_free hfree _ 3), fun t hblank => ⟨fun hshort => hexec ?_, fun hlong hfree => hexec ?_⟩⟩
    · exact (ocDetect_blanked hblank _ 3).trans (if_neg (Nat.not_le.mpr hshort))
    · exact (ocDetect_blanked hblank _ 3).trans ((if_pos hlong).trans (ocDetect_free hfree _ 2))
  · intro on hsoft
    show run (whenAwake fun d => d.softEnd b) s = _
    exact run_whenAwake_next ha (softEnd_due hsoft)
  · intro hcause
    show run (whenAwake fun d => d.retryEnd b) s = _
    exact run_whenAwake_next ha ((retryEnd_due hwait).trans (if_pos hcause))
  · intro hclear
    show run (whenAwake fun d => d.retryEnd b) s = _
    exact run_whenAwake_next ha ((retryEnd_due hwait).trans (if_neg (hclear.trans_ne Bool.false_ne_true)))
  · intro hsince
    show run (whenAwake fun d => d.tryClear b) s = _
    exact run_whenAwake_next ha (tryClear_due hsince)
  · intro hheld
    show run (whenAwake fun d => d.wireAssert b dt) s = _
    exact run_whenAwake_next ha (wireAssert_driven hheld)
  · intro hfree
    show run (whenAwake fun d => d.wireRelease b dt) s = _
    exact run_whenAwake_next ha (wireRelease_free hfree)

end Sys2Proof.Machine
end

section
/-! PROOFS. The obligations of 20_command_set.md: steps, the checks of a request in their order, the commands of the device itself. -/
namespace Sys2Proof.Machine

/-! ## Steps (log entries 1 and 3) -/

/-- Settles O1. -/
theorem stepRunsTheFrontCommand : Obligations.StepRunsTheFrontCommand := by
  intro c rest s hqueue
  rw [step, hqueue]

/-- Settles O2. -/
theorem idleStepChangesNothing : Obligations.IdleStepChangesNothing := by
  intro s hqueue
  rw [step, hqueue]

/-- A command that is a change of the device answers a next state and leaves the queue. -/
theorem run_answers (f : Dev → Dev) (s : State) : ∃ t, run f s = .next t ∧ t.pending = s.pending := ⟨_, rfl, rfl⟩

/-- Settles O3: every arm of `exec` is a change of the device. -/
theorem everyCommandAnswersAndKeepsTheQueue : Obligations.EveryCommandAnswersAndKeepsTheQueue := by
  intro c s
  unfold exec
  split <;> exact run_answers _ s

/-! ## Sequence numbers (R460) -/

theorem judge_outside {x : Session} {q : Nat} (h : q = 0 ∨ q + 64 ≤ x.top) : x.judge q = .replay := by
  simp [Session.judge, h]

theorem judge_inside {x : Session} {q : Nat} (h0 : q ≠ 0) (htop : x.top < q + 64) :
    x.judge q = if x.cache.any fun c => c.1 == q then .duplicate else .accept := by
  simp [Session.judge, h0, htop]

theorem judge_seen {x : Session} {q : Nat} (h0 : q ≠ 0) (htop : x.top < q + 64) (h : ∃ c ∈ x.cache, c.1 = q) :
    x.judge q = .duplicate := by
  rw [judge_inside h0 htop, if_pos (by simpa using h)]

theorem judge_fresh {x : Session} {q : Nat} (h0 : q ≠ 0) (htop : x.top < q + 64) (h : ∀ c ∈ x.cache, c.1 ≠ q) :
    x.judge q = .accept := by
  rw [judge_inside h0 htop, if_neg (by simpa using fun o hc => h (q, o) hc rfl)]

theorem inside_of_judge_accept {x : Session} {q : Nat} (h : x.judge q = .accept) : q ≠ 0 ∧ x.top < q + 64 := by
  by_contra hout
  rw [judge_outside (by omega)] at h
  cases h

theorem take_top (x : Session) (q : Nat) : (x.take q).top = max x.top q := rfl

theorem mem_take_cache (x : Session) (q : Nat) : (q, none) ∈ (x.take q).cache := by simp [Session.take]

theorem judge_take {x : Session} {q : Nat} (h : x.judge q = .accept) : (x.take q).judge q = .duplicate := by
  obtain ⟨h0, htop⟩ := inside_of_judge_accept h
  exact judge_seen h0 (by rw [take_top]; omega) ⟨_, mem_take_cache x q, rfl⟩

/-- Settles O5, from what the rule says of a number outside the window, of one in the cache and of a fresh one. -/
theorem sequenceNumberRule : Obligations.SequenceNumberRule :=
  ⟨fun x q => ⟨judge_outside, judge_seen, judge_fresh, fun h => by rw [take_top]; omega, fun h => by rw [take_top]; omega, judge_take⟩,
    fun _ _ _ _ _ => rfl⟩

/-! ## Life-cycle permission (R467) -/

theorem lifecycleOk_owned (op : Nat) (p : List Byte) : lifecycleOk 2 op p = true := rfl

theorem lifecycleOk_service (op : Nat) (p : List Byte) :
    lifecycleOk 3 op p = false ↔ op = 0x21 ∨ op = 0x22 ∨ op = 0x24 ∨ (op = 0x20 ∧ leAt p 0 4 = 1) := by
  simp [lifecycleOk]
  tauto

theorem lifecycleOk_unowned {lc : Nat} (h : lc < 2) (op : Nat) (p : List Byte) :
    lifecycleOk lc op p = true ↔ (1 ≤ op ∧ op ≤ 5) ∨ (0x80 ≤ op ∧ op ≤ 0x82) ∨ (0x90 ≤ op ∧ op ≤ 0x92) := by
  have hlc : lifecycleOk lc op p = [0x01, 0x02, 0x03, 0x04, 0x05, 0x80, 0x81, 0x82, 0x90, 0x91, 0x92].contains op := by
    rw [lifecycleOk, if_neg (by omega), if_neg (by omega), if_pos h]
  rw [hlc, List.contains_iff_mem]
  simp only [List.mem_cons, List.not_mem_nil, or_false]
  omega

theorem lifecycleOk_scrapped (op : Nat) (p : List Byte) : lifecycleOk 4 op p = true ↔ op = 1 ∨ op = 2 ∨ op = 0x92 := by
  simp [lifecycleOk]

/-- Settles O6, state by state. -/
theorem lifecyclePermission : Obligations.LifecyclePermission := fun op p =>
  ⟨lifecycleOk_owned op p, lifecycleOk_service op p, fun _ h => lifecycleOk_unowned h op p, lifecycleOk_scrapped op p⟩

/-! ## The checks of R459 in their order -/

/-- A host command is its checks, then a part of its own. -/
theorem exec_hostOf {i : Instr} {op : Nat} {h : CmdHdr} {p : List Byte} (hi : hostOf i = some (op, h, p)) :
    ∃ (body : Body) (grp : GroupBody), exec i = run (Dev.hostCommand op h p body grp) := by
  unfold hostOf at hi
  split at hi <;> cases hi <;> exact ⟨_, _, rfl⟩

section Refused
variable {d : Dev} {op : Nat} {h : CmdHdr} {p : List Byte} (body : Body) (grp : GroupBody)

section Own
variable (hup : d.hearthUp = true) (hown : ∀ src, h.path ≠ .relay src)
include hup hown

theorem hostCommand_badLength (hlen : lengthBad h p = true) :
    d.hostCommand op h p body grp = (d.netQuiet.flueQuiet.bump F.HRT_CMD_LEN_CNT).refuse (asked op h) St.badLength := by
  unfold Dev.hostCommand
  simp only [hup, hlen, Bool.not_true, Bool.false_eq_true, if_false, if_true]
  rfl

variable (hlen : lengthBad h p = false)
include hlen

theorem hostCommand_badVersion (hver : h.ver ≠ 1) :
    d.hostCommand op h p body grp = (d.netQuiet.flueQuiet.bump F.HRT_CMD_OPC_CNT).refuse (asked op h) St.badOpcode := by
  unfold Dev.hostCommand
  simp only [hup, hlen, bne_iff_ne.mpr hver, Bool.not_true, Bool.false_eq_true, if_false, if_true]
  rfl

variable (hver : h.ver = 1)
include hver

theorem hostCommand_badAuth (hauth : d.netQuiet.flueQuiet.authBad op h = true) :
    d.hostCommand op h p body grp = (d.netQuiet.flueQuiet.authFail h).refuse (asked op h) St.authFail := by
  unfold Dev.hostCommand
  simp only [hup, hlen, hver, hauth, Bool.not_true, Bool.false_eq_true, if_false, if_true, bne_self_eq_false]
  rfl

theorem hostCommand_replay {x : Session} (hauth : d.netQuiet.flueQuiet.authBad op h = false)
    (hsession : d.netQuiet.flueQuiet.session h.sid = some x) (hseq : x.judge h.seq = .replay) :
    d.hostCommand op h p body grp =
      (((d.netQuiet.flueQuiet.sessUp h.sid fun y => y.count h.seq).bump F.HRT_CMD_REPLAY_CNT).raise 0x1005 [h.sid]).refuse
        (asked op h) St.replay := by
  unfold Dev.hostCommand
  simp only [hup, hlen, hver, hauth, hsession, hseq, Bool.not_true, Bool.false_eq_true, if_false, bne_self_eq_false]
  rfl

end Own

theorem execute_lifecycle (hstop : d.cpr.stopped = false) (hlc : lifecycleOk d.lc op p = false) :
    d.execute op h (asked op h) p body grp = d.respond op h St.lifecycle [] := by
  rw [Dev.execute, hstop, hlc]
  rfl

theorem execute_role (hstop : d.cpr.stopped = false) (hlc : lifecycleOk d.lc op p = true) (hrole : d.roleBad op h p = true) :
    d.execute op h (asked op h) p body grp = d.respond op h St.notPermitted [] := by
  rw [Dev.execute, hstop, hlc, hrole]
  rfl

end Refused

/-- Settles O4: one lemma per check, each of a request that passes those before it. -/
theorem hostRequestIsCheckedInOrder : Obligations.HostRequestIsCheckedInOrder := by
  intro i op h p s hi hup hpath q r
  obtain ⟨body, grp, hexec⟩ := exec_hostOf hi
  have hown : ∀ src, h.path ≠ .relay src := fun src hr => by simp [isRelay, hr] at hpath
  simp only [hexec, run_eq]
  refine ⟨fun hlen => ?_, fun hlen hver => ?_, fun hlen hver hauth => ?_, fun x hlen hver hauth hsession hseq => ?_,
    fun hlen hver hauth hseq hstop => ⟨fun hlc => ?_, fun hlc hrole => ?_⟩⟩
  · rw [hostCommand_badLength body grp hup hown hlen]
  · rw [hostCommand_badVersion body grp hup hown hlen hver]
  · rw [hostCommand_badAuth body grp hup hown hlen hver hauth]
  · rw [hostCommand_replay body grp hup hown hlen hver hauth hsession (judge_outside hseq)]
  · rw [hostCommand_received body grp hpath hup hlen hver hauth hseq, execute_lifecycle body grp hstop hlc]
  · rw [hostCommand_received body grp hpath hup hlen hver hauth hseq, execute_role body grp hstop hlc hrole]

/-! ## Commands of the device itself -/

section Bodies
variable {h : CmdHdr} {p : List Byte} {d : Dev}

theorem bodySessionOpen_ok (hgood : h.good = true) (hcool : d.hrt.hotTicks < 2) (hcred : d.credReason h (leAt p 96 4) (p.drop 100) = 0)
    (hroom : d.sec.sessions.length < 16) :
    bodySessionOpen h p d =
      let c := p.drop 100
      let role := if d.lc < 2 then 1 else leAt c 6 1
      let k := d.freshKey (p.take 96) "PLZ CMD"
      let x : Session := { sid := d.freeSid, role := role, serial := leAt c 40 4, notAfter := leAt c 32 8, key := k.2.1 }
      let r := leBytes 2 d.freeSid ++ leBytes 2 role ++ k.1
      let e := ((k.2.2.secUp fun y => { y with sessions := y.sessions ++ [x] }).raise 0x1012 [d.freeSid, role, x.serial]).shadowSession x
      { status := St.ok, payload := (r ++ e.devId) ++ e.sign ((r ++ e.devId) ++ p.take 96), dev := e } := by
  rw [bodySessionOpen, hgood, hcred, if_neg (by simp), if_neg (by omega), if_neg (by simp), if_neg (by omega)]
  rfl

theorem bodySessionRekey_ok (hgood : h.good = true) {x : Session} :
    let k := d.freshKey (p.take 96) "PLZ REKEY"
    let e := k.2.2.sessUp h.sid fun y => { y with oldKey := y.key, oldUsed := y.used, key := k.2.1, used := 0, since := h.seq }
    e.session h.sid = some x →
    bodySessionRekey h p d =
      { status := St.ok, payload := k.1 ++ (e.shadowSession x).sign (k.1 ++ p.take 96), dev := e.shadowSession x } := by
  intro k e hsession
  rw [bodySessionRekey, hgood, if_neg (by simp)]
  have hkey : d.freshKey (p.take 96) "PLZ REKEY" = k := rfl
  rw [hkey]
  show (let g := match e.session h.sid with | some s => e.shadowSession s | none => e; g.reply (k.1 ++ g.sign (k.1 ++ p.take 96))) = _
  rw [hsession]
  rfl

end Bodies

/-- Settles O7: each command is its own part answered; SESSION_CLOSE closes after its response. -/
theorem localCommandsComplete : Obligations.LocalCommandsComplete := by
  refine ⟨fun h p s hready => ?_, fun h p s hready => ?_, fun h p s hready => ?_, fun h p s hready => ?_, fun h p s hready hgood => ?_⟩
  · show run (Dev.hostCommand 0x01 h p bodyEcho grpNone) s = _
    exact run_hostCommand hready grpNone rfl
  · show run (Dev.hostCommand 0x02 h p bodyIdentify grpNone) s = _
    exact run_hostCommand hready grpNone rfl
  · intro d c hgood hcool hcred hroom
    show run (Dev.hostCommand 0x03 h p bodySessionOpen grpNone) s = _
    exact run_hostCommand hready grpNone (bodySessionOpen_ok hgood hcool hcred hroom)
  · show run (Dev.hostCommand 0x04 h p bodySessionClose grpNone) s = _
    exact run_hostCommand_after hready grpNone (next := fun d => d.closeSession h.sid) rfl
  · intro d k e x hsession
    show run (Dev.hostCommand 0x05 h p bodySessionRekey grpNone) s = _
    exact run_hostCommand hready grpNone (bodySessionRekey_ok hgood hsession)

end Sys2Proof.Machine
end

section
/-! PROOFS. The obligations of 17_flue_groups.md: the host commands of groups and units. -/
namespace Sys2Proof.Machine

section
variable {h : CmdHdr} {p : List Byte} {d : Dev}

theorem conclude_bound (op : Nat) (h : CmdHdr) (st : Nat) (pay : List Byte) (d : Dev) (g : Flu → Flu) :
    conclude (asked op h) { status := st, payload := pay, dev := d.fluUp g, bound := true } =
      d.fluUp fun f => { g f with owed := (g f).owed ++ [⟨asked op h, st, d.selfUid, pay⟩] } := rfl

/-- Such a command whose response waits for the next crown frame (R416). -/
theorem run_hostCommand_bound {op : Nat} {s : State} (hready : HostReady s.dev op h p) {body : Body} (grp : GroupBody)
    {st : Nat} {pay : List Byte} {g : Flu → Flu}
    (hbody : body h (ownPart op p) (s.dev.admitted op h p) =
      { status := st, payload := pay, dev := (s.dev.admitted op h p).fluUp g, bound := true }) :
    run (Dev.hostCommand op h p body grp) s = .next (s.after ((s.dev.admitted op h p).fluUp fun f =>
      { g f with owed := (g f).owed ++ [⟨asked op h, st, (s.dev.admitted op h p).selfUid, pay⟩] })) := by
  rw [run_eq, hostCommand_ready hready, hbody, conclude_bound]

theorem bodyRoleSet_handover (hcrown : d.fluRole = 2) (hkind : leAt p 0 4 = 1) (hstandby : d.flag F.FLU_ROLE_STANDBY_EN = true) :
    bodyRoleSet h p d = { status := St.ok, bound := true, dev := d.fluUp fun f => { f with
      cmds := f.cmds ++ [.handover (d.get F.FLU_ROLE_STANDBY_POS)] } } := by
  simp only [bodyRoleSet, hcrown, hkind, hstandby, bne_self_eq_false, Bool.not_true, Bool.false_eq_true, if_false]

theorem bodyRoleSet_standby (hcrown : d.fluRole = 2) (hkind : leAt p 0 4 = 2) (hlive : d.liveMask.testBit (leAt p 4 4) = true)
    (hother : leAt p 4 4 ≠ d.fluPos) (hcapable : (d.unitAt (leAt p 4 4)).any (fun e => e.flags.testBit 2) = true) :
    bodyRoleSet h p d = { status := St.ok, bound := true, dev := d.fluUp fun f => { f with
      cmds := f.cmds ++ [.standby (leAt p 4 4)] } } := by
  simp only [bodyRoleSet, hcrown, hkind, hlive, hother, hcapable, bne_self_eq_false, Bool.not_true, Bool.false_eq_true, if_false,
    decide_false, Bool.or_self]

theorem bodyUnitRead_entry {i : Nat} (hcrown : d.fluRole = 2)
    (hentry : ((List.range 4096).find? fun k => (unitEntry d.flu.unit k).kind != 0 && (unitEntry d.flu.unit k).uid == leAt p 0 2) = some i) :
    bodyUnitRead h p d =
      d.reply (Mem.bytes d.flu.unit (16 * i) 16 ++ leBytes 1 (if d.unitLive (unitEntry d.flu.unit i) then 1 else 0) ++ zeros 3) := by
  simp only [bodyUnitRead, hcrown, hentry, bne_self_eq_false, Bool.false_eq_true, if_false]

theorem bodyGroupStatus_alone :
    bodyGroupStatus h p d = d.reply (leBytes 4 d.gsv ++ ((List.range 9).map fun k => if k = d.gsv then 1 else 0).flatMap (leBytes 1)
      ++ zeros 3 ++ leBytes 4 1 ++ leBytes 4 (d.get F.FLU_EPOCH) ++ leBytes 4 (d.get F.FLU_GFI)) := rfl

theorem bodyGroupMeasure_alone :
    bodyGroupMeasure h p d = d.reply
      (bytesOf [d.memberFrame.p, d.memberFrame.q, d.memberFrame.v1, d.memberFrame.f] ++ leBytes 4 1 ++ leBytes 4 (d.get F.FLU_GFI)) := by
  have hboundary : d.memberFrame.mgfi = d.get F.FLU_GFI := rfl
  rw [bodyGroupMeasure, hboundary]

end

/-- Settles O13: each command is its own part answered; the response of ROLE_SET waits for the next crown frame. -/
theorem groupCommandsComplete : Obligations.GroupCommandsComplete := by
  refine ⟨fun h p s hready => ?_, fun h p s hready => ?_, fun h p s hready => ?_, fun h p s hready => ?_⟩
  · show run (Dev.hostCommand 0x60 h p bodyGroupStatus grpStatus) s = _
    exact run_hostCommand hready _ bodyGroupStatus_alone
  · show run (Dev.hostCommand 0x61 h p bodyGroupMeasure grpMeasure) s = _
    exact run_hostCommand hready _ bodyGroupMeasure_alone
  · intro d hcrown
    refine ⟨fun hkind hstandby => ?_, fun hkind hlive hother hcapable => ?_⟩
    · show run (Dev.hostCommand 0x62 h p bodyRoleSet grpNone) s = _
      have hrun := run_hostCommand_bound hready grpNone (bodyRoleSet_handover hcrown hkind hstandby)
      exact hrun
    · show run (Dev.hostCommand 0x62 h p bodyRoleSet grpNone) s = _
      have hrun := run_hostCommand_bound hready grpNone (bodyRoleSet_standby hcrown hkind hlive hother hcapable)
      exact hrun
  · intro d i hcrown hentry
    show run (Dev.hostCommand 0x63 h p bodyUnitRead grpNone) s = _
    exact run_hostCommand hready grpNone (bodyUnitRead_entry hcrown hentry)

end Sys2Proof.Machine
end

section
/-! PROOFS. The obligations of 16_station_network.md: the host commands of keys, time and CAN. -/
namespace Sys2Proof.Machine

/-! ## A payload without the owner's block (Table 20-5) -/

/-- A request that passes every check has the layout of its opcode. -/
theorem layoutOk_of_hostReady {d : Dev} {op : Nat} {h : CmdHdr} {p : List Byte} (hready : HostReady d op h p) :
    layoutOk op (ownPart op p) = true := by
  obtain ⟨-, -, -, -, -, -, -, -, -, -, -, -, hlayout⟩ := hready
  by_contra hbad
  simp [Dev.layoutRefusal, Bool.eq_false_iff.mpr hbad] at hlayout

theorem drop_take_of_le {p : List Byte} {o n k : Nat} (hk : o + n ≤ k) : ((p.take k).drop o).take n = (p.drop o).take n := by
  rw [List.drop_take, List.take_take, min_eq_left (by omega)]

/-- The owner's block stands behind every field of the payload. -/
theorem drop_take_ownPart {op : Nat} {p : List Byte} {o n : Nat} (hk : o + n ≤ (ownPart op p).length) :
    ((ownPart op p).drop o).take n = (p.drop o).take n := by
  unfold ownPart at hk ⊢
  split
  · rw [if_pos ‹_›, List.length_take] at hk
    exact drop_take_of_le (by omega)
  · rfl

theorem leAt_ownPart {op : Nat} {p : List Byte} {o n : Nat} (hk : o + n ≤ (ownPart op p).length) :
    leAt (ownPart op p) o n = leAt p o n := by
  rw [leAt, leAt, drop_take_ownPart hk]

/-! ## What the bodies answer -/

section Bodies
variable {h : CmdHdr} {p : List Byte} {d : Dev}

theorem keyDeliver_accepted (hlo : 1 ≤ leAt p 36 1) (hhi : leAt p 36 1 ≤ 3) (hgood : h.good = true)
    (hnamed : leAt p 0 32 ≠ 0 ∨ leAt p 36 1 = 3) :
    (decide (leAt p 36 1 = 0) || decide (3 < leAt p 36 1) || (decide (leAt p 0 32 = 0) && leAt p 36 1 != 3) || !h.good) = false := by
  simp only [hgood, Bool.or_eq_false_iff, Bool.and_eq_false_imp, decide_eq_false_iff_not, decide_eq_true_eq, bne_eq_false_iff_eq,
    Bool.not_true, and_true]
  omega

theorem bodyKeyDeliver_contexts (hlo : 1 ≤ leAt p 36 1) (hhi : leAt p 36 1 ≤ 3) (hgood : h.good = true) (hmask : leAt p 0 32 ≠ 0) :
    let k : NetKey :=
      { id := leAt p 32 4, alg := leAt p 36 1, start := leAt p 40 8, stop := leAt p 48 8
        key := d.unwrapped (leAt p 36 1) ((p.drop 56).take 40) }
    bodyKeyDeliver h p d = (((bitList 256 (leAt p 0 32)).foldl (fun e i => e.keyDeliver i k) d).raise 0x1014 [k.id]).done := by
  intro k
  rw [bodyKeyDeliver, keyDeliver_accepted hlo hhi hgood (.inl hmask), if_neg Bool.false_ne_true, if_neg hmask]
  rfl

theorem bodyKeyDeliver_group (hgood : h.good = true) (hmask : leAt p 0 32 = 0) (halg : leAt p 36 1 = 3) :
    let k : NetKey :=
      { id := leAt p 32 4, alg := leAt p 36 1, start := leAt p 40 8, stop := leAt p 48 8
        key := d.unwrapped (leAt p 36 1) ((p.drop 56).take 40) }
    bodyKeyDeliver h p d = ((d.fluUp fun f => { f with keyNext := some k }).raise 0x1014 [k.id]).done := by
  intro k
  rw [bodyKeyDeliver, keyDeliver_accepted (by omega) (by omega) hgood (.inr halg), if_neg Bool.false_ne_true, if_pos hmask]

theorem bodyCtxStatus_ok (hrange : leAt p 0 4 ≤ 255) :
    let a := (F.NET_CTX_STAT_VALID.ix (leAt p 0 4)).addr
    let b := (F.NET_KEY_CUR.ix (leAt p 0 4)).addr
    bodyCtxStatus h p d = d.reply ([a, a + 4, a + 8, a + 12, b, b + 4, b + 8, b + 12].flatMap d.wordBytes) := by
  intro a b
  rw [bodyCtxStatus, if_neg (by omega)]
  simp only [List.flatMap_cons, List.flatMap_nil, List.append_nil, List.append_assoc, Nat.add_zero, a, b]

theorem can_accepted (hc : leAt p 0 1 ≤ 1) (hm : leAt p 1 1 ≤ 63) : (decide (1 < leAt p 0 1) || decide (63 < leAt p 1 1)) = false := by
  simp; omega

theorem bodyCanSend_ok {e : Dev} (hc : leAt p 0 1 ≤ 1) (hm : leAt p 1 1 ≤ 63) (hrequest : d.canRequest (leAt p 0 1) (leAt p 1 1) = (e, 0)) :
    let c := leAt p 0 1
    let m := leAt p 1 1
    bodyCanSend h p d = (((e.setWord (mbF F.CAN_MB_ID c m).addr (wordAt p 4)).put (mbF F.CAN_MB_DLC c m)
      (leAt p 8 4 % 16)).putMbData c m (wordsOf (p.drop 12))).done := by
  intro c m
  rw [bodyCanSend, can_accepted hc hm, hrequest, if_neg Bool.false_ne_true]
  rfl

theorem bodyCanRead_ok (hc : leAt p 0 1 ≤ 1) (hm : leAt p 1 1 ≤ 63) :
    let c := leAt p 0 1
    let m := leAt p 1 1
    let e := d.put (mbF F.CAN_MB_NEWDATA c m) 0
    let a := (mbF F.CAN_MB_ID c m).addr
    bodyCanRead h p d = e.reply ([a, a + 4, a + 8].flatMap e.wordBytes ++ bytesOf (e.mbData c m 16)) := by
  intro c m e a
  rw [bodyCanRead, can_accepted hc hm, if_neg Bool.false_ne_true]
  simp only [List.flatMap_cons, List.flatMap_nil, List.append_nil, List.append_assoc, Nat.add_zero, a, e, c, m]

end Bodies

/-- Settles O14: each command is its own part answered. -/
theorem networkCommandsComplete : Obligations.NetworkCommandsComplete := by
  refine ⟨fun h p s hready => ?_, fun h p s hready hrange => ?_, fun h p s hready => ?_, fun h p s hready => ?_, fun h p s hready => ?_⟩
  · have hlen : (ownPart 0x70 p).length = 96 := by simpa [layoutOk] using layoutOk_of_hostReady hready
    have hat : ∀ o n, o + n ≤ 96 → leAt (ownPart 0x70 p) o n = leAt p o n := fun o n hon => leAt_ownPart (hlen ▸ hon)
    have hwrapped : ((ownPart 0x70 p).drop 56).take 40 = (p.drop 56).take 40 := drop_take_ownPart (by omega)
    have hcontexts := bodyKeyDeliver_contexts (h := h) (p := ownPart 0x70 p) (d := s.dev.admitted 0x70 h p)
    have hgroup := bodyKeyDeliver_group (h := h) (p := ownPart 0x70 p) (d := s.dev.admitted 0x70 h p)
    simp only [hat 0 32 (by omega), hat 32 4 (by omega), hat 36 1 (by omega), hat 40 8 (by omega), hat 48 8 (by omega), hwrapped]
      at hcontexts hgroup
    intro d k hlo hhi hgood
    refine ⟨fun hmask => ?_, fun hmask halg => ?_⟩
    · show run (Dev.hostCommand 0x70 h p bodyKeyDeliver (grpAll 0x70 bodyKeyDeliver)) s = _
      exact run_hostCommand hready _ (hcontexts hlo hhi hgood hmask)
    · show run (Dev.hostCommand 0x70 h p bodyKeyDeliver (grpAll 0x70 bodyKeyDeliver)) s = _
      exact run_hostCommand hready _ (hgroup hgood hmask halg)
  · show run (Dev.hostCommand 0x71 h p bodyCtxStatus grpNone) s = _
    exact run_hostCommand hready _ (bodyCtxStatus_ok hrange)
  · show run (Dev.hostCommand 0x72 h p bodyTimeRead grpNone) s = _
    exact run_hostCommand hready grpNone rfl
  · intro c m e hc hm hrequest
    show run (Dev.hostCommand 0x78 h p bodyCanSend grpNone) s = _
    exact run_hostCommand hready _ (bodyCanSend_ok hc hm hrequest)
  · intro c m hc hm
    show run (Dev.hostCommand 0x79 h p bodyCanRead grpNone) s = _
    exact run_hostCommand hready _ (bodyCanRead_ok hc hm)

end Sys2Proof.Machine
end

section
/-! PROOFS. The obligations of 22_trust_lifecycle.md: the host commands of the log, sensors, life cycle and Draught. -/
namespace Sys2Proof.Machine

/-! ## What the bodies answer -/

section Bodies
variable {h : CmdHdr} {p : List Byte} {d : Dev}

theorem bodyLogRead_ok (hregion : leAt p 0 1 ≤ 1) (hcount : leAt p 8 4 ≤ 60) :
    bodyLogRead h p d = d.reply ((d.logFrom (leAt p 0 1) (leAt p 4 4) (leAt p 8 4)).flatMap LogEntry.bytes) := by
  have hrange : (decide (1 < leAt p 0 1) || decide (60 < leAt p 8 4)) = false := by simp; omega
  rw [bodyLogRead, hrange, if_neg Bool.false_ne_true]

/-- The signed record of Table 21-3 queued, first by first. -/
theorem bodyLogExport_ok {r : Nat} (hregion : leAt p 0 1 ≤ 1) (hlo : 1 ≤ leAt p 8 4) (hhi : leAt p 8 4 ≤ 1024)
    (hident : d.flag F.HRT_LC_IDENT_OK = true) (hring : d.ringOfUse 4 = some r) :
    let es := d.logFrom (leAt p 0 1) (leAt p 4 4) (leAt p 8 4)
    let first := es.head?.elim (leAt p 4 4) LogEntry.num
    let tag := (d.tagBefore (leAt p 0 1) first).1
    let d1 := (d.tagBefore (leAt p 0 1) first).2
    let d2 := d1.fresh.2
    let x := leBytes 2 0x5801 ++ leBytes 1 (leAt p 0 1) ++ zeros 1 ++ leBytes 4 first ++ leBytes 4 es.length ++ zeros 4 ++ d2.devId
      ++ tag ++ leBytes 8 d2.ptpSec ++ leBytes 16 d1.fresh.1 ++ es.flatMap LogEntry.bytes
    bodyLogExport h p d = (d2.ringQueue r ⟨.exportRec (leAt p 0 1) (first + es.length), x ++ d2.sign x⟩).done := by
  intro es first tag d1 d2 x
  have hrange : (decide (1 < leAt p 0 1) || decide (leAt p 8 4 = 0) || decide (1024 < leAt p 8 4)) = false := by simp; omega
  rw [bodyLogExport, hrange, if_neg Bool.false_ne_true, hident, hring]

theorem bodyLcTransition_ok {c : Bool} (hgoal : leAt p 0 1 ≤ 4) (hrow : lcRow d.lc (leAt p 0 1) = some c)
    (hgsv : c = true → d.gsv ≤ 1 ∨ 7 ≤ d.gsv) : bodyLcTransition h p d = d.lcAccept h.path (leAt p 0 1) := by
  have hidle : (c && !(decide (d.gsv ≤ 1) || decide (7 ≤ d.gsv))) = false := by
    cases c
    · rfl
    · have := hgsv rfl
      simp
      omega
  simp only [bodyLcTransition, hrow, hidle, Nat.not_lt.mpr hgoal, Bool.false_eq_true, if_false]

theorem bodyProvision_ok (hgood : h.good = true) (hlc : d.lc = 1) (hsig : h.sig = true) :
    bodyProvision h p d = Dev.lcAccept ((d.put F.HRT_OWNER_CTR 0).secUp fun x => { x with
      otp := { x.otp with owner := some (sha384 (p.take 96)) }
      store := { x.store with owner := 0 }
      certs := (x.certs.filter fun c => c.1 != 4) ++ [(4, p.take 96)] }) h.path 2 := by
  simp only [bodyProvision, hgood, hlc, hsig, bne_self_eq_false, Bool.not_true, Bool.false_eq_true, if_false]

/-- The report of Table 20-7 without its signature. -/
def attestReport (p : List Byte) (d : Dev) : List Byte :=
  leBytes 4 0x415A4C50 ++ leBytes 4 d.lc ++ d.devId ++ p.take 16 ++ d.fbx.active.elim (zeros 32) Image.hash
    ++ leBytes 4 (d.fbx.active.elim 0 Image.version) ++ leBytes 4 d.pkgVersion ++ d.sec.otp.owner.getD (zeros 48)

theorem bodyAttest_signed (hlc : d.lc ≠ 4) (hident : d.flag F.HRT_LC_IDENT_OK = true) :
    bodyAttest h p d = d.reply (attestReport p d ++ d.sign (attestReport p d)) := by
  simp only [bodyAttest, hident, hlc, Bool.not_true, Bool.and_false, Bool.false_eq_true, if_false]
  rfl

theorem bodyAttest_scrapped (hlc : d.lc = 4) : bodyAttest h p d = d.reply (attestReport p d ++ zeros 96) := by
  simp only [bodyAttest, attestReport, Dev.imgVersion, hlc, bne_self_eq_false, Bool.false_and, Bool.false_eq_true, if_false, if_true]

section Draught
variable (hc : leAt p 0 1 ≤ 1)
include hc

theorem bodyDraught_start (hop : leAt p 1 1 = 1) (hstarts : (d.drtStart (leAt p 0 1)).2 = false) :
    bodyDraught h p d = (d.drtStart (leAt p 0 1)).1.done := by
  rw [bodyDraught, if_neg (by omega), hop]
  show ({ status := if (d.drtStart (leAt p 0 1)).2 then St.state else St.ok, dev := (d.drtStart (leAt p 0 1)).1 } : Ans) = _
  rw [hstarts]
  rfl

theorem bodyDraught_stop (hop : leAt p 1 1 = 2) : bodyDraught h p d = (d.drtStop (leAt p 0 1)).done := by
  rw [bodyDraught, if_neg (by omega), hop]
  rfl

theorem bodyDraught_clear (hop : leAt p 1 1 = 3) : bodyDraught h p d = (d.drtClear (leAt p 0 1)).done := by
  rw [bodyDraught, if_neg (by omega), hop]
  rfl

theorem bodyDraught_setpoint (hop : leAt p 1 1 = 4) : bodyDraught h p d = (d.drtSetp (leAt p 0 1) (wordAt p 4)).done := by
  rw [bodyDraught, if_neg (by omega), hop]
  rfl

end Draught
end Bodies

/-- Settles O15: each command is its own part answered; a transition's warm reset follows its response. -/
theorem trustCommandsComplete : Obligations.TrustCommandsComplete := by
  refine ⟨fun h p s hready hregion hcount => ?_, fun h p s hready hregion hlo hhi => ?_, fun h p s hready => ?_, fun h p s hready => ?_,
    fun h p s hready => ?_, fun h p s hready => ?_, fun h p s hready => ?_⟩
  · show run (Dev.hostCommand 0x80 h p bodyLogRead grpNone) s = _
    exact run_hostCommand hready _ (bodyLogRead_ok hregion hcount)
  · intro d r hident hring
    show run (Dev.hostCommand 0x81 h p bodyLogExport grpNone) s = _
    exact run_hostCommand hready _ (bodyLogExport_ok hregion hlo hhi hident hring)
  · show run (Dev.hostCommand 0x82 h p bodySensorRead grpNone) s = _
    exact run_hostCommand hready grpNone rfl
  · have hlen : (ownPart 0x90 p).length = 4 := by simpa [layoutOk] using layoutOk_of_hostReady hready
    have hat : leAt (ownPart 0x90 p) 0 1 = leAt p 0 1 := leAt_ownPart (by omega)
    intro d c hgoal hrow hgsv
    show run (Dev.hostCommand 0x90 h p bodyLcTransition grpNone) s = _
    rw [← hat] at hgoal hrow ⊢
    exact run_hostCommand_after hready grpNone (next := fun d => d.resetAfter h.path 5 (some (leAt (ownPart 0x90 p) 0 1)))
      (bodyLcTransition_ok hgoal hrow hgsv)
  · intro d hgood hlc hsig
    show run (Dev.hostCommand 0x91 h p bodyProvision grpNone) s = _
    exact run_hostCommand_after hready grpNone (next := fun d => d.resetAfter h.path 5 (some 2)) (bodyProvision_ok hgood hlc hsig)
  · refine ⟨fun hlc hident => ?_, fun hlc => ?_⟩
    · show run (Dev.hostCommand 0x92 h p bodyAttest grpNone) s = _
      exact run_hostCommand hready _ (bodyAttest_signed hlc hident)
    · show run (Dev.hostCommand 0x92 h p bodyAttest grpNone) s = _
      exact run_hostCommand hready _ (bodyAttest_scrapped hlc)
  · intro d c hc
    refine ⟨fun hop hstarts => ?_, fun hop => ?_, fun hop => ?_, fun hop => ?_⟩
    · show run (Dev.hostCommand 0x98 h p bodyDraught grpNone) s = _
      exact run_hostCommand hready _ (bodyDraught_start hc hop hstarts)
    · show run (Dev.hostCommand 0x98 h p bodyDraught grpNone) s = _
      exact run_hostCommand hready _ (bodyDraught_stop hc hop)
    · show run (Dev.hostCommand 0x98 h p bodyDraught grpNone) s = _
      exact run_hostCommand hready _ (bodyDraught_clear hc hop)
    · show run (Dev.hostCommand 0x98 h p bodyDraught grpNone) s = _
      exact run_hostCommand hready _ (bodyDraught_setpoint hc hop)

end Sys2Proof.Machine
end

section
/-! PROOFS. The obligations of 14_draught.md and 18_can_fd.md: writes of single registers of a Draught channel and of a
CAN buffer. -/
namespace Sys2Proof.Machine

/-! ## A register written with its own word -/

@[simp] theorem Dev.word_setWord_own (d : Dev) (a k : Nat) : (d.setWord a (d.word a)).word k = d.word k := by
  by_cases h : k = a
  · rw [h, Dev.word_setWord_same]
  · rw [Dev.word_setWord_other d h]

@[simp] theorem Dev.get_setWord_own (d : Dev) (a : Nat) (f : Fld) : (d.setWord a (d.word a)).get f = d.get f := by
  rw [Dev.get, Dev.word_setWord_own, Dev.get]

@[simp] theorem Dev.drtState_setWord_own (d : Dev) (a c : Nat) : (d.setWord a (d.word a)).drtState c = d.drtState c :=
  Dev.get_setWord_own d a _

@[simp] theorem Dev.mbState_setWord_own (d : Dev) (a c m : Nat) : (d.setWord a (d.word a)).mbState c m = d.mbState c m :=
  Dev.get_setWord_own d a _

@[simp] theorem Dev.canCfg_setWord_own (d : Dev) (a c : Nat) (f : Fld) : (d.setWord a (d.word a)).canCfg c f = d.canCfg c f := by
  unfold Dev.canCfg Dev.canOf
  rw [Dev.setWord_can, Dev.get_setWord_own]

@[simp] theorem Dev.canOn_setWord_own (d : Dev) (a c : Nat) (f : Fld) : (d.setWord a (d.word a)).canOn c f = d.canOn c f := by
  rw [Dev.canOn, Dev.canCfg_setWord_own, Dev.canOn]

/-! ## A write that acts (R9, R468) -/

/-- The bits an entry changes lie in its mask. -/
theorem entryChanged_and_mask (d : Dev) (e : RegEntry) : d.entryChanged e &&& e.mask.toNat = d.entryChanged e := by
  rw [Dev.entryChanged, ← BitVec.toNat_and]
  congr 1
  apply BitVec.eq_of_getLsbD_eq
  intro i hi
  simp only [Dev.entryNew, BitVec.getLsbD_and, BitVec.getLsbD_xor, BitVec.getLsbD_or, BitVec.getLsbD_not, hi, decide_true, Bool.true_and]
  cases e.mask.getLsbD i <;> simp

theorem entryChanged_and_of_disjoint (d : Dev) {e : RegEntry} {n : Nat} (h : e.mask.toNat &&& n = 0) : d.entryChanged e &&& n = 0 := by
  rw [← entryChanged_and_mask, Nat.and_assoc, h, Nat.and_zero]

section Action
variable {a : Nat} {m : Word} {r : RegRow} {ix : List Nat} (hrow : rowAt a = some (r, ix))
include hrow

/-- Bits that act and are written 1 leave the word of their register as it stands. -/
theorem entryWord_action (d : Dev) (hclr : r.clr = false) (hact : m.toNat &&& r.act = m.toNat) (hw1c : m.toNat &&& r.w1c = 0) :
    d.entryWord ⟨a, m, m⟩ r ix = d.word a := by
  rw [entryWord_stored d ix (.inl hclr)]
  apply BitVec.eq_of_getLsbD_eq
  intro i hi
  rw [getLsbD_entryStored d (e := ⟨a, m, m⟩) hrow hi]
  have hacts : m.getLsbD i = true → r.act.testBit i = true := by
    intro hm
    have hbit := congrArg (Nat.testBit · i) hact
    rw [← BitVec.testBit_toNat] at hm
    simpa [hm] using hbit
  have hkeeps : m.getLsbD i = true → r.w1c.testBit i = false := by
    intro hm
    have hbit := congrArg (Nat.testBit · i) hw1c
    rw [← BitVec.testBit_toNat] at hm
    simpa [hm] using hbit
  cases hm : m.getLsbD i
  · simp
  · simp [hacts hm, hkeeps hm]

/-- An entry that writes 1 to bits that act, where the block's own rules do not refuse it. -/
theorem writeEntry_action {d : Dev} (ha : a < 0x1000000) (hlc : r.lc = 0) (hclr : r.clr = false) (hact : m.toNat &&& r.act = m.toNat)
    (hplain : m.toNat &&& (r.ro ||| r.st ||| r.oa) = 0) (hw1c : m.toNat &&& r.w1c = 0) (hwarm : a ≠ 0x0B0024)
    (hvalue : badField a (d.word a) m = false)
    (hrule : ∀ changed, changed &&& m.toNat = changed → d.stateRule a changed m.toNat = 0) :
    d.writeEntry false ⟨a, m, m⟩ = (0, (d.setWord a (d.word a)).regAct a m.toNat (d.word a), false) := by
  have hacting : r.acting ⟨a, m, m⟩ = m.toNat := by rw [RegRow.acting, BitVec.and_self, hact]
  have hwrong : d.entryWrong false ⟨a, m, m⟩ r = false := by
    rw [Dev.entryWrong, entryChanged_and_of_disjoint d hplain]
    rfl
  have hmask : (d.entryChanged ⟨a, m, m⟩ &&& (r.rw ||| r.lc)) &&& m.toNat = d.entryChanged ⟨a, m, m⟩ &&& (r.rw ||| r.lc) := by
    rw [Nat.and_right_comm, entryChanged_and_mask]
  have hput : d.entryPut ⟨a, m, m⟩ r ix = d.setWord a (d.word a) := by
    rw [Dev.entryPut, hlc, entryWord_action hrow d hclr hact hw1c]
    rfl
  rw [writeEntry_assigned false ha hrow, hacting, hwrong, entryWord_action hrow d hclr hact hw1c, hput, BitVec.ofNat_toNat,
    BitVec.setWidth_eq, hvalue, hrule _ hmask, hlc, Nat.and_zero, beq_false_of_ne hwarm]
  rfl

end Action

/-- A single register written is its entry, then the status. -/
theorem writeOne_accepted {d e : Dev} {x : RegEntry} (hup : d.hearthUp = true) (hentry : d.writeEntry false x = (0, e, false)) :
    d.writeOne x = e.say St.ok := by
  rw [Dev.writeOne, hup]
  simp [Dev.regWrite, writeEntries, hentry]

theorem run_writeOne {s : State} {e : Dev} {x : RegEntry} (hup : s.dev.hearthUp = true)
    (hentry : s.dev.writeEntry false x = (0, e, false)) : run (whenAwake fun d => d.writeOne x) s = .next (s.after (e.say St.ok)) := by
  rw [run_whenAwake (Dev.awake_of_hearthUp hup), writeOne_accepted hup hentry]

/-! ## A Draught channel's control and setpoint (R339, R343) -/

theorem drtCtrl_row (c : Fin 2) :
    rowAt (F.DRT_CTRL_START.ix c).addr = some ({ base := 0x0A0078, dims := [(128, 2)], rw := 0x7, act := 0x7 }, [c.val]) := by
  revert c
  decide

theorem drtSetp_row (c : Fin 2) :
    rowAt (F.DRT_SETP.ix c).addr = some ({ base := 0x0A007C, dims := [(128, 2)], rw := 0xFFFFFFFF }, [c.val]) := by
  revert c
  decide

theorem drtCtrl_addr (c : Fin 2) : (F.DRT_CTRL_START.ix c).addr = 0x0A0078 ∨ (F.DRT_CTRL_START.ix c).addr = 0x0A00F8 := by
  revert c
  decide

theorem stateRule_drtCtrl (d : Dev) (c : Fin 2) (changed act : Nat) :
    d.stateRule (F.DRT_CTRL_START.ix c).addr changed act =
      if act.testBit 0 && !act.testBit 1 && (d.drtState c == 7 || d.drtState c == 8) then St.state else 0 := by
  fin_cases c <;> simp [Dev.stateRule, traceCfg, captureCfg, Fld.ix]

theorem regAct_drtCtrl (d : Dev) (c : Fin 2) (act : Nat) (w : Word) :
    d.regAct (F.DRT_CTRL_START.ix c).addr act w =
      let e := if act.testBit 2 then d.drtClear c else d
      if act.testBit 1 then e.drtStop c else if act.testBit 0 then (e.drtStart c).1 else e := by
  fin_cases c <;> simp [Dev.regAct, Fld.ix]

theorem regAct_drtSetp (d : Dev) (c : Fin 2) (act : Nat) (w : Word) :
    d.regAct (F.DRT_SETP.ix c).addr act w = d.drtSetp c w := by
  fin_cases c <;> simp [Dev.regAct, Fld.ix]

/-- One of START, STOP and CLEAR written 1. -/
theorem writeEntry_drtCtrl {d : Dev} (c : Fin 2) {m : Word} (hm : m ∈ [1#32, 2#32, 4#32])
    (hrule : (m.toNat.testBit 0 && !m.toNat.testBit 1 && (d.drtState c == 7 || d.drtState c == 8)) = false) :
    d.writeEntry false ⟨(F.DRT_CTRL_START.ix c).addr, m, m⟩ =
      (0, (d.setWord (F.DRT_CTRL_START.ix c).addr (d.word (F.DRT_CTRL_START.ix c).addr)).regAct (F.DRT_CTRL_START.ix c).addr m.toNat
        (d.word (F.DRT_CTRL_START.ix c).addr), false) := by
  have hact : m.toNat &&& 0x7 = m.toNat := by
    simp only [List.mem_cons, List.not_mem_nil, or_false] at hm
    obtain rfl | rfl | rfl := hm <;> rfl
  have haddr := drtCtrl_addr c
  refine writeEntry_action (drtCtrl_row c) (by omega) rfl rfl hact (Nat.and_zero _) (Nat.and_zero _) (by omega) ?_ fun changed _ => ?_
  · obtain h | h := haddr <;> simp [badField, h]
  · rw [stateRule_drtCtrl, hrule]
    rfl

theorem run_drtCtrl {s : State} (hup : s.dev.hearthUp = true) (c : Fin 2) {m : Word} (hm : m ∈ [1#32, 2#32, 4#32])
    (hrule : (m.toNat.testBit 0 && !m.toNat.testBit 1 && (s.dev.drtState c == 7 || s.dev.drtState c == 8)) = false) :
    let a := (F.DRT_CTRL_START.ix c).addr
    let d := s.dev.setWord a (s.dev.word a)
    let e := if m.toNat.testBit 2 then d.drtClear c else d
    run (whenAwake fun d => d.writeOne ⟨a, m, m⟩) s =
      .next (s.after ((if m.toNat.testBit 1 then e.drtStop c else if m.toNat.testBit 0 then (e.drtStart c).1 else e).say St.ok)) := by
  intro a d e
  rw [run_writeOne hup (writeEntry_drtCtrl c hm hrule), regAct_drtCtrl]

theorem drtStart_idle {d : Dev} {c : Nat} (h : d.drtState c = 0) :
    d.drtStart c = ((d.chUp c fun x => { x with stopped := false, onlyStart := false, live := false }).drtJudge c, false) := by
  rw [Dev.drtStart, h]
  rfl

theorem drtStart_running {d : Dev} {c : Nat} (hlo : 1 ≤ d.drtState c) (hhi : d.drtState c ≤ 6) :
    d.drtStart c = (d.chUp c fun x => { x with stopped := false }, false) := by
  unfold Dev.drtStart
  split
  · omega
  · omega
  · omega
  · rfl

theorem drtClear_lost {d : Dev} {c : Nat} (h : d.drtState c = 8) : d.drtClear c = (d.drtIdle c).put (F.DRT_STAT_TRIES.ix c) 0 := by
  rw [Dev.drtClear, h]
  rfl

theorem exec_drtCtrlStart {s : State} (hup : s.dev.hearthUp = true) (c : Fin 2) (hst : s.dev.drtState c ≤ 6) :
    let a := (F.DRT_CTRL_START.ix c).addr
    exec (.drtCtrlStart c) s = .next (s.after (((s.dev.setWord a (s.dev.word a)).drtStart c).1.say St.ok)) := by
  intro a
  show run (whenAwake fun d => d.writeOne ⟨(F.DRT_CTRL_START.ix c).addr, 1#32, 1#32⟩) s = _
  have h7 : (s.dev.drtState c == 7) = false := beq_false_of_ne (by omega)
  have h8 : (s.dev.drtState c == 8) = false := beq_false_of_ne (by omega)
  rw [run_drtCtrl hup c (by simp) (by rw [h7, h8]; rfl)]
  rfl

theorem exec_drtCtrlStop {s : State} (hup : s.dev.hearthUp = true) (c : Fin 2) :
    let a := (F.DRT_CTRL_START.ix c).addr
    exec (.drtCtrlStop c) s = .next (s.after (((s.dev.setWord a (s.dev.word a)).drtStop c).say St.ok)) := by
  intro a
  show run (whenAwake fun d => d.writeOne ⟨(F.DRT_CTRL_START.ix c).addr, 2#32, 2#32⟩) s = _
  rw [run_drtCtrl hup c (by simp) rfl]
  rfl

theorem exec_drtCtrlClear {s : State} (hup : s.dev.hearthUp = true) (c : Fin 2) :
    let a := (F.DRT_CTRL_START.ix c).addr
    exec (.drtCtrlClear c) s = .next (s.after (((s.dev.setWord a (s.dev.word a)).drtClear c).say St.ok)) := by
  intro a
  show run (whenAwake fun d => d.writeOne ⟨(F.DRT_CTRL_START.ix c).addr, 4#32, 4#32⟩) s = _
  rw [run_drtCtrl hup c (by simp) rfl]
  rfl

theorem drtSetp_addr (c : Fin 2) : (F.DRT_SETP.ix c).addr = 0x0A007C ∨ (F.DRT_SETP.ix c).addr = 0x0A00FC := by
  revert c
  decide

/-- A whole word that is configuration and nothing else is stored as given. -/
theorem entryWord_whole (d : Dev) {a : Nat} {v : Word} {r : RegRow} {ix : List Nat} (hrow : rowAt a = some (r, ix)) (hclr : r.clr = false)
    (hrw : r.rw = 0xFFFFFFFF) (hact : r.act = 0) (hw1c : r.w1c = 0) : d.entryWord ⟨a, 0xFFFFFFFF, v⟩ r ix = v := by
  rw [entryWord_stored d ix (.inl hclr)]
  apply BitVec.eq_of_getLsbD_eq
  intro i hi
  have hone : Nat.testBit 0xFFFFFFFF i = true := by
    rw [show 0xFFFFFFFF = 2 ^ 32 - 1 from rfl, Nat.testBit_two_pow_sub_one]
    exact decide_eq_true hi
  have hmask : (0xFFFFFFFF : Word).getLsbD i = true := by
    rw [← BitVec.testBit_toNat]
    exact hone
  rw [getLsbD_entryStored d (e := ⟨a, 0xFFFFFFFF, v⟩) hrow hi, hrw, hact, hw1c, hone, hmask]
  simp

theorem writeEntry_drtSetp {d : Dev} (c : Fin 2) (v : Word) :
    d.writeEntry false ⟨(F.DRT_SETP.ix c).addr, 0xFFFFFFFF, v⟩ = (0, (d.setWord (F.DRT_SETP.ix c).addr v).drtSetp c v, false) := by
  have haddr := drtSetp_addr c
  have hvalue : ∀ w act, badField (F.DRT_SETP.ix c).addr w act = false := fun w act => by obtain h | h := haddr <;> simp [badField, h]
  have hrule : ∀ changed act, d.stateRule (F.DRT_SETP.ix c).addr changed act = 0 := by
    intro changed act
    obtain h | h := haddr <;> simp [Dev.stateRule, traceCfg, captureCfg, canBufOf, h]
  have hwarm : ((F.DRT_SETP.ix c).addr == 0x0B0024) = false := beq_false_of_ne (by omega)
  rw [writeEntry_assigned (e := ⟨(F.DRT_SETP.ix c).addr, 0xFFFFFFFF, v⟩) false (show (F.DRT_SETP.ix c).addr < 0x1000000 by omega) (drtSetp_row c)]
  simp only [Dev.entryWrong, hvalue, hrule, hwarm, Dev.entryPut, entryWord_whole d (drtSetp_row c) rfl rfl rfl rfl, regAct_drtSetp]
  simp

theorem exec_drtSetpWrite {s : State} (hup : s.dev.hearthUp = true) (c : Fin 2) (v : Word) :
    exec (.drtSetpWrite c v) s = .next (s.after (((s.dev.setWord (F.DRT_SETP.ix c).addr v).drtSetp c v).say St.ok)) := by
  show run (whenAwake fun d => d.writeOne ⟨(F.DRT_SETP.ix c).addr, 0xFFFFFFFF, v⟩) s = _
  rw [run_writeOne hup (writeEntry_drtSetp c v)]

/-! ## A CAN controller's recovery and a buffer's requests (R424, R426, R434) -/

theorem canCtrl_row (c : Fin 2) :
    rowAt (F.CAN_CTRL_RECOVER.ix c).addr = some ({ base := 0x0E0010, dims := [(16384, 2)], rw := 0x1, act := 0x1 }, [c.val]) := by
  revert c
  decide

theorem canCtrl_addr (c : Fin 2) : (F.CAN_CTRL_RECOVER.ix c).addr = 0x0E0010 ∨ (F.CAN_CTRL_RECOVER.ix c).addr = 0x0E4010 := by
  revert c
  decide

theorem regAct_canCtrl (d : Dev) (c : Fin 2) (act : Nat) (w : Word) :
    d.regAct (F.CAN_CTRL_RECOVER.ix c).addr act w = if act.testBit 0 then d.canRecover c else d := by
  fin_cases c <;> simp [Dev.regAct, Fld.ix]

theorem exec_canCtrlRecover {s : State} (hup : s.dev.hearthUp = true) (c : Fin 2) :
    let a := (F.CAN_CTRL_RECOVER.ix c).addr
    exec (.canCtrlRecover c) s = .next (s.after (((s.dev.setWord a (s.dev.word a)).canRecover c).say St.ok)) := by
  intro a
  have haddr := canCtrl_addr c
  show run (whenAwake fun d => d.writeOne ⟨(F.CAN_CTRL_RECOVER.ix c).addr, 1#32, 1#32⟩) s = _
  rw [run_writeOne hup (writeEntry_action (canCtrl_row c) (by omega) rfl rfl rfl rfl rfl (by omega) ?_ fun changed _ => ?_), regAct_canCtrl]
  · rfl
  · obtain h | h := haddr <;> simp [badField, h]
  · obtain h | h := haddr <;> simp [Dev.stateRule, traceCfg, captureCfg, canBufOf, h]

/-- The row of a buffer's control word. -/
def canBufRow : RegRow :=
  { base := 0x0E1004, dims := [(16384, 2), (80, 64)], rw := 0x30F, ro := 0x1F0F0, w1c := 0xC00, act := 0x300 }

theorem canBuf_row (c : Fin 2) (m : Fin 64) : rowAt (mbF F.CAN_MB_DLC c m).addr = some (canBufRow, [c.val, m.val]) := by
  revert c m
  decide +kernel

theorem canBufOf_ctrl (c : Fin 2) (m : Fin 64) : canBufOf (mbF F.CAN_MB_DLC c m).addr = some (c.val, m.val, 4) := by
  revert c m
  decide +kernel

theorem canBuf_addr (c : Fin 2) (m : Fin 64) :
    0x0E1004 ≤ (mbF F.CAN_MB_DLC c m).addr ∧ (mbF F.CAN_MB_DLC c m).addr < 0x0E8000 ∧ (mbF F.CAN_MB_DLC c m).addr ≠ 0x0E4010 := by
  have haddr : (mbF F.CAN_MB_DLC c m).addr = 0x0E1004 + 16384 * c + 80 * m := rfl
  have hc := c.isLt
  have hm := m.isLt
  omega

theorem regAct_canBuf (d : Dev) (c : Fin 2) (m : Fin 64) (act : Nat) (w : Word) :
    d.regAct (mbF F.CAN_MB_DLC c m).addr act w =
      let e := if act.testBit 8 then (d.canRequest c m).1 else d
      if act.testBit 9 then e.canCancel c m else e := by
  obtain ⟨hlo, hhi, hctrl⟩ := canBuf_addr c m
  have hptp : F.NET_PTP_SET.addr = 0x0C0060 := rfl
  rw [Dev.regAct, if_neg (by omega), if_neg (by omega), if_neg (by omega), if_neg (by omega), if_neg (by omega), if_neg (by omega),
    if_neg (by omega), if_neg (by omega), if_neg (by omega), if_neg (by omega), canBufOf_ctrl]
  rfl

theorem stateRule_canBuf (d : Dev) (c : Fin 2) (m : Fin 64) (changed act : Nat) (hchanged : changed % 16 = 0) :
    d.stateRule (mbF F.CAN_MB_DLC c m).addr changed act = if act.testBit 8 then (d.canRequest c m).2 else 0 := by
  obtain ⟨hlo, hhi, hctrl⟩ := canBuf_addr c m
  have hptp : F.NET_PTP_SET.addr = 0x0C0060 := rfl
  have htrace : traceCfg (mbF F.CAN_MB_DLC c m).addr = 0 := by rw [traceCfg, if_neg (by omega), if_neg (by omega)]
  have hcapture : captureCfg (mbF F.CAN_MB_DLC c m).addr = 0 := by rw [captureCfg, if_neg (by omega)]
  rw [Dev.stateRule, htrace, hcapture, if_neg (by simp), if_neg (by simp), if_neg (by omega), if_neg (by omega), if_neg (by omega),
    if_neg (by omega), if_neg (by omega), if_neg (by omega), canBufOf_ctrl]
  simp [hchanged]

theorem badField_canBuf (c : Fin 2) (m : Fin 64) (w act : Word) : badField (mbF F.CAN_MB_DLC c m).addr w act = false := by
  obtain ⟨hlo, hhi, hctrl⟩ := canBuf_addr c m
  rw [badField, if_neg (by omega), if_neg (by omega), if_neg (by omega), if_neg (by omega), if_neg (by omega), if_neg (by omega),
    if_neg (by omega), if_neg (by omega)]

/-- REQ or CANCEL written 1, where the buffer's own rule does not refuse it. -/
theorem writeEntry_canBuf {d : Dev} (c : Fin 2) (m : Fin 64) {b : Word} (hb : b ∈ [0x100#32, 0x200#32])
    (hrule : (if b.toNat.testBit 8 then (d.canRequest c m).2 else 0) = 0) :
    let a := (mbF F.CAN_MB_DLC c m).addr
    d.writeEntry false ⟨a, b, b⟩ = (0, (d.setWord a (d.word a)).regAct a b.toNat (d.word a), false) := by
  intro a
  obtain ⟨hlo, hhi, hctrl⟩ := canBuf_addr c m
  have hbit : b.toNat &&& 0x300 = b.toNat ∧ b.toNat &&& 0x1F0F0 = 0 ∧ b.toNat &&& 0xC00 = 0 ∧ b.toNat &&& 0xF = 0 := by
    simp only [List.mem_cons, List.not_mem_nil, or_false] at hb
    obtain rfl | rfl := hb <;> decide
  obtain ⟨hact, hplain, hw1c, hlow⟩ := hbit
  refine writeEntry_action (canBuf_row c m) (by omega) rfl rfl hact hplain hw1c (by omega) (badField_canBuf c m _ _) fun changed hmask => ?_
  have hchanged : changed % 16 = 0 := by
    have h15 : changed &&& 15 = 0 := by rw [← hmask, Nat.and_assoc, hlow, Nat.and_zero]
    rwa [show (15 : Nat) = 2 ^ 4 - 1 from rfl, Nat.and_two_pow_sub_one_eq_mod] at h15
  rw [stateRule_canBuf d c m changed _ hchanged, hrule]

theorem canRequest_free {d : Dev} {c m : Nat} (hdir : d.canCfg c (mbF F.CAN_MB_CFG_DIR c m) = 1)
    (hport : d.canOn c (mbF F.CAN_MB_CFG_PORT_EN c m) = false) (hpending : d.mbState c m ≠ 1) (hsending : d.mbState c m ≠ 2) :
    d.canRequest c m =
      (((d.put (mbF F.CAN_MB_STATE c m) 1).put (mbF F.CAN_MB_ATTEMPTS c m) 0).put (mbF F.CAN_MB_CANCEL_LATE c m) 0, 0) := by
  simp [Dev.canRequest, hdir, hport, hpending, hsending]

theorem canCancel_pending {d : Dev} {c m : Nat} (h : d.mbState c m = 1) : d.canCancel c m = d.put (mbF F.CAN_MB_STATE c m) 4 := by
  rw [Dev.canCancel, h]
  rfl

theorem canCancel_sending {d : Dev} {c m : Nat} (h : d.mbState c m = 2) : d.canCancel c m = d.put (mbF F.CAN_MB_CANCEL_LATE c m) 1 := by
  rw [Dev.canCancel, h]
  rfl

theorem exec_canMbReq {s : State} (hup : s.dev.hearthUp = true) (c : Fin 2) (m : Fin 64) (hfree : (s.dev.canRequest c m).2 = 0) :
    let a := (mbF F.CAN_MB_DLC c m).addr
    exec (.canMbReq c m) s = .next (s.after (((s.dev.setWord a (s.dev.word a)).canRequest c m).1.say St.ok)) := by
  intro a
  have hmask : wmask 8 8 = 0x100#32 := by decide
  show run (whenAwake fun d => d.writeOne ⟨(mbF F.CAN_MB_DLC c m).addr, wmask 8 8, wmask 8 8⟩) s = _
  simp only [hmask]
  have h8 : (0x100#32).toNat.testBit 8 = true := by decide
  have h9 : (0x100#32).toNat.testBit 9 = false := by decide
  rw [run_writeOne hup (writeEntry_canBuf (b := 0x100#32) c m (by simp) (by rw [h8]; exact hfree)), regAct_canBuf]
  simp only [h8, h9, if_true, Bool.false_eq_true, if_false, a]

theorem exec_canMbCancel {s : State} (hup : s.dev.hearthUp = true) (c : Fin 2) (m : Fin 64) :
    let a := (mbF F.CAN_MB_DLC c m).addr
    exec (.canMbCancel c m) s = .next (s.after (((s.dev.setWord a (s.dev.word a)).canCancel c m).say St.ok)) := by
  intro a
  have hmask : wmask 9 9 = 0x200#32 := by decide
  show run (whenAwake fun d => d.writeOne ⟨(mbF F.CAN_MB_DLC c m).addr, wmask 9 9, wmask 9 9⟩) s = _
  simp only [hmask]
  rw [run_writeOne hup (writeEntry_canBuf c m (by simp) rfl), regAct_canBuf]
  have h8 : (0x200#32).toNat.testBit 8 = false := by decide
  have h9 : (0x200#32).toNat.testBit 9 = true := by decide
  simp only [h8, h9, if_true, Bool.false_eq_true, if_false, a]

/-- Settles O20: each write is an entry that its block does not refuse, and what the register's own bits do. -/
theorem channelAndBufferWritesComplete : Obligations.ChannelAndBufferWritesComplete := by
  refine ⟨fun c s hup => ?_, fun c v s hup => exec_drtSetpWrite hup c v, fun c s hup hoff => ?_, fun c m s hup => ?_⟩
  · intro a d
    refine ⟨fun hst => ?_, fun hlo hhi => ?_, exec_drtCtrlStop hup c, fun hst => ?_⟩
    · rw [exec_drtCtrlStart hup c (by omega), drtStart_idle (by simpa using hst)]
    · rw [exec_drtCtrlStart hup c hhi, drtStart_running (by simpa using hlo) (by simpa using hhi)]
    · rw [exec_drtCtrlClear hup c, drtClear_lost (by simpa using hst)]
  · intro a
    rw [exec_canCtrlRecover hup c, Dev.canRecover, if_pos (by simpa using hoff)]
  · intro a d
    refine ⟨fun hdir hport hpending hsending => ?_, fun hst => ?_, fun hst => ?_⟩
    · rw [exec_canMbReq hup c m (by rw [canRequest_free hdir hport hpending hsending]),
        canRequest_free (by simpa using hdir) (by simpa using hport) (by simpa using hpending) (by simpa using hsending)]
    · rw [exec_canMbCancel hup c m, canCancel_pending (by simpa using hst)]
    · rw [exec_canMbCancel hup c m, canCancel_sending (by simpa using hst)]

end Sys2Proof.Machine
end

section
/-! PROOFS. The obligations of 14_draught.md: periods, commutations, windows, limits and the speed loop of a channel, and how
it starts. -/
namespace Sys2Proof.Machine

/-! ## Starting (R335 to R341) -/

section Starting
variable {d : Dev} {c comps : Nat} {amp vmot : Word} {early : Option Nat}

theorem observeEnd_observing (h : d.drtState c = 1) :
    d.observeEnd c comps amp vmot early =
      (((d.advanceTo ((d.ch c).enterAt + 15000000)).put (F.DRT_VMOT.ix c) vmot.toNat).drtDecide c).drtReads c comps amp vmot early := by
  simp only [Dev.observeEnd, h, bne_self_eq_false, Bool.false_eq_true, if_false, show 30 * msec = 15000000 from rfl]

theorem brakeEnd_braking (h : d.drtState c = 2) :
    d.brakeEnd c =
      let e := d.advanceTo ((d.ch c).enterAt + 5000000 * d.drtCfg c F.DRT_LIM_BRK_T)
      let n := (e.ch c).brakes + 1
      if e.drtCfg c F.DRT_START_CFG_BRK_MAX ≤ n then e.drtTry c 0x0A05 else (e.drtEnter c 1).chUp c fun x => { x with brakes := n } := by
  simp only [Dev.brakeEnd, h, bne_self_eq_false, Bool.false_eq_true, if_false, show 10 * msec = 5000000 from rfl]

theorem alignEnd_aligning (h : d.drtState c = 3) :
    d.alignEnd c comps amp vmot early =
      ((d.advanceTo ((d.ch c).enterAt + 5000000 * d.drtCfg c F.DRT_START_CFG_ALIGN_T)).drtRamp c).drtReads c comps amp vmot early := by
  simp only [Dev.alignEnd, h, bne_self_eq_false, Bool.false_eq_true, if_false, show 10 * msec = 5000000 from rfl]

theorem rampTimeout_ramping (h : d.drtState c = 4) :
    d.rampTimeout c = (d.advanceTo ((d.ch c).enterAt + 50000000 * d.drtCfg c F.DRT_START_CFG_RAMP_T)).drtTry c 0x0A05 := by
  simp only [Dev.rampTimeout, h, bne_self_eq_false, Bool.false_eq_true, if_false, show 100 * msec = 50000000 from rfl]

theorem coastTimeout_coasting (h : d.drtState c = 6) :
    d.coastTimeout c = (d.advanceTo ((d.ch c).enterAt + 10000000)).drtTry c 0x0A07 := by
  simp only [Dev.coastTimeout, h, bne_self_eq_false, Bool.false_eq_true, if_false, show 20 * msec = 10000000 from rfl]

/-- A crossing that the filter finds, and that is not of the side its phase was last found on. -/
theorem observeCrossing_found {ph stay dt at_ t : Nat} {rising : Bool}
    (hst : (d.advance dt).drtState c = 1 ∨ (d.advance dt).drtState c = 6)
    (hfound : (d.advance dt).observeSamples c stay = some (at_, t))
    (hside : ∀ o, ((d.advance dt).ch c).obs.find? (fun o => o.phase == ph) = some o → o.rising ≠ rising) :
    d.observeCrossing c ph rising stay comps amp vmot early dt =
      ((d.advance dt).advanceTo t).observed c ph rising at_ comps amp vmot early := by
  have hstate : ((d.advance dt).drtState c != 1 && (d.advance dt).drtState c != 6) = false := by
    obtain h | h := hst <;> rw [h] <;> rfl
  have hnew : ((((d.advance dt).ch c).obs.find? fun o => o.phase = ph).any (·.rising == rising)) = false := by
    cases ho : ((d.advance dt).ch c).obs.find? fun o => o.phase == ph with
    | none => rfl
    | some o => exact beq_false_of_ne (hside o ho)
  rw [Dev.observeCrossing]
  simp only [hstate, hnew, hfound, Bool.or_self, Bool.false_eq_true, if_false]

theorem observed_unsteady {ph zc : Nat} {rising : Bool}
    (h : ((d.chUp c fun x => { x with obs := ⟨ph, rising, zc⟩ :: x.obs }).put (F.DRT_VMOT.ix c) vmot.toNat).drtObserved c = none) :
    d.observed c ph rising zc comps amp vmot early =
      ((d.chUp c fun x => { x with obs := ⟨ph, rising, zc⟩ :: x.obs }).put (F.DRT_VMOT.ix c) vmot.toNat).chUp c fun x =>
        { x with known := false, f := 0 } := by
  simp only [Dev.observed, h]

theorem observed_steady {ph at_ : Nat} {rising fwd : Bool} {ints : List Nat} {sec zc : Nat} :
    let e := (d.chUp c fun x => { x with obs := ⟨ph, rising, at_⟩ :: x.obs }).put (F.DRT_VMOT.ix c) vmot.toNat
    let f := e.chUp c fun x => { x with known := true, f := if fwd then speedOf ints else f64.neg (speedOf ints) }
    e.drtObserved c = some (fwd, ints, sec, zc) →
    d.observed c ph rising at_ comps amp vmot early =
      if d.drtState c = 6 ∧ fwd = true ∧ f64.le (f.drtReal c F.DRT_CATCH_F) (speedOf ints) = true then
        (f.drtCatch c ints sec zc).drtReads c comps amp vmot early else f := by
  intro e f h
  simp only [e, f] at h ⊢
  simp only [Dev.observed, h, Bool.and_eq_true, beq_iff_eq, and_assoc]

end Starting

/-- Settles O31: each event is its operation in an awake device. -/
theorem draughtStartingEventsComplete : Obligations.DraughtStartingEventsComplete := by
  refine ⟨fun c comps amp vmot early s ha hst => ?_, fun c ph rising stay comps amp vmot early dt at_ t s ha => ?_, fun c s ha hst => ?_,
    fun c comps amp vmot early s ha hst => ?_, fun c s ha => ⟨fun hst => ?_, fun hst => ?_⟩⟩
  · show run (whenAwake fun d => d.observeEnd c comps amp vmot early) s = _
    rw [run_whenAwake ha, observeEnd_observing hst]
  · intro b hst hfound hside d e
    refine ⟨fun hnone => ?_, fun fwd ints sec zc hsome => ?_⟩
    · show run (whenAwake fun d => d.observeCrossing c ph rising stay comps amp vmot early dt) s = _
      rw [run_whenAwake ha, observeCrossing_found hst hfound hside, observed_unsteady hnone]
    · intro f
      show run (whenAwake fun d => d.observeCrossing c ph rising stay comps amp vmot early dt) s = _
      rw [run_whenAwake ha, observeCrossing_found hst hfound hside, observed_steady hsome]
  · show run (whenAwake fun d => d.brakeEnd c) s = _
    rw [run_whenAwake ha, brakeEnd_braking hst]
  · show run (whenAwake fun d => d.alignEnd c comps amp vmot early) s = _
    rw [run_whenAwake ha, alignEnd_aligning hst]
  · show run (whenAwake fun d => d.rampTimeout c) s = _
    rw [run_whenAwake ha, rampTimeout_ramping hst]
  · show run (whenAwake fun d => d.coastTimeout c) s = _
    rw [run_whenAwake ha, coastTimeout_coasting hst]

/-! ## Periods (R326, R344) -/

theorem upd_upd {α : Type} (l : List α) (i : Nat) (f g : α → α) : upd (upd l i f) i g = upd l i fun x => g (f x) := by
  simp only [upd, List.modify_modify_eq]
  rfl

/-- A channel changed twice, a field written between. -/
theorem chUp_putB_chUp (d : Dev) (c : Nat) (f g : DrtCh → DrtCh) (x : Fld) (b : Bool) :
    ((d.chUp c f).putB x b).chUp c g = (d.putB x b).chUp c fun y => g (f y) := by
  simp only [Dev.chUp, Dev.putB, Dev.put, Dev.setWord, Dev.word, upd_upd]

/-- The limit instant of a channel whose settings are taken. -/
theorem limAt_chUp (d : Dev) (c : Nat) {f : DrtCh → DrtCh} (hf : ∀ x, (f x).limAt = x.limAt) : ((d.chUp c f).ch c).limAt = (d.ch c).limAt := by
  simp only [Dev.ch, Dev.chUp]
  rcases Nat.lt_or_ge c d.drt.length with h | h
  · rw [getD_upd_same _ _ _ _ h, hf]
  · rw [List.getD_eq_default _ _ h, List.getD_eq_default _ _ (by rw [length_upd]; exact h)]

theorem drtPeriod_eq (a : Dev) (c : Nat) :
    a.drtPeriod c =
      let d := a.wordsTo c a.time.now
      let w := d.word (F.DRT_PWM_PER.ix c).addr
      let d1 := (d.chUp c fun x => { x with pwm := w, gain := d.get (F.DRT_CFG_GAIN.ix c) }).putB (F.DRT_STAT_ILIM.ix c)
        (d.ch c).limAt.isSome
      let t := 5 * anaEdge d1.time.now
      Dev.drtRefresh (d1.chUp c fun x => { x with perAt := t, perEnd := t + 5 * wbits w 12 0, d := x.clampD x.dNext, limAt := none }) c := by
  have hlim : (((a.wordsTo c a.now).drtPwmTake c).ch c).limAt = ((a.wordsTo c a.now).ch c).limAt := limAt_chUp _ c fun _ => rfl
  simp only [Dev.drtPeriod, hlim]
  simp only [Dev.drtPwmTake, chUp_putB_chUp]
  rfl

/-! ## Windows and limits (R331, R333, R340) -/

section Events
variable {d : Dev} {c comps : Nat} {amp vmot : Word} {early : Option Nat}

theorem commutation_due {t : Nat} (h : (d.ch c).next = some t) :
    d.commutation c comps amp vmot early = ((d.advanceTo t).commutationDue c).drtReads c comps amp vmot early := by
  rw [Dev.commutation, h]

theorem windowClose_missed (hrun : d.drtState c = 5) (hseen : (d.ch c).seen = false) :
    d.windowClose c comps amp vmot early =
      let e := ((d.advanceTo ((d.ch c).window 0).2).bump F.DRT_MISS_CNT).chUp c fun x => { x with miss := x.miss + 1, zcAt := none }
      if 3 ≤ (e.ch c).miss then e.rotorLoss c else (e.drtCommutate c).drtReads c comps amp vmot early := by
  simp only [Dev.windowClose, hrun, hseen, bne_self_eq_false, Bool.or_self, Bool.false_eq_true, if_false]

theorem drtLimit_over {uv dt : Nat} (hlo : 2 ≤ (d.advance dt).drtState c) (hhi : (d.advance dt).drtState c ≤ 5)
    (hover : 20000 * (d.advance dt).drtCfg c (if (d.advance dt).drtState c = 2 then F.DRT_LIM_BRK_ILIM else F.DRT_LIM_RUN_ILIM) < uv)
    (hfirst : ((d.advance dt).ch c).limAt = none) :
    d.drtLimit c uv dt =
      let e := (d.advance dt).wordsTo c (d.advance dt).time.now
      (e.chUp c fun x => { x with limAt := some (5 * anaEdge e.time.now) }).put (F.DRT_STAT_ILIM.ix c) 1 := by
  simp only [← beq_iff_eq (a := (d.advance dt).drtState c)] at hover
  have hacts : (decide ((d.advance dt).drtState c < 2) || decide (5 < (d.advance dt).drtState c)
      || decide (uv ≤ 20000 * (d.advance dt).drtCfg c (if (d.advance dt).drtState c == 2 then F.DRT_LIM_BRK_ILIM else F.DRT_LIM_RUN_ILIM))
      || ((d.advance dt).ch c).limAt.isSome) = false := by
    rw [hfirst]
    simp only [Bool.or_eq_false_iff, decide_eq_false_iff_not, Option.isSome_none, and_true]
    omega
  rw [Dev.drtLimit]
  simp only [hacts, Bool.false_eq_true, if_false]
  rfl

end Events

/-- With its high side off a chopped leg has no high gate on. -/
theorem chopGates_high_off (low : Bool) : ∀ h < 3, ∀ l < 3, h ≠ l → (chopGates h l false low).testBit (2 * h) = false := by
  cases low <;> decide

/-- From the limit on a channel's gates are off: all in BRAKE, the high side where it chops. -/
theorem highOff_le_limAt {x : DrtCh} {l : Nat} (h : x.limAt = some l) : x.highOff ≤ l := by
  simp only [DrtCh.highOff, h]
  exact min_le_right _ _

theorem drtGates_limited_braking {d : Dev} {c l t : Nat} (hst : d.drtState c = 2) (hl : (d.ch c).limAt = some l) (ht : l ≤ t) :
    d.drtGates c t = 0 := by
  simp only [Dev.drtGates, hst, hl, Option.any_some, decide_eq_true ht, if_true]

theorem drtGates_chopping {d : Dev} {c t : Nat} (hlo : 3 ≤ d.drtState c) (hhi : d.drtState c ≤ 5) : d.drtGates c t = d.chopped c t := by
  have hst : d.drtState c = 3 ∨ d.drtState c = 4 ∨ d.drtState c = 5 := by omega
  simp only [Dev.chopped, chopGates, decide_eq_true_eq]
  obtain h | h | h := hst <;> simp only [Dev.drtGates, h] <;> rfl

theorem drtGates_limited_chopping {d : Dev} {c l t : Nat} (hlo : 3 ≤ d.drtState c) (hhi : d.drtState c ≤ 5) (hl : (d.ch c).limAt = some l)
    (ht : l ≤ t) : (d.drtGates c t).testBit (2 * (sectorLegs (d.get (F.DRT_STAT_SECTOR.ix c))).1) = false := by
  obtain ⟨hh, hlow, hne⟩ := sectorLegs_distinct (d.get (F.DRT_STAT_SECTOR.ix c))
  have hoff : decide (t < (d.ch c).highOff) = false := decide_eq_false (by have := highOff_le_limAt hl; omega)
  rw [drtGates_chopping hlo hhi, Dev.chopped, hoff]
  exact chopGates_high_off _ _ hh _ hlow hne

/-- The limit that a channel has noted, its flag shown. -/
theorem limAt_noted (d : Dev) {c : Nat} (l : Nat) (hc : c < d.drt.length) :
    (((d.chUp c fun x => { x with limAt := some l }).put (F.DRT_STAT_ILIM.ix c) 1).ch c).limAt = some l := by
  show ((upd d.drt c fun x => { x with limAt := some l }).getD c {}).limAt = some l
  rw [getD_upd_same _ _ _ _ hc]

theorem wordsTo_drt (d : Dev) (b t : Nat) : (d.wordsTo b t).drt = d.drt := by
  unfold Dev.wordsTo
  dsimp only
  split <;> rfl

theorem drtState_put_ilim (d : Dev) (c v : Nat) : (d.put (F.DRT_STAT_ILIM.ix c) v).drtState c = d.drtState c :=
  d.get_put_apart rfl rfl (by simp [Fld.apart, Fld.ix]) v

theorem sector_put_ilim (d : Dev) (c v : Nat) :
    (d.put (F.DRT_STAT_ILIM.ix c) v).get (F.DRT_STAT_SECTOR.ix c) = d.get (F.DRT_STAT_SECTOR.ix c) :=
  d.get_put_apart rfl rfl (by simp [Fld.apart, Fld.ix]) v

theorem drtRetryClear_running {d : Dev} {c : Nat} (h : d.drtState c = 5) :
    d.drtRetryClear c =
      (d.advanceTo ((d.ch c).enterAt + 500000000 * d.drtCfg c F.DRT_CLR_RETRY_CLR)).put (F.DRT_STAT_TRIES.ix c) 0 := by
  simp only [Dev.drtRetryClear, h, bne_self_eq_false, Bool.false_eq_true, if_false, show second = 500000000 from rfl]

/-- Settles O30: each event is its operation in an awake device. -/
theorem draughtRunningEventsComplete : Obligations.DraughtRunningEventsComplete := by
  refine ⟨fun c comps amp vmot early s ha => ?_, fun c comps amp vmot early t s ha hnext => ?_, fun c comps amp vmot early s ha hrun hseen => ?_,
    fun c uv dt s ha => ?_, fun c s ha hrun => ?_, fun c s ha hrun => ?_⟩
  · show run (whenAwake fun d => d.drtPeriodStart c comps amp vmot early) s = _
    rw [run_whenAwake ha, Dev.drtPeriodStart, drtPeriod_eq]
  · show run (whenAwake fun d => d.commutation c comps amp vmot early) s = _
    rw [run_whenAwake ha, commutation_due hnext]
  · intro d
    have hexec : exec (.zcWindowClose c comps amp vmot early) s = run (whenAwake fun d => d.windowClose c comps amp vmot early) s := rfl
    rw [hexec, run_whenAwake ha, windowClose_missed hrun hseen]
    exact ⟨fun hlost => by rw [if_pos hlost], fun hleft => by rw [if_neg (Nat.not_le.mpr hleft)]⟩
  · intro d st hlo hhi hover hfirst e f
    refine ⟨?_, fun t hc ht => ?_⟩
    · show run (whenAwake fun d => d.drtLimit c uv dt) s = _
      rw [run_whenAwake ha, drtLimit_over hlo hhi hover hfirst]
    · have hlim : (f.ch c).limAt = some (5 * anaEdge e.time.now) := limAt_noted e _ (by rw [wordsTo_drt]; exact hc)
      have hst : f.drtState c = st := by
        rw [drtState_put_ilim, drtState_chUp, Dev.drtState, Dev.get, Dev.word, wordsTo_regs]
        rfl
      have hsector : f.get (F.DRT_STAT_SECTOR.ix c) = d.get (F.DRT_STAT_SECTOR.ix c) := by
        rw [sector_put_ilim, Dev.chUp_get, Dev.get, Dev.word, wordsTo_regs]
        rfl
      refine ⟨fun hbrake => drtGates_limited_braking (hst.trans hbrake) hlim ht, fun hchop => ?_⟩
      rw [← hsector]
      exact drtGates_limited_chopping (by omega) (by omega) hlim ht
  · have hstate : (s.dev.drtState c != 5) = false := by
      rw [hrun]
      rfl
    show run (whenAwake fun d => d.speedLoop c) s = _
    rw [run_whenAwake ha, Dev.speedLoop, hstate, if_neg Bool.false_ne_true]
    simp only [Bool.and_eq_true, beq_iff_eq, and_assoc]
    rfl
  · show run (whenAwake fun d => d.drtRetryClear c) s = _
    rw [run_whenAwake ha, drtRetryClear_running hrun]

end Sys2Proof.Machine
end

section
/-! PROOFS. The obligations of 18_can_fd.md: arbitration among pending buffers, frames, errors and time-triggered events. -/
namespace Sys2Proof.Machine

/-! ## The buffer offered (R425) -/

/-- The better of a buffer found and the next one, by a rank that is lowest for the winner. -/
def offerBetter (key : Nat → Nat) (best : Option Nat) (m : Nat) : Option Nat :=
  match best with
  | none => some m
  | some b => if key m < key b then some m else some b

/-- A rank below another, or an equal one with no higher index. -/
def offerWins (key : Nat → Nat) (m k : Nat) : Prop := key m < key k ∨ (key m = key k ∧ m ≤ k)

/-- Rank of a buffer's identifier in arbitration. -/
def Dev.mbKey (d : Dev) (c m : Nat) : Nat := arbKey (d.get (mbF F.CAN_MB_ID c m)) (d.flag (mbF F.CAN_MB_IDE c m))

/-- The pending buffers of a controller, indices rising. -/
def Dev.pendingMb (d : Dev) (c : Nat) : List Nat := (List.range 64).filter fun m => d.mbState c m == 1

theorem canOffer_eq (d : Dev) (c : Nat) : d.canOffer c = (d.pendingMb c).foldl (offerBetter (d.mbKey c)) none := rfl

theorem mem_pendingMb {d : Dev} {c m : Nat} : m ∈ d.pendingMb c ↔ m < 64 ∧ d.mbState c m = 1 := by
  simp [Dev.pendingMb]

theorem pendingMb_pairwise (d : Dev) (c : Nat) : (d.pendingMb c).Pairwise (· < ·) := List.pairwise_lt_range.filter _

/-- From a buffer found on, the choice among buffers of higher index wins against all of them. -/
theorem foldl_offerBetter_some (key : Nat → Nat) (b : Nat) (l : List Nat) (hrise : (b :: l).Pairwise (· < ·)) :
    ∃ m, l.foldl (offerBetter key) (some b) = some m ∧ m ∈ b :: l ∧ ∀ k ∈ b :: l, offerWins key m k := by
  induction l generalizing b with
  | nil => exact ⟨b, rfl, List.mem_cons_self, fun k hk => by obtain rfl := List.mem_singleton.mp hk; exact .inr ⟨rfl, le_rfl⟩⟩
  | cons a l ih =>
    rw [List.pairwise_cons, List.pairwise_cons] at hrise
    obtain ⟨hb, ha, hl⟩ := hrise
    have hba : b < a := hb a List.mem_cons_self
    by_cases hkey : key a < key b
    · obtain ⟨m, hm, hmem, hwins⟩ := ih a (List.pairwise_cons.mpr ⟨ha, hl⟩)
      refine ⟨m, ?_, List.mem_cons_of_mem _ hmem, fun k hk => ?_⟩
      · rw [List.foldl_cons, offerBetter, if_pos hkey, hm]
      · obtain rfl | hk := List.mem_cons.mp hk
        · have hbest := hwins a List.mem_cons_self
          unfold offerWins at hbest ⊢
          omega
        · exact hwins k hk
    · obtain ⟨m, hm, hmem, hwins⟩ := ih b (List.pairwise_cons.mpr ⟨fun k hk => hb k (List.mem_cons_of_mem _ hk), hl⟩)
      refine ⟨m, ?_, ?_, fun k hk => ?_⟩
      · rw [List.foldl_cons, offerBetter, if_neg hkey, hm]
      · obtain rfl | hmem := List.mem_cons.mp hmem
        · exact List.mem_cons_self
        · exact List.mem_cons_of_mem _ (List.mem_cons_of_mem _ hmem)
      · obtain rfl | hk := List.mem_cons.mp hk
        · exact hwins _ List.mem_cons_self
        · obtain rfl | hk := List.mem_cons.mp hk
          · have hbest := hwins b List.mem_cons_self
            unfold offerWins at hbest ⊢
            omega
          · exact hwins k (List.mem_cons_of_mem _ hk)

theorem foldl_offerBetter (key : Nat → Nat) {l : List Nat} (hrise : l.Pairwise (· < ·)) :
    (l = [] ∧ l.foldl (offerBetter key) none = none) ∨
      ∃ m, l.foldl (offerBetter key) none = some m ∧ m ∈ l ∧ ∀ k ∈ l, offerWins key m k := by
  cases l with
  | nil => exact .inl ⟨rfl, rfl⟩
  | cons b l => exact .inr (foldl_offerBetter_some key b l hrise)

theorem canOffer_none (d : Dev) (c : Nat) : d.canOffer c = none ↔ ∀ m, m < 64 → d.mbState c m ≠ 1 := by
  have hnone : d.canOffer c = none ↔ d.pendingMb c = [] := by
    rw [canOffer_eq]
    obtain ⟨hnil, hfold⟩ | ⟨m, hfold, hmem, -⟩ := foldl_offerBetter (d.mbKey c) (pendingMb_pairwise d c)
    · exact ⟨fun _ => hnil, fun _ => hfold⟩
    · exact ⟨fun h => absurd (hfold.symm.trans h) (Option.some_ne_none m), fun h => absurd (h ▸ hmem) List.not_mem_nil⟩
  rw [hnone, List.eq_nil_iff_forall_not_mem]
  simp only [mem_pendingMb, not_and, ne_eq]

theorem canOffer_some {d : Dev} {c m : Nat} (h : d.canOffer c = some m) :
    m < 64 ∧ d.mbState c m = 1 ∧ ∀ k, k < 64 → d.mbState c k = 1 → offerWins (d.mbKey c) m k := by
  rw [canOffer_eq] at h
  obtain ⟨-, hfold⟩ | ⟨b, hfold, hmem, hwins⟩ := foldl_offerBetter (d.mbKey c) (pendingMb_pairwise d c)
  · rw [hfold] at h
    cases h
  · rw [hfold] at h
    obtain rfl := Option.some.inj h
    obtain ⟨hlt, hst⟩ := mem_pendingMb.mp hmem
    exact ⟨hlt, hst, fun k hk hk1 => hwins k (mem_pendingMb.mpr ⟨hk, hk1⟩)⟩

/-- A base identifier against an extended one: the lower base wins, and of equal bases the one of 11 bits. -/
theorem arbKey_base_extended {i j : Nat} (hi : i < 2 ^ 11) (hj : j < 2 ^ 29) :
    (j / 2 ^ 18 = i → arbKey i false < arbKey j true) ∧
    (i < j / 2 ^ 18 → arbKey i false < arbKey j true) ∧ (j / 2 ^ 18 < i → arbKey j true < arbKey i false) := by
  simp only [arbKey, Bool.false_eq_true, if_false, if_true]
  omega

/-- Settles O52: the choice by induction on the pending buffers, the ranks by their digits. -/
theorem canOffersTheLowestIdentifier : Obligations.CanOffersTheLowestIdentifier :=
  ⟨fun d c => ⟨canOffer_none d c, fun _ h => canOffer_some h⟩, fun _ _ hi hj => arbKey_base_extended hi hj⟩

/-! ## Frames and errors (R425 to R434) -/

/-- The device as a frame finds it: one that began after an adoption finds it acted on. -/
def Dev.canAtFrame (d : Dev) (c len dt : Nat) : Dev :=
  if ((d.advance dt).canOf c).timing.any (fun t => decide (t + len < (d.advance dt).time.now)) then (d.advance dt).canTiming c
  else d.advance dt

/-- A good frame has brought the controller onto the bus and its receive count down. -/
def Dev.canGood (d : Dev) (c : Nat) : Dev := ((d.canJoin c).canRecDown c).canErrState c

/-- A reference message for the time slave has been accepted (R433). -/
def Dev.canSynced (d : Dev) (c : Nat) (f : CanFrame) (len : Nat) : Dev := if c = 0 && d.isRef f then d.refAccept f len else d

section Receive
variable {d : Dev} {c len dt : Nat} {f : CanFrame} (hen : (d.canAtFrame c len dt).canEn c = true)
  (hon : (d.canAtFrame c len dt).get (F.CAN_STATUS_STATE.ix c) ≠ 3)
include hen hon

theorem canReceive_acting :
    d.canReceive c f len dt =
      let e := d.canAtFrame c len dt
      let g := (e.canGood c).canSynced c f len
      if f.fdf && !(e.canJoin c).canOn c (F.CAN_CFG_FD_EN.ix c) then
        ((((e.canJoin c).bump (F.CAN_ERRFRM_CNT.ix c)).put (F.CAN_STATUS_LEC.ix c) 2).bump (F.CAN_STATUS_REC.ix c)).canErrState c
      else ((List.range 64).find? (g.canMatch c f)).elim
        (((List.range 16).find? (g.canFilter c f)).elim (g.bump (F.CAN_NOMATCH_CNT.ix c)) fun k =>
          g.canFifo c (g.canCfg c (mbF F.CAN_FLT_FIFO c k)) f ((e.canGood c).ptpBefore len))
        fun m => g.canStore c m f ((e.canGood c).ptpBefore len) := by
  have hacts : (!(d.canAtFrame c len dt).canEn c || decide ((d.canAtFrame c len dt).get (F.CAN_STATUS_STATE.ix c) = 3)) = false := by
    rw [hen, decide_eq_false hon]
    rfl
  unfold Dev.canReceive
  extract_lets a e joined good sof g e' g'
  have he : e = d.canAtFrame c len dt := rfl
  have hg : g' = g := rfl
  rw [he, hacts, if_neg Bool.false_ne_true, hg]
  congr 1
  cases (List.range 64).find? (g.canMatch c f) with
  | some m => rfl
  | none =>
    cases (List.range 16).find? (g.canFilter c f) with
    | some k => rfl
    | none => rfl

end Receive

/-! ### The start and the end of a transmission -/

section Start
variable {d : Dev} {c dt : Nat} (hen : ((d.advance dt).canTiming c).canEn c = true)
  (hon : ((d.advance dt).canTiming c).get (F.CAN_STATUS_STATE.ix c) ≠ 3) (hfree : (((d.advance dt).canTiming c).canOf c).tx = none)
include hen hon hfree

theorem canTxStart_acting :
    d.canTxStart c dt =
      let e := ((d.advance dt).canTiming c).canJoin c
      if c = 0 && (e.canOf 0).ref then e.canUp 0 fun x => { x with tx := some 64, offered := some e.refFrame }
      else (e.canOffer c).elim e fun m =>
        (e.put (mbF F.CAN_MB_STATE c m) 2).canUp c fun x => { x with tx := some m, offered := some (e.canFrame c m) } := by
  have hacts : (!((d.advance dt).canTiming c).canEn c || decide (((d.advance dt).canTiming c).get (F.CAN_STATUS_STATE.ix c) = 3)
      || (((d.advance dt).canTiming c).canOf c).tx.isSome) = false := by
    rw [hen, decide_eq_false hon, hfree]
    rfl
  unfold Dev.canTxStart
  extract_lets b e e'
  rw [hacts, if_neg Bool.false_ne_true]
  congr 1
  cases e.canOffer c with
  | some m => rfl
  | none => rfl

end Start

theorem canTxEnd_buffer {d : Dev} {c m dt : Nat} {ok : Bool} (htx : ((d.advance dt).canOf c).tx = some m) (hm : m < 64) :
    d.canTxEnd c ok dt =
      let e := ((d.advance dt).canUp c fun x => { x with tx := none, tec := if ok then x.tec - 1 else x.tec }).canErrState c
      if ok then (e.put (mbF F.CAN_MB_STATE c m) 3).canHeld c m else e.canFail c m := by
  simp only [Dev.canTxEnd, htx]
  rw [if_neg (by omega), if_neg (by omega)]

/-! ### Errors, recovery, timing and the time master -/

section Error
variable {d : Dev} {c lec dt : Nat} {eight : Bool} (hen : (d.advance dt).canEn c = true)
  (hon : (d.advance dt).get (F.CAN_STATUS_STATE.ix c) ≠ 3)
include hen hon

theorem error_acts : (!(d.advance dt).canEn c || decide ((d.advance dt).get (F.CAN_STATUS_STATE.ix c) = 3)) = false := by
  rw [hen, decide_eq_false hon]
  rfl

theorem canError_receiver :
    d.canError c lec false eight dt =
      let e := (((d.advance dt).canJoin c).bump (F.CAN_ERRFRM_CNT.ix c)).put (F.CAN_STATUS_LEC.ix c) lec
      (e.bump (F.CAN_STATUS_REC.ix c) (if eight then 8 else 1)).canErrState c := by
  rw [Dev.canError, error_acts hen hon, if_neg Bool.false_ne_true]
  rfl

theorem canError_transmitter :
    let e := (((d.advance dt).canJoin c).bump (F.CAN_ERRFRM_CNT.ix c)).put (F.CAN_STATUS_LEC.ix c) lec
    lec ≠ 3 ∨ e.get (F.CAN_STATUS_STATE.ix c) ≠ 2 →
    d.canError c lec true eight dt = (e.canUp c fun x => { x with tec := x.tec + 8 }).canErrState c := by
  intro e hloud
  have hquiet : (true && decide (lec = 3) && !eight && decide (e.get (F.CAN_STATUS_STATE.ix c) = 2)) = false := by
    obtain h | h := hloud <;> simp [h]
  rw [Dev.canError, error_acts hen hon, if_neg Bool.false_ne_true]
  show (let q : Bool := true && decide (lec = 3) && !eight && decide (e.get (F.CAN_STATUS_STATE.ix c) = 2)
    let g := if q then e else e.canUp c fun x => { x with tec := x.tec + 8 }
    g.canErrState c) = _
  rw [hquiet]
  rfl

end Error

theorem canBusOn_off {d : Dev} {c dt : Nat} (hoff : (d.advance dt).get (F.CAN_STATUS_STATE.ix c) = 3)
    (hrecover : (d.advance dt).canOn c (F.CAN_CFG_AUTO_REC.ix c) = true ∨ ((d.advance dt).canOf c).recover = true) :
    d.canBusOn c dt = (((((d.advance dt).canUp c fun x => { x with tec := 0, recover := false }).put
      (F.CAN_STATUS_STATE.ix c) 1).put (F.CAN_STATUS_TEC.ix c) 0).put (F.CAN_STATUS_REC.ix c) 0).raiseCan c 0x0E03 [c] := by
  have hacts : ((d.advance dt).get (F.CAN_STATUS_STATE.ix c) != 3
      || !((d.advance dt).canOn c (F.CAN_CFG_AUTO_REC.ix c) || ((d.advance dt).canOf c).recover)) = false := by
    rw [hoff]
    obtain h | h := hrecover <;> simp [h]
  rw [Dev.canBusOn, hacts, if_neg Bool.false_ne_true]

theorem tmLost_synced {d : Dev} {t : Nat} (hlast : (d.canOf 0).lastRef = some t) (hsync : d.flag (F.CAN_TM_STAT_SYNC.ix 0) = true) :
    d.tmLost = (((d.advanceTo (t + 1500000 * d.canCfg 0 (F.CAN_TM_CFG_PERIOD.ix 0))).put (F.CAN_TM_STAT_SYNC.ix 0) 0).canUp 0 fun x =>
      { x with accepted := 0 }).raiseCan 0 0x0E07 [0] := by
  simp only [Dev.tmLost, hlast, hsync, Bool.not_true, Bool.false_eq_true, if_false, show 3 * msec = 1500000 from rfl]

/-- A change of configuration held back applies once the controller sends nothing. -/
theorem canTiming_free {d : Dev} {c t : Nat} (htiming : (d.canOf c).timing = some t) (hfree : (d.canOf c).tx = none) :
    d.canTiming c = d.canApply c := by
  rw [Dev.canTiming, htiming, hfree]
  rfl

theorem canApply_eq (d : Dev) (c : Nat) :
    d.canApply c =
      let e := d.canUp c fun x => { x with
        old := [], timing := none, ref := x.ref && decide (d.get (F.CAN_CFG_EN.ix c) = 1)
        mb := (List.range 64).map fun m => if ∃ o ∈ (d.canOf c).old, o.1 = (mbF F.CAN_MB_CFG_DIR c m).addr
          then { x.mb.getD m {} with storedAt := none, prev := none, before := none } else x.mb.getD m {} }
      if e.get (F.CAN_STATUS_STATE.ix c) = 3 ∨ (e.canEn c = true ∧ d.canRetimed c = false) then e
      else e.put (F.CAN_STATUS_STATE.ix c) 0 := by
  simp only [Dev.canApply, List.any_eq_true, beq_iff_eq, Bool.or_eq_true, Bool.and_eq_true, decide_eq_true_eq, Bool.not_eq_true']
  rfl

theorem tmCycle_master {d : Dev} (hmode : d.canCfg 0 (F.CAN_TM_CFG_TM_MODE.ix 0) = 1) (hen : d.canEn 0 = true) :
    d.tmCycle =
      let per := max 1 (d.canCfg 0 (F.CAN_TM_CFG_PERIOD.ix 0)) * 1000000
      let e := d.toPtp ((d.ptpNs / per + 1) * per)
      let g := if (e.canOf 0).ref then e.bump (F.CAN_TM_SKIP_CNT.ix 0) else e
      (g.wrapInc (F.CAN_TM_STAT_CYCLE.ix 0)).canUp 0 fun x => { x with ref := true, tx := if x.tx = some 64 then some 65 else x.tx } := by
  rw [Dev.tmCycle, hmode, hen]
  rfl

/-- Settles O40: each event is its operation in an awake device. -/
theorem canEventsComplete : Obligations.CanEventsComplete := by
  refine ⟨fun c f len dt s ha => ?_, fun c dt s ha => ?_, fun c ok m dt s ha => ?_, fun c lec eight dt s ha => ?_, fun c dt s ha => ?_,
    fun c t s ha htiming hfree => ?_, fun s ha hmode hen => ?_, fun t s ha hlast hsync => ?_⟩
  · intro a d hen hon
    have hexec : exec (.canFrameReceive c f len dt) s = run (whenAwake fun d => d.canReceive c f len dt) s := rfl
    have hd : s.dev.canAtFrame c len dt = d := rfl
    rw [hexec, run_whenAwake ha, canReceive_acting hen hon, hd]
    refine ⟨fun hfd hclassic => ?_, fun hfd => ?_⟩
    · dsimp only
      rw [if_pos (by simp [hfd, hclassic])]
    · intro e g
      have hg : (d.canGood c).canSynced c f len = g := by simp [Dev.canSynced, Dev.canGood, g, e]
      have he : d.canGood c = e := rfl
      have hgood : ¬(f.fdf && !(d.canJoin c).canOn c (F.CAN_CFG_FD_EN.ix c)) = true := by
        cases hf : f.fdf
        · simp
        · simp [hfd hf]
      dsimp only
      rw [if_neg hgood, hg, he]
      refine ⟨fun m hbuf => ?_, fun k hbuf hflt => ?_, fun hbuf hflt => ?_⟩
      · rw [hbuf, Option.elim_some]
      · rw [hbuf, hflt, Option.elim_none, Option.elim_some]
      · rw [hbuf, hflt, Option.elim_none, Option.elim_none]
  · intro d hen hon hfree e
    have hexec : exec (.canTxStart c dt) s = run (whenAwake fun d => d.canTxStart c dt) s := rfl
    rw [hexec, run_whenAwake ha, canTxStart_acting hen hon hfree]
    refine ⟨fun hc href => ?_, fun m hbuf hoffer => ?_⟩
    · have hdue : (decide (c.val = 0) && (e.canOf 0).ref) = true := by rw [decide_eq_true hc, href]; rfl
      dsimp only
      rw [if_pos hdue]
    · have hdue : (decide (c.val = 0) && (e.canOf 0).ref) = false := by
        obtain h | h := hbuf
        · rw [h]; rfl
        · rw [h, Bool.and_false]
      have hoffer' : (((s.dev.advance dt).canTiming c).canJoin c).canOffer c = some m := hoffer
      dsimp only
      rw [if_neg (ne_true_of_eq_false hdue), hoffer', Option.elim_some]
  · intro d htx hm e
    show run (whenAwake fun d => d.canTxEnd c ok dt) s = _
    rw [run_whenAwake ha, canTxEnd_buffer htx hm]
  · intro d hen hon e
    refine ⟨?_, fun hloud => ?_⟩
    · show run (whenAwake fun d => d.canError c (lec + 1) false eight dt) s = _
      rw [run_whenAwake ha, canError_receiver hen hon]
    · show run (whenAwake fun d => d.canError c (lec + 1) true eight dt) s = _
      rw [run_whenAwake ha, canError_transmitter hen hon (hloud.imp_left fun h => by omega)]
  · intro d hoff hrecover
    show run (whenAwake fun d => d.canBusOn c dt) s = _
    rw [run_whenAwake ha, canBusOn_off hoff hrecover]
  · intro was d
    show run (whenAwake fun d => d.canTiming c) s = _
    rw [run_whenAwake ha, canTiming_free htiming hfree, canApply_eq]
  · show run (whenAwake fun d => d.tmCycle) s = _
    rw [run_whenAwake ha, tmCycle_master hmode hen]
  · show run (whenAwake fun d => d.tmLost) s = _
    rw [run_whenAwake ha, tmLost_synced hlast hsync]

end Sys2Proof.Machine
end

section
/-! PROOFS. The obligations of 19_host_interface.md: messages and pending bits, rings, errors, the link and resets. -/
namespace Sys2Proof.Machine

/-! ## MSI-X (R447) -/

theorem vectorOpen_iff (d : Dev) (v : Nat) :
    d.vectorOpen v = true ↔ d.flag F.HST_STATUS_BME = true ∧ d.flag F.HST_STATUS_D3 = false ∧ d.hst.msixEn = true ∧
      d.hst.msixFmask = false ∧ d.hst.msixMask.testBit v = false := by
  simp only [Dev.vectorOpen, Dev.mayIssue, Bool.and_eq_true, Bool.not_eq_true', and_assoc]

theorem signal_open {d : Dev} {v : Nat} (h : d.vectorOpen v = true) : d.signal v = d.hstUp fun x => { x with out := .msix v :: x.out } :=
  if_pos h

theorem signal_masked {d : Dev} {v : Nat} (h : d.vectorOpen v = false) :
    d.signal v = d.hstUp fun x => { x with msixPend := setBit x.msixPend v } :=
  if_neg (ne_true_of_eq_false h)

theorem msixSend_kept {d : Dev} {v : Nat} (h : d.hst.msixPend.testBit v = false ∨ d.vectorOpen v = false) : d.msixSend v = d := by
  rw [Dev.msixSend, if_neg]
  obtain h | h := h <;> simp [h]

theorem msixSend_open {d : Dev} {v : Nat} (hopen : d.vectorOpen v = true) (hpend : d.hst.msixPend.testBit v = true) :
    d.msixSend v = d.hstUp fun h => { h with msixPend := clrBit h.msixPend v, out := .msix v :: h.out } := by
  have hstill : (d.hstUp fun h => { h with msixPend := clrBit h.msixPend v }).vectorOpen v = true := hopen
  rw [Dev.msixSend, hpend, hopen, Bool.and_self, if_pos rfl, signal_open hstill]
  rfl

/-- The write of a control word that unmasks an open vector with a condition pending. -/
theorem msixWrite_unmask {d : Dev} {v : Nat} {w : Word} (hv : v < 32) (hw : w.getLsbD 0 = false) (hbme : d.flag F.HST_STATUS_BME = true)
    (hd3 : d.flag F.HST_STATUS_D3 = false) (hen : d.hst.msixEn = true) (hfn : d.hst.msixFmask = false)
    (hpend : d.hst.msixPend.testBit v = true) :
    d.msixWrite (4 * v + 3) w = d.hstUp fun h =>
      { h with msixMask := putBit h.msixMask v false, msixPend := clrBit h.msixPend v, out := .msix v :: h.out } := by
  have hopen : (d.hstUp fun h => { h with msixMask := putBit h.msixMask v false }).vectorOpen v = true :=
    (vectorOpen_iff _ v).mpr ⟨hbme, hd3, hen, hfn, by simp [Dev.hstUp]⟩
  have hindex : (4 * v + 3) / 4 = v := by omega
  rw [Dev.msixWrite, if_neg (by omega), if_pos (by omega), hindex, hw, msixSend_open hopen hpend]
  rfl

/-- Settles O54: one lemma per branch of a condition, of a message and of the control word's write. -/
theorem msixMessageOrPendingBit : Obligations.MsixMessageOrPendingBit := by
  intro d v
  refine ⟨vectorOpen_iff d v, signal_open, fun hmasked => ?_, msixSend_kept, fun w hv hw hbme hd3 hen hfn hpend => ?_⟩
  · rw [signal_masked hmasked]
    exact ⟨by simp [Dev.hstUp], fun u hu => by simp [Dev.hstUp, Ne.symm hu], rfl⟩
  · rw [msixWrite_unmask hv hw hbme hd3 hen hfn hpend]
    exact ⟨rfl, by simp [Dev.hstUp], by simp [Dev.hstUp], fun u hu => by simp [Dev.hstUp, Ne.symm hu], rfl⟩

/-! ## Rings (R449 to R453) -/

section Rings
variable {d : Dev} {r : Nat}

theorem ringTail_taken {v : Nat} (hsize : v < d.ringSize r)
    (howned : d.ringOwned r ≤ (v + d.ringSize r - d.get (F.RING_HEAD_HEAD.ix r)) % d.ringSize r) :
    d.ringTail r v =
      let e := d.put (F.RING_TAIL_TAIL.ix r) v
      if e.flag (F.HST_RING_EN.ix r) && e.get (F.RING_STAT_STATE.ix r) == 0 then e.put (F.RING_STAT_STATE.ix r) 1 else e := by
  rw [Dev.ringTail]
  dsimp only
  rw [if_neg (Nat.not_le.mpr hsize), if_neg (Nat.not_lt.mpr howned)]
  rfl

theorem descBad_wellFormed {x : DescIn} (h : x.own = true ∧ 64 ≤ x.len ∧ x.len ≤ 65536 ∧ x.len % 64 = 0 ∧ x.addr % 64 = 0) : descBad x = 0 := by
  obtain ⟨hown, hlo, hhi, hlen, haddr⟩ := h
  have hlenOk : (decide (x.len < 64) || decide (65536 < x.len) || x.len % 64 != 0) = false := by
    simp only [hlen, bne_self_eq_false, Bool.or_false, Bool.or_eq_false_iff, decide_eq_false_iff_not]
    omega
  rw [descBad, hown, hlenOk, haddr]
  rfl

theorem descFetch_wellFormed {xs : List DescIn} {dt : Nat} (hissue : (d.advance dt).mayIssue = true)
    (hst : (d.advance dt).get (F.RING_STAT_STATE.ix r) = 1 ∨ (d.advance dt).get (F.RING_STAT_STATE.ix r) = 2)
    (hgood : ∀ x ∈ xs.take (min 16 ((d.advance dt).ringOwned r - ((d.advance dt).ring r).fetched.length)),
      x.own = true ∧ 64 ≤ x.len ∧ x.len ≤ 65536 ∧ x.len % 64 = 0 ∧ x.addr % 64 = 0) :
    d.descFetch r xs dt = (d.advance dt).ringUp r fun g => { g with fetched := g.fetched ++
      (xs.take (min 16 ((d.advance dt).ringOwned r - ((d.advance dt).ring r).fetched.length))).map fun x => ⟨x.addr, x.len⟩ } := by
  have hacts : (!(d.advance dt).mayIssue || decide ((d.advance dt).get (F.RING_STAT_STATE.ix r) = 3)
      || decide ((d.advance dt).get (F.RING_STAT_STATE.ix r) = 0)) = false := by
    rw [hissue]
    obtain h | h := hst <;> rw [h] <;> rfl
  have hnone : (xs.take (min 16 ((d.advance dt).ringOwned r - ((d.advance dt).ring r).fetched.length))).find?
      (fun x => descBad x != 0) = none :=
    List.find?_eq_none.mpr fun x hx => by simp [descBad_wellFormed (hgood x hx)]
  simp only [Dev.descFetch, hacts, hnone, Bool.false_eq_true, if_false]

theorem ringSignal_enabled {always : Bool} (h : d.flag (F.RING_IRQ_EN.ix r) = true) :
    d.ringSignal r always = (d.ringUp r fun g => { g with unsig := 0, firstUnsig := none }).signal (16 + r) := by
  rw [Dev.ringSignal, h, Bool.or_true, if_pos rfl]

theorem ringTimeout_due {t : Nat} (hfirst : (d.ring r).firstUnsig = some t) (htime : d.get (F.RING_IRQ_TIME.ix r) ≠ 0)
    (hen : (d.advanceTo (t + d.get (F.RING_IRQ_TIME.ix r) * 500)).flag (F.RING_IRQ_EN.ix r) = true) :
    d.ringTimeout r = ((d.advanceTo (t + d.get (F.RING_IRQ_TIME.ix r) * 500)).ringUp r fun g =>
      { g with unsig := 0, firstUnsig := none }).signal (16 + r) := by
  simp only [Dev.ringTimeout, hfirst, htime, if_false, show usec = 500 from rfl]
  exact ringSignal_enabled hen

theorem ringFault_running {reason dt : Nat} (hst : (d.advance dt).get (F.RING_STAT_STATE.ix r) ≠ 3) :
    d.ringFault r reason dt = (d.advance dt).ringError r reason := if_neg hst

end Rings

theorem recordWrite_taken {d : Dev} {r dt : Nat} {x : Rec} {rest : List Rec} {ws : List HostOut} {head : Nat} {left : List Desc}
    (hissue : (d.advance dt).mayIssue = true) (hst : (d.advance dt).get (F.RING_STAT_STATE.ix r) ≠ 3)
    (hen : (d.advance dt).flag (F.HST_RING_EN.ix r) = true) (hwait : ((d.advance dt).ring r).waiting = x :: rest)
    (hroom : (takeBuffers (((d.advance dt).ring r).fetched.map Desc.len) x.bytes.length).isSome = true)
    (hwrites : recordWrites (min (d.advance dt).hst.maxPayload 256)
      ((d.advance dt).get (F.HST_RING_BASE_LO.ix r) + (d.advance dt).get (F.HST_RING_BASE_HI.ix r) * 2 ^ 32) ((d.advance dt).ringSize r)
      ((d.advance dt).get (F.HST_RING_RECORDS.ix r)) (((d.advance dt).ring r).fetched.length + 1)
      ((d.advance dt).get (F.RING_HEAD_HEAD.ix r)) true ((d.advance dt).ring r).fetched x.bytes = (ws, head, left)) :
    d.recordWrite r dt =
      let e := (((((d.advance dt).hstUp fun h => { h with out := ws ++ h.out }).put (F.RING_HEAD_HEAD.ix r) head).wrapInc
        (F.HST_RING_RECORDS.ix r)).put (F.RING_STAT_STATE.ix r) 1).ringUp r fun y => { y with
          fetched := left, waiting := rest, unsig := y.unsig + 1
          firstUnsig := y.firstUnsig.orElse fun _ => some (d.advance dt).time.now }
      (if e.get (F.RING_IRQ_CNT.ix r) ≠ 0 ∧ e.get (F.RING_IRQ_CNT.ix r) ≤ (e.ring r).unsig then e.ringSignal r false else e).recordDone
        x.prod := by
  have hacts : (!(d.advance dt).mayIssue || decide ((d.advance dt).get (F.RING_STAT_STATE.ix r) = 3)
      || !(d.advance dt).flag (F.HST_RING_EN.ix r)) = false := by
    rw [hissue, decide_eq_false hst, hen]
    rfl
  simp only [Dev.recordWrite, hacts, hwait, hroom, hwrites, Bool.false_eq_true, if_false, if_true, Bool.and_eq_true, bne_iff_ne,
    decide_eq_true_eq]
  rfl

/-- Settles O17: each event is its operation in an awake device. -/
theorem msixAndRingCommandsComplete : Obligations.MsixAndRingCommandsComplete := by
  refine ⟨fun v s ha hpend hopen => ?_, fun r w s ha => ?_, fun r s ha => ?_, fun r xs dt s ha => ?_,
    fun r dt s x rest ws head left ha => ?_, fun r t s ha hfirst htime => ?_⟩
  · show run (whenAwake fun d => d.msixSend v) s = _
    rw [run_whenAwake ha, msixSend_open hopen hpend]
  · intro d v e hsize howned
    show run (whenAwake fun d => d.ringTail r v) s = _
    rw [run_whenAwake ha, ringTail_taken hsize howned]
  · show run (whenAwake fun d => d.ringReset r) s = _
    rw [run_whenAwake ha]
    rfl
  · intro d ys hissue hst hgood
    show run (whenAwake fun d => d.descFetch r xs dt) s = _
    rw [run_whenAwake ha, descFetch_wellFormed hissue hst hgood]
  · intro d g hissue hst hen hwait hroom hwrites e
    show run (whenAwake fun d => d.recordWrite r dt) s = _
    rw [run_whenAwake ha, recordWrite_taken hissue hst hen hwait hroom hwrites]
  · intro d hen
    show run (whenAwake fun d => d.ringTimeout r) s = _
    rw [run_whenAwake ha, ringTimeout_due hfirst htime hen]

/-! ## Errors, link and resets (R438 to R441) -/

theorem hstReset_without_linkDown {d : Dev} {cause dt : Nat} (h : cause ≠ 3 ∨ (d.advance dt).flag F.HST_STATUS_LINK = false) :
    d.hstReset cause dt =
      (((((({ d.advance dt with regs := (d.advance dt).regs.filter fun x => decide (x.1 < 0x1000000) } : Dev).put
        F.HST_STATUS_BME 0).put F.HST_STATUS_D3 0).put F.HST_STATUS_MSIX 0).hstUp fun h => { h with
          mbx := List.replicate 16 {}, msixMask := 0xFFFFFFFF, msixPend := 0, msixEn := false, msixFmask := false, msixTab := []
          maxPayload := 128, rings := h.rings.map fun g => { g with fetched := [], unsig := 0, firstUnsig := none } }).raise
        0x0F03 [cause]) := by
  have hlink : (decide (cause = 3) && (d.advance dt).flag F.HST_STATUS_LINK) = false := by
    obtain h | h := h <;> simp [h]
  simp only [Dev.hstReset, hlink, Bool.false_eq_true, if_false]

theorem hstRestart_eq (d : Dev) (cause dt : Nat) :
    d.hstRestart cause dt = ((d.hstReset cause dt).cpr.asked).elim (d.hstReset cause dt) fun r => (d.hstReset cause dt).resetBegin r := by
  unfold Dev.hstRestart
  dsimp only
  cases (d.hstReset cause dt).cpr.asked with
  | none => rfl
  | some r => rfl

theorem pcieConfig_eq (d : Dev) (bme d3 en fmask : Bool) {n : Nat} (hn : 1 ≤ n) :
    d.pcieConfig bme d3 n en fmask =
      let e := (((d.putB F.HST_STATUS_BME bme).putB F.HST_STATUS_D3 d3).putB F.HST_STATUS_MSIX (en && !fmask)).hstUp fun h =>
        { h with maxPayload := n, msixEn := en, msixFmask := fmask }
      (bitList 32 e.hst.msixPend).foldl (fun e v => e.msixSend v) e := by
  rw [Dev.pcieConfig, max_eq_right hn]
  rfl

/-- Settles O18: each event is its operation in an awake device. -/
theorem linkAndErrorCommandsComplete : Obligations.LinkAndErrorCommandsComplete := by
  refine ⟨fun write s ha => ?_, fun r dt s ha => ?_, fun dt s ha => ⟨?_, ?_, ?_, ?_, fun r hst => ?_⟩, fun wide speed dt s ha => ?_,
    fun cause dt s ha => ?_, fun bme d3 maxPayload en fmask s ha => ?_⟩
  · show run (whenAwake fun d => d.badEnables write) s = _
    rw [run_whenAwake ha]
    cases write <;> rfl
  · intro d hst
    show run (whenAwake fun d => d.ringFault r 2 dt) s = _
    rw [run_whenAwake ha, ringFault_running hst]
    rfl
  · show run (whenAwake fun d => d.tlpMalformed dt) s = _
    rw [run_whenAwake ha, Dev.tlpMalformed]
  · show run (whenAwake fun d => d.tlpPoisoned none dt) s = _
    rw [run_whenAwake ha, Dev.tlpPoisoned]
  · show run (whenAwake fun d => d.tlpUnexpected dt) s = _
    rw [run_whenAwake ha, Dev.tlpUnexpected]
  · show run (whenAwake fun d => d.tlpUnsupported dt) s = _
    rw [run_whenAwake ha, Dev.tlpUnsupported]
  · show run (whenAwake fun d => d.ringFault r 1 dt) s = _
    rw [run_whenAwake ha, ringFault_running hst]
    rfl
  · show run (whenAwake fun d => d.pcieUp (if wide then 2 else 1) (speed + 1) dt) s = _
    rw [run_whenAwake ha, Dev.pcieUp]
  · intro d hlink e
    have hcause : cause.val + 1 ≠ 3 ∨ d.flag F.HST_STATUS_LINK = false := hlink.imp_left fun h => by omega
    show run (whenAwake fun d => d.hstRestart (cause + 1) dt) s = _
    rw [run_whenAwake ha, hstRestart_eq, hstReset_without_linkDown hcause]
  · intro d
    show run (whenAwake fun d => d.pcieConfig bme d3 (128 * (maxPayload + 1)) en fmask) s = _
    rw [run_whenAwake ha, pcieConfig_eq _ _ _ _ _ (by omega)]

end Sys2Proof.Machine
end

section
/-! PROOFS. The obligations of 19_host_interface.md: mailboxes. -/
namespace Sys2Proof.Machine

/-! ## Mailboxes (R443, R445) -/

/-- A mailbox in use is one of the device. -/
theorem mbx_lt {d : Dev} {m : Nat} (h : d.mbx m ≠ {}) : m < d.hst.mbx.length := by
  by_contra hge
  exact h (List.getD_eq_default _ _ (not_lt.mp hge))

theorem mbx_mbxUp {d : Dev} {m : Nat} (hm : m < d.hst.mbx.length) (f : Mbx → Mbx) : (d.mbxUp m f).mbx m = f (d.mbx m) :=
  getD_upd_same _ _ _ _ hm

theorem mbxGo_free {d : Dev} {m len tag dt : Nat} (hfree : (d.advance dt).flag (F.MBX_STAT_REQ_FREE.ix m) = true) :
    d.mbxGo m len tag dt = ((d.advance dt).mbxUp m fun x => { x with copying := some (len, tag) }).put (F.MBX_STAT_REQ_FREE.ix m) 0 :=
  if_pos hfree

/-- The copy of a request that steps 1 and 2 of R459 pass. -/
theorem mbxCopied_passed {d : Dev} {m len tag dt : Nat} (hcopy : ((d.advance dt).mbx m).copying = some (len, tag)) (hlen : len ≤ 2048)
    (hpass : frameStatus (Mem.bytes ((d.advance dt).mbx m).req 0 len) 2048 = none) :
    d.mbxCopied m dt =
      let frame := Mem.bytes ((d.advance dt).mbx m).req 0 len
      let n := (d.advance dt).get (F.MBX_STAT_INFLIGHT.ix m) + 1
      (((d.advance dt).mbxUp m fun x => { x with copying := none, inflight := x.inflight ++ [⟨tag, frame, none⟩] }).put
        (F.MBX_STAT_INFLIGHT.ix m) n).putB (F.MBX_STAT_REQ_FREE.ix m) (decide (n < 4)) := by
  have hm : m < (d.advance dt).hst.mbx.length := mbx_lt fun h => by rw [h] at hcopy; cases hcopy
  simp only [Dev.mbxCopied, hcopy, min_eq_left hlen, Nat.not_lt.mpr hlen, if_false, hpass, Dev.countRefusal, Option.map_none,
    Dev.mbxFree, mbx_mbxUp hm, Option.isNone_none, Bool.true_and]
  rfl

theorem mbxAck_valid {d : Dev} {m : Nat} (hvalid : d.flag (F.MBX_RSP_VALID.ix m) = true) :
    d.mbxAck m =
      let e := d.put (F.MBX_RSP_VALID.ix m) 0
      let n := e.get (F.MBX_STAT_INFLIGHT.ix m) - 1
      (e.put (F.MBX_STAT_INFLIGHT.ix m) n).putB (F.MBX_STAT_REQ_FREE.ix m) ((d.mbx m).copying.isNone && decide (n < 4)) :=
  if_pos hvalid

/-! ### The response posted (R362, R445) -/

theorem signal_mbx (d : Dev) (v m : Nat) : (d.signal v).mbx m = d.mbx m := by
  unfold Dev.signal
  split <;> rfl

theorem mbxRespond_plain {d : Dev} {m : Nat} (hasked : d.cpr.asked = none) : d.mbxRespond m = d.mbxPost m := by
  simp only [Dev.mbxRespond, hasked]

section Post
variable {d : Dev} {m tag : Nat} {frame r : List Byte} {rest : List MbxCmd} (hfree : d.flag (F.MBX_RSP_VALID.ix m) = false)
  (hfront : (d.mbx m).inflight = ⟨tag, frame, some r⟩ :: rest)
include hfree hfront

theorem mbxPost_finished :
    d.mbxPost m =
      let e := (((d.mbxUp m fun x => { x with inflight := rest, area := r }).put (F.MBX_RSP_LEN.ix m) r.length).put
        (F.MBX_RSP_TAG.ix m) tag).put (F.MBX_RSP_VALID.ix m) 1
      if e.flag (F.MBX_IRQ_EN.ix m) then e.signal m else e := by
  simp only [Dev.mbxPost, hfree, hfront, Bool.false_eq_true, if_false]

theorem mbxPost_inflight : ((d.mbxPost m).mbx m).inflight = rest := by
  have hm : m < d.hst.mbx.length := mbx_lt fun h => by rw [h] at hfront; cases hfront
  have hpost : ((d.mbxUp m fun x => { x with inflight := rest, area := r }).mbx m).inflight = rest := by rw [mbx_mbxUp hm]
  rw [mbxPost_finished hfree hfront]
  dsimp only
  split
  · rw [signal_mbx]
    exact hpost
  · exact hpost

/-- The last response of the mailbox that a warm reset waits for. -/
theorem mbxRespond_reset {a : ResetAsk} (hasked : d.cpr.asked = some a) (hmbx : a.mbx = m) (hlast : ∀ c ∈ rest, c.resp = none) :
    d.mbxRespond m = (d.mbxPost m).resetBegin a := by
  have hbefore : ((d.mbx m).inflight.any fun c => c.resp.isSome) = true := by rw [hfront]; rfl
  have hafter : (((d.mbxPost m).mbx m).inflight.any fun c => c.resp.isSome) = false := by
    rw [mbxPost_inflight hfree hfront, List.any_eq_false]
    intro c hc
    rw [hlast c hc]
    exact Bool.false_ne_true
  simp only [Dev.mbxRespond, hasked, hmbx, hbefore, hafter, decide_true, Bool.not_false, Bool.and_self, if_true]

end Post

/-! ### The request area (R444) -/

/-- A byte of a word replaced, and every other one kept. -/
theorem byte_of_replaced {w b e f : Nat} (hw : w < 2 ^ 32) (hb : b < 256) (he : e < 4) (hf : f < 4) :
    (w - w / 256 ^ e % 256 * 256 ^ e + b * 256 ^ e) % 2 ^ 32 / 256 ^ f % 256 = if f = e then b else w / 256 ^ f % 256 := by
  interval_cases e <;> interval_cases f <;> norm_num <;> omega

/-- A byte written into the request area. -/
def reqByte (q : Mem) (i : Nat) (b : Byte) : Mem :=
  let w := (Mem.rd q (i / 4)).toNat
  let k := 256 ^ (i % 4)
  Mem.wr q (i / 4) (BitVec.ofNat 32 (w - w / k % 256 * k + b.toNat * k))

/-- Bytes written from an offset on, where they are enabled. -/
def reqBytes (off : Nat) (bytes : List (Option Byte)) (q : Mem) : Mem :=
  ((List.range bytes.length).zip bytes).foldl (fun q (i, b) => match b with | some b => reqByte q (off + i) b | none => q) q

theorem byte_reqByte (q : Mem) (i a : Nat) (b : Byte) : Mem.byte (reqByte q i b) a = if a = i then b else Mem.byte q a := by
  unfold Mem.byte reqByte
  dsimp only
  by_cases hword : a / 4 = i / 4
  · apply BitVec.eq_of_toNat_eq
    rw [hword, Mem.rd_wr_same, apply_ite BitVec.toNat]
    simp only [BitVec.toNat_ofNat]
    rw [byte_of_replaced (Mem.rd q (i / 4)).isLt b.isLt (Nat.mod_lt _ (by decide)) (Nat.mod_lt _ (by decide))]
    have hsame : a % 4 = i % 4 ↔ a = i := by omega
    simp only [hsame]
  · rw [Mem.rd_wr_other _ hword, if_neg (by omega)]

theorem reqBytes_concat (off : Nat) (bytes : List (Option Byte)) (b : Option Byte) (q : Mem) :
    reqBytes off (bytes ++ [b]) q = b.elim (reqBytes off bytes q) (reqByte (reqBytes off bytes q) (off + bytes.length)) := by
  unfold reqBytes
  rw [List.length_append, List.length_singleton, List.range_succ, List.zip_append (by simp), List.foldl_append]
  cases b <;> rfl

theorem byte_reqBytes (off : Nat) (bytes : List (Option Byte)) (q : Mem) (a : Nat) :
    Mem.byte (reqBytes off bytes q) a =
      if off ≤ a ∧ a < off + bytes.length then (bytes.getD (a - off) none).getD (Mem.byte q a) else Mem.byte q a := by
  induction bytes using List.reverseRecOn with
  | nil => rw [if_neg (by simp)]; rfl
  | append_singleton bytes b ih =>
    rw [reqBytes_concat]
    have hstep : Mem.byte (b.elim (reqBytes off bytes q) (reqByte (reqBytes off bytes q) (off + bytes.length))) a =
        if a = off + bytes.length then b.getD (Mem.byte (reqBytes off bytes q) a) else Mem.byte (reqBytes off bytes q) a := by
      cases b with
      | none => simp
      | some b => exact byte_reqByte _ _ _ _
    rw [hstep, ih, List.length_append, List.length_singleton]
    by_cases hlast : a = off + bytes.length
    · rw [if_pos hlast, if_neg (fun h => absurd h.2 (by omega)), if_pos (by omega), hlast, Nat.add_sub_cancel_left,
        List.getD_append_right _ _ _ _ le_rfl, Nat.sub_self]
      rfl
    · rw [if_neg hlast]
      by_cases hin : off ≤ a ∧ a < off + bytes.length
      · rw [if_pos hin, if_pos (by omega), List.getD_append _ _ _ _ (by omega)]
      · rw [if_neg hin, if_neg (by omega)]

theorem reqWrite_free {d : Dev} {m off : Nat} {bytes : List (Option Byte)} (hfree : d.flag (F.MBX_STAT_REQ_FREE.ix m) = true)
    (hroom : off + bytes.length ≤ 2048) : d.reqWrite m off bytes = d.mbxUp m fun x => { x with req := reqBytes off bytes x.req } := by
  have hacts : (!d.flag (F.MBX_STAT_REQ_FREE.ix m) || decide (2048 < off + bytes.length)) = false := by
    rw [hfree, decide_eq_false (Nat.not_lt.mpr hroom)]
    rfl
  rw [Dev.reqWrite, hacts]
  rfl

/-- Settles O16: each command is its operation; the request area byte by byte. -/
theorem mailboxCommandsComplete : Obligations.MailboxCommandsComplete := by
  refine ⟨fun m w dt s ha => ?_, fun m dt len tag s ha => ?_, fun m tag frame r rest s hpor => ?_, fun m s ha => ?_,
    fun m off bytes s ha hfree hroom => ⟨reqBytes off bytes, ?_, fun x a => byte_reqBytes off bytes x a⟩, fun m off s ha => ?_⟩
  · intro d hfree
    show run (whenAwake fun d => d.mbxGo m (wbits w 11 0) (wbits w 23 16) dt) s = _
    rw [run_whenAwake ha, mbxGo_free hfree]
  · intro d frame n hcopy hlen hpass
    show run (whenAwake fun d => d.mbxCopied m dt) s = _
    rw [run_whenAwake ha, mbxCopied_passed hcopy hlen hpass]
  · intro d hfree hfront e p
    have hpost : d.mbxPost m = p := mbxPost_finished hfree hfront
    have hexec : exec (.mbxResponsePost m) s = .next (s.after (d.mbxRespond m)) := run_whenPowered hpor
    refine ⟨fun hasked => ?_, fun a hasked hmbx hlast => ?_⟩
    · rw [hexec, mbxRespond_plain hasked, hpost]
    · rw [hexec, mbxRespond_reset hfree hfront hasked hmbx hlast, hpost]
  · intro d n hvalid
    show run (whenAwake fun d => d.mbxAck m) s = _
    rw [run_whenAwake ha, mbxAck_valid hvalid]
  · show run (whenAwake fun d => d.reqWrite m off bytes) s = _
    rw [run_whenAwake ha, reqWrite_free hfree hroom]
  · show run (whenAwake fun d => d.reqRead m off) s = _
    rw [run_whenAwake ha, Dev.reqRead]

end Sys2Proof.Machine
end

section
/-! PROOFS. The obligations of 15_clocks_power_reset.md: a warm reset. -/
namespace Sys2Proof.Machine

/-- While a warm reset is in progress every leg is held (R360). -/
theorem holdUpdate_warm {d : Dev} (hwarm : d.cpr.warm = true) : d.holdUpdate.dmp.held = 0xFFF := by
  have hall : d.heldLegs = 0xFFF := by rw [heldLegs_eq, Dev.allHeld, hwarm, Bool.or_true, if_pos rfl]
  obtain ⟨edges, waits, starts, want, out, hupdate⟩ := holdUpdate_eq d
  rw [hupdate, ← hall]
  rfl

/-- Settles O34: a request that power-on reset ignores, that another reset joins, or that begins one. -/
theorem warmResetProceeds : Obligations.WarmResetProceeds := by
  intro d k
  have hnotes (hpor : d.cpr.por = false) : d.warmReset k =
      let e := d.setIn F.CPR_RST_CAUSE_CAUSE k
      if d.cpr.warm || d.cpr.waiting then e else
      let f := e.cprUp fun c => { c with warm := true, start := d.time.now, asked := none }
      let g := ({ f with hrt := { f.hrt with act := none } }).holdUpdate.metEmber
      if g.met.embering.isSome then g else g.warmWipe := by
    rw [Dev.warmReset, hpor]
    rfl
  refine ⟨fun hpor => by rw [Dev.warmReset, if_pos hpor], fun hpor hbusy => ?_, fun hpor hwarm hwaiting => ?_⟩
  · rw [hnotes hpor, if_pos (Bool.or_eq_true _ _ ▸ hbusy)]
  · intro e f
    have hbegun : d.warmReset k = if f.metEmber.met.embering.isSome then f.metEmber else f.metEmber.warmWipe := by
      rw [hnotes hpor, hwarm, hwaiting]
      rfl
    refine ⟨holdUpdate_warm rfl, fun hembering => ?_, fun hnone => ?_⟩
    · rw [hbegun, if_pos hembering]
    · rw [hbegun, hnone]
      rfl

end Sys2Proof.Machine
end

section
/-! PROOFS. The obligations of 21_hearth.md: the log is a chain. -/
namespace Sys2Proof.Machine

/-- What a region keeps when an entry joins it: all of it below its size, else all but the oldest. -/
theorem length_region_le {α : Type} (l : List α) (x : α) {n : Nat} (hn : 0 < n) (h : l.length ≤ n) :
    ((if l.length < n then l else l.tail) ++ [x]).length ≤ n := by
  rw [List.length_append, List.length_singleton]
  split
  · omega
  · rw [List.length_tail]
    omega

theorem LogEntry.length_head (e : LogEntry) : e.head.length = 24 := by
  simp only [LogEntry.head, List.length_append, length_leBytes]

theorem lastTag_concat (d : Dev) (region : Nat) (l : List LogEntry) (e : LogEntry) : d.lastTag region (l ++ [e]) = e.tag := by
  rw [Dev.lastTag, List.getLast?_concat]

/-- The entry that joins the normal region (R477, R478). -/
def Dev.normalEntry (d : Dev) (code : Nat) (items : List Nat) (time angle : Nat) : LogEntry :=
  chainEntry (d.lastTag 0 d.log.normal) ⟨d.get F.HRT_LOG_NEXT, time, angle, code, items, []⟩

/-- The entry that joins the sticky region. -/
def Dev.stickyEntry (d : Dev) (code : Nat) (items : List Nat) (time angle : Nat) : LogEntry :=
  chainEntry (d.lastTag 1 d.log.sticky) ⟨d.get F.HRT_STICKY_NEXT, time, angle, code, items, []⟩

theorem logNormal_normal (d : Dev) (code : Nat) (items : List Nat) (time angle : Nat) :
    (d.logNormal code items time angle).log.normal =
      (if d.log.normal.length < 10240 then d.log.normal else d.log.normal.tail) ++ [d.normalEntry code items time angle] := rfl

theorem logSticky_sticky (d : Dev) (code : Nat) (items : List Nat) (time angle : Nat) :
    (d.logSticky code items time angle).log.sticky =
      (if d.log.sticky.length < 2048 then d.log.sticky else d.log.sticky.tail) ++ [d.stickyEntry code items time angle] := rfl

theorem logNormal_next (d : Dev) (code : Nat) (items : List Nat) (time angle : Nat) :
    (d.logNormal code items time angle).get F.HRT_LOG_NEXT = (d.get F.HRT_LOG_NEXT + 1) % 2 ^ 32 :=
  Dev.get_put_same (f := F.HRT_LOG_NEXT) (by decide) (by decide) _ _

theorem logSticky_next (d : Dev) (code : Nat) (items : List Nat) (time angle : Nat) :
    (d.logSticky code items time angle).get F.HRT_STICKY_NEXT = (d.get F.HRT_STICKY_NEXT + 1) % 2 ^ 32 :=
  Dev.get_put_same (f := F.HRT_STICKY_NEXT) (by decide) (by decide) _ _

/-- The sticky region has room where it is not full or the entry that goes has been exported (R480). -/
theorem stickyRoom_iff (d : Dev) :
    d.stickyRoom = true ↔ d.log.sticky.length < 2048 ∨ ∃ e ∈ d.log.sticky.head?, e.num < d.log.exported := by
  rw [Dev.stickyRoom, Bool.or_eq_true, decide_eq_true_iff]
  cases hhead : d.log.sticky.head? with
  | none =>
    have hempty : d.log.sticky.length < 2048 := by rw [List.head?_eq_none_iff.mp hhead]; decide
    exact iff_of_true (.inl hempty) (.inl hempty)
  | some e => simp

/-- Settles O53: the entry each region takes, and what its room says. -/
theorem eventLogIsAChain : Obligations.EventLogIsAChain := by
  intro d code items time angle
  have hroom := stickyRoom_iff d
  refine ⟨⟨d.normalEntry code items time angle, rfl, rfl, rfl, rfl, rfl, LogEntry.length_head _, rfl, logNormal_normal d code items time angle,
      rfl, lastTag_concat _ _ _ _⟩, logNormal_next d code items time angle, length_region_le _ _ (by decide),
    ⟨d.stickyEntry code items time angle, rfl, rfl, rfl, rfl, rfl, rfl, logSticky_sticky d code items time angle, rfl⟩,
    logSticky_next d code items time angle, length_region_le _ _ (by decide), fun hfull => ?_, fun hhas hlen => ?_⟩
  · obtain ⟨hlen, hold⟩ := not_or.mp (mt hroom.mpr (Bool.eq_false_iff.mp hfull))
    cases hhead : d.log.sticky.head? with
    | none => rw [List.head?_eq_none_iff.mp hhead] at hlen; exact absurd (by decide) hlen
    | some e => exact ⟨not_lt.mp hlen, e, rfl, not_lt.mp fun h => hold ⟨e, hhead, h⟩⟩
  · exact (hroom.mp hhas).resolve_left (not_lt.mpr hlen)

end Sys2Proof.Machine
end

section
/-! PROOFS. The obligations of 19_host_interface.md: the writes of a record. -/
namespace Sys2Proof.Machine

/-! ## A payload in host writes (R439) -/

theorem chunks_cons (k addr n : Nat) {bs : List Byte} (h : bs ≠ []) :
    (chunks k addr (n + 1) bs).reverse = .write addr (bs.take k) :: (chunks k (addr + k) n (bs.drop k)).reverse := by
  rw [chunks, if_neg (mt List.isEmpty_iff.mp h), List.reverse_append]
  rfl

/-- The writes of a payload, in order, spell it part by part. -/
theorem chunks_reverse {k : Nat} (hk : 0 < k) (addr n : Nat) (bs : List Byte) (hlen : bs.length ≤ n * k) :
    (chunks k addr n bs).reverse =
      (List.range ((bs.length + k - 1) / k)).map fun i => HostOut.write (addr + i * k) ((bs.drop (i * k)).take k) := by
  induction n generalizing addr bs with
  | zero =>
    have hnone : (bs.length + k - 1) / k = 0 := Nat.div_eq_of_lt (by omega)
    rw [hnone]
    rfl
  | succ n ih =>
    by_cases hempty : bs = []
    · have hnone : (bs.length + k - 1) / k = 0 := Nat.div_eq_of_lt (by rw [hempty, List.length_nil]; omega)
      rw [hnone, hempty]
      rfl
    · have hpos : 0 < bs.length := List.length_pos_iff.mpr hempty
      have hrest : (bs.drop k).length ≤ n * k := by rw [List.length_drop, Nat.sub_le_iff_le_add, ← Nat.succ_mul]; exact hlen
      have hcount : (bs.length + k - 1) / k = ((bs.drop k).length + k - 1) / k + 1 := by
        rw [List.length_drop, show bs.length + k - 1 = bs.length - 1 + k by omega, Nat.add_div_right _ hk]
        by_cases hle : k ≤ bs.length
        · rw [show bs.length - k + k - 1 = bs.length - 1 by omega]
        · rw [Nat.div_eq_of_lt (a := bs.length - 1) (by omega), Nat.div_eq_of_lt (a := bs.length - k + k - 1) (by omega)]
      rw [chunks_cons k addr n hempty, ih (addr + k) (bs.drop k) hrest, hcount, List.range_succ_eq_map, List.map_cons, List.map_map]
      simp only [Nat.zero_mul, Nat.add_zero, List.drop_zero, List.cons.injEq, true_and]
      refine List.map_congr_left fun i _ => ?_
      simp only [Function.comp_apply, List.drop_drop, Nat.succ_mul]
      rw [Nat.add_assoc, Nat.add_comm k]

/-! ## Descriptors in turn (R449) -/

/-- The writeback of a descriptor: the bytes it holds, the record's number, SOP and EOP. -/
def writeback (base rseq index held : Nat) (sop eop : Bool) : HostOut :=
  .write (base + 16 * index + 8)
    (leBytes 4 held ++ leBytes 4 (rseq % 65536 + (if sop then 65536 else 0) + (if eop then 131072 else 0)))

section Writes
variable (k base size rseq n head : Nat) (sop : Bool) (x : Desc) (ds : List Desc) (bs : List Byte)

/-- What the first buffer's part of a record writes. -/
def bufferWrites : List HostOut :=
  writeback base rseq head (min x.len bs.length) sop (decide (bs.length ≤ x.len)) ::
    chunks k x.addr ((bs.take x.len).length / k + 1) (bs.take x.len)

/-- A record that the first buffer holds. -/
theorem recordWrites_last (h : bs.length ≤ x.len) :
    recordWrites k base size rseq (n + 1) head sop (x :: ds) bs = (bufferWrites k base rseq head sop x bs, (head + 1) % size, ds) := by
  have hdone : (bs.drop x.len).isEmpty = true := List.isEmpty_iff.mpr (List.drop_eq_nil_of_le h)
  simp only [recordWrites, hdone, if_true, bufferWrites, writeback, decide_eq_true h, List.length_take]

/-- A record that goes on in the next buffer. -/
theorem recordWrites_more (h : x.len < bs.length) :
    recordWrites k base size rseq (n + 1) head sop (x :: ds) bs =
      let r := recordWrites k base size rseq n ((head + 1) % size) false ds (bs.drop x.len)
      (r.1 ++ bufferWrites k base rseq head sop x bs, r.2) := by
  have hmore : (bs.drop x.len).isEmpty = false := List.isEmpty_eq_false_iff.mpr (mt List.drop_eq_nil_iff.mp (not_le.mpr h))
  simp only [recordWrites, hmore, Bool.false_eq_true, if_false, bufferWrites, writeback, decide_eq_false (not_le.mpr h), List.length_take]

end Writes

/-- The descriptors a record took: `j` of `ds` from `head`, the least number that holds it; descriptor `i` written back with
its bytes. -/
structure TakesInTurn (base size rseq head : Nat) (sop : Bool) (ds : List Desc) (bs : List Byte)
    (r : List HostOut × Nat × List Desc) (j : Nat) : Prop where
  some_taken : 1 ≤ j
  at_most : j ≤ ds.length
  holds : bs.length ≤ ((ds.take j).map Desc.len).sum
  least : j = 1 ∨ ((ds.take (j - 1)).map Desc.len).sum < bs.length
  left : r.2.2 = ds.drop j
  head_after : r.2.1 = (head + j) % size
  written : ∀ i, i < j → ∃ x ∈ ds[i]?,
    writeback base rseq ((head + i) % size) (min x.len (bs.length - ((ds.take i).map Desc.len).sum)) (sop && decide (i = 0))
      (decide (i + 1 = j)) ∈ r.1

/-- A first buffer that does not hold the record is followed by those that hold the rest. -/
theorem TakesInTurn.cons {base size rseq head j : Nat} {sop : Bool} {x : Desc} {ds : List Desc} {bs : List Byte}
    {r : List HostOut × Nat × List Desc} (k : Nat) (hhead : head < size) (hmore : x.len < bs.length)
    (h : TakesInTurn base size rseq ((head + 1) % size) false ds (bs.drop x.len) r j) :
    TakesInTurn base size rseq head sop (x :: ds) bs (r.1 ++ bufferWrites k base rseq head sop x bs, r.2) (j + 1) := by
  have hlen : (bs.drop x.len).length = bs.length - x.len := List.length_drop
  have hsum (i : Nat) : (((x :: ds).take (i + 1)).map Desc.len).sum = x.len + ((ds.take i).map Desc.len).sum := by
    rw [List.take_succ_cons, List.map_cons, List.sum_cons]
  have hindex (i : Nat) : ((head + 1) % size + i) % size = (head + (i + 1)) % size := by
    rw [Nat.mod_add_mod, Nat.add_assoc, Nat.add_comm 1]
  refine ⟨Nat.le_add_left 1 j, Nat.succ_le_succ h.at_most, ?_, .inr ?_, h.left, ?_, fun i hi => ?_⟩
  · have := h.holds
    rw [hsum]
    omega
  · rw [Nat.add_sub_cancel]
    obtain ⟨i, rfl⟩ : ∃ i, j = i + 1 := ⟨j - 1, by have := h.some_taken; omega⟩
    rw [hsum]
    cases h.least with
    | inl hone => rw [show i = 0 by omega]; exact hmore
    | inr hless => rw [Nat.add_sub_cancel] at hless; omega
  · rw [h.head_after, hindex]
  · cases i with
    | zero =>
      refine ⟨x, rfl, List.mem_append_right _ ?_⟩
      have heop : decide (0 + 1 = j + 1) = decide (bs.length ≤ x.len) := by
        rw [decide_eq_false (not_le.mpr hmore), decide_eq_false (by have := h.some_taken; omega)]
      rw [heop, Nat.add_zero, Nat.mod_eq_of_lt hhead, decide_eq_true rfl, Bool.and_true]
      exact List.mem_cons_self
    | succ i =>
      obtain ⟨y, hy, hmem⟩ := h.written i (Nat.lt_of_succ_lt_succ hi)
      refine ⟨y, hy, List.mem_append_left _ ?_⟩
      rw [hindex, hlen, Nat.sub_sub, ← hsum, Bool.false_and] at hmem
      simpa using hmem

theorem recordWrites_inTurn (k base size rseq n head : Nat) (sop : Bool) (ds : List Desc) (bs : List Byte) (hhead : head < size)
    (hds : ds ≠ []) (hfits : bs.length ≤ (ds.map Desc.len).sum) (hfuel : ds.length ≤ n) :
    ∃ j, TakesInTurn base size rseq head sop ds bs (recordWrites k base size rseq n head sop ds bs) j := by
  induction ds generalizing n head sop bs with
  | nil => exact absurd rfl hds
  | cons x ds ih =>
    obtain ⟨n, rfl⟩ : ∃ m, n = m + 1 := ⟨n - 1, by rw [List.length_cons] at hfuel; omega⟩
    have hindex : (head + 0) % size = head := Nat.mod_eq_of_lt hhead
    by_cases hlast : bs.length ≤ x.len
    · refine ⟨1, ⟨le_rfl, by simp, by simpa using hlast, .inl rfl, ?_, ?_, fun i hi => ?_⟩⟩ <;> rw [recordWrites_last _ _ _ _ _ _ _ _ _ _ hlast]
      · rfl
      · obtain rfl : i = 0 := by omega
        refine ⟨x, rfl, ?_⟩
        rw [hindex, bufferWrites, decide_eq_true hlast]
        simp
    · have hmore : x.len < bs.length := not_le.mp hlast
      have hrest : (bs.drop x.len).length ≤ (ds.map Desc.len).sum := by
        rw [List.map_cons, List.sum_cons] at hfits
        rw [List.length_drop]
        omega
      have hsome : ds ≠ [] := by
        rintro rfl
        rw [List.length_drop, List.map_nil, List.sum_nil] at hrest
        omega
      obtain ⟨j, hj⟩ := ih n ((head + 1) % size) false (bs.drop x.len) (Nat.mod_lt _ (by omega)) hsome hrest
        (Nat.le_of_succ_le_succ hfuel)
      rw [recordWrites_more _ _ _ _ _ _ _ _ _ _ hmore]
      exact ⟨j + 1, hj.cons k hhead hmore⟩

/-- Settles O56: the writes of a record by induction on its descriptors, those of a payload by induction on its parts. -/
theorem recordFillsItsDescriptorsInTurn : Obligations.RecordFillsItsDescriptorsInTurn := by
  refine ⟨fun k base size rseq head ds bs hhead hds hfits => ?_, fun k addr n bs hk hlen => chunks_reverse hk addr n bs hlen⟩
  obtain ⟨j, hj⟩ := recordWrites_inTurn k base size rseq (ds.length + 1) head true ds bs hhead hds hfits (Nat.le_succ _)
  refine ⟨j, hj.some_taken, hj.at_most, hj.holds, hj.least, hj.left, hj.head_after, fun i hi => ?_⟩
  obtain ⟨x, hx, hmem⟩ := hj.written i hi
  refine ⟨x, hx, ?_⟩
  simpa only [writeback, Bool.true_and, decide_eq_true_eq] using hmem

end Sys2Proof.Machine
end

section
/-! PROOFS. The obligations of 16_station_network.md: links and received frames. -/
namespace Sys2Proof.Machine

/-! ## Links (R373) -/

theorem ethUp_enabled {d : Dev} {p dt : Nat} {giga : Bool} (hen : (d.advance dt).flag (F.NET_PORT_EN.ix p) = true)
    (hdown : (d.advance dt).bitIn F.NET_STATUS_LINK p = false) (hspeed : (d.advance dt).flag (F.NET_PORT_SPEED.ix p) = !giga) :
    d.ethUp p giga dt =
      (((d.advance dt).setIn F.NET_STATUS_LINK p).putIn F.NET_STATUS_SPD p giga).raise 0x0C02 [p, if giga then 1000 else 100] := by
  have hacts : (!(d.advance dt).flag (F.NET_PORT_EN.ix p) || (d.advance dt).bitIn F.NET_STATUS_LINK p ||
      giga == (d.advance dt).flag (F.NET_PORT_SPEED.ix p)) = false := by
    rw [hen, hdown, hspeed]
    cases giga <;> rfl
  rw [Dev.ethUp, hacts]
  rfl

theorem ethDown_up {d : Dev} {p dt : Nat} (hup : (d.advance dt).bitIn F.NET_STATUS_LINK p = true) :
    d.ethDown p dt = ((d.advance dt).linkLost p).raise 0x0C01 [p] := by
  rw [Dev.ethDown, hup]
  rfl

/-! ## Frames that the MAC takes (R376, R378, R380, R381) -/

theorem dupAdd_eq (d : Dev) (f : EthFrame) : ∃ n, d.dupAdd f = { d with net := n } := by
  unfold Dev.dupAdd
  cases RedTagSeq f.red with
  | none => exact ⟨d.net, rfl⟩
  | some s =>
    dsimp only
    split
    · exact ⟨d.net, rfl⟩
    · exact ⟨_, rfl⟩

/-- The duplicate list is no register. -/
theorem dupAdd_get (d : Dev) (f : EthFrame) (g : Fld) : (d.dupAdd f).get g = d.get g := by
  obtain ⟨n, h⟩ := dupAdd_eq d f
  rw [h]
  rfl

theorem nodeSeen_eq (d : Dev) (node : Nat) :
    d.nodeSeen node =
      let live := d.net.nodes.filter fun x => x.1 != node && decide (d.time.now < x.2 + 500000000 * d.get F.NET_RED_NODE_FORGET)
      d.netUp fun n => { n with nodes := live.drop (live.length - 127) ++ [(node, d.time.now)] } := by
  simp only [Dev.nodeSeen, Dev.netUp, Dev.now, show second = 500000000 from rfl]

section Taken
variable {s d : Dev} {f : EthFrame} {dt : Nat}

theorem ethReceive_taken (hmac : (s.advance dt).netQuiet.macReceive f = (d, true)) : s.ethReceive f dt = d.dupAdd f := by
  simp only [Dev.ethReceive, hmac, if_true]

theorem superReceive_taken (node : Nat) (hmac : (s.advance dt).netQuiet.macReceive f = (d, true)) :
    s.superReceive f node dt = (d.dupAdd f).nodeSeen node := by
  simp only [Dev.superReceive, hmac, Bool.not_true, Bool.false_eq_true, if_false]

section Ptp
variable {corr : Option Int} (hmac : (s.advance dt).netQuiet.macReceive f corr = (d, true)) (hptp : d.get F.NET_PTP_CFG_PROFILE ≠ 0)
include hmac hptp

theorem ptpMessage_pdelay (ns : Nat) (hcorr : corr = none) :
    s.ptpMessage f (.pdelay ns) dt = (d.dupAdd f).put (F.NET_PTP_PDELAY.ix f.port) ns := by
  subst hcorr
  simp only [Dev.ptpMessage, ptpCorr, hmac, hptp, Bool.not_true, decide_false, Bool.or_self, Bool.false_eq_true, if_false]

theorem ptpMessage_pdelayReq (hcorr : corr = some 0) :
    s.ptpMessage f (.pdelayReq ((d.dupAdd f).get F.NET_PTP_CFG_DOMAIN)) dt =
      (d.dupAdd f).ptpSend (some f.port) (.pdelayResp ((d.dupAdd f).get F.NET_PTP_CFG_DOMAIN)) := by
  subst hcorr
  simp only [Dev.ptpMessage, ptpCorr, hmac, hptp, Bool.not_true, decide_false, Bool.or_self, Bool.false_eq_true, if_false, if_true]

/-- An announcement on a port where none was kept is kept, and the state decided anew. -/
theorem ptpMessage_announce {sender : Nat} {a : PtpAnnounce} (hcorr : corr = none)
    (htlv : d.get F.NET_PTP_CFG_PROFILE = 2 → a.tlv ≠ none) (hfirst : (d.dupAdd f).net.ann.getD f.port none = none) :
    s.ptpMessage f (.announce ((d.dupAdd f).get F.NET_PTP_CFG_DOMAIN) sender a) dt =
      ((d.dupAdd f).netUp fun n => { n with ann := n.ann.set f.port (some ((d.dupAdd f).time.now, sender, a)) }).ptpDecide := by
  have hours : ((d.dupAdd f).get F.NET_PTP_CFG_DOMAIN != (d.dupAdd f).get F.NET_PTP_CFG_DOMAIN ||
      (decide ((d.dupAdd f).get F.NET_PTP_CFG_PROFILE = 2) && a.tlv.isNone)) = false := by
    rw [dupAdd_get d f F.NET_PTP_CFG_PROFILE, bne_self_eq_false, Bool.false_or, Bool.and_eq_false_iff]
    by_cases hprofile : d.get F.NET_PTP_CFG_PROFILE = 2
    · exact .inr (Option.isNone_eq_false_iff.mpr (Option.isSome_iff_ne_none.mpr (htlv hprofile)))
    · exact .inl (decide_eq_false hprofile)
  subst hcorr
  simp only [Dev.ptpMessage, ptpCorr, hmac, hptp, Bool.not_true, decide_false, Bool.or_self, Bool.false_eq_true, if_false, hours,
    Dev.announced, hfirst]
  rfl

/-- A synchronization from the master of the port followed moves the clock. -/
theorem ptpMessage_sync {sender t1 t : Nat} {c : Int} {a : PtpAnnounce} (hcorr : corr = some c)
    (hport : (d.dupAdd f).get F.NET_STATUS_PTP_PORT = f.port)
    (hstate : (d.dupAdd f).get F.NET_STATUS_PTP_STATE = 2 ∨ (d.dupAdd f).get F.NET_STATUS_PTP_STATE = 3)
    (hmaster : (d.dupAdd f).net.ann.getD f.port none = some (t, sender, a)) :
    s.ptpMessage f (.sync ((d.dupAdd f).get F.NET_PTP_CFG_DOMAIN) sender t1 c) dt =
      (d.dupAdd f).ptpOffset (((d.dupAdd f).ptpNs : Int) - t1 - c - (d.dupAdd f).get (F.NET_PTP_PDELAY.ix f.port)) := by
  have hfollows : ((d.dupAdd f).get F.NET_STATUS_PTP_STATE != 2 && (d.dupAdd f).get F.NET_STATUS_PTP_STATE != 3) = false := by
    cases hstate with
    | inl h => rw [h]; rfl
    | inr h => rw [h]; rfl
  subst hcorr
  simp only [Dev.ptpMessage, ptpCorr, hmac, hptp, Bool.not_true, decide_false, Bool.or_self, Bool.false_eq_true, if_false,
    bne_self_eq_false, hmaster, beq_self_eq_true, hport, hfollows]

end Ptp
end Taken

/-- A slave-only clock follows the best port (R380). -/
theorem ptpDecide_slave {d : Dev} {p : Nat} {b : PtpAnnounce} (hrole : d.get F.NET_PTP_CFG_ROLE = 0) (hbest : d.bestPort = some (p, b)) :
    d.ptpDecide = d.ptpFollow p b := by
  simp only [Dev.ptpDecide, hrole, hbest]

/-! ## Streams (R386, R387) -/

theorem gooseReceive_accepted {s d : Dev} {g : Goose} {dt i : Nat} (hsim : g.sim = false)
    (hmac : (s.advance dt).netQuiet.macReceive g.eth = (d, true)) (hctx : d.ctxMatch 1 g.eth g.appid g.gocbRef = some i)
    (hauth : d.authReason i g.auth = 0) (hset : (d.dupAdd g.eth).datasetReason i g.datSet g.confRev g.nds g.mems = 0)
    (hseq : (d.dupAdd g.eth).gooseSequence i g = 1) :
    s.gooseReceive g dt =
      let e := d.dupAdd g.eth
      let new := !e.flag (F.NET_CTX_STAT_SEEN.ix i) || e.get (F.NET_CTX_STAT_STNUM.ix i) != g.stNum
      let h := (((e.put (F.NET_CTX_STAT_STNUM.ix i) g.stNum).put (F.NET_CTX_STAT_SQNUM.ix i) g.sqNum).nctxUp i fun c =>
        { c with t := g.t }).streamAccept i g.mems g.ttl
      if new && h.flag (F.NET_CTX_REPORT.ix i) then h.subRecord i 0x5C01 g.stNum g.sqNum g.raw else h := by
  simp only [Dev.gooseReceive, hmac, hctx, hauth, hsim, hset, hseq, Bool.not_true, Bool.false_eq_true, if_false, bne_self_eq_false,
    Bool.false_and, show (1 : Nat) ≠ 0 from Nat.one_ne_zero, show (1 : Nat) ≠ 3 by decide, show (1 : Nat) ≠ 2 by decide]

theorem svReceive_accepted {s d : Dev} {v : Sv} {dt i : Nat} (hsim : v.sim = false)
    (hmac : (s.advance dt).netQuiet.macReceive v.eth = (d, true)) (hctx : d.ctxMatch 3 v.eth v.appid v.svID = some i)
    (hauth : d.authReason i v.auth = 0)
    (hset : ∀ a ∈ v.asdus, (d.dupAdd v.eth).datasetReason i v.datSet a.confRev false a.mems = 0) :
    s.svReceive v dt = v.asdus.foldl (fun x a => x.svAsdu i a) (d.dupAdd v.eth) := by
  have hnone : (v.asdus.map fun a => (d.dupAdd v.eth).datasetReason i v.datSet a.confRev false a.mems).find? (· != 0) = none := by
    rw [List.find?_eq_none, List.forall_mem_map]
    intro a ha
    rw [hset a ha]
    exact Bool.false_ne_true
  simp only [Dev.svReceive, hmac, hctx, hauth, hsim, hnone, Bool.not_true, Bool.false_eq_true, if_false, bne_self_eq_false,
    Bool.false_and]
  rfl

/-! ## Commands over layer 2 (R394) -/

theorem l2Command_waits {s d : Dev} {f : EthFrame} {dt : Nat} (hmac : (s.advance dt).netQuiet.macReceive f = (d, true))
    (hen : (d.dupAdd f).flag F.NET_CFG_L2CMD_EN = true) (hetype : f.etype = 0x88B5) (hdst : f.dst = (d.dupAdd f).netMac)
    (hvid : f.vid = (d.dupAdd f).get F.NET_CMD_VID_VID) (hhead : 4 ≤ f.payload.length) (hmbx : leAt f.payload 0 1 ≤ 3)
    (hzero : leAt f.payload 1 1 = 0) (hlen : leAt f.payload 2 2 = (f.payload.drop 4).length) (hmin : 16 ≤ (f.payload.drop 4).length)
    (hmax : (f.payload.drop 4).length ≤ 1496) (hfree : ((d.dupAdd f).net.l2.getD (leAt f.payload 0 1) []).length < 4) :
    s.l2Command f dt = (d.dupAdd f).netUp fun n =>
      { n with l2 := upd n.l2 (leAt f.payload 0 1) fun l => l ++ [⟨f.src, f.port, f.payload.drop 4⟩] } := by
  have hours : (!(d.dupAdd f).flag F.NET_CFG_L2CMD_EN || !(decide (f.etype = 0x88B5) || (d.dupAdd f).flag F.NET_CFG_ALT_EN &&
      decide (f.etype = (d.dupAdd f).get F.NET_CFG_ALT_ETYPE)) || f.dst != (d.dupAdd f).netMac ||
      f.vid != (d.dupAdd f).get F.NET_CMD_VID_VID) = false := by
    rw [hen, decide_eq_true hetype, ← hdst, ← hvid, bne_self_eq_false, bne_self_eq_false]
    rfl
  have hheader : (decide (f.payload.length < 4) || decide (3 < leAt f.payload 0 1) || leAt f.payload 1 1 != 0) = false := by
    rw [decide_eq_false (not_lt.mpr hhead), decide_eq_false (not_lt.mpr hmbx), hzero]
    rfl
  have hlength : (leAt f.payload 2 2 != (f.payload.drop 4).length || decide (leAt f.payload 2 2 < 16) ||
      decide (1496 < leAt f.payload 2 2)) = false := by
    rw [hlen, decide_eq_false (not_lt.mpr hmin), decide_eq_false (not_lt.mpr hmax), bne_self_eq_false]
    rfl
  simp only [Dev.l2Command, hmac, hours, hheader, hlength, not_le.mpr hfree, Bool.not_true, Bool.false_eq_true, if_false]

/-- Settles O36: each event is its operation on a link that is up and a frame that the MAC takes. -/
theorem networkReceptionCompletes : Obligations.NetworkReceptionCompletes := by
  refine ⟨fun p giga dt s ha => ⟨fun hen hdown hspeed => ?_, fun hup => ?_⟩, fun f node dt d s ha hmac => ⟨?_, ?_⟩,
    fun f dt d s ha hmac hptp => ⟨fun ns => ?_, fun sender a htlv hfirst => ⟨?_, fun p b hrole hbest => ptpDecide_slave hrole hbest⟩⟩,
    fun f t1 sender t dt corr a d s ha hmac hptp => ?_, fun f dt d s ha hmac hptp => ?_,
    fun g dt i d s ha hsim hmac hctx hauth => ?_, fun v dt i d s ha hsim hmac hctx hauth => ?_, fun f dt d s ha hmac => ?_⟩
  · exact run_whenAwake_next ha (ethUp_enabled hen hdown hspeed)
  · exact run_whenAwake_next ha (ethDown_up hup)
  · exact run_whenAwake_next ha (ethReceive_taken hmac)
  · exact run_whenAwake_next ha ((superReceive_taken node hmac).trans (nodeSeen_eq _ node))
  · exact run_whenAwake_next ha (ptpMessage_pdelay hmac hptp ns rfl)
  · exact run_whenAwake_next ha (ptpMessage_announce hmac hptp rfl htlv hfirst)
  · intro e hport hstate hmaster
    exact run_whenAwake_next ha (ptpMessage_sync hmac hptp rfl hport hstate hmaster)
  · exact run_whenAwake_next ha (ptpMessage_pdelayReq hmac hptp rfl)
  · intro e hset hseq
    exact run_whenAwake_next ha (gooseReceive_accepted hsim hmac hctx hauth hset hseq)
  · intro e hset
    exact run_whenAwake_next ha (svReceive_accepted hsim hmac hctx hauth hset)
  · intro e mbx frame hen hetype hdst hvid hhead hmbx hzero hlen hmin hmax hfree
    exact run_whenAwake_next ha (l2Command_waits hmac hen hetype hdst hvid hhead hmbx hzero hlen hmin hmax hfree)

end Sys2Proof.Machine
end

section
/-! PROOFS. The obligations of 16_station_network.md: timers. -/
namespace Sys2Proof.Machine

/-! ## Supervision (R378) -/

theorem superSend_redundant {d : Dev} (hmode : d.get F.NET_CFG_MODE ≠ 0) :
    d.superSend =
      let e := (d.advanceTo d.net.superAt).netQuiet.netOwn 0 none none none .supervision
      e.netUp fun n => { n with superAt := e.time.now + 500000000 * e.get F.NET_RED_LIFE_CHECK } := by
  simp only [Dev.superSend, if_neg hmode, Dev.now, show second = 500000000 from rfl]

/-- A port silent for three intervals of which the other is not. -/
theorem netPathLost_silent {d e : Dev} {p t u w : Nat} (hw : 1500000000 * d.get F.NET_RED_LIFE_CHECK = w)
    (he : d.advanceTo (t + w) = e) (hlast : d.net.lastRx.getD p none = some t) (hother : e.net.lastRx.getD (1 - p) none = some u)
    (hsilent : t + w ≤ e.time.now) (hheard : e.time.now < u + w) (hfirst : e.net.lostPath.testBit p = false) :
    d.netPathLost p =
      ((e.netUp fun n => { n with lostPath := setBit n.lostPath p }).clrIn F.NET_STATUS_PATH_OK p).raise 0x0C03 [p] := by
  have hkept : e.net.lastRx.getD p none = some t := by rw [← he, Dev.advanceTo, Dev.advance_net, hlast]
  simp only [Dev.netPathLost, show 3 * second = 1500000000 from rfl, hw, hlast, he, hkept, hother, Dev.now, decide_eq_true hsilent,
    decide_eq_true hheard, hfirst, Bool.not_false, Bool.and_self, if_true]

/-! ## Streams (R387) -/

theorem streamExpiry_due {d : Dev} {i t : Nat} (hdue : (d.nctx i).expire = some t) :
    d.streamExpiry i =
      let e := ((((d.advanceTo t).nctxUp i fun c => { c with expire := none }).put (F.NET_CTX_STAT_VALID.ix i) 0).put
        (F.NET_CTX_STAT_LAST_ERR.ix i) 8).bump F.NET_TAL_CNT
      let fs := (List.range (e.get (F.NET_CTX_NMEM.ix i))).foldl (fun acc m =>
        if memUse (e.ctxMem i m) = 1 ∨ memUse (e.ctxMem i m) = 2 then putBit acc m (memFs (e.ctxMem i m)) else acc)
        (e.get (F.NET_CTX_STAT_VALUES.ix i))
      (if e.flag (F.NET_CTX_ACT.ix i) then e.put (F.NET_CTX_STAT_VALUES.ix i) fs else e).linesUpdate.raise 0x0C0A [i] := by
  simp only [Dev.streamExpiry, hdue, Bool.or_eq_true, decide_eq_true_eq]

/-! ## Publications (R390, R391) -/

theorem gooseChange_new {d : Dev} {i : Nat} (hen : d.netQuiet.flag (F.NET_CTX_EN.ix i) = true)
    (hkind : d.netQuiet.get (F.NET_CTX_KIND.ix i) = 0) (hnew : (d.netQuiet.nctx i).vals ≠ some (d.netQuiet.memberVals i)) :
    d.gooseChange i =
      let q := d.netQuiet
      let n := q.get (F.NET_CTX_STAT_STNUM.ix i)
      let e := (q.put (F.NET_CTX_STAT_STNUM.ix i) (if n + 1 < 2 ^ 32 then n + 1 else 1)).put (F.NET_CTX_STAT_SQNUM.ix i) 0
      let f := e.nctxUp i fun c => { c with vals := some (q.memberVals i), t := e.ptpNs, offset := e.get (F.NET_CTX_T1.ix i) }
      f.gooseSend i (f.get (F.NET_CTX_T1.ix i)) := by
  simp only [Dev.gooseChange, hen, hkind, beq_eq_false_iff_ne.mpr hnew, Bool.not_true, bne_self_eq_false, Bool.or_self,
    Bool.false_eq_true, if_false]

theorem svSample_due {d : Dev} {i m : Nat} {chans : List (Int × Nat)} (hen : d.netQuiet.flag (F.NET_CTX_EN.ix i) = true)
    (hkind : d.netQuiet.get (F.NET_CTX_KIND.ix i) = 2) (hdue : d.netQuiet.svDue i = some (m, chans)) :
    d.svSample i =
      let q := d.netQuiet
      let e := (q.nctxUp i fun c => { c with sample := some m, asdus := c.asdus ++ [(m % q.svRate i, chans)] }).put
        (F.NET_CTX_STAT_SQNUM.ix i) (m % q.svRate i)
      let f := e.nctxUp i fun c => { c with asdus := [] }
      if (e.nctx i).asdus.length < (if q.svRate i = 4800 then 2 else 6) then e
      else if f.mayPublish i then f.publish i 2 (.sv i (if f.ptpOk then 2 else 0) (e.nctx i).asdus) else f := by
  simp only [Dev.svSample, hen, hkind, hdue, Bool.not_true, bne_self_eq_false, Bool.or_self, Bool.false_eq_true, if_false]

theorem gooseRetransmit_due {d : Dev} {i t : Nat} (hdue : (d.nctx i).sendAt = some t) :
    d.gooseRetransmit i =
      let a := (d.advanceTo t).netQuiet
      let q := a.get (F.NET_CTX_STAT_SQNUM.ix i)
      let e := a.put (F.NET_CTX_STAT_SQNUM.ix i) (if q + 1 < 2 ^ 32 then q + 1 else 1)
      let n := nextOffset (e.nctx i).offset (e.get (F.NET_CTX_T0.ix i))
      (e.nctxUp i fun c => { c with offset := n }).gooseSend i (n - (e.nctx i).offset) := by
  simp only [Dev.gooseRetransmit, hdue]

/-! ## Keys (R393, R402) -/

section Keys
variable {d : Dev} {k : NetKey}

theorem keyChange_next {i : Nat} (hnext : (d.nctx i).next = some k) :
    d.keyChange i = (((d.toPtp (k.start * 1000000000)).nctxUp i fun c => { c with cur := some k, next := none, old := c.cur }).keyRegs
      i).raise 0x0C0D [k.id] := by
  simp only [Dev.keyChange, hnext]

theorem groupKeyChange_next (hnext : d.flu.keyNext = some k) :
    d.groupKeyChange = ((d.toPtp (k.start * 1000000000)).fluUp fun f => { f with keyCur := some k, keyNext := none }).raise 0x0C0D
      [k.id] := by
  simp only [Dev.groupKeyChange, hnext]

theorem keyExpired_past {i : Nat} (hcur : (d.nctx i).cur = some k)
    (hdead : ((d.toPtp (k.stop * 1000000000)).keyRegs i).keyLive (some k) = false) :
    d.keyExpired i = ((d.toPtp (k.stop * 1000000000)).keyRegs i).raise 0x0C0E [k.id] := by
  simp only [Dev.keyExpired, hcur, hdead, Bool.false_eq_true, if_false]

theorem groupKeyExpired_past (hcur : d.flu.keyCur = some k) (hdead : (d.toPtp (k.stop * 1000000000)).keyLive (some k) = false) :
    d.groupKeyExpired = (d.toPtp (k.stop * 1000000000)).raise 0x0C0E [k.id] := by
  simp only [Dev.groupKeyExpired, hcur, hdead, Bool.false_eq_true, if_false]

end Keys

/-! ## PTP and PPS (R380 to R383) -/

/-- The clock once its port has been left. -/
def Dev.announceGone (d : Dev) : Dev :=
  let p := d.get F.NET_STATUS_PTP_PORT
  let e := (d.advanceTo d.announceDue).bump F.NET_PTP_TO_CNT
  if p ≤ 1 then e.netUp fun n => { n with ann := n.ann.set p none } else e

section Announce
variable {d : Dev} (hptp : d.get F.NET_PTP_CFG_PROFILE ≠ 0) (hoff : d.get F.NET_STATUS_PTP_STATE ≠ 0)
  (hslave : d.get F.NET_STATUS_PTP_STATE ≠ 4)
include hptp hoff hslave

theorem announceTimeout_other (hbest : d.announceGone.bestPort.isSome = true) : d.announceTimeout = d.announceGone.ptpDecide := by
  obtain ⟨b, hb⟩ := Option.isSome_iff_exists.mp hbest
  simp only [Dev.announceGone] at hb
  simp only [Dev.announceTimeout, Dev.announceGone, hptp, hoff, hslave, decide_false, Bool.or_self, Bool.false_eq_true, if_false, hb]

theorem announceTimeout_none (hbest : d.announceGone.bestPort = none) :
    d.announceTimeout =
      let e := d.announceGone
      let f := (((e.put F.NET_STATUS_PTP_PORT 3).put F.NET_STATUS_PTP_STATE 1).netUp fun n =>
        { n with good := 0, listenAt := e.time.now }).ptpValid false
      if f.get F.NET_PTP_CFG_ROLE = 1 then f.ptpBecomeMaster else f := by
  simp only [Dev.announceGone] at hbest
  simp only [Dev.announceTimeout, Dev.announceGone, hptp, hoff, hslave, decide_false, Bool.or_self, Bool.false_eq_true, if_false, hbest]
  rfl

end Announce

theorem ppsIn_slave {d : Dev} {dt : Nat} (hen : (d.advance dt).flag F.NET_PTP_CFG_PPS_IN_EN = true) :
    let a := d.advance dt
    let near := a.net.pps.any fun t => decide (500000000 ≤ a.time.now - t + 5000 ∧ a.time.now - t ≤ 500000000 + 5000)
    let n := if near then min 4 (a.net.ppsN + 1) else 1
    let e := (a.netUp fun x => { x with pps := some a.time.now, ppsN := n }).putB F.NET_STATUS_PPS_LOCK (decide (n = 4))
    e.ptpMaster = false → d.ppsIn dt = e := by
  intro a near n e hslave
  unfold Dev.ppsIn
  extract_lets near' n' e'
  have hnear : near' = near := by
    simp only [near', near, a]
    cases (d.advance dt).net.pps with
    | none => rfl
    | some t => simp only [Option.any_some, Bool.decide_and, Dev.now, show second = 500000000 from rfl]
  have he : e' = e := by
    simp only [e', n', hnear]
    rfl
  have hon : (!a.flag F.NET_PTP_CFG_PPS_IN_EN) = false := by rw [hen]; rfl
  rw [hon, he, hslave, if_neg Bool.false_ne_true, Bool.not_false, if_pos rfl]

theorem ppsSecond_enabled {d e : Dev} (hen : d.flag F.NET_PTP_CFG_PPS_OUT_EN = true) (he : d.toPtp ((d.ptpSec + 1) * 1000000000) = e) :
    d.ppsSecond = e.netUp fun n => { n with ppsOut := some (e.time.now + 500000 * e.get F.NET_PPS_WIDTH) } := by
  rw [Dev.ppsSecond, hen, he]
  simp only [Bool.not_true, Bool.false_eq_true, if_false, Dev.now, show msec = 500000 from rfl]

/-- Settles O37: each timer is its operation at the instant it is due. -/
theorem networkTimersComplete : Obligations.NetworkTimersComplete := by
  refine ⟨fun s ha hmode => ?_, fun p t u s ha => ?_, fun i t s ha hdue => ?_, fun i s ha => ?_, fun i t s ha hdue => ?_,
    fun k s ha => ⟨fun i hnext => ?_, fun hnext => ?_, fun i hcur hdead => ?_, fun hcur hdead => ?_⟩,
    fun s ha hptp hoff hslave => ⟨fun hbest => ?_, fun hbest => ?_⟩, fun dt s ha => ?_, fun s ha hen => ?_⟩
  · exact run_whenAwake_next ha (superSend_redundant hmode)
  · intro w d hlast hother hsilent hheard hfirst
    exact run_whenAwake_next ha (netPathLost_silent rfl rfl hlast hother hsilent hheard hfirst)
  · exact run_whenAwake_next ha (streamExpiry_due hdue)
  · intro d hen
    refine ⟨fun hkind => ?_, fun hkind m chans hdue => ?_⟩
    · intro vals hnew
      exact run_whenAwake_next ha (gooseChange_new hen hkind hnew)
    · exact run_whenAwake_next ha (svSample_due hen hkind hdue)
  · exact run_whenAwake_next ha (gooseRetransmit_due hdue)
  · exact run_whenAwake_next ha (keyChange_next hnext)
  · exact run_whenAwake_next ha (groupKeyChange_next hnext)
  · exact run_whenAwake_next ha (keyExpired_past hcur hdead)
  · exact run_whenAwake_next ha (groupKeyExpired_past hcur hdead)
  · exact run_whenAwake_next ha (announceTimeout_other hptp hoff hslave hbest)
  · exact run_whenAwake_next ha (announceTimeout_none hptp hoff hslave hbest)
  · intro d hen near n e hslave
    exact run_whenAwake_next ha (ppsIn_slave hen hslave)
  · exact run_whenAwake_next ha (ppsSecond_enabled hen rfl)

end Sys2Proof.Machine
end

section
/-! PROOFS. The obligations of 17_flue_groups.md: links and received frames. -/
namespace Sys2Proof.Machine

/-! ## Links (R397) -/

theorem flueUp_capable {d : Dev} {l dt : Nat} (hcap : (d.advance dt).fluCapable = true) (hdown : (d.advance dt).flag (linkFld l) = false) :
    d.flueUp l dt = ((d.advance dt).put (linkFld l) 1).raise 0x0D02 [l] := by
  rw [Dev.flueUp, hcap, hdown]
  rfl

theorem flueDown_up {d : Dev} {l dt : Nat} (hup : (d.advance dt).flag (linkFld l) = true) :
    d.flueDown l dt =
      (((d.advance dt).put (linkFld l) 0).fluUp fun x => { x with ports := upd x.ports l fun _ => {} }).raise 0x0D01 [l] := by
  rw [Dev.flueDown, hup]
  rfl

/-! ## What every frame undergoes (R398 to R400) -/

section Take
variable {s a : Dev} {h : FlueHdr} {f : FlueFrame} {dt : Nat} {act : Dev → Dev} (ha : (s.advance dt).flueQuiet = a)
  (hup : a.flag (linkFld h.link) = true)
include ha hup

theorem flueTake_bad (hbad : a.flueBad h = true) : s.flueTake h f dt act = (a.flueForward h f true).flueDiscard h := by
  simp only [Dev.flueTake, ha, hup, hbad, Bool.not_true, Bool.false_eq_true, if_false, if_true]

theorem flueTake_elsewhere (hgood : a.flueBad h = false) (hother : (a.flueForward h f false).flueMine h = false) :
    s.flueTake h f dt act = a.flueForward h f false := by
  simp only [Dev.flueTake, ha, hup, hgood, hother, Bool.not_true, Bool.false_eq_true, if_false]

theorem flueTake_mine (hgood : a.flueBad h = false) (hmine : (a.flueForward h f false).flueMine h = true) :
    s.flueTake h f dt act = act ((a.flueForward h f false).flueSeen h) := by
  simp only [Dev.flueTake, ha, hup, hgood, hmine, Bool.not_true, Bool.false_eq_true, if_false, if_true]

end Take

/-- What a bulk frame does where the device accepts it. -/
def bulkAct (h : FlueHdr) (b : BulkBody) (d : Dev) : Dev := match (d.bulkTaken h b).2 with
  | some r => (d.bulkTaken h b).1.relayDone r
  | none => (d.bulkTaken h b).1

/-- The seven reception events and the frames they receive. -/
def receptions (h : FlueHdr) (dt : Nat) (c : CrownFrame) (m : MemberFrame) (y : BulkBody) (ns ps : Nat) (devId : List Byte)
    (strap sps cpc : Nat) (x : ShadowBody) : List (Instr × FlueFrame) :=
  [(.flueFrameReceive h dt, .other), (.crownFrameReceive h c dt, .crown c), (.memberFrameReceive h m dt, .member m),
    (.bulkFrameReceive h y dt, .bulk y), (.timeFrameReceive h ns ps dt, .time),
    (.joinFrameReceive h devId strap sps cpc dt, .join none devId), (.shadowFrameReceive h x dt, .shadow x)]

/-- Every reception event is the same taking of its frame. -/
theorem reception_takes (h : FlueHdr) (dt : Nat) (c : CrownFrame) (m : MemberFrame) (y : BulkBody) (ns ps : Nat) (devId : List Byte)
    (strap sps cpc : Nat) (x : ShadowBody) :
    ∀ p ∈ receptions h dt c m y ns ps devId strap sps cpc x,
      ∃ act, ∀ s, exec p.1 s = run (whenAwake fun d => d.flueTake h p.2 dt act) s := by
  simp only [receptions, List.forall_mem_cons]
  refine ⟨⟨id, fun _ => rfl⟩, ⟨fun d => Dev.crownTaken (fun d c => (d.crownRecord c).txRecord c) d h c, fun _ => rfl⟩,
    ⟨fun d => d.memberTaken h m, fun _ => rfl⟩, ⟨bulkAct h y, fun _ => rfl⟩, ⟨fun d => d.timeTaken h ns ps, fun _ => rfl⟩,
    ⟨fun d => d.joinTaken h devId strap sps cpc, fun _ => rfl⟩, ⟨fun d => d.shadowTaken x, fun _ => rfl⟩, fun _ hp => absurd hp List.not_mem_nil⟩

/-! ## Frames that the device accepts -/

section Crown
variable {act : Dev → CrownCmd → Dev} {d : Dev} {h : FlueHdr} {f : CrownFrame}

/-- A device takes the place its crown frame gives it (R404). -/
theorem crownTaken_current (hrole : d.fluRole = 1 ∨ d.fluRole = 3) (hepoch : d.get F.FLU_EPOCH ≤ h.epoch) :
    Dev.crownTaken act d h f =
      let e := ((((d.put F.FLU_EPOCH h.epoch).put F.FLU_GFI h.gfi).put F.FLU_ROLE_CROWN_POS h.src).setLive f.liveMask).fluUp fun x =>
        { x with pend := some (h.gfi, h.epoch, f), fresh := true, missing := 0, bounds := 0, orphan := false }
      let g := { e with sup := { e.sup with rxBias := f.beta } }
      let k := if f.snapN ≠ 0 ∧ g.angSrc = 2 then g.setSnap (some (.announced f.snapN)) else g
      f.cmds.foldl act k := by
  have hmember : d.fluRole ≠ 0 ∧ d.fluRole ≠ 2 := by omega
  simp only [Dev.crownTaken, if_neg hmember.1, if_neg hmember.2, not_lt.mpr hepoch, if_false, Bool.and_eq_true, bne_iff_ne,
    decide_eq_true_eq, Dev.forAll]

theorem crownTaken_stale (hrole : d.fluRole = 1 ∨ d.fluRole = 3) (hepoch : h.epoch < d.get F.FLU_EPOCH) :
    Dev.crownTaken act d h f = (d.bump F.FLU_STALE_CNT).raise 0x0D0C := by
  have hmember : d.fluRole ≠ 0 ∧ d.fluRole ≠ 2 := by omega
  simp only [Dev.crownTaken, if_neg hmember.1, if_neg hmember.2, hepoch, if_true]

/-- A crown yields to a higher claim (R407, R418). -/
theorem crownTaken_yields (hrole : d.fluRole = 2)
    (hclaim : d.get F.FLU_EPOCH < h.epoch ∨
      (d.get F.FLU_EPOCH = h.epoch ∧ (d.ringDevs.findIdx fun e => e.pos == h.src) < d.ringDevs.findIdx fun e => e.pos == d.fluPos)) :
    Dev.crownTaken act d h f = d.crownYields h := by
  have hyields : (decide (d.get F.FLU_EPOCH < h.epoch) || (decide (d.get F.FLU_EPOCH = h.epoch) &&
      decide ((d.ringDevs.findIdx fun e => e.pos == h.src) < d.ringDevs.findIdx fun e => e.pos == d.fluPos))) = true := by
    simpa using hclaim
  rw [Dev.crownTaken, hrole, if_neg (by decide), if_pos rfl]
  exact if_pos hyields

end Crown

section Accepted
variable {d : Dev} {h : FlueHdr}

/-- A crown and its standby keep the members' frames (R403). -/
theorem memberTaken_kept {f : MemberFrame} (hrole : d.fluRole = 2 ∨ d.fluRole = 3) :
    d.memberTaken h f =
      let e := if h.epoch < d.get F.FLU_EPOCH then (d.bump F.FLU_STALE_CNT).raise 0x0D0C else d
      e.memberNote h.src h.gfi (if h.epoch < d.get F.FLU_EPOCH
        then { f with head := ((e.flu.mem.getD h.src {}).frame.map MemberFrame.head).getD 0, verdict := 0 } else f) := by
  have hkeeps : (d.fluRole != 2 && d.fluRole != 3) = false := by
    cases hrole with
    | inl hr => rw [hr]; rfl
    | inr hr => rw [hr]; rfl
  simp only [Dev.memberTaken, hkeeps, Bool.false_eq_true, if_false]

theorem memberTaken_current {f : MemberFrame} (hrole : d.fluRole = 2 ∨ d.fluRole = 3) (hepoch : d.get F.FLU_EPOCH ≤ h.epoch) :
    d.memberTaken h f = d.memberNote h.src h.gfi f := by
  simp only [memberTaken_kept hrole, not_lt.mpr hepoch, if_false]

theorem memberTaken_stale {f : MemberFrame} (hrole : d.fluRole = 2 ∨ d.fluRole = 3) (hepoch : h.epoch < d.get F.FLU_EPOCH) :
    d.memberTaken h f =
      let e := (d.bump F.FLU_STALE_CNT).raise 0x0D0C
      e.memberNote h.src h.gfi { f with head := ((e.flu.mem.getD h.src {}).frame.map MemberFrame.head).getD 0, verdict := 0 } := by
  simp only [memberTaken_kept hrole, hepoch, if_true]

theorem bulkAct_command {op uid role sid seq : Nat} {p : List Byte} (hepoch : d.get F.FLU_EPOCH ≤ h.epoch) :
    bulkAct h (.command op uid role sid seq p) d = d.fluUp fun x => { x with inbox := x.inbox ++ [(h.src, .command op uid role sid seq p)] } := by
  simp only [bulkAct, Dev.bulkTaken, if_neg (not_lt.mpr hepoch)]

theorem bulkAct_command_stale {op uid role sid seq : Nat} {p : List Byte} (hepoch : h.epoch < d.get F.FLU_EPOCH) :
    bulkAct h (.command op uid role sid seq p) d = (d.bump F.FLU_STALE_CNT).raise 0x0D0C := by
  simp only [bulkAct, Dev.bulkTaken, if_pos hepoch]

theorem bulkAct_last_answer {sid seq st : Nat} {p : List Byte} {e : Dev} {r : Relay} (h' : d.relayAnswer h.src sid seq st p = (e, some r)) :
    bulkAct h (.response sid seq st p) d = e.relayDone r := by
  simp only [bulkAct, Dev.bulkTaken, h']

theorem bulkAct_answer {sid seq st : Nat} {p : List Byte} {e : Dev} (h' : d.relayAnswer h.src sid seq st p = (e, none)) :
    bulkAct h (.response sid seq st p) d = e := by
  simp only [bulkAct, Dev.bulkTaken, h']

/-- A neighbour's time frame (R402). -/
theorem timeTaken_neighbour (ns ps : Nat) (hhops : h.hops = 63) :
    d.timeTaken h ns ps =
      let e := ((d.put (F.FLU_LINK_DLY.ix h.link) ps).fluUp fun x => { x with lastTime := some d.time.now }).put F.FLU_STATUS_TIME_OK 1
      if e.fluRole = 2 ∨ h.link ≠ e.timeLink then e else e.fluUp fun x => { x with base := (ns : Int) - 2 * e.time.now } := by
  simp only [Dev.timeTaken, hhops, bne_self_eq_false, Bool.false_eq_true, if_false, Bool.or_eq_true, decide_eq_true_eq, bne_iff_ne]
  rfl

section Join
variable {devId : List Byte} {strap sps cpc : Nat} (hrole : d.fluRole = 2)
include hrole

theorem joinTaken_admitted {e : UnitEntry} (hadmits : d.joinReason h devId strap sps cpc = (0, some e)) :
    d.joinTaken h devId strap sps cpc =
      let g := ((d.fluUp fun x => { x with cmds := x.cmds ++ [.admission devId e.pos e.uid (d.offsetOf e)] }).joinStandby strap e.pos).fluUp
        fun x => { x with mem := x.mem.set e.pos {} }
      if g.liveMask.testBit e.pos then g else (g.setLive (setBit g.liveMask e.pos)).raise 0x0D05 [e.pos] := by
  simp only [Dev.joinTaken, hrole, bne_self_eq_false, Bool.false_eq_true, if_false, hadmits]

theorem joinTaken_refused {r : Nat} {x : Option UnitEntry} (hr : r ≠ 0) (hrefuses : d.joinReason h devId strap sps cpc = (r, x)) :
    d.joinTaken h devId strap sps cpc = d.raise 0x0D0E [leAt devId 0 4, r] := by
  obtain ⟨n, rfl⟩ : ∃ n, r = n + 1 := Nat.exists_eq_succ_of_ne_zero hr
  simp only [Dev.joinTaken, hrole, bne_self_eq_false, Bool.false_eq_true, if_false, hrefuses]

end Join

theorem shadowTaken_standby (hrole : d.fluRole = 3) (f : ShadowBody) :
    d.shadowTaken f = match f with
      | .session sid role serial notAfter key since =>
        d.shadowed { sid := sid, role := role, serial := serial, notAfter := notAfter, key := key, since := since }
      | .response sid seq st payload => d.replyKept sid seq st payload
      | .group sp sh => d.shadowShares sp sh := by
  unfold Dev.shadowTaken
  rw [hrole]
  rfl

end Accepted

/-- Settles O38: each event is the taking of its frame, and what the frame does once it is accepted. -/
theorem flueFramesComplete : Obligations.FlueFramesComplete := by
  refine ⟨fun l dt s ha => ⟨fun hcap hdown => run_whenAwake_next ha (flueUp_capable hcap hdown), fun hup =>
    run_whenAwake_next ha (flueDown_up hup)⟩, fun h dt s ha => ?_⟩
  intro a hup
  have htake {f : FlueFrame} {act : Dev → Dev} {e : Dev} (hgood : a.flueBad h = false) (hmine : (a.flueForward h f false).flueMine h = true)
      (hact : act ((a.flueForward h f false).flueSeen h) = e) :
      run (whenAwake fun d => d.flueTake h f dt act) s = .next (s.after e) :=
    run_whenAwake_next ha ((flueTake_mine rfl hup hgood hmine).trans hact)
  refine ⟨fun c m y ns ps devId strap sps cpc x p hp => ?_, fun hgood => ⟨fun hmine => ?_, fun f => ?_, fun f => ?_,
    fun op uid role sid seq p => ?_, fun sid seq st p => ?_, fun ns ps => ?_, fun devId strap sps cpc => ?_, fun f => ?_⟩⟩
  · obtain ⟨act, hexec⟩ := reception_takes h dt c m y ns ps devId strap sps cpc x p hp
    rw [hexec]
    exact ⟨fun hbad => run_whenAwake_next ha (flueTake_bad rfl hup hbad), fun hgood hother =>
      run_whenAwake_next ha (flueTake_elsewhere rfl hup hgood hother)⟩
  · exact htake hgood hmine rfl
  · intro b d place hmine
    exact ⟨fun hrole hepoch => htake hgood hmine (crownTaken_current hrole hepoch),
      fun hrole hepoch => htake hgood hmine (crownTaken_stale hrole hepoch),
      fun hrole hclaim => htake hgood hmine (crownTaken_yields hrole hclaim)⟩
  · intro b d hmine hrole
    exact ⟨fun hepoch => htake hgood hmine (memberTaken_current hrole hepoch),
      fun hepoch => htake hgood hmine (memberTaken_stale hrole hepoch)⟩
  · intro f b d hmine
    exact ⟨fun hepoch => htake hgood hmine (bulkAct_command hepoch), fun hepoch => htake hgood hmine (bulkAct_command_stale hepoch)⟩
  · intro f b d hmine
    exact ⟨fun e r hlast => htake hgood hmine (bulkAct_last_answer hlast), fun e hmore => htake hgood hmine (bulkAct_answer hmore)⟩
  · intro b d e hmine hhops
    exact htake hgood hmine (timeTaken_neighbour ns ps hhops)
  · intro b d hmine hrole
    exact ⟨fun e hadmits => htake hgood hmine (joinTaken_admitted hrole hadmits),
      fun r x hr hrefuses => htake hgood hmine (joinTaken_refused hrole hr hrefuses)⟩
  · intro b d hmine hrole
    exact htake hgood hmine (shadowTaken_standby hrole f)

end Sys2Proof.Machine
end

section
/-! PROOFS. The obligations of 17_flue_groups.md: boundaries and timers. -/
namespace Sys2Proof.Machine

/-! ## Time, join and relay timers (R402, R407, R466) -/

section Timers
variable {d e : Dev}

theorem flueExchange_capable (hcap : d.fluCapable = true) (he : (d.advanceTo d.flu.exchange).flueQuiet = e) :
    d.flueExchange = (e.flueSend 0xFF .time).fluUp fun x => { x with exchange := e.time.now + 500000 } := by
  simp only [Dev.flueExchange, hcap, he, Bool.not_true, Bool.false_eq_true, if_false, Dev.now, show msec = 500000 from rfl]

theorem flueTimeLost_due {t : Nat} (hlast : d.flu.lastTime = some t) :
    d.flueTimeLost =
      (((d.advanceTo (t + 5000000)).fluUp fun x => { x with lastTime := none }).put F.FLU_STATUS_TIME_OK 0).raise 0x0D0D := by
  simp only [Dev.flueTimeLost, hlast, show 10 * msec = 5000000 from rfl]

theorem joinSend_due {t : Nat} (hdue : d.flu.joining = some t) (he : (d.advanceTo t).flueQuiet = e) (hout : e.fluAdmitted = false)
    (hlink : e.flag F.FLU_STATUS_LINK_E = true ∨ e.flag F.FLU_STATUS_LINK_W = true) :
    d.joinSend = (e.flueSend 0xFF (.join e.flu.nonce e.devId)).fluUp fun x => { x with joining := some (e.time.now + 500000) } := by
  have hsends : (e.fluAdmitted || !(e.flag F.FLU_STATUS_LINK_E || e.flag F.FLU_STATUS_LINK_W)) = false := by
    rw [hout, (Bool.or_eq_true _ _).mpr hlink]
    rfl
  simp only [Dev.joinSend, hdue, he, hsends, Bool.false_eq_true, if_false, Dev.now, show msec = 500000 from rfl]

/-- The oldest relay, which no member has failed, ends with TIMEOUT (R466). -/
theorem relayLate_oldest {r : Relay} {rest : List Relay} (holdest : d.flu.relays = r :: rest) (hfail : r.fail = none) :
    d.relayLate =
      let e := ((d.advanceTo (r.sentAt + 50000000)).flueQuiet).fluUp fun x => { x with relays := rest }
      e.answer r.ask St.timeout ((e.unitAt ((bitList 64 r.waiting).headD 0)).elim 0 UnitEntry.uid) [] := by
  simp only [Dev.relayLate, Dev.relayTimeout, holdest, hfail, Dev.relayDone, show 100 * msec = 50000000 from rfl, if_true]

end Timers

/-! ## The boundary (R403, R413, R416) -/

section Boundary
variable {d e : Dev}

theorem groupFrame_plain (h : d.flueBoundary = (e, none)) : d.groupFrame = e := by
  unfold Dev.groupFrame
  rw [h]

theorem groupFrame_refused {t : GroupTx} {st pos : Nat} (h : d.flueBoundary = (e, some (t, st, pos))) (hst : st ≠ 0) :
    d.groupFrame = e.fluUp fun f => { f with bound := f.bound ++ [⟨t.ask, st, (e.unitAt pos).elim 0 UnitEntry.uid, []⟩] } := by
  unfold Dev.groupFrame
  rw [h]
  exact if_pos (bne_iff_ne.mpr hst)

theorem groupFrame_goes {t : GroupTx} {pos r : Nat} {p : List Byte} {g : Dev} (h : d.flueBoundary = (e, some (t, 0, pos)))
    (hgo : e.goOn t.act (t.angle.getD 0) = (r, p, g)) :
    d.groupFrame = g.fluUp fun f => { f with bound := f.bound ++ [⟨t.ask, r, g.selfUid, p⟩] } := by
  unfold Dev.groupFrame
  rw [h]
  dsimp only
  rw [bne_self_eq_false, if_neg Bool.false_ne_true, hgo]

end Boundary

/-! ## The deadline (R403, R414, R418) -/

/-- 5 us before the next boundary. -/
def Dev.toDeadline (d : Dev) : Dev :=
  let target := d.flu.nextG * (2 ^ 48 / d.G)
  let left := if target ≤ d.time.phase then 0 else ceilDiv (target - d.time.phase) (max 1 (d.get F.ANG_INC))
  (d.advance (left - 2500)).flueQuiet

/-- What a crown does about the member frame of a position. -/
def Dev.frameMissed (d : Dev) (p : Nat) : Dev :=
  let m := d.flu.mem.getD p {}
  if m.frame.isSome = true ∧ m.at_ = d.get F.FLU_GFI then d else
  let e := (d.bump F.FLU_MISS_CNT).fluUp fun x => { x with mem := upd x.mem p fun m => { m with miss := m.miss + 1 } }
  if m.miss = 1 then (e.fluUp fun x => { x with mem := upd x.mem p fun m => { m with leaving := 2, leaveAt := 0 } }).raise 0x0D04 [p] else e

theorem raise_fluRole (d : Dev) (code : Nat) (items : List Nat) : (d.raise code items).fluRole = d.fluRole :=
  (raise_onlyRaised d code items).get_eq (f := F.FLU_STATUS_ROLE) (by decide)

theorem bump_miss_fluRole (d : Dev) : (d.bump F.FLU_MISS_CNT).fluRole = d.fluRole :=
  Dev.get_put_other d F.FLU_MISS_CNT _ (g := F.FLU_STATUS_ROLE) (by decide)

/-- Missing frames leave a device its role. -/
theorem frameMissed_fluRole (d : Dev) (p : Nat) : (d.frameMissed p).fluRole = d.fluRole := by
  unfold Dev.frameMissed
  extract_lets m e
  have he : e.fluRole = d.fluRole := bump_miss_fluRole d
  split
  · rfl
  · split
    · exact (raise_fluRole _ _ _).trans he
    · exact he

theorem framesMissed_fluRole (d : Dev) (l : List Nat) : (l.foldl Dev.frameMissed d).fluRole = d.fluRole := by
  induction l generalizing d with
  | nil => rfl
  | cons p l ih => exact (ih _).trans (frameMissed_fluRole d p)

/-- A crown frame that is missing counts, and orphans at ORPHAN_GF. -/
def Dev.crownMissed (d : Dev) : Dev :=
  let e := d.fluUp fun x => { x with missing := x.missing + 1 }
  if e.flu.missing = e.get F.FLU_CFG_ORPHAN_GF then (e.fluUp fun x => { x with orphan := true }).raise 0x0D09 else e

theorem memberDeadline_eq (d : Dev) :
    d.memberDeadline =
      let e := d.toDeadline
      let f := if e.fluRole = 2 then (e.livePos.filter fun p => p != e.fluPos).foldl Dev.frameMissed e else e
      if (decide (f.fluRole = 1) || decide (f.fluRole = 3)) && f.fluAdmitted && !f.flu.fresh then f.crownMissed else f := by
  have hmissed : Dev.frameMissed = fun d p =>
      let m := d.flu.mem.getD p {}
      if m.frame.isSome && m.at_ = d.get F.FLU_GFI then d else
      let d := (d.bump F.FLU_MISS_CNT).fluUp fun x => { x with mem := upd x.mem p fun m => { m with miss := m.miss + 1 } }
      if m.miss = 1 then (d.fluUp fun x => { x with mem := upd x.mem p fun m => { m with leaving := 2, leaveAt := 0 } }).raise 0x0D04 [p]
      else d := by
    funext d p
    simp only [Dev.frameMissed, Bool.and_eq_true, decide_eq_true_eq]
  rw [hmissed]
  simp only [Dev.memberDeadline, Dev.toDeadline, Dev.crownMissed, Dev.forAll]

section Deadline
variable {d e : Dev} (he : d.toDeadline = e)
include he

/-- At a crown each other live position without its frame is missed. -/
theorem memberDeadline_crown (hrole : e.fluRole = 2) :
    d.memberDeadline = (e.livePos.filter fun p => p != e.fluPos).foldl Dev.frameMissed e := by
  have hcrown : ((e.livePos.filter fun p => p != e.fluPos).foldl Dev.frameMissed e).fluRole = 2 :=
    (framesMissed_fluRole e _).trans hrole
  rw [memberDeadline_eq, he]
  simp only [hrole, if_true, hcrown]
  rfl

/-- At an admitted member or standby a crown frame that is missing counts. -/
theorem memberDeadline_member (hrole : e.fluRole = 1 ∨ e.fluRole = 3) (hin : e.fluAdmitted = true) (hmissing : e.flu.fresh = false) :
    d.memberDeadline = e.crownMissed := by
  have hmember : e.fluRole ≠ 2 := by omega
  have hcounts : (decide (e.fluRole = 1) || decide (e.fluRole = 3)) = true := by simpa using hrole
  rw [memberDeadline_eq, he]
  simp only [hmember, if_false, hcounts, hin, hmissing, Bool.not_false, Bool.and_self, if_true]

end Deadline

/-- Settles O39: each timer is its operation at the instant it is due. -/
theorem flueTimersComplete : Obligations.FlueTimersComplete := by
  refine ⟨fun s ha => ⟨fun hcap => ?_, fun t hlast => ?_, fun t hdue => ?_, fun r rest holdest hfail => ?_⟩,
    fun d s hk => ⟨fun h => ?_, fun t st pos h => ⟨fun hst => ?_, fun r p e hst hgo => ?_⟩⟩, fun s hk => ?_⟩
  · exact run_whenAwake_next ha (flueExchange_capable hcap rfl)
  · exact run_whenAwake_next ha (flueTimeLost_due hlast)
  · intro d hout hlink
    exact run_whenAwake_next ha (joinSend_due hdue rfl hout hlink)
  · exact run_whenAwake_next ha (relayLate_oldest holdest hfail)
  · exact run_whenPaced_next hk (groupFrame_plain h)
  · exact run_whenPaced_next hk (groupFrame_refused h hst)
  · subst hst
    exact run_whenPaced_next hk (groupFrame_goes h hgo)
  · intro target left d
    exact ⟨fun hrole hin hmissing => run_whenPaced_next hk (memberDeadline_member rfl hrole hin hmissing),
      fun hrole => run_whenPaced_next hk (memberDeadline_crown rfl hrole)⟩

end Sys2Proof.Machine
end
